-- ==== Sys2Proof/Types.lean ====
section
/-! DEFINITION. The plain data types that commands and state share: the two parts, their ports, messages on links and rings. -/

namespace Sys2Proof

/-- The two parts of the block (R1): the die and the tree node. -/
inductive Dev where
  | lotik
  | verard
  deriving DecidableEq, Repr

/-- A T-link port (R74, R75): Lotik's T-link, Verard's 64 downstream ports and its two upstream ports. -/
inductive PortId where
  | tlink
  | down (n : Fin 64)
  | upA
  | upB
  deriving DecidableEq, Repr

/-- The part that carries a port. -/
def PortId.dev : PortId → Dev
  | .tlink => .lotik
  | _ => .verard

/-- A port's index in the port tables: downstream 0 to 63, upstream A 64, upstream B 65, Lotik's T-link 66. -/
def PortId.idx : PortId → Nat
  | .down n => n.val
  | .upA => 64
  | .upB => 65
  | .tlink => 66

/-- A part's index in per-part tables. -/
def Dev.idx : Dev → Nat
  | .lotik => 0
  | .verard => 1

/-- A Lotik's two ring ports (R63). -/
inductive RingPort where
  | e
  | w
  deriving DecidableEq, Repr

/-- The other ring port of the die. -/
def RingPort.other : RingPort → RingPort
  | .e => .w
  | .w => .e

/-- An instant packed into 96 bits (R30): SEC [95:48], NS [47:16], SUB [15:0]. -/
abbrev Packed := BitVec 96

/-- A 20-bit Unit Address (R20). -/
abbrev Ua := BitVec 20

/-- What a TICK block carries (R53). -/
structure TickBlock where
  seq : BitVec 16
  senderUa : Ua
  wrap : Bool
  deriving DecidableEq, Repr

/-- The payload of a TIME frame (R54). -/
structure TimeFrame where
  seq : BitVec 16
  peerSeq : BitVec 16
  prevTx : Packed
  peerRx : Packed
  errPs : BitVec 24
  state : BitVec 3
  wrap : Bool
  degraded : Bool
  hallMaster : Bool
  utcOffset : BitVec 16
  utcValid : Bool
  deriving DecidableEq, Repr

/-- The payload of an ENUM frame (R62). -/
structure EnumFrame where
  parentUa : Ua
  parentSide : BitVec 1
  pod : BitVec 6
  port : BitVec 6
  wrap : Bool
  deriving DecidableEq, Repr

/-- The data of a bus write, of 32 or 64 bits (R5). -/
inductive BusData where
  | dword (v : Word)
  | qword (v : DWord)
  deriving DecidableEq, Repr

/-- What one end tells the other during TRAIN (R60, R61, R309): kind, role, side, mode, fused constants in ps, and as lane identity the
channel it transmits on. -/
structure TrainPeer where
  isVerard : Bool
  role : BitVec 2
  side : BitVec 1
  wrap : Bool
  txDly : BitVec 16
  rxDly : BitVec 16
  foldDly : BitVec 16
  lane : BitVec 3
  deriving DecidableEq, Repr

/-- What a CAL frame carries (R56, R400). -/
inductive CalBody where
  | fold (medianPs : BitVec 24)
  | constants (txDly rxDly foldDly : BitVec 16)
  | keyAgreement (payload : List Byte)
  deriving DecidableEq, Repr

/-- A ring symbol's body, by TYPE (R64). -/
inductive RingBody where
  | idle
  | time (ticks : BitVec 40) (phase : BitVec 32) (pathPs : BitVec 20) (state : BitVec 3) (wrap : Bool)
  | echo (seq : BitVec 16) (reply : Bool)
  | enum (token : BitVec 6) (down : Bool)
  | status (errPs : BitVec 24) (utcOffset : BitVec 16) (utcValid : Bool) (pod port : BitVec 6) (portValid : Bool)
      (chain awake : Bool) (master : BitVec 5) (masterState : BitVec 3) (holdEst : BitVec 24)
  | handover (ticks : BitVec 40) (master : BitVec 5)
  | wake (reason : BitVec 4)
  | data (part : BitVec 96)
  | credit (body : BitVec 96)
  deriving DecidableEq, Repr

/-- A ring symbol before its CRC (R64). -/
structure RingSymbol where
  ccw : Bool
  src : BitVec 5
  dst : BitVec 6
  body : RingBody
  deriving DecidableEq, Repr

/-- A TYPE of command packet (R368). -/
inductive PktType where
  | request
  | reply
  | completion
  | session
  | notice
  deriving DecidableEq, Repr

/-- The 32-byte header of a command packet (R368); `target` and `source` are UA and HOST in bit 20. -/
structure PktHeader where
  version : Byte
  type : Byte
  opcode : Byte
  flags : Byte
  seq : BitVec 32
  session : BitVec 32
  target : BitVec 21
  source : BitVec 21
  length : BitVec 16
  salt : BitVec 32
  counter : BitVec 64
  deriving DecidableEq, Repr

/-- A whole command packet (R368). -/
structure Packet where
  hdr : PktHeader
  payload : List Byte
  tag : List Byte
  deriving DecidableEq, Repr

/-- One fragment of a packet (R378). -/
structure Fragment where
  origin : Ua
  pktId : BitVec 16
  index : BitVec 6
  total : BitVec 6
  part : List Byte
  deriving DecidableEq, Repr

/-- Who asked for an opcode: the part that acts, the SOURCE (UA, HOST in bit 20), the session and the request (R368). -/
structure CmdCtx where
  dev : Dev
  src : BitVec 21
  session : BitVec 32
  seq : BitVec 32
  version : Byte
  quiet : Bool
  deriving DecidableEq, Repr

/-- A way into or out of a part that a packet or tree message can take. -/
inductive Path where
  | port (p : PortId)
  | ring (r : RingPort)
  | host (d : Dev)
  deriving DecidableEq, Repr

/-- What a T-frame carried, and whether its CRC was right (R51). -/
structure Framed (α : Type) where
  body : α
  crcOk : Bool
  deriving DecidableEq, Repr

/-- A control block as it arrives (R50): its type and the 56 bits of its content. -/
structure Block where
  type : Byte
  content : BitVec 56
  deriving DecidableEq, Repr

/-- How the frame that carried a message arrived (R51, R202): whole, with a bad CRC, or with a reserved bit set. -/
inductive Wire where
  | good
  | badCrc
  | reserved
  deriving DecidableEq, Repr

/-- A job control message (R138). -/
structure JobMsg where
  kind : Byte
  status : Byte := 0
  gid : BitVec 18
  gen : BitVec 14
  cseq : BitVec 16 := 0
  instant : Packed := 0
  src : Ua := 0
  bitmap : BitVec 64 := 0
  prog : Byte := 0
  flags : Byte := 0
  gateLimit : BitVec 32 := 30000
  seed : BitVec 128 := 0
  wire : Wire := .good
  deriving DecidableEq, Repr

/-- What follows the header of a group message (R202): a limb list, a result area, the node configuration of a BIND (whose wire layout the
spec does not give: notes/assumptions/17), the dies or packages an ack covers, returned credits, or a quiet window. -/
inductive GroupBody where
  | none
  | limbs (bytes : List Byte)
  | result (bytes : List Byte)
  | bind (scope acc maxElems depth limitMs : Nat) (members : List (Nat × BitVec 32)) (delete : Bool)
  | ack (bitmap : BitVec 64) (verards : List Nat)
  | credit (control up down mgmt : BitVec 16)
  | quiet (start : Packed) (window : BitVec 32)
  deriving DecidableEq, Repr

/-- A group message (R202). -/
structure GroupMsg where
  kind : Byte
  status : Byte := 0
  gid : BitVec 18
  gen : BitVec 14
  oseq : BitVec 16 := 0
  op : Byte := 0
  ty : Byte := 0
  shape : Byte := 0
  cause : Byte := 0
  src : Ua := 0
  sideB : Bool := false
  relayed : Bool := false
  cover : BitVec 16 := 0
  fragIx : Byte := 0
  fragTotal : Byte := 0
  stamp : Packed := 0
  body : GroupBody := .none
  wire : Wire := .good
  deriving DecidableEq, Repr

/-- A tree message: job control (R138) or a group message (R202). -/
inductive TreeMsg where
  | job (m : JobMsg)
  | grp (m : GroupMsg)
  deriving DecidableEq, Repr

/-- What one unit of a die hands to another in the same command: a message between a die's member, head and root roles, an arrival
of the Mark engine, of a linked object or of the digest unit at a group queue, or the end of such an operation. -/
inductive Mail where
  | toHead (m : TreeMsg)
  | toMember (m : TreeMsg)
  | gate (slot : Nat) (queue : Nat)
  | gateEnd (slot : Nat) (ok : Bool) (tc arrival : Nat)
  | link (obj : Nat) (queue : Nat)
  | linkEnd (obj : Nat) (status : Nat)
  | digest (stage : Nat)
  | digestEnd (stage : Nat) (status : Nat) (result : List Byte)
  deriving DecidableEq, Repr

/-- A PTP message as the subset of R100 reads it; stamps are packed instants in the EPOCH form, corrections in ps. `dataset` is the
announced data set in the order in which the default BMCA compares it. -/
inductive PtpMsg where
  | announce (domain : Byte) (source : BitVec 80) (dataset : List Nat) (clockClass : Byte) (traceable : Bool) (utcOffset : BitVec 16)
      (utcValid : Bool)
  | sync (domain : Byte) (source : BitVec 80) (seq : BitVec 16) (twoStep : Bool) (origin : Packed) (corrPs : BitVec 32)
  | followUp (domain : Byte) (source : BitVec 80) (seq : BitVec 16) (origin : Packed) (corrPs : BitVec 32)
  | delayReq (domain : Byte) (source : BitVec 80) (seq : BitVec 16) (corrPs : BitVec 32)
  | delayResp (domain : Byte) (source requester : BitVec 80) (seq : BitVec 16) (rx : Packed) (corrPs : BitVec 32)
  | pdelayReq (domain : Byte) (source : BitVec 80) (seq : BitVec 16) (corrPs : BitVec 32)
  | pdelayResp (domain : Byte) (source requester : BitVec 80) (seq : BitVec 16) (twoStep : Bool) (reqRx : Packed) (corrPs : BitVec 32)
  | pdelayRespFollowUp (domain : Byte) (source requester : BitVec 80) (seq : BitVec 16) (respTx : Packed) (corrPs : BitVec 32)
  /-- Management and other PTP messages outside the subset: ignored (R101). -/
  | unsupported
  /-- ARP, IPv6 neighbour discovery, ICMP echo: accepted by the MAC (R100). -/
  | network
  /-- Any other frame: dropped and counted (R100). -/
  | foreign
  deriving DecidableEq, Repr

/-- Which message a PTP port sends (R100). -/
inductive PtpTx where
  | announce | sync | delayReq | pdelayReq
  deriving DecidableEq, Repr

/-- A place that reports pin and link fault codes (R70). -/
inductive PinSite where
  | port (p : PortId)
  | hop (r : RingPort)
  | refInput (i : Fin 4)
  | meas (i : Fin 4)
  | trigIn (i : Fin 2)
  | trigOut (i : Fin 2)
  deriving DecidableEq, Repr

end Sys2Proof
end

