-- ==== Sys2Proof/Syntax.lean ====
section
/-! DEFINITION. The commands of the block: one constructor for each row of the spec's table of operations and events. -/

namespace Sys2Proof

/-- A command: an operation on the block, or an event it meets. The operands are what the outside world brings with it. -/
inductive Instr where
  /-- REGISTER_WRITE (R6): A write to a register field that has no step of its own sets, clears or ignores the field by its access code. -/
  | registerWrite (bar : Fin 3) (off : BitVec 26) (v : BusData)
  /-- REGISTER_READ_CLEAR (R6): A read of a register holding RC fields returns their values and clears them in the same access. -/
  | registerReadClear (bar : Fin 3) (off : BitVec 26) (wide : Bool)
  /-- BAD_SIZE_ACCESS (R5): An access of the wrong size or alignment is discarded and recorded as ACCESS_ERROR. -/
  | badSizeAccess (bar : Fin 3) (off : BitVec 26) (write : Bool) (size : BitVec 7)
  /-- UNMAPPED_ACCESS (R417): An access to an unmapped offset reads 0, ignores writes and records ACCESS_ERROR. -/
  | unmappedAccess (bar : Fin 3) (off : BitVec 26) (write : Bool)
  /-- LOTIK_RESET (R361): The rise of RST_N resets all three Lotik domains, samples the straps and starts SPRING_WAIT. -/
  | lotikReset (prof : BitVec 2) (profCmd : Bool)
  /-- HOST_RESET (R350): HOST_RST_N low faults the active job, abandons host-memory accesses and discards owed wakes. -/
  | hostReset
  /-- VERARD_RESET (R360): The rise of SYS_RST_N resets Verard, samples PROF[1:0] and starts the FUSE stage. -/
  | verardReset (prof : BitVec 2)
  /-- PCIE_RESET (R359): PERST_N, a hot reset or a function-level reset resets only the endpoint and its configuration space. -/
  | pcieReset
  /-- VERARD_THERMAL_HOLD (R360): Verard's junction reaching 125 °C drives VD_TRIP_N and holds the part in reset until below 115 °C. -/
  | verardThermalHold (tj : Byte)
  /-- SPRING_CLOCK_ARRIVE (R362): The Spring clock arrives and Lotik leaves SPRING_WAIT for FUSE. -/
  | springClockArrive
  /-- FUSE_LOAD_DONE (R362): Fuse loading completes and Lotik goes to PROFILE, or to THERMAL_HOLD while too hot. -/
  | fuseLoadDone (ok : Bool) (tmax : BitVec 8)
  /-- THERMAL_HOLD_RELEASE (R361): Every sensor reads below TCRIT_C − 10 °C and a held die returns to FUSE. -/
  | thermalHoldRelease (tmax : BitVec 8)
  /-- BOOT_BLOCK_READ_DONE (R362): The boot block read completes; the profile is applied or the fused default used, and a patch is chosen. -/
  | bootBlockReadDone (err : Bool) (block : List Byte)
  /-- PROFILE_SELECT_TIMEOUT (R364): No PROFILE_SELECT arrives within the stage limit, so PROF[1:0] is applied and PROF_TIMEOUT set. -/
  | profileSelectTimeout
  /-- RING_STAGE_DONE (R362): Ring training and enumeration end and Lotik enters CLOCKS. -/
  | ringStageDone
  /-- GRID_PLL_LOCKED (R251): The live grid PLL locks at SAFE_OP, the move to BASE_OP is scheduled and READY follows. -/
  | gridPllLocked
  /-- GRID_PLL_LOCK_TIMEOUT (R362): The grid PLL fails to lock within 1 ms and Lotik enters FAULT. -/
  | gridPllLockTimeout
  /-- VERARD_STAGE_DONE (R363): A Verard start-up stage completes or reaches its limit and the next stage, READY or FAULT follows. -/
  | verardStageDone (image area0 area1 : List Byte) (readable : BitVec 2)
  /-- LOGIC_DOMAIN_SLEEP (R352): After 10 µs idle the logic domain lowers FCLK_REQ and sleeps when FCLK_ACK falls. -/
  | logicDomainSleep
  /-- LOGIC_DOMAIN_WAKE (R352): A wake trigger raises FCLK_REQ and the logic domain serves again once FCLK_ACK and FCLK are stable. -/
  | logicDomainWake
  /-- FCLK_LOSS (R352): FCLK_ACK falls without a request; the domain is treated as asleep and FCLK_LOSS counts it. -/
  | fclkLoss
  /-- TIMING_CORE_SLEEP (R352): After 2 µs without a reason to stay awake the timing core sleeps. -/
  | timingCoreSleep
  /-- TIMING_CORE_WAKE (R128): A Spring timer or request wakes the timing core within 1.5 µs. -/
  | timingCoreWake
  /-- TIME_LATCH (R40): A LATCH write starts a capture of hall time into the latched set, clearing VALID and setting PENDING. -/
  | timeLatch (d : Dev) (v : Word)
  /-- TIME_CAPTURE_DONE (R40): The capture completes, PENDING clears, VALID sets and LATCH_GAP is evaluated. -/
  | timeCaptureDone (d : Dev) (bins : BitVec 12)
  /-- TICK_SEND (R53): Every 400 blocks a port inserts a TICK block and its TIME frame, and an AUTH frame after each group of 64. -/
  | tickSend (p : PortId) (bins : BitVec 12)
  /-- TICK_BLOCK_RX (R53): A received TICK block is stamped at the port's time-stamp plane and its mode checked. -/
  | tickBlockRx (p : PortId) (b : Block) (bins : BitVec 12)
  /-- TIME_FRAME_RX (R55): A TIME frame is taken, its stamps paired and rtt and offset computed for the group buffer. -/
  | timeFrameRx (p : PortId) (f : TimeFrame) (crcOk : Bool)
  /-- AUTH_FRAME_RX (R58): An AUTH frame is verified and the buffered group of offsets fed to the loop, or discarded. -/
  | authFrameRx (p : PortId) (group : BitVec 64) (tag : Framed (List Byte))
  /-- ENUM_FRAME_RX (R62): A child takes its pod and port numbers from an ENUM frame, checks the side and replies ENUM_ACK. -/
  | enumFrameRx (p : PortId) (f : Framed EnumFrame)
  /-- ENUM_ACK_RX (R62): The parent records the child's ENUM_ACK and the port enters SERVICE. -/
  | enumAckRx (p : PortId) (ua : Ua) (role : BitVec 2) (side : Framed (BitVec 1))
  /-- CAL_FRAME_RX (R56): A CAL frame carries fold results, fused constants or key agreement payload to the peer. -/
  | calFrameRx (p : PortId) (b : Framed CalBody)
  /-- HEALTH_FRAME_RX (R341): A HEALTH frame delivers a sounding record or a forwarded Log entry to the pod Verard. -/
  | healthFrameRx (path : Path) (kind : Byte) (body : Framed (List Byte))
  /-- PORT_ENABLE_WRITE (R60): A write of PORT_CTRL.ENABLE moves the port to OFF or to DETECT. -/
  | portEnableWrite (p : PortId) (on : Bool)
  /-- PORT_RETRY (R60): A RETRY write moves a HELD port to DETECT. -/
  | portRetry (p : PortId)
  /-- PORT_CAL_NOW (R57): A CAL_NOW write starts a recalibration of the port at once. -/
  | portCalNow (p : PortId)
  /-- DETECT_LIGHT_VALID (R60): Light and signal valid for 1 ms move a port from DETECT to TRAIN. -/
  | detectLightValid (p : PortId)
  /-- PIN_FAULT_DETECT (R70): A pin or link fault code is found and the hop, port, input or pin is taken out of use or corrected. -/
  | pinFaultDetect (site : PinSite) (code : BitVec 4)
  /-- PIN_FAULT_CLEAR (R71): A short or other pin fault is removed and the pin recovers. -/
  | pinFaultClear (site : PinSite)
  /-- TRAIN_DONE (R60): 64 consecutive valid TRAIN blocks each way move the port to KEY after the role and side checks. -/
  | trainDone (p : PortId) (peer : TrainPeer)
  /-- TRAIN_TIMEOUT (R60): No pattern within 20 ms puts the port in FAULT with NO_PATTERN or FIBRE_REVERSED. -/
  | trainTimeout (p : PortId) (reversed : Bool)
  /-- LINK_KEY_AGREED (R400): T-link key agreement succeeds and the port moves to CALIBRATE. -/
  | linkKeyAgreed (p : PortId)
  /-- LINK_KEY_FAIL (R400): Key agreement fails or times out and the port enters HELD with AUTH_FAULT. -/
  | linkKeyFail (p : PortId) (reason : Fin 3)
  /-- FOLD_CAL_DONE (R56): Fold calibration completes, asym is stored and UNCAL clears; `low` and `high` are the two middle round trips of the
  1,024 shots. -/
  | foldCalDone (p : PortId) (low high : BitVec 24)
  /-- TICK_TIMEOUT (R60): No TICK received for 4.096 µs moves a SERVICE port to DETECT. -/
  | tickTimeout (p : PortId)
  /-- PORT_FAULT_RETRY (R60): 100 ms in FAULT returns the port to DETECT. -/
  | portFaultRetry (p : PortId)
  /-- ROUTINE_RECAL (R57): Every 60 s a SERVICE port recalibrates beside traffic. -/
  | routineRecal (p : PortId)
  /-- LINK_REKEY (R400): Every 24 h the parent runs a new key agreement and switches keys at SWITCH_SEQ. -/
  | linkRekey (p : PortId)
  /-- LINK_KEY_EXPIRY (R400): A link key older than 48 h puts the port in HELD with AUTH_FAULT. -/
  | linkKeyExpiry (p : PortId)
  /-- RING_TIME_SEND (R65): The ring time master sends a TIME symbol both ways at every multiple of 100 Spring ticks. -/
  | ringTimeSend
  /-- RING_TIME_RX (R65): A die takes a TIME symbol as hall time of arrival, adds its hop to PATH_PS and forwards it. -/
  | ringTimeRx (r : RingPort) (src : BitVec 5) (ticks : BitVec 40) (phase : BitVec 32) (path : BitVec 20) (st : BitVec 3) (wrap : Bool) (crcOk : Bool)
  /-- RING_ECHO_SEND (R65): Each hop exchanges ECHO requests once per µs to measure its delay. -/
  | ringEchoSend (r : RingPort)
  /-- RING_ECHO_RX (R65): An ECHO request is answered or a reply updates the hop delay median. -/
  | ringEchoRx (r : RingPort) (seq : BitVec 16) (reply : Bool) (tripPs : BitVec 24) (crcOk : Bool)
  /-- RING_ENUM_START (R68): HEAD starts enumeration when both ring ports are UP or 1 ms after the first. -/
  | ringEnumStart
  /-- RING_ENUM_SYMBOL (R68): A die takes the first ENUM token as its number, checks the other and forwards it. -/
  | ringEnumSymbol (r : RingPort) (token : BitVec 6) (down : Bool) (conflict : Bool) (crcOk : Bool)
  /-- RING_ENUM_TIMEOUT (R68): A die with no token 10 ms after the start reports ISOLATED. -/
  | ringEnumTimeout
  /-- RING_STATUS_RX (R69): A STATUS symbol updates the sender's awake state, chain state, hold estimate and pod and port numbers. -/
  | ringStatusRx (r : RingPort) (src : BitVec 5) (errPs : BitVec 24) (utcOffset : BitVec 16) (utcValid : Bool) (pod port : BitVec 6) (portValid chain awake : Bool) (master : BitVec 5) (masterState : BitVec 3) (holdEst : BitVec 24) (crcOk : Bool)
  /-- HANDOVER_RX (R66): A die records a HANDOVER naming the new ring time master and its effective tick. -/
  | handoverRx (r : RingPort) (src : BitVec 5) (ticks : BitVec 40) (master : BitVec 5) (crcOk : Bool)
  /-- HANDOVER_EFFECTIVE (R66): At the effective tick the new master begins sourcing the clock and TIME symbols. -/
  | handoverEffective
  /-- RING_MASTER_SILENT (R66): No TIME symbol for 3 µs makes ALT_HEAD or HEAD take over at the next multiple of 100 ticks. -/
  | ringMasterSilent
  /-- WAKE (R67): A WAKE symbol wakes the target's timing core and logic, which then sends STATUS with AWAKE. -/
  | wake (r : RingPort) (src : BitVec 5) (dst : BitVec 6) (reason : BitVec 4) (crcOk : Bool)
  /-- RING_DATA_RX (R64): A DATA symbol carrying part of a T-frame is taken, or replayed after a negative acknowledgement; `kind` holds TYPE and
  DIR, `ends` SRC and DST. -/
  | ringDataRx (r : RingPort) (kind : BitVec 5) (ends : BitVec 11) (body : BitVec 96) (crc : BitVec 16) (nak : Option (BitVec 6))
  /-- RING_CLOCK_TIMEOUT (R63): No clock at ALT_HEAD 1 ms after reset makes ALT_HEAD source the ring clock. -/
  | ringClockTimeout
  /-- RING_HOP_OPEN (R73): A hop is declared open and the ring reforms as a chain with RING_CHAIN set. -/
  | ringHopOpen (r : RingPort) (code : BitVec 4)
  /-- RING_HOP_CLOSE (R73): A hop that closes is retrained, RING_CHAIN clears and dies switch back hitlessly. -/
  | ringHopClose (r : RingPort)
  /-- SELECTOR_UPDATE (R82): Every 1 ms the selector processes faults, refusals, qualification and priority, then selects an input. -/
  | selectorUpdate
  /-- INPUT_QUALIFIED (R80): An input that stayed inside every accept limit for QUAL_S becomes QUALIFIED. -/
  | inputQualified (i : Fin 4) (freqPpt : BitVec 32)
  /-- WTR_EXPIRY (R83): Wait-to-restore expires and a higher-priority input may be selected. -/
  | wtrExpiry (i : Fin 4)
  /-- PTP_MESSAGE_RX (R100): A PTP message on a reference port is stamped and processed by the supported IEEE 1588 subset. -/
  | ptpMessageRx (p : Fin 2) (m : PtpMsg) (bins : BitVec 12)
  /-- PTP_MESSAGE_TX (R100): A PTP port sends a due Sync, Announce, Delay or Pdelay message and queues its stamp. -/
  | ptpMessageTx (p : Fin 2) (k : PtpTx) (bins : BitVec 12)
  /-- ANNOUNCE_TIMEOUT (R80): No Announce or Sync within its timeout rejects the PTP input with ACTIVITY. -/
  | announceTimeout (p : Fin 2)
  /-- PPS_EDGE (R80): An IN3 edge is stamped, polarity checked and used for phase and bearing. -/
  | ppsEdge (bins : BitVec 12) (longHigh : Bool)
  /-- PPS_EDGE_TIMEOUT (R80): No IN3 edge for 2.5 s rejects the input. -/
  | ppsEdgeTimeout
  /-- REF10M_LOSS (R80): No IN2 edge for 1 µs rejects the 10 MHz input, ending pairing or assist. -/
  | ref10mLoss
  /-- BEARING_REFRESH (R85): Every 1 s each qualified input's bearing is refreshed and checked against the limit. -/
  | bearingRefresh
  /-- BEARING_RESIDUAL_DONE (R85): The absorbed bearing residual is worked off to zero. -/
  | bearingResidualDone
  /-- REF_PRIO_WRITE (R83): A write of VD_REFi_CFG.PRIO re-runs selection at the next update. -/
  | refPrioWrite (i : Fin 4) (prio : BitVec 4)
  /-- REF_LOCKOUT_WRITE (R83): Setting LOCKOUT on the selected input acts as its failure. -/
  | refLockoutWrite (i : Fin 4) (on : Bool)
  /-- OCXO_WARM_CHANGE (R93): The OCXO_WARM pin changes; OCXO_READY clears at once if it fell. -/
  | ocxoWarmChange (level : Bool)
  /-- OCXO_READY_SET (R93): OCXO_WARM high for WARM_SETTLE sets OCXO_READY. -/
  | ocxoReadySet
  /-- OCXO_FAIL (R92): The OCXO absent or out of range sets OCXO_FAIL and the device enters LOST. -/
  | ocxoFail
  /-- OCXO_RECOVER (R91): The OCXO present and in range for 10 s returns the device from LOST to FREE_RUN. -/
  | ocxoRecover
  /-- LOCK_ACHIEVED (R91): Residuals within limits for the required time move ACQUIRING to LOCKED. -/
  | lockAchieved (d : Dev)
  /-- SLEW_DONE (R48): A rejoin slew removes the offset and SLEWING clears. -/
  | slewDone (d : Dev)
  /-- HOLDOVER_UPDATE (R94): Every 10 ms the dead-reckoning estimate is updated and the holdover state checked. -/
  | holdoverUpdate (d : Dev)
  /-- PPS_OUT_PULSE (R99): A second boundary of hall time emits a PPS_OUT pulse. -/
  | ppsOutPulse
  /-- VD_OUT_CTRL_REALIGN (R99): A REALIGN write requests realignment of the output pulses. -/
  | vdOutCtrlRealign
  /-- REALIGN_EFFECTIVE (R99): Realignment takes effect at the first second boundary at least 1 s after the request. -/
  | realignEffective
  /-- PTP_TSQ_KEY_LOOKUP (R102): A LOOKUP write returns and removes the oldest matching transmit stamp. -/
  | ptpTsqKeyLookup (p : Fin 2) (seqId : BitVec 16) (msgType : BitVec 4)
  /-- PTP_TSQ_POP (R102): A POP write returns and removes the oldest transmit stamp. -/
  | ptpTsqPop (p : Fin 2) (seqId : BitVec 16) (msgType : BitVec 4)
  /-- REF_STATUS (R105): Command returning the reference and holdover status words. -/
  | refStatus (c : CmdCtx)
  /-- REF_PRIORITY (R105): Command setting an input's priority. -/
  | refPriority (c : CmdCtx) (input prio : Byte)
  /-- REF_LOCKOUT (R105): Command locking out or releasing an input. -/
  | refLockout (c : CmdCtx) (input lock : Byte)
  /-- OUT_REALIGN (R105): Command requesting realignment of the output pulses, completed at the first realigned pulse. -/
  | outRealign (c : CmdCtx)
  /-- PTP_TSQ_LOOKUP (R105): Command looking up a transmit stamp in a PTP port's queue. -/
  | ptpTsqLookup (c : CmdCtx) (port msgType : Byte) (seqId : BitVec 16)
  /-- MEAS_START (R110): A START write begins a measurement at once or arms it for its start instant. -/
  | measStart (c : Fin 4) (v : Word)
  /-- MEAS_ABORT (R111): An ABORT write ends the measurement with ABORTED. -/
  | measAbort (c : Fin 4) (v : Word)
  /-- MEAS_START_INSTANT (R110): An armed measurement reaches its start instant and begins. -/
  | measStartInstant (c : Fin 4)
  /-- MEAS_EDGE (R109): A selected edge is stamped as start, stop or a regression sample. -/
  | measEdge (i : Fin 4) (falling : Bool) (bins : BitVec 12)
  /-- MEAS_TIMEOUT (R112): No start or stop edge within TIMEOUT_US ends the interval with TIMEOUT. -/
  | measTimeout (c : Fin 4)
  /-- MEAS_GATE_CLOSE (R113): The frequency gate closes and the least-squares fit starts. -/
  | measGateClose (c : Fin 4)
  /-- MEAS_FIT_DONE (R113): The fit completes, results are written and DONE sets. -/
  | measFitDone (c : Fin 4)
  /-- MEAS_CAL_NOW (R107): A CAL_NOW write starts calibration of both lanes of every input. -/
  | measCalNow
  /-- MEAS_LANE_CAL_DUE (R107): A lane's periodic or temperature-driven calibration falls due and starts. -/
  | measLaneCalDue (i : Fin 4) (moved : Bool)
  /-- MEAS_LANE_CAL_DONE (R107): A lane's code-density calibration completes and the lanes swap. -/
  | measLaneCalDone (i : Fin 4)
  /-- MEAS_RUN (R121): Command configuring and starting a measurement, completed with its results. -/
  | measRun (c : CmdCtx) (channel : Byte) (ctrl gate timeout : Word) (start : Packed)
  /-- TRIG_IN_EDGE (R116): A selected trigger edge is stamped into the FIFO, missed or discarded. -/
  | trigInEdge (i : Fin 2) (falling : Bool) (bins : BitVec 12)
  /-- TRIG_POP (R117): A POP write moves the oldest FIFO entry into the read set. -/
  | trigPop (i : Fin 2)
  /-- TRIG_OUT_ARM (R118): An ARM write schedules an output edge train, or is refused with CFG_ERR. -/
  | trigOutArm (o : Fin 2) (v : Word)
  /-- TRIG_OUT_CANCEL (R119): A CANCEL write ends the train after the present pulse. -/
  | trigOutCancel (o : Fin 2) (v : Word)
  /-- TRIG_OUT_EDGE (R118): A scheduled output edge is placed at its hall-time instant, or skipped after a step. -/
  | trigOutEdge (o : Fin 2)
  /-- TRIG_ARM (R121): Command arming a trigger output. -/
  | trigArm (c : CmdCtx) (output polRoute : Byte) (at_ : Packed) (width period : BitVec 16)
  /-- STEP_DONE_WRITE (R131): The host reports the present step done, releasing a pending gate arrival. -/
  | stepDoneWrite
  /-- HOST_ABORT_WRITE (R146): A HOST_ABORT write faults the active job with HOST_ABORT. -/
  | hostAbortWrite
  /-- PROG_ENTRY_WRITE (R124): A write to a program entry in use is discarded and PROG_WR_ERR set. -/
  | progEntryWrite (n : Fin 8) (k : Fin 4) (v : Word)
  /-- FETCH_BURST_DONE (R125): A fetcher burst read completes; waypoints are checked, JUMPs resolved and the buffer filled. -/
  | fetchBurstDone (i : Fin 2) (ok : Bool) (wps : List (BitVec 128))
  /-- PREFETCH_DONE (R140): Prefetch at ARM completes and the member answers ARM_ACK. -/
  | prefetchDone (i : Fin 2)
  /-- PREFETCH_TIMEOUT (R140): Prefetch not complete 1 ms after ARM answers NO_RESOURCE. -/
  | prefetchTimeout (i : Fin 2)
  /-- MARK_TIMED (R130): A TIMED Mark's instant is reached and the Mark is raised. -/
  | markTimed
  /-- OVERRUN_TEST (R133): At M − GUARD or S − GUARD an unfinished step is counted as an overrun, or faults under STRICT. -/
  | overrunTest
  /-- MARK_RAISE (R134): The Mark is placed at the boundary and the step counter incremented. -/
  | markRaise
  /-- WAYPOINT_NOP (R127): A NOP waypoint executes at its instant. -/
  | waypointNop
  /-- WAYPOINT_FREQ (R242): A FREQ waypoint requests an operating-point change at its instant. -/
  | waypointFreq
  /-- WAYPOINT_POWER_HINT (R267): A POWER_HINT records a pending hint for a later step. -/
  | waypointPowerHint
  /-- WAYPOINT_OPTICAL (R127): An OPTICAL waypoint opens a quiet window and a head sends QUIET to its pod Verard. -/
  | waypointOptical
  /-- WAYPOINT_CAPTURE (R127): A CAPTURE waypoint stamps into the Log or arms a trigger output. -/
  | waypointCapture
  /-- WAYPOINT_SOUNDING (R325): A SOUNDING waypoint takes a sounding of its kinds at its instant. -/
  | waypointSounding
  /-- WAYPOINT_END (R127): An END waypoint stops further waypoints and Marks and sets ENDED. -/
  | waypointEnd
  /-- GATE_LIMIT_EXPIRY (R132): A gate barrier not completed within GATE_LIMIT faults the job with GATE_FAULT. -/
  | gateLimitExpiry
  /-- ARM (R140): A member checks an ARM message, takes a slot and starts prefetch. -/
  | arm (p : Path) (m : JobMsg)
  /-- ARM_ACK (R139): An ARM_ACK is aggregated up the tree and recorded at the job root. -/
  | armAck (p : Path) (m : JobMsg)
  /-- COMMIT (R141): A member checks a COMMIT and answers COMMIT_ACK or holds its answer. -/
  | commit (p : Path) (m : JobMsg)
  /-- COMMIT_ACK (R139): A COMMIT_ACK is aggregated and recorded; all OK leads to CONFIRM. -/
  | commitAck (p : Path) (m : JobMsg)
  /-- CONFIRM (R142): A member receiving CONFIRM moves its slot to CONFIRMED. -/
  | confirm (p : Path) (m : JobMsg)
  /-- ABORT (R142): A member receiving ABORT returns its slot to IDLE. -/
  | abortRx (p : Path) (m : JobMsg)
  /-- TEARDOWN (R149): A member records the teardown instant, or drains at once if it has passed. -/
  | teardown (p : Path) (m : JobMsg)
  /-- DRAINED (R151): A DRAINED report reaches the job root. -/
  | drained (p : Path) (m : JobMsg)
  /-- RETIRE (R151): RETIRE releases the job's state at each node and fences the old generation. -/
  | retire (p : Path) (m : JobMsg)
  /-- JOB_FAULT (R147): A JOB_FAULT reaching the root tears the job down or fails the open round. -/
  | jobFault (p : Path) (m : JobMsg)
  /-- DEFER (R135): A member adds D to every scheduled instant at or after A. -/
  | defer (p : Path) (m : JobMsg)
  /-- DEFER_REQ (R272): A deferral request is forwarded if larger, and gathered at the job root. -/
  | deferReq (p : Path) (m : JobMsg)
  /-- DEFER_GATHER_TIMER (R272): 10 µs after the first request the root grants the largest D with a DEFER. -/
  | deferGatherTimer (d : Dev)
  /-- PAUSE (R293): A member records the pause instant A. -/
  | pause (p : Path) (m : JobMsg)
  /-- PAUSED (R294): A PAUSED report with P and M reaches the job root. -/
  | paused (p : Path) (m : JobMsg)
  /-- PAUSE_REPORT_TIMEOUT (R294): Silent members 1 ms after the first PAUSED report make the root tear the job down. -/
  | pauseReportTimeout (d : Dev)
  /-- RESUME (R296): A PAUSED member acks a RESUME round carrying T_R. -/
  | resume (p : Path) (m : JobMsg)
  /-- CHECK (R144): A start or resume check message is aggregated and compared at the job root. -/
  | checkRx (p : Path) (m : JobMsg)
  /-- ACK_AGGREGATE_TIMER (R139): 5 µs after the first answer a group path head sends its partial ack bitmap. -/
  | ackAggregateTimer (d : Dev)
  /-- COMMIT_DEADLINE (R142): At T0 − 20 µs the root sends CONFIRM or ABORT. -/
  | commitDeadline (d : Dev)
  /-- LAST_ABORT_TIME (R142): At T0 − 10 µs a member without CONFIRM self-aborts to IDLE. -/
  | lastAbortTime (i : Fin 2)
  /-- JOB_START_T0 (R142): At T0 a CONFIRMED member raises Mark 0, enters RUNNING and submits CHECK. -/
  | jobStartT0
  /-- START_CHECK_TIMEOUT (R144): A start check incomplete 100 µs after T0 tears the job down with START_CHECK. -/
  | startCheckTimeout (d : Dev)
  /-- TEARDOWN_INSTANT (R149): At TD no further Mark falls and the member starts its drain. -/
  | teardownInstant
  /-- DRAIN_COMPLETE (R150): The drain ends, records are logged, DRAINED is sent and the slot returns to IDLE. -/
  | drainComplete
  /-- RETIRE_TIMEOUT (R151): 1 ms after TD the root retires the job and logs silent members. -/
  | retireTimeout (d : Dev)
  /-- JOB_ARM (R140): Command arming a job over its group. -/
  | jobArm (c : CmdCtx) (gid : BitVec 24) (gen : BitVec 16) (prog flags : Byte) (limit : Word) (seed : BitVec 128)
  /-- JOB_COMMIT (R141): Command committing an armed job with T0. -/
  | jobCommit (c : CmdCtx) (gid : BitVec 24) (gen : BitVec 16) (t0 : Packed)
  /-- JOB_ABORT (R149): Command ending a job not yet confirmed. -/
  | jobAbort (c : CmdCtx) (gid : BitVec 24) (gen : BitVec 16)
  /-- JOB_TEARDOWN (R149): Command tearing a job down at TD, completed at RETIRE. -/
  | jobTeardown (c : CmdCtx) (gid : BitVec 24) (gen : BitVec 16) (td : Packed)
  /-- JOB_STATUS (R154): Command returning a job's state and first fault. -/
  | jobStatus (c : CmdCtx) (gid : BitVec 24)
  /-- STEP_READ (R154): Command returning the step registers captured at one instant. -/
  | stepRead (c : CmdCtx)
  /-- STEP_LO_READ (R153): A read of LK_STEP_LO captures the following step registers at one instant. -/
  | stepLoRead
  /-- SYNC_SIGNAL (R159): A SIGNAL adds n to the object and runs the release pass. -/
  | syncSignal (obj : Fin 16384) (ctx : BitVec 16) (core : Byte) (arg : Word)
  /-- SYNC_ARRIVE (R171): An ARRIVE decrements the object and ends or submits a round. -/
  | syncArrive (obj : Fin 16384) (ctx : BitVec 16) (core : Byte) (arg : Word)
  /-- SYNC_RESET (R159): A RESET sets V and runs the release pass, or is refused while linked. -/
  | syncReset (obj : Fin 16384) (ctx : BitVec 16) (core : Byte) (arg : Word)
  /-- SYNC_READ_OP (R159): A READ at the sync port returns V and ROUND. -/
  | syncReadOp (obj : Fin 16384) (ctx : BitVec 16) (core : Byte) (arg : Word)
  /-- SYNC_WAIT (R164): A WAIT is satisfied at once or registers a waiter. -/
  | syncWait (obj : Fin 16384) (ctx : BitVec 16) (core : Byte) (cmp : BitVec 2) (arg : Word)
  /-- SYNC_WAIT_CONSUME (R160): A WAIT_CONSUME is served at once or queues behind consume waiters. -/
  | syncWaitConsume (obj : Fin 16384) (ctx : BitVec 16) (core : Byte) (arg : Word)
  /-- SYNC_CANCEL (R166): A CANCEL withdraws the context's wait or reports it already released. -/
  | syncCancel (obj : Fin 16384) (ctx : BitVec 16) (core : Byte) (arg : Word)
  /-- REMOTE_SIGNAL (R175): A remote-signal record is sequenced, held pending or discarded. -/
  | remoteSignal (r : BitVec 128)
  /-- FEED_BEAT (R174): A write-completion beat adds to a flow's LANDED and applies covered pending signals. -/
  | feedBeat (flow : BitVec 12) (count : Byte)
  /-- PEND_SLOT_STALE (R176): A pending slot older than PEND_LIMIT is marked STALE and logged. -/
  | pendSlotStale
  /-- SYNC_OP_WRITE (R182): A SYNC_OP register write applies SIGNAL, ARRIVE or RESET and reports in LK_SYNC_OPRES. -/
  | syncOpWrite (obj : Fin 16384) (v : Word)
  /-- SYNC_CFG_WRITE (R183): A SYNC_CFG write takes effect or is discarded as BUSY. -/
  | syncCfgWrite (obj : Fin 16384) (v : Word)
  /-- SYNC_FLOW_RESET_WRITE (R176): A flow RESET write zeroes the flow and discards its pending slots. -/
  | syncFlowResetWrite (v : Word)
  /-- SYNC_SAVE_WRITE (R177): A SAVE write holds the range's operations and starts writing a save image. -/
  | syncSaveWrite (v : Word)
  /-- SYNC_RESTORE_WRITE (R178): A RESTORE write starts reading and checking a save image. -/
  | syncRestoreWrite (v : Word)
  /-- SYNC_SAVE_DONE (R177): The save image is written and held operations are applied. -/
  | syncSaveDone (ok : Bool)
  /-- SYNC_RESTORE_DONE (R178): The image is loaded whole or refused, and restored objects run release passes. -/
  | syncRestoreDone (ok : Bool) (img : List Byte)
  /-- SYNC_DBG_SEL_WRITE (R180): A DBG_SEL write captures one object's debugger view. -/
  | syncDbgSelWrite (obj : BitVec 14)
  /-- SYNC_READ (R185): Command returning an object's value, configuration and status. -/
  | syncRead (c : CmdCtx) (obj : BitVec 16)
  /-- SYNC_OP (R185): Command applying SIGNAL, ARRIVE or RESET to an object. -/
  | syncOp (c : CmdCtx) (obj : BitVec 16) (op : Byte) (value : Word)
  /-- SYNC_DEBUG (R185): Command returning the debugger view and waiter records of an object. -/
  | syncDebug (c : CmdCtx) (obj first : BitVec 16)
  /-- SYNC_SAVE (R185): Command writing a sync save image. -/
  | syncSave (c : CmdCtx) (addr : DWord) (first count flowFirst flowCount : BitVec 16)
  /-- SYNC_RESTORE (R185): Command restoring a sync save image. -/
  | syncRestore (c : CmdCtx) (addr : DWord)
  /-- SYNC_FLOW_RESET (R185): Command resetting one flow. -/
  | syncFlowReset (c : CmdCtx) (flow : BitVec 16)
  /-- SQ_DOORBELL (R196): An SQ_TAIL write announces submissions, fetched when the window and completion ring allow. -/
  | sqDoorbell (q : BitVec 12) (v : Word)
  /-- SUBMISSION_FETCHED (R195): A submission entry read completes and is checked, takes an OSEQ and is sent, or completes locally. -/
  | submissionFetched (q : BitVec 12) (ok : Bool) (entry : List Byte)
  /-- CQ_HEAD_WRITE (R196): A CQ_HEAD write frees completion entries so waiting submissions may be fetched. -/
  | cqHeadWrite (q : BitVec 12) (v : Word)
  /-- GQ_ENABLE_WRITE (R193): An ENABLE write binds and resets a queue, is refused, or disables it ending operations in flight. -/
  | gqEnableWrite (q : BitVec 12) (v : Word)
  /-- ARRIVE (R198): A barrier arrival is counted at a head, Verard or ring member and forwarded or completed. -/
  | arriveRx (p : Path) (m : GroupMsg)
  /-- PARTIAL (R225): A reduction partial is checked and combined into the Basin entry, then forwarded or finished. -/
  | partialRx (p : Path) (m : GroupMsg)
  /-- COMPLETE (R189): A barrier completion is forwarded down or written to a member's queue, gate or linked object. -/
  | completeRx (p : Path) (m : GroupMsg)
  /-- RESULT (R231): A reduction result is forwarded down or written to a member's completion entry. -/
  | resultRx (p : Path) (m : GroupMsg)
  /-- FAULT (R208): A FAULT reaches TOP or members and the operation ends with GROUP_FAULT. -/
  | faultRx (p : Path) (m : GroupMsg)
  /-- PATH (R188): A PATH message makes a Verard port group-active for the package. -/
  | pathRx (p : Path) (m : GroupMsg)
  /-- BIND (R190): A node takes its role and reservations from BIND and answers BIND_ACK. -/
  | bind (p : Path) (m : GroupMsg)
  /-- BIND_ACK (R190): A BIND_ACK is aggregated toward TOP for a SEAL, RENEW or DELETE round. -/
  | bindAck (p : Path) (m : GroupMsg)
  /-- CREDIT (R204): A CREDIT message or symbol returns flow-control credits to a sender; no die where it arrives damaged. -/
  | creditRx (p : Path) (die : Option (BitVec 5)) (control up down mgmt : BitVec 16)
  /-- RENEW (R192): A node ends the group's operations, clears its slots and adopts the new generation. -/
  | renewRx (p : Path) (m : GroupMsg)
  /-- UNBIND (R191): A node releases a failed SEAL's reservations. -/
  | unbind (p : Path) (m : GroupMsg)
  /-- QUIET (R313): A pod Verard keeps or discards a quiet window for a port. -/
  | quiet (p : Path) (m : GroupMsg)
  /-- OP_LIMIT_TIMEOUT (R208): A counting slot not complete OP_LIMIT after its first arrival faults with TIMEOUT. -/
  | opLimitTimeout (d : Dev)
  /-- SEAL_TIMEOUT (R191): A SEAL not acknowledged within 10 ms fails with GROUP_FAULT and UNBIND. -/
  | sealTimeout (d : Dev)
  /-- RENEW_TIMEOUT (R192): A RENEW or DELETE completes 10 ms after TOP sent it, with its silent count. -/
  | renewTimeout (d : Dev)
  /-- CREDIT_STALL (R204): A class waiting over 10 µs for credit sets STALL. -/
  | creditStall (d : Dev)
  /-- GROUP_CREATE (R190): Command creating a group in BUILDING. -/
  | groupCreate (c : CmdCtx) (gid : BitVec 24) (scope acc maxElems depth : Byte) (limitMs : BitVec 16)
  /-- GROUP_ADD (R190): Command adding package entries to a building group. -/
  | groupAdd (c : CmdCtx) (gid : BitVec 24) (gen : BitVec 16) (entries : List DWord)
  /-- GROUP_SEAL (R191): Command building a group's tree and reservations. -/
  | groupSeal (c : CmdCtx) (gid : BitVec 24) (gen : BitVec 16)
  /-- GROUP_RENEW (R192): Command advancing a group's generation. -/
  | groupRenew (c : CmdCtx) (gid : BitVec 24) (gen : BitVec 16)
  /-- GROUP_DELETE (R192): Command deleting a group and freeing its GID. -/
  | groupDelete (c : CmdCtx) (gid : BitVec 24) (gen : BitVec 16)
  /-- GROUP_STATUS (R215): Command returning a group's state and counts. -/
  | groupStatus (c : CmdCtx) (gid : BitVec 24)
  /-- GQ_BIND (R193): Command binding a local queue to a GID and generation. -/
  | gqBind (c : CmdCtx) (queue : BitVec 16) (gid : BitVec 24) (gen : BitVec 16) (sq : DWord) (sqLog2 : Byte) (cq : DWord) (cqLog2 irqEn : Byte)
  /-- GQ_UNBIND (R215): Command unbinding a local queue. -/
  | gqUnbind (c : CmdCtx) (queue : BitVec 16)
  /-- GQ_STATUS (R215): Command returning a local queue's registers. -/
  | gqStatus (c : CmdCtx) (queue : BitVec 16)
  /-- GROUP_BASIN (R235): Command locating a slot's Basin entry. -/
  | groupBasin (c : CmdCtx) (gid : BitVec 24) (slot : Byte)
  /-- REGION_DROOP (R239): A region's supply falls below the droop threshold and its AO enters STRETCHED. -/
  | regionDroop (r : Fin 64)
  /-- REGION_STRETCH_RECOVER (R239): After 8 stretched periods above threshold plus hysteresis the region returns to NORMAL. -/
  | regionStretchRecover (r : Fin 64)
  /-- OP_SWITCH_PREPARE (R243): At F − FREQ_LEAD the voltage is raised if needed and the standby PLL started. -/
  | opSwitchPrepare
  /-- OP_SWITCH_CHECK (R244): At F − 1 µs power-good and lock are checked, or the change is cancelled with VID_FAULT. -/
  | opSwitchCheck (pgood lock : Bool)
  /-- OP_SWITCH (R243): At F every eligible region switches to the standby grid. -/
  | opSwitch
  /-- OP_SWITCH_FINISH (R243): At F + 1 µs the voltage is lowered if needed and the old PLL goes to standby. -/
  | opSwitchFinish
  /-- MARGIN_ERROR_EDGE (R248): A monitor reading 0 drops the next grid edge and counts a margin error. -/
  | marginErrorEdge (r : Fin 64)
  /-- MARGIN_LOW_SET (R248): MARGIN_MIN at or below MARGIN_WARN for 1 ms sets MARGIN_LOW. -/
  | marginLowSet (r : Fin 64)
  /-- REGION_LOR (R249): A region losing its grid reference changes to its local oscillator and enters LOR. -/
  | regionLor (r : Fin 64)
  /-- GRID_PLL_LOCK_LOSS (R249): The live PLL losing lock puts every unfenced region in LOR and relocks at SAFE_OP. -/
  | gridPllLockLoss
  /-- REGION_REJOIN_TICK (R249): At its rejoin tick a region in LOR switches back to the live grid. -/
  | regionRejoinTick (r : Fin 64)
  /-- FENCE_CORE (R250): A FENCE_CORE write fences one core. -/
  | fenceCore (core : Byte)
  /-- FENCE_REGION (R250): A FENCE_REGION write fences a region. -/
  | fenceRegion (core : Byte)
  /-- CS_REGION_CAPTURE (R252): A read of LK_CS_REGr_CYC_LO captures the rest of the region block. -/
  | csRegionCapture (r : Fin 64)
  /-- CS_STATUS (R253): Command returning the clock steward status. -/
  | csStatus (c : CmdCtx)
  /-- CS_LEDGER (R253): Command returning region ledgers. -/
  | csLedger (c : CmdCtx) (first regions : Byte)
  /-- CS_FENCE (R253): Command fencing a core or region. -/
  | csFence (c : CmdCtx) (kind number : Byte)
  /-- CS_OPT (R253): Command returning the operating-point table. -/
  | csOpt (c : CmdCtx)
  /-- ACTIVITY_SAMPLE (R261): Every 2 µs the governor reads counters, updates energy and windows, and sets each region's density. -/
  | activitySample (temps : List (BitVec 8))
  /-- BOOST_REARM (R266): 1 s after a boost opened BOOST_ARMED sets again. -/
  | boostRearm
  /-- PG_CAP_WRITE (R257): A write of LK_PG_CAP sets caps from the next sample, or is discarded with CAP_ERR. -/
  | pgCapWrite (v : Word)
  /-- PG_LO_CAPTURE (R276): A read of a power _LO register captures its _HI partner. -/
  | pgLoCapture (total : Bool)
  /-- PG_REGION_CAPTURE (R277): A read of a power region block's +0x0 captures the rest. -/
  | pgRegionCapture (r : Fin 64)
  /-- THERMAL_WARNING (R273): A sensor reaching TWARN_C sets TWARN and starts ceiling lowering. -/
  | thermalWarning (r : Fin 64) (temp : BitVec 8)
  /-- TWARN_CEIL_STEP (R273): Every 10 ms while hot the ceiling is lowered by one index. -/
  | twarnCeilStep
  /-- TWARN_CLEAR (R273): All sensors below TWARN_C − 3 °C for 100 ms clear TWARN. -/
  | twarnClear
  /-- THERMAL_TRIP (R274): A sensor reaching TCRIT_C stops every region, drives THERM_TRIP and faults the job. -/
  | thermalTrip (r : Fin 64) (temp : BitVec 8)
  /-- PG_STATUS (R278): Command returning power governor status. -/
  | pgStatus (c : CmdCtx)
  /-- PG_CAP (R278): Command setting the caps. -/
  | pgCap (c : CmdCtx) (cap1 cap10 : BitVec 16)
  /-- PG_ENERGY (R278): Command returning job and total energy. -/
  | pgEnergy (c : CmdCtx)
  /-- PG_REGIONS (R278): Command returning power region blocks. -/
  | pgRegions (c : CmdCtx) (first regions : Byte)
  /-- PG_MODEL (R278): Command returning the fused power model. -/
  | pgModel (c : CmdCtx)
  /-- ALIGN_REQUEST (R285): At M − 2 µs ALIGN_REQ is asserted to the host. -/
  | alignRequest
  /-- ALIGN_READY_CHECK (R286): At M − 100 ns an absent ALIGN_READY records an alignment miss. -/
  | alignReadyCheck (ready : Bool)
  /-- DIGEST_BEAT (R288): A digest beat is folded into its open step and tag, or discarded and counted. -/
  | digestBeat (beat : BitVec 128)
  /-- DIG_REQ_GO (R290): A GO write submits a digest COMPARE or COMBINE on DIG_QUEUE. -/
  | digReqGo (v : Word)
  /-- DIGEST_RECORD_CAPTURE (R300): A read of a closed-step record's +0x00 captures the rest of the record. -/
  | digestRecordCapture (t : Fin 16)
  /-- SEED_REQUEST (R292): A seed port request returns the seed for step, rank and stream, or NO_JOB. -/
  | seedRequest (r q : BitVec 32) (step : Option (BitVec 64))
  /-- SEED_GO_WRITE (R292): A GO write computes a seed into LK_DET_SEEDk. -/
  | seedGoWrite (v : Word)
  /-- TIME_PORT_REQUEST (R283): A host time-port read returns hall time, or step-derived time under DETMODE. -/
  | timePortRequest
  /-- DET_STATUS (R301): Command returning determinism status. -/
  | detStatus (c : CmdCtx)
  /-- DET_DIGEST (R301): Command returning a tag's closed-step record. -/
  | detDigest (c : CmdCtx) (tag : Byte)
  /-- DET_DIGEST_CHECK (R290): Command comparing or combining a digest across the group. -/
  | detDigestCheck (c : CmdCtx) (tag kind : Byte)
  /-- DET_SEED (R291): Command returning a seed. -/
  | detSeed (c : CmdCtx) (rank stream : Word) (step : DWord)
  /-- JOB_PAUSE (R293): Command pausing a running job at a Mark at or after A. -/
  | jobPause (c : CmdCtx) (gid : BitVec 24) (gen : BitVec 16) (a : Packed)
  /-- JOB_RESUME (R296): Command resuming a paused job at T_R. -/
  | jobResume (c : CmdCtx) (gid : BitVec 24) (gen : BitVec 16) (tr : Packed)
  /-- JOB_SAVE (R297): Command writing a paused member's job image. -/
  | jobSave (c : CmdCtx) (addr : DWord)
  /-- JOB_LOAD (R298): Command loading a job image into an armed slot. -/
  | jobLoad (c : CmdCtx) (addr : DWord) (image : Option (List Byte))
  /-- OE_ENABLE_WRITE (R307): A write of VD_OE_CTRL.ENABLE starts an engine or darkens it. -/
  | oeEnableWrite (e : Fin 9) (on : Bool)
  /-- LASER_QUALIFIED (R307): Every working line lit and in power for 100 ms moves the engine to SEARCH. -/
  | laserQualified (e : Fin 9)
  /-- LASER_WAIT_TIMEOUT (R307): A line absent after 1 s is FAILED and replaced, or the engine enters FAULT. -/
  | laserWaitTimeout (e : Fin 9) (absent : BitVec 10)
  /-- OPTICAL_SEARCH_DONE (R308): The ring search ends, shifts are assigned and the engine becomes READY or DEGRADED. -/
  | opticalSearchDone (e : Fin 9) (mods drops : List (BitVec 16)) (locked : BitVec 16)
  /-- OE_FAULT_RETRY (R307): 10 s in FAULT returns the engine to LASER_WAIT. -/
  | oeFaultRetry (e : Fin 9)
  /-- OE_RESEARCH (R307): A RESEARCH write searches every NO_LINE port again. -/
  | oeResearch (e : Fin 9)
  /-- RING_LOCK_UPDATE (R305): Every 100 µs each ring's lock loop moves its heater code under the slew limits. -/
  | ringLockUpdate (e : Fin 9) (errs : List (BitVec 16)) (dark : BitVec 16) (temp : BitVec 8) (pwr : List (BitVec 32))
  /-- TONE_CHECK (R310): Every 50 µs each ring's pilot tone is checked against its channel. -/
  | toneCheck (e : Fin 9) (tones : List (BitVec 16))
  /-- WRONG_LINE_RECOVERED (R311): The misplaced ring finds its own tone, locks and its port returns to DETECT. -/
  | wrongLineRecovered (p : PortId) (drop : Bool) (code : BitVec 12)
  /-- DROP_RING_FREEZE_EXPIRY (R309): A drop ring dark for 1 s searches again from the loop-back tap. -/
  | dropRingFreezeExpiry (p : PortId)
  /-- LINE_BIAS_ADJUST (R312): Every 10 s each line's bias is adjusted and its state updated. -/
  | lineBiasAdjust (e : Fin 9) (pwr : List (BitVec 16))
  /-- LINE_POWER_FALL (R312): A fall of over 6 dB in 1 ms makes the line FAILED. -/
  | linePowerFall (e : Fin 9) (l : Fin 10)
  /-- SPARE_WARM (R315): A spare lit at the park slot becomes WARM after 20 ms. -/
  | spareWarm (e : Fin 9) (l : Fin 10)
  /-- SPARE_SWAP (R316): At the end of a TIME frame the SWAP command darkens the old line and steps in the spare. -/
  | spareSwap (p : PortId)
  /-- SWAP_CONFIRM (R316): 1 ms after the swap the spare is ACTIVE and the old line RETIRED. -/
  | swapConfirm (e : Fin 9)
  /-- SWAP_WAIT_TIMEOUT (R315): No quiet window within SWAP_WAIT_S swaps at the next TIME frame end. -/
  | swapWaitTimeout (e : Fin 9) (l : Fin 10)
  /-- LS_STATUS_RX (R355): A laser source status word arrives on the LS_LINK return pair. -/
  | lsStatusRx (e : Fin 9) (w : Word) (ready : Bool)
  /-- OCS_ARM_WRITE (R319): An ARM write schedules or awaits an OCS trigger pulse, or is refused. -/
  | ocsArmWrite (o : Fin 4) (v : Word)
  /-- OCS_CANCEL_WRITE (R319): A CANCEL write cancels an armed OCS output. -/
  | ocsCancelWrite (o : Fin 4) (v : Word)
  /-- OCS_PULSE (R319): The OCS pulse falls and the masked ports become SWITCHING. -/
  | ocsPulse (o : Fin 4)
  /-- OCS_SWITCH_TIMEOUT (R320): SETTLE_MS + 200 ms after the pulse a port stops being SWITCHING. -/
  | ocsSwitchTimeout (o : Fin 4)
  /-- OPT_STATUS (R323): Command returning an engine's status. -/
  | optStatus (c : CmdCtx) (e : Byte)
  /-- OPT_LINES (R323): Command returning an engine's line blocks. -/
  | optLines (c : CmdCtx) (e : Byte)
  /-- OPT_SWAP (R323): Command requesting a spare swap for a line. -/
  | optSwap (c : CmdCtx) (e l : Byte)
  /-- OPT_RESEARCH (R323): Command searching a port's rings again. -/
  | optResearch (c : CmdCtx) (port : Byte)
  /-- OCS_ARM (R319): Command arming an OCS trigger output. -/
  | ocsArm (c : CmdCtx) (o mode up : Byte) (at_ : Packed) (ports : BitVec 64) (width settle : BitVec 16)
  /-- OCS_CANCEL (R323): Command cancelling an OCS trigger output. -/
  | ocsCancel (c : CmdCtx) (o : Byte)
  /-- SOUND_NOW (R325): A SOUND_NOW write takes a sounding of the masked kinds at once. -/
  | soundNow (v : Word)
  /-- AUTO_SOUNDING (R325): SOUND_PERIOD_S after the last sounding an automatic sounding is taken. -/
  | autoSounding
  /-- SOUNDING_DONE (R326): A sounding completes, updates the margin map and sends its record to both heads. -/
  | soundingDone (vmarginMv : BitVec 16) (eyeE eyeW : BitVec 4) (rx : BitVec 16)
  /-- KAT_START (R328): A KAT asserts KAT_REQ at a Mark or at once outside a job. -/
  | katStart
  /-- KAT_SIGNATURE (R328): A region's KAT signature arrives and is compared. -/
  | katSignature (r : BitVec 6) (sig : BitVec 64)
  /-- KAT_TIMEOUT (R328): A signature missing after KAT_LIMIT_US gives TIMEOUT. -/
  | katTimeout
  /-- SOUNDING_RECORD_RX (R330): A pod Verard applies a record or forwarded entry to the die's score and state. -/
  | soundingRecordRx
  /-- HEALTH_SILENCE (R330): No record for 3 × SOUND_PERIOD_S penalises the die as SILENT. -/
  | healthSilence (n : BitVec 11)
  /-- HEALTH_RECOVER_TICK (R330): A clean RECOVER_MIN adds 1 to a die's score. -/
  | healthRecoverTick (n : BitVec 11)
  /-- PROBATION_EXPIRY (R331): PROB_H hours in PROBATION make the die a candidate for expulsion. -/
  | probationExpiry (n : BitVec 11)
  /-- EXPEL_RATE_WINDOW (R333): An expulsion leaving the hour lets a pending die be expelled. -/
  | expelRateWindow
  /-- LOG_RD_WRITE (R337): A write of LK_LOG_RD or VD_LOG_RD consumes entries. -/
  | logRdWrite (d : Dev) (v : Word)
  /-- LOG_SPILL_DONE (R337): A Log entry spill write to the host completes, or fails setting SPILL_ERR. -/
  | logSpillDone (ok : Bool)
  /-- RATE_SUMMARY (R341): Each second a RATE_SUMMARY entry records reports not forwarded. -/
  | rateSummary (d : Dev)
  /-- LOG_SEL_WRITE (R346): A VD_LOG_SEL write loads an entry into the view. -/
  | logSelWrite (v : Word)
  /-- HM_SOUND (R347): Command taking a sounding and returning its record. -/
  | hmSound (c : CmdCtx) (mask : Byte)
  /-- HM_STATUS (R347): Command returning health and Log status. -/
  | hmStatus (c : CmdCtx)
  /-- HM_MAP (R347): Command returning the margin map. -/
  | hmMap (c : CmdCtx)
  /-- LOG_READ (R347): Command returning Log entries. -/
  | logRead (c : CmdCtx) (first : Word) (count : Byte)
  /-- LOG_ADVANCE (R347): Command advancing the Log read pointer. -/
  | logAdvance (c : CmdCtx) (seq : Word)
  /-- HM_SET_STATE (R331): Command setting a die's mirrored health state. -/
  | hmSetState (c : CmdCtx) (st : Byte)
  /-- HM_SCORE (R347): Command returning die table words. -/
  | hmScore (c : CmdCtx) (first count : BitVec 16)
  /-- HM_SPARES (R333): Command adjusting AVAIL. -/
  | hmSpares (c : CmdCtx) (delta : BitVec 16)
  /-- HM_EXPEL (R335): Command expelling a die at once. -/
  | hmExpel (c : CmdCtx) (ua : BitVec 24)
  /-- HM_HOLD_RELEASE (R334): Command clearing HOLD. -/
  | hmHoldRelease (c : CmdCtx)
  /-- BOOT_STATUS (R367): Command returning identity and start-up registers. -/
  | bootStatus (c : CmdCtx)
  /-- PROFILE_SELECT (R364): Command selecting the profile now or at the next reset. -/
  | profileSelect (c : CmdCtx) (profile : Byte)
  /-- CMD_FRAGMENT (R379): A command fragment is routed by its recorded route or taken for reassembly. -/
  | cmdFragment (path : Path) (f : Framed Fragment)
  /-- PACKET_REASSEMBLED (R387): A complete packet is checked in order and executed, delivered to the host or answered. -/
  | packetReassembled (d : Dev) (image : Option (List Byte))
  /-- REASSEMBLY_TIMEOUT (R380): A packet incomplete 1 ms after fragment 0 is discarded. -/
  | reassemblyTimeout (d : Dev)
  /-- ROUTE_RECORD_EXPIRY (R379): A route record is freed 1 ms after its fragment 0. -/
  | routeRecordExpiry (d : Dev)
  /-- SESSION_IDLE_TIMEOUT (R376): A session without an authentic request for SESSION_IDLE_S ends. -/
  | sessionIdleTimeout (d : Dev)
  /-- COMMAND_COMPLETION (R386): An asynchronous command's work ends and its COMPLETION is sent. -/
  | commandCompletion (slot : Fin 2)
  /-- MBOX_CLAIM (R393): A CLAIM write moves a FREE mailbox to CLAIMED. -/
  | mboxClaim
  /-- MBOX_SEND (R393): A SEND write hands the buffered packet to the controller. -/
  | mboxSend
  /-- MBOX_RELEASE (R393): A RELEASE write frees a delivered mailbox. -/
  | mboxRelease
  /-- CMD_REQ_DOORBELL (R394): A REQ_TAIL write announces request slots to Verard. -/
  | cmdReqDoorbell (tail : BitVec 10) (slots : List (List Byte))
  /-- CMD_RSP_HEAD_WRITE (R394): A RSP_HEAD write frees reply slots so held packets are delivered. -/
  | cmdRspHeadWrite (v : BitVec 10)
  /-- NOP (R391): Command echoing its data. -/
  | nop (c : CmdCtx) (data : List Byte)
  /-- INFO (R391): Command returning device identity and capabilities. -/
  | info (c : CmdCtx)
  /-- TIME_READ (R391): Command returning hall time without disturbing latched sets. -/
  | timeRead (c : CmdCtx) (fine : Byte)
  /-- SESSION_OPEN (R372): Command opening an authenticated session by ECDH handshake. -/
  | sessionOpen (c : CmdCtx) (loc : Bool) (hdr pay : List Byte)
  /-- SESSION_CLOSE (R376): Command ending a session. -/
  | sessionClose (c : CmdCtx)
  /-- GROUP_SESSION (R375): Command installing a group session on a member. -/
  | groupSession (c : CmdCtx) (gid : BitVec 24) (gen : BitVec 16) (id : Word) (key : List Byte) (salt : Word)
  /-- DBG_READ (R391): Command reading registers as register reads. -/
  | dbgRead (c : CmdCtx) (off : Word) (count : BitVec 16)
  /-- DBG_WRITE (R391): Command writing one register. -/
  | dbgWrite (c : CmdCtx) (off value : Word)
  /-- ID_CERT (R398): Command returning or installing the identity certificates. -/
  | idCert (c : CmdCtx) (install : List Byte)
  /-- SIGN_STAMP (R402): Command queueing an attested stamp for signing. -/
  | signStamp (c : CmdCtx) (digest : List Byte) (fine : Byte)
  /-- STAMP_SIGNED (R402): The signing engine finishes a stamp and its reply is sent. -/
  | stampSigned (d : Dev)
  /-- LC_STATUS (R395): Command returning life-cycle state and a new challenge. -/
  | lcStatus (c : CmdCtx)
  /-- LC_TRANSITION (R406): Command changing life-cycle state with wipe and restart, or opening a maker token. -/
  | lcTransition (c : CmdCtx) (target force : Byte) (token : List Byte)
  /-- KEY_BIND (R399): Command binding or unbinding a key slot, or generating the identity key. -/
  | keyBind (c : CmdCtx) (index : Byte) (mask : BitVec 16) (key : List Byte)
  /-- FW_BEGIN (R410): Command opening or resuming a firmware transfer. -/
  | fwBegin (c : CmdCtx) (id len ver : Word)
  /-- FW_ERASE_DONE (R410): The staging bank erase completes and FW_BEGIN completes with an empty bitmap. -/
  | fwEraseDone (d : Dev)
  /-- FW_CHUNK (R410): Command delivering one part of a firmware image. -/
  | fwChunk (c : CmdCtx) (id : Word) (part : BitVec 16) (data : List Byte)
  /-- FW_CHUNK_PROGRAMMED (R410): A part is programmed and read back, marked held, and the transfer may become STAGED. -/
  | fwChunkProgrammed
  /-- FW_STATUS (R416): Command returning firmware status and the part bitmap. -/
  | fwStatus (c : CmdCtx)
  /-- FW_CANCEL (R410): Command emptying the open or staged transfer. -/
  | fwCancel (c : CmdCtx) (id : Word)
  /-- PROFILE_PROGRAM (R425): A PROGRAM write writes the store buffer to the other flash copy. -/
  | profileProgram
  /-- PROFILE_RELOAD (R425): A RELOAD write refills the store buffer from the loaded copy. -/
  | profileReload
  /-- PROFILE_PROGRAM_DONE (R425): A PROGRAM or RELOAD ends, setting DONE and RESULT. -/
  | profileProgramDone (ok : Bool)
  /-- HOST_RESET_RELEASE (R350): HOST_RST_N rises again and Lotik resumes accepting requests at its host ports. -/
  | hostResetRelease
  /-- COMMIT_HOLD_DEADLINE (R141): A member still holding its COMMIT_ACK because its other slot is not IDLE answers BUSY at T0 − 20 µs. -/
  | commitHoldDeadline (i : Fin 2)
  /-- LOR_REFERENCE_VALID (R249): A region in LOR whose grid copy has been valid for 100 µs has the steward choose its rejoin tick. -/
  | lorReferenceValid (r : Fin 64)
  /-- DET_SLOT_BOUNDARY (R263): Under DETMODE a region reaches the end of a 1,024-frame slot and its bubble density takes the largest n(r) of the previous slot. -/
  | detSlotBoundary (r : Fin 64)
  /-- REGION_CLOCK_EDGE (R240): A region clock edge writes or reads landing-buffer entries under the credit rules and advances the region's CYC. -/
  | regionClockEdge (r : Fin 64) (t : Nat) (codes : Word) (writes : List (Fin 64 × BitVec 64)) (reads : List (Fin 64))
  /-- ACTIVITY_EVENT (R254): An event on a host activity line increments its region counter, saturating at 65,535. -/
  | activityEvent (r : Fin 64) (k : Fin 32)
  /-- SPRING_EDGE (R37): On each Spring-domain edge Lotik adds INC to the TICKS and PHASE accumulator, giving that edge's hall time. -/
  | springEdge
  /-- LOG_COALESCE_END (R340): A Log entry can no longer be coalesced, so it is spilled, and a forwarded coalesced entry is forwarded again with its final COUNT. -/
  | logCoalesceEnd (seq : Word)
  /-- LIGHT_RETURN (R317): Light returns to a sync-lane receiver within 150 ns of its loss, and the receiver relocks within 100 ns without entering DETECT. -/
  | lightReturn (p : PortId)
  deriving DecidableEq, Repr

end Sys2Proof
end

