-- ==== Sys2Proof/Machine/Maps.lean ====
section
/-! DEFINITION. Sparse tables in one canonical form: keys strictly rising, no entry that holds the default. -/

namespace Sys2Proof.Machine

/-- The value at a key; an unlisted key holds the default. -/
def smGet {α : Type} (d : α) (m : List (Nat × α)) (k : Nat) : α :=
  match m.find? (fun e => e.1 == k) with
  | some e => e.2
  | none => d

/-- Put one entry into a rising list that has no entry at its key. -/
def smInsert {α : Type} (k : Nat) (v : α) : List (Nat × α) → List (Nat × α)
  | [] => [(k, v)]
  | e :: m => if k < e.1 then (k, v) :: e :: m else e :: smInsert k v m

/-- Set the value at a key; setting the default removes the entry. -/
def smPut {α : Type} [DecidableEq α] (d : α) (m : List (Nat × α)) (k : Nat) (v : α) : List (Nat × α) :=
  if v = d then m.filter (fun e => e.1 != k) else smInsert k v (m.filter (fun e => e.1 != k))

/-- The canonical form of a table. -/
def smWf {α : Type} [DecidableEq α] (d : α) (m : List (Nat × α)) : Bool :=
  (m.map Prod.fst).Pairwise (· < ·) && m.all (fun e => decide (e.2 ≠ d))

/-- The first `n` elements of `x :: l`: a bounded record, newest first. -/
def pushN {α : Type} (n : Nat) (x : α) (l : List α) : List α := (x :: l).take n

end Sys2Proof.Machine
end

