-- ==== Sys2Proof/Config.lean ====
section
/-! DEFINITION. What a part fixes at manufacture, and the free values: constants without a body, of which no proof can see a value. -/

namespace Sys2Proof.Config

open Sys2Proof

/-- The free values of the block: the n-th value the spec leaves open (notes/assumptions/1). -/
opaque freeValue : Nat → BitVec 64

/-- A long free value, for open results of many bytes (notes/assumptions/1). -/
opaque freeBytes : Nat → List Byte

/-- The core voltage found at test for operating point i, mV (R236). -/
opaque testVolt : Nat → BitVec 12

/-- The fused core voltage of operating point i, mV: the ones found at test, which never fall as the index rises (R236). -/
def optVolt : Nat → BitVec 12
  | 0 => testVolt 0
  | n + 1 => if (testVolt (n + 1)).toNat < (optVolt n).toNat then optVolt n else testVolt (n + 1)

/-- The fused frequency of operating point i, MHz: the ladder of Eloapex dies (R236; notes/assumptions/6). -/
def optFreq (i : Nat) : Nat :=
  ([1200, 1250, 1300, 1350, 1400, 1500, 1600, 1700, 1800, 1850, 1900, 1950, 2000, 2050, 2100, 2200] : List Nat).getD i 0

/-- The fused reference voltage of the power model (R276). -/
opaque vRefMv : BitVec 12

/-- The fused activity weight of counter k (R276). -/
opaque weight : Nat → BitVec 16

/-- The fused leakage of one region, mW, by operating point and temperature column: 30 °C and every 15 °C up to 135 °C (R255). -/
opaque leakage : Nat → Nat → BitVec 16

/-- Whether data passes from one clock region to another: the neighbours of the host die (R240; notes/assumptions/38). -/
opaque adjacent : Nat → Nat → Bool

/-- The fused stepping of a part (R365, R366). -/
opaque stepping : Dev → BitVec 8

/-- The fused serial number of a part (R415). -/
opaque serial : Dev → BitVec 64

/-- The channel on which the package's own T-link transmits, which its cabling to the breakout fixes (R302; notes/assumptions/134). -/
opaque tlinkLane : BitVec 3

/-- The fused transmit delay of a T-link port, ps (R56). -/
opaque txDly : Nat → BitVec 16

/-- The fused receive delay of a T-link port, ps (R56). -/
opaque rxDly : Nat → BitVec 16

/-- The fused fold delay of a T-link port, ps (R56). -/
opaque foldDly : Nat → BitVec 16

/-- The fused lane constant of a ring port, ps, by which a measured hop is corrected, by port of this die (0 east, 1 west) and of its neighbours (2, 3) (R65; notes/assumptions/139). -/
opaque laneConst : Nat → BitVec 16

/-- The integral gain of a loop of a bandwidth in mHz: the part of an offset that it takes out in one update, in 2⁻³² (R97;
notes/assumptions/110). -/
opaque loopBeta : Nat → BitVec 32

/-- The fused receive and transmit delays of a PTP port's SerDes, ps (R100, R358). -/
opaque ptpRxDly : Nat → BitVec 16
opaque ptpTxDly : Nat → BitVec 16

/-- What a PTP port's data sets hold that the spec does not give: clockAccuracy, offsetScaledLogVariance and the port's identity
(R100; notes/assumptions/119). -/
opaque ptpAccuracy : BitVec 8
opaque ptpVariance : BitVec 16
opaque ptpIdentity : Nat → BitVec 80

/-- SHA-384 (R396). -/
opaque sha384 : List Byte → List Byte

/-- Whether an ECDSA P-384 signature verifies: public key, message, signature (R372). -/
opaque ecdsaVerify : List Byte → List Byte → List Byte → Bool

/-- The ECDSA P-384 signature of a message under the private key of a part's identity (R396). -/
opaque ecdsaSign : Dev → List Byte → List Byte

/-- The public point of an ephemeral key a part draws; its argument is the draw's number (R372). -/
opaque ephemeral : Nat → List Byte

/-- The ECDH shared secret of a part's n-th ephemeral key and a peer's point (R372). -/
opaque ecdhShared : Nat → List Byte → List Byte

/-- Whether bytes are an uncompressed point on P-384 (R372). -/
opaque onCurve : List Byte → Bool

/-- AES-256-GCM: key, IV, additional data, plaintext; the ciphertext (R369). -/
opaque gcmEncrypt : List Byte → List Byte → List Byte → List Byte → List Byte

/-- AES-256-GCM: key, IV, additional data, ciphertext; the tag (R369, R58). -/
opaque gcmTag : List Byte → List Byte → List Byte → List Byte → List Byte

/-- AES-256-GCM: key, IV, additional data, ciphertext; the plaintext (R369). -/
opaque gcmDecrypt : List Byte → List Byte → List Byte → List Byte → List Byte

/-- The fused Sorlys public keys and the type key (R396): ROOT_KEY, MAKER_KEY, FW_KEY0 and FW_KEY1, K_TYPE of a part. -/
opaque rootKey : List Byte
opaque makerKey : List Byte
opaque fwKey : Nat → List Byte
opaque typeKey : Dev → List Byte

/-- Whether a peer with these certificates is in MAKER (R404): no field of a key agreement tells it (notes/assumptions/160). -/
opaque makerPeer : List Byte → Bool

/-- The public point of the identity key pair that a part generates (R397). -/
opaque idPoint : Dev → List Byte

end Sys2Proof.Config
end

