-- ==== Sys2Proof/Machine/Fields.lean ====
section
/-! DEFINITION. A register field: where it lies, its width, its reset value and its access code (R5 to R8). -/

namespace Sys2Proof.Machine

open Sys2Proof

/-- The access codes of R6. -/
inductive Acc where
  | ro | rw | w1c | wo | rc
  deriving DecidableEq, Repr

/-- A register field. `sp` is the space: 0 the Lotik window, 1 Verard BAR0, 2 Verard BAR2. -/
structure Field where
  sp : Nat
  off : Nat
  lsb : Nat
  width : Nat
  reset : Nat
  acc : Acc
  deriving DecidableEq, Repr

/-- The key under which the field store holds a field. -/
def Field.key (f : Field) : Nat := (f.sp * 2 ^ 28 + f.off) * 32 + f.lsb

end Sys2Proof.Machine

namespace Sys2Proof

/-- The register space of a part. -/
def Dev.sp : Dev → Nat
  | .lotik => 0
  | .verard => 1

/-- Where a part's hall-time registers begin (R42, R43). -/
def Dev.timeBase : Dev → Nat
  | .lotik => 0x1000
  | .verard => 0x10800

/-- The space of a part's hall-time registers. -/
def Dev.timeSp (d : Dev) : Nat := d.sp

/-- Where a part's command-path counters begin (R395). -/
def Dev.cmdBase : Dev → Nat
  | .lotik => 0x8000
  | .verard => 0x90040

/-- Where a part's security registers begin (R415). -/
def Dev.secBase : Dev → Nat
  | .lotik => 0x8010
  | .verard => 0x90100

/-- The space of a port's block (R74, R75). -/
def PortId.sp : PortId → Nat
  | .tlink => 0
  | _ => 1

/-- Where a port's block begins (R74, R75). -/
def PortId.base : PortId → Nat
  | .tlink => 0x1140
  | .down n => 0x40000 + n.val * 0x400
  | .upA => 0x50000
  | .upB => 0x50400

/-- The reset of PORT_CTRL.ENABLE in the fused default profiles (R423, R424). -/
def PortId.enableReset : PortId → Nat
  | .tlink => 0
  | _ => 1

end Sys2Proof
end

