-- ==== Sys2Proof/Machine/RegsLotik.lean ====
section
/-! DEFINITION. the register fields of the Lotik window (R5 to R8, R417), one definition a field.
A field marked prof resets to the fused default profile (R423, R424), fuse to Config, x to 0 (notes/assumptions/4). -/

namespace Sys2Proof.Machine.R

open Sys2Proof.Machine

/-- R24: LK_TOPO.UA [19:0] RO -/
def LK_TOPO_UA : Field := ⟨0, 0x10, 0, 20, 0, .ro⟩
/-- R24: LK_TOPO.ROLE [21:20] RO (prof) -/
def LK_TOPO_ROLE : Field := ⟨0, 0x10, 20, 2, 0, .ro⟩
/-- R24: LK_TOPO.UA_VALID [22] RO -/
def LK_TOPO_UA_VALID : Field := ⟨0, 0x10, 22, 1, 0, .ro⟩
/-- R24: LK_TOPO.RING_CHAIN [23] RO -/
def LK_TOPO_RING_CHAIN : Field := ⟨0, 0x10, 23, 1, 0, .ro⟩
/-- R24: LK_TOPO.MASTER [25:24] RO -/
def LK_TOPO_MASTER : Field := ⟨0, 0x10, 24, 2, 0, .ro⟩
/-- R24: LK_TOPO.SIDE_MISMATCH [26] RO -/
def LK_TOPO_SIDE_MISMATCH : Field := ⟨0, 0x10, 26, 1, 0, .ro⟩
/-- R24: LK_TOPO.ROLE_CONFLICT [27] RO -/
def LK_TOPO_ROLE_CONFLICT : Field := ⟨0, 0x10, 27, 1, 0, .ro⟩
/-- R24: LK_TOPO.HOMING_MISMATCH [28] RO -/
def LK_TOPO_HOMING_MISMATCH : Field := ⟨0, 0x10, 28, 1, 0, .ro⟩
/-- R42: LK_TIME_HOLD.EST_PS [23:0] RO -/
def LK_TIME_HOLD_EST_PS : Field := ⟨0, 0x1020, 0, 24, 0, .ro⟩
/-- R76: LK_RING_STAT.E_STATE [1:0] RO -/
def LK_RING_STAT_E_STATE : Field := ⟨0, 0x1100, 0, 2, 0, .ro⟩
/-- R76: LK_RING_STAT.W_STATE [3:2] RO -/
def LK_RING_STAT_W_STATE : Field := ⟨0, 0x1100, 2, 2, 0, .ro⟩
/-- R76: LK_RING_STAT.E_FAULT [7:4] RO -/
def LK_RING_STAT_E_FAULT : Field := ⟨0, 0x1100, 4, 4, 0, .ro⟩
/-- R76: LK_RING_STAT.W_FAULT [11:8] RO -/
def LK_RING_STAT_W_FAULT : Field := ⟨0, 0x1100, 8, 4, 0, .ro⟩
/-- R76: LK_RING_STAT.FOLLOW [13:12] RO -/
def LK_RING_STAT_FOLLOW : Field := ⟨0, 0x1100, 12, 2, 0, .ro⟩
/-- R76: LK_RING_STAT.HOPS [18:14] RO -/
def LK_RING_STAT_HOPS : Field := ⟨0, 0x1100, 14, 5, 0, .ro⟩
/-- R76: LK_RING_STAT.RING_SIZE [23:19] RO (prof) -/
def LK_RING_STAT_RING_SIZE : Field := ⟨0, 0x1100, 19, 5, 31, .ro⟩
/-- R76: LK_RING_STAT.ENUM [26:24] RO -/
def LK_RING_STAT_ENUM : Field := ⟨0, 0x1100, 24, 3, 0, .ro⟩
/-- R76: LK_RING_CNT.CRC_ERR [15:0] RC -/
def LK_RING_CNT_CRC_ERR : Field := ⟨0, 0x1104, 0, 16, 0, .rc⟩
/-- R76: LK_RING_CNT.REPLAY [31:16] RC -/
def LK_RING_CNT_REPLAY : Field := ⟨0, 0x1104, 16, 16, 0, .rc⟩
/-- R76: LK_RING_MASTER_OFS.OFS_PS [31:0] RO -/
def LK_RING_MASTER_OFS_OFS_PS : Field := ⟨0, 0x1108, 0, 32, 0, .ro⟩
/-- R76: LK_RING_HOP.E_HOP_PS [15:0] RO -/
def LK_RING_HOP_E_HOP_PS : Field := ⟨0, 0x110c, 0, 16, 0, .ro⟩
/-- R76: LK_RING_HOP.W_HOP_PS [31:16] RO -/
def LK_RING_HOP_W_HOP_PS : Field := ⟨0, 0x110c, 16, 16, 0, .ro⟩
/-- R120: LK_TRIGi_CTRL.ENABLE [0] RW -/
def LK_TRIGi_CTRL_ENABLE (i : Nat) : Field := ⟨0, (0x1200 + i * 0x20 + 0x00), 0, 1, 0, .rw⟩
/-- R120: LK_TRIGi_CTRL.EDGE [2:1] RW -/
def LK_TRIGi_CTRL_EDGE (i : Nat) : Field := ⟨0, (0x1200 + i * 0x20 + 0x00), 1, 2, 0, .rw⟩
/-- R120: LK_TRIGi_CTRL.FINE [3] RW -/
def LK_TRIGi_CTRL_FINE (i : Nat) : Field := ⟨0, (0x1200 + i * 0x20 + 0x00), 3, 1, 0, .rw⟩
/-- R120: LK_TRIGi_CTRL.HOST_FWD [4] RW -/
def LK_TRIGi_CTRL_HOST_FWD (i : Nat) : Field := ⟨0, (0x1200 + i * 0x20 + 0x00), 4, 1, 0, .rw⟩
/-- R120: LK_TRIGi_STAT.COUNT [4:0] RO -/
def LK_TRIGi_STAT_COUNT (i : Nat) : Field := ⟨0, (0x1200 + i * 0x20 + 0x04), 0, 5, 0, .ro⟩
/-- R120: LK_TRIGi_STAT.OVF [5] W1C -/
def LK_TRIGi_STAT_OVF (i : Nat) : Field := ⟨0, (0x1200 + i * 0x20 + 0x04), 5, 1, 0, .w1c⟩
/-- R120: LK_TRIGi_STAT.READ_VALID [6] RO -/
def LK_TRIGi_STAT_READ_VALID (i : Nat) : Field := ⟨0, (0x1200 + i * 0x20 + 0x04), 6, 1, 0, .ro⟩
/-- R120: LK_TRIGi_STAT.READ_FINE [7] RO -/
def LK_TRIGi_STAT_READ_FINE (i : Nat) : Field := ⟨0, (0x1200 + i * 0x20 + 0x04), 7, 1, 0, .ro⟩
/-- R120: LK_TRIGi_STAT.FAULT [11:8] RO -/
def LK_TRIGi_STAT_FAULT (i : Nat) : Field := ⟨0, (0x1200 + i * 0x20 + 0x04), 8, 4, 0, .ro⟩
/-- R120: LK_TRIGi_STAT.MISSED [31:16] RC -/
def LK_TRIGi_STAT_MISSED (i : Nat) : Field := ⟨0, (0x1200 + i * 0x20 + 0x04), 16, 16, 0, .rc⟩
/-- R120: LK_TRIGi_POP.POP [0] WO -/
def LK_TRIGi_POP_POP (i : Nat) : Field := ⟨0, (0x1200 + i * 0x20 + 0x08), 0, 1, 0, .wo⟩
/-- R120: LK_TRIGi_NS.NS [31:0] RO -/
def LK_TRIGi_NS_NS (i : Nat) : Field := ⟨0, (0x1200 + i * 0x20 + 0x0C), 0, 32, 0, .ro⟩
/-- R120: LK_TRIGi_SEC_LO.SEC_LO [31:0] RO -/
def LK_TRIGi_SEC_LO_SEC_LO (i : Nat) : Field := ⟨0, (0x1200 + i * 0x20 + 0x10), 0, 32, 0, .ro⟩
/-- R120: LK_TRIGi_SEC_HI.SEC_HI [15:0] RO -/
def LK_TRIGi_SEC_HI_SEC_HI (i : Nat) : Field := ⟨0, (0x1200 + i * 0x20 + 0x14), 0, 16, 0, .ro⟩
/-- R120: LK_TRIGi_SEC_HI.SUB [31:16] RO -/
def LK_TRIGi_SEC_HI_SUB (i : Nat) : Field := ⟨0, (0x1200 + i * 0x20 + 0x14), 16, 16, 0, .ro⟩
/-- R120: LK_TRIGo_CTRL.ARM [0] WO -/
def LK_TRIGo_CTRL_ARM (i : Nat) : Field := ⟨0, (0x1240 + i * 0x20 + 0x00), 0, 1, 0, .wo⟩
/-- R120: LK_TRIGo_CTRL.CANCEL [1] WO -/
def LK_TRIGo_CTRL_CANCEL (i : Nat) : Field := ⟨0, (0x1240 + i * 0x20 + 0x00), 1, 1, 0, .wo⟩
/-- R120: LK_TRIGo_CTRL.POLARITY [2] RW -/
def LK_TRIGo_CTRL_POLARITY (i : Nat) : Field := ⟨0, (0x1240 + i * 0x20 + 0x00), 2, 1, 0, .rw⟩
/-- R120: LK_TRIGo_CTRL.ROUTE [4:3] RW -/
def LK_TRIGo_CTRL_ROUTE (i : Nat) : Field := ⟨0, (0x1240 + i * 0x20 + 0x00), 3, 2, 0, .rw⟩
/-- R120: LK_TRIGo_AT_NS.NS [31:0] RW -/
def LK_TRIGo_AT_NS_NS (i : Nat) : Field := ⟨0, (0x1240 + i * 0x20 + 0x04), 0, 32, 0, .rw⟩
/-- R120: LK_TRIGo_AT_SEC_LO.SEC_LO [31:0] RW -/
def LK_TRIGo_AT_SEC_LO_SEC_LO (i : Nat) : Field := ⟨0, (0x1240 + i * 0x20 + 0x08), 0, 32, 0, .rw⟩
/-- R120: LK_TRIGo_AT_SEC_HI.SEC_HI [15:0] RW -/
def LK_TRIGo_AT_SEC_HI_SEC_HI (i : Nat) : Field := ⟨0, (0x1240 + i * 0x20 + 0x0C), 0, 16, 0, .rw⟩
/-- R120: LK_TRIGo_TIMING.WIDTH [15:0] RW -/
def LK_TRIGo_TIMING_WIDTH (i : Nat) : Field := ⟨0, (0x1240 + i * 0x20 + 0x10), 0, 16, 1, .rw⟩
/-- R120: LK_TRIGo_TIMING.PERIOD [31:16] RW -/
def LK_TRIGo_TIMING_PERIOD (i : Nat) : Field := ⟨0, (0x1240 + i * 0x20 + 0x10), 16, 16, 0, .rw⟩
/-- R120: LK_TRIGo_STAT.ARMED [0] RO -/
def LK_TRIGo_STAT_ARMED (i : Nat) : Field := ⟨0, (0x1240 + i * 0x20 + 0x14), 0, 1, 0, .ro⟩
/-- R120: LK_TRIGo_STAT.CFG_ERR [1] W1C -/
def LK_TRIGo_STAT_CFG_ERR (i : Nat) : Field := ⟨0, (0x1240 + i * 0x20 + 0x14), 1, 1, 0, .w1c⟩
/-- R120: LK_TRIGo_STAT.LATE [2] W1C -/
def LK_TRIGo_STAT_LATE (i : Nat) : Field := ⟨0, (0x1240 + i * 0x20 + 0x14), 2, 1, 0, .w1c⟩
/-- R120: LK_TRIGo_STAT.FAULT [7:4] RO -/
def LK_TRIGo_STAT_FAULT (i : Nat) : Field := ⟨0, (0x1240 + i * 0x20 + 0x14), 4, 4, 0, .ro⟩
/-- R120: LK_TRIGo_STAT.SKIPPED [15:8] RC -/
def LK_TRIGo_STAT_SKIPPED (i : Nat) : Field := ⟨0, (0x1240 + i * 0x20 + 0x14), 8, 8, 0, .rc⟩
/-- R120: LK_TRIGo_STAT.PULSES [31:16] RO -/
def LK_TRIGo_STAT_PULSES (i : Nat) : Field := ⟨0, (0x1240 + i * 0x20 + 0x14), 16, 16, 0, .ro⟩
/-- R153: LK_STEP_CTRL.STEP_DONE [0] WO -/
def LK_STEP_CTRL_STEP_DONE : Field := ⟨0, 0x2000, 0, 1, 0, .wo⟩
/-- R153: LK_STEP_CTRL.HOST_ABORT [1] WO -/
def LK_STEP_CTRL_HOST_ABORT : Field := ⟨0, 0x2000, 1, 1, 0, .wo⟩
/-- R153: LK_STEP_STAT.SLOT0_STATE [3:0] RO -/
def LK_STEP_STAT_SLOT0_STATE : Field := ⟨0, 0x2004, 0, 4, 0, .ro⟩
/-- R153: LK_STEP_STAT.SLOT1_STATE [7:4] RO -/
def LK_STEP_STAT_SLOT1_STATE : Field := ⟨0, 0x2004, 4, 4, 0, .ro⟩
/-- R153: LK_STEP_STAT.ACTIVE [8] RO -/
def LK_STEP_STAT_ACTIVE : Field := ⟨0, 0x2004, 8, 1, 0, .ro⟩
/-- R153: LK_STEP_STAT.ENDED [9] RO -/
def LK_STEP_STAT_ENDED : Field := ⟨0, 0x2004, 9, 1, 0, .ro⟩
/-- R153: LK_STEP_STAT.GATE_PENDING [10] RO -/
def LK_STEP_STAT_GATE_PENDING : Field := ⟨0, 0x2004, 10, 1, 0, .ro⟩
/-- R153: LK_STEP_STAT.PROG_WR_ERR [11] W1C -/
def LK_STEP_STAT_PROG_WR_ERR : Field := ⟨0, 0x2004, 11, 1, 0, .w1c⟩
/-- R153: LK_STEP_STAT.CAUSE [15:12] RO -/
def LK_STEP_STAT_CAUSE : Field := ⟨0, 0x2004, 12, 4, 0, .ro⟩
/-- R153: LK_STEP_LO.STEP_LO [31:0] RO -/
def LK_STEP_LO_STEP_LO : Field := ⟨0, 0x2008, 0, 32, 0, .ro⟩
/-- R153: LK_STEP_HI.STEP_HI [31:0] RO -/
def LK_STEP_HI_STEP_HI : Field := ⟨0, 0x200c, 0, 32, 0, .ro⟩
/-- R153: LK_MARK_NS.NS [31:0] RO -/
def LK_MARK_NS_NS : Field := ⟨0, 0x2010, 0, 32, 0, .ro⟩
/-- R153: LK_MARK_SEC_LO.SEC_LO [31:0] RO -/
def LK_MARK_SEC_LO_SEC_LO : Field := ⟨0, 0x2014, 0, 32, 0, .ro⟩
/-- R153: LK_MARK_SEC_HI.SEC_HI [15:0] RO -/
def LK_MARK_SEC_HI_SEC_HI : Field := ⟨0, 0x2018, 0, 16, 0, .ro⟩
/-- R153: LK_NEXT_NS.NS [31:0] RO -/
def LK_NEXT_NS_NS : Field := ⟨0, 0x201c, 0, 32, 0, .ro⟩
/-- R153: LK_NEXT_SEC_LO.SEC_LO [31:0] RO -/
def LK_NEXT_SEC_LO_SEC_LO : Field := ⟨0, 0x2020, 0, 32, 0, .ro⟩
/-- R153: LK_NEXT_SEC_HI.SEC_HI [15:0] RO -/
def LK_NEXT_SEC_HI_SEC_HI : Field := ⟨0, 0x2024, 0, 16, 0, .ro⟩
/-- R153: LK_NEXT_SEC_HI.KNOWN [16] RO -/
def LK_NEXT_SEC_HI_KNOWN : Field := ⟨0, 0x2024, 16, 1, 0, .ro⟩
/-- R153: LK_JOB_ID.GID [17:0] RO -/
def LK_JOB_ID_GID : Field := ⟨0, 0x2028, 0, 18, 0, .ro⟩
/-- R153: LK_JOB_ID.GEN [31:18] RO -/
def LK_JOB_ID_GEN : Field := ⟨0, 0x2028, 18, 14, 0, .ro⟩
/-- R153: LK_JOB_T0_NS.NS [31:0] RO -/
def LK_JOB_T0_NS_NS : Field := ⟨0, 0x202c, 0, 32, 0, .ro⟩
/-- R153: LK_JOB_T0_SEC_LO.SEC_LO [31:0] RO -/
def LK_JOB_T0_SEC_LO_SEC_LO : Field := ⟨0, 0x2030, 0, 32, 0, .ro⟩
/-- R153: LK_JOB_T0_SEC_HI.SEC_HI [15:0] RO -/
def LK_JOB_T0_SEC_HI_SEC_HI : Field := ⟨0, 0x2034, 0, 16, 0, .ro⟩
/-- R153: LK_WP_PC.PC [20:0] RO -/
def LK_WP_PC_PC : Field := ⟨0, 0x2038, 0, 21, 0, .ro⟩
/-- R153: LK_WP_PC.DEPTH [23:21] RO -/
def LK_WP_PC_DEPTH : Field := ⟨0, 0x2038, 21, 3, 0, .ro⟩
/-- R153: LK_WP_FETCH.AHEAD [12:0] RO -/
def LK_WP_FETCH_AHEAD : Field := ⟨0, 0x203c, 0, 13, 0, .ro⟩
/-- R153: LK_MARK_CNT.LATE [15:0] RC -/
def LK_MARK_CNT_LATE : Field := ⟨0, 0x2040, 0, 16, 0, .rc⟩
/-- R153: LK_MARK_CNT.OVERRUN [31:16] RC -/
def LK_MARK_CNT_OVERRUN : Field := ⟨0, 0x2040, 16, 16, 0, .rc⟩
/-- R153: LK_DEFER_TOTAL.TICKS [31:0] RO -/
def LK_DEFER_TOTAL_TICKS : Field := ⟨0, 0x2044, 0, 32, 0, .ro⟩
/-- R153: LK_FAULT_PC.PC [20:0] RO -/
def LK_FAULT_PC_PC : Field := ⟨0, 0x2048, 0, 21, 0, .ro⟩
/-- R153: LK_PROGn_BASE_LO.BASE_LO [31:12] RW -/
def LK_PROGn_BASE_LO_BASE_LO (i : Nat) : Field := ⟨0, (0x2100 + i * 0x10 + 0x0), 12, 20, 0, .rw⟩
/-- R153: LK_PROGn_BASE_HI.BASE_HI [31:0] RW -/
def LK_PROGn_BASE_HI_BASE_HI (i : Nat) : Field := ⟨0, (0x2100 + i * 0x10 + 0x4), 0, 32, 0, .rw⟩
/-- R153: LK_PROGn_LEN.LEN [21:0] RW -/
def LK_PROGn_LEN_LEN (i : Nat) : Field := ⟨0, (0x2100 + i * 0x10 + 0x8), 0, 22, 0, .rw⟩
/-- R153: LK_PROGn_LEN.VALID [31] RW -/
def LK_PROGn_LEN_VALID (i : Nat) : Field := ⟨0, (0x2100 + i * 0x10 + 0x8), 31, 1, 0, .rw⟩
/-- R184: LK_SYNC_STAT.WAITERS_USED [12:0] RO -/
def LK_SYNC_STAT_WAITERS_USED : Field := ⟨0, 0x200, 0, 13, 0, .ro⟩
/-- R184: LK_SYNC_STAT.PEND_USED [23:13] RO -/
def LK_SYNC_STAT_PEND_USED : Field := ⟨0, 0x200, 13, 11, 0, .ro⟩
/-- R184: LK_SYNC_STAT.PEND_FULL [24] RO -/
def LK_SYNC_STAT_PEND_FULL : Field := ⟨0, 0x200, 24, 1, 0, .ro⟩
/-- R184: LK_SYNC_IRQ.UNDERFLOW [0] W1C -/
def LK_SYNC_IRQ_UNDERFLOW : Field := ⟨0, 0x204, 0, 1, 0, .w1c⟩
/-- R184: LK_SYNC_IRQ.OVERFLOW [1] W1C -/
def LK_SYNC_IRQ_OVERFLOW : Field := ⟨0, 0x204, 1, 1, 0, .w1c⟩
/-- R184: LK_SYNC_IRQ.SATURATED [2] W1C -/
def LK_SYNC_IRQ_SATURATED : Field := ⟨0, 0x204, 2, 1, 0, .w1c⟩
/-- R184: LK_SYNC_IRQ.AHEAD [3] W1C -/
def LK_SYNC_IRQ_AHEAD : Field := ⟨0, 0x204, 3, 1, 0, .w1c⟩
/-- R184: LK_SYNC_IRQ.LINK_FAULT [4] W1C -/
def LK_SYNC_IRQ_LINK_FAULT : Field := ⟨0, 0x204, 4, 1, 0, .w1c⟩
/-- R184: LK_SYNC_IRQ.PEND_STALE [5] W1C -/
def LK_SYNC_IRQ_PEND_STALE : Field := ⟨0, 0x204, 5, 1, 0, .w1c⟩
/-- R184: LK_SYNC_IRQ.WAITER_FULL [6] W1C -/
def LK_SYNC_IRQ_WAITER_FULL : Field := ⟨0, 0x204, 6, 1, 0, .w1c⟩
/-- R184: LK_SYNC_IRQ.SAVE_DONE [7] W1C -/
def LK_SYNC_IRQ_SAVE_DONE : Field := ⟨0, 0x204, 7, 1, 0, .w1c⟩
/-- R184: LK_SYNC_IRQ_EN.EN [7:0] RW -/
def LK_SYNC_IRQ_EN_EN : Field := ⟨0, 0x208, 0, 8, 255, .rw⟩
/-- R184: LK_SYNC_FAULT.OBJECT [13:0] RO -/
def LK_SYNC_FAULT_OBJECT : Field := ⟨0, 0x20c, 0, 14, 0, .ro⟩
/-- R184: LK_SYNC_FAULT.CODE [17:14] RO -/
def LK_SYNC_FAULT_CODE : Field := ⟨0, 0x20c, 14, 4, 0, .ro⟩
/-- R184: LK_SYNC_OPRES.STATUS [3:0] RO -/
def LK_SYNC_OPRES_STATUS : Field := ⟨0, 0x210, 0, 4, 0, .ro⟩
/-- R184: LK_SYNC_OPRES.OBJECT [17:4] RO -/
def LK_SYNC_OPRES_OBJECT : Field := ⟨0, 0x210, 4, 14, 0, .ro⟩
/-- R184: LK_SYNC_OPVAL.VALUE [30:0] RO -/
def LK_SYNC_OPVAL_VALUE : Field := ⟨0, 0x214, 0, 31, 0, .ro⟩
/-- R184: LK_SYNC_LIMITS.PEND_LIMIT_US [15:0] RO (prof) -/
def LK_SYNC_LIMITS_PEND_LIMIT_US : Field := ⟨0, 0x218, 0, 16, 10000, .ro⟩
/-- R184: LK_SYNC_SAVE_LO.BASE_LO [31:6] RW -/
def LK_SYNC_SAVE_LO_BASE_LO : Field := ⟨0, 0x220, 6, 26, 0, .rw⟩
/-- R184: LK_SYNC_SAVE_HI.BASE_HI [31:0] RW -/
def LK_SYNC_SAVE_HI_BASE_HI : Field := ⟨0, 0x224, 0, 32, 0, .rw⟩
/-- R184: LK_SYNC_SAVE_RANGE.FIRST [13:0] RW -/
def LK_SYNC_SAVE_RANGE_FIRST : Field := ⟨0, 0x228, 0, 14, 0, .rw⟩
/-- R184: LK_SYNC_SAVE_RANGE.COUNT [28:14] RW -/
def LK_SYNC_SAVE_RANGE_COUNT : Field := ⟨0, 0x228, 14, 15, 0, .rw⟩
/-- R184: LK_SYNC_SAVE_CTRL.SAVE [0] WO -/
def LK_SYNC_SAVE_CTRL_SAVE : Field := ⟨0, 0x22c, 0, 1, 0, .wo⟩
/-- R184: LK_SYNC_SAVE_CTRL.RESTORE [1] WO -/
def LK_SYNC_SAVE_CTRL_RESTORE : Field := ⟨0, 0x22c, 1, 1, 0, .wo⟩
/-- R184: LK_SYNC_SAVE_CTRL.BUSY [2] RO -/
def LK_SYNC_SAVE_CTRL_BUSY : Field := ⟨0, 0x22c, 2, 1, 0, .ro⟩
/-- R184: LK_SYNC_SAVE_CTRL.DONE [3] W1C -/
def LK_SYNC_SAVE_CTRL_DONE : Field := ⟨0, 0x22c, 3, 1, 0, .w1c⟩
/-- R184: LK_SYNC_SAVE_CTRL.RESULT [7:4] RO -/
def LK_SYNC_SAVE_CTRL_RESULT : Field := ⟨0, 0x22c, 4, 4, 0, .ro⟩
/-- R184: LK_SYNC_SAVE_FLOWS.FLOW_FIRST [11:0] RW -/
def LK_SYNC_SAVE_FLOWS_FLOW_FIRST : Field := ⟨0, 0x230, 0, 12, 0, .rw⟩
/-- R184: LK_SYNC_SAVE_FLOWS.FLOW_COUNT [24:12] RW -/
def LK_SYNC_SAVE_FLOWS_FLOW_COUNT : Field := ⟨0, 0x230, 12, 13, 0, .rw⟩
/-- R184: LK_SYNC_SAVE_LEN.BYTES [23:0] RO -/
def LK_SYNC_SAVE_LEN_BYTES : Field := ⟨0, 0x234, 0, 24, 0, .ro⟩
/-- R184: LK_SYNC_FLOW.FLOW [11:0] RW -/
def LK_SYNC_FLOW_FLOW : Field := ⟨0, 0x238, 0, 12, 0, .rw⟩
/-- R184: LK_SYNC_FLOW.RESET [12] WO -/
def LK_SYNC_FLOW_RESET : Field := ⟨0, 0x238, 12, 1, 0, .wo⟩
/-- R184: LK_SYNC_DBG_SEL.OBJECT [13:0] RW -/
def LK_SYNC_DBG_SEL_OBJECT : Field := ⟨0, 0xf0000, 0, 14, 0, .rw⟩
/-- R184: LK_SYNC_DBG_VALUE.VALUE [31:0] RO -/
def LK_SYNC_DBG_VALUE_VALUE : Field := ⟨0, 0xf0004, 0, 32, 0, .ro⟩
/-- R184: LK_SYNC_DBG_CFG.CFG [31:0] RO -/
def LK_SYNC_DBG_CFG_CFG : Field := ⟨0, 0xf0008, 0, 32, 0, .ro⟩
/-- R184: LK_SYNC_DBG_STAT.STAT [31:0] RO -/
def LK_SYNC_DBG_STAT_STAT : Field := ⟨0, 0xf000c, 0, 32, 0, .ro⟩
/-- R184: LK_SYNC_DBG_COUNTS.WAITERS [12:0] RO -/
def LK_SYNC_DBG_COUNTS_WAITERS : Field := ⟨0, 0xf0010, 0, 13, 0, .ro⟩
/-- R184: LK_SYNC_DBG_COUNTS.PENDING [23:13] RO -/
def LK_SYNC_DBG_COUNTS_PENDING : Field := ⟨0, 0xf0010, 13, 11, 0, .ro⟩
/-- R184: LK_SYNC_DBG_CORESk.CORES [31:0] RO -/
def LK_SYNC_DBG_CORESk_CORES (i : Nat) : Field := ⟨0, (0xf0014 + i * 4), 0, 32, 0, .ro⟩
/-- R184: LK_SYNC_DBG_LS_WHO.CTX [15:0] RO -/
def LK_SYNC_DBG_LS_WHO_CTX : Field := ⟨0, 0xf0034, 0, 16, 0, .ro⟩
/-- R184: LK_SYNC_DBG_LS_WHO.SRC [18:16] RO -/
def LK_SYNC_DBG_LS_WHO_SRC : Field := ⟨0, 0xf0034, 16, 3, 0, .ro⟩
/-- R184: LK_SYNC_DBG_LS_WHO.OP [21:19] RO -/
def LK_SYNC_DBG_LS_WHO_OP : Field := ⟨0, 0xf0034, 19, 3, 0, .ro⟩
/-- R184: LK_SYNC_DBG_LS_UA.UA [19:0] RO -/
def LK_SYNC_DBG_LS_UA_UA : Field := ⟨0, 0xf0038, 0, 20, 0, .ro⟩
/-- R184: LK_SYNC_DBG_LS_UA.FLOW [31:20] RO -/
def LK_SYNC_DBG_LS_UA_FLOW : Field := ⟨0, 0xf0038, 20, 12, 0, .ro⟩
/-- R184: LK_SYNC_DBG_LS_STEP_LO.STEP_LO [31:0] RO -/
def LK_SYNC_DBG_LS_STEP_LO_STEP_LO : Field := ⟨0, 0xf003c, 0, 32, 0, .ro⟩
/-- R184: LK_SYNC_DBG_LS_STEP_HI.STEP_HI [31:0] RO -/
def LK_SYNC_DBG_LS_STEP_HI_STEP_HI : Field := ⟨0, 0xf0040, 0, 32, 0, .ro⟩
/-- R184: LK_SYNC_DBG_LS_TICK_LO.TICK_LO [31:0] RO -/
def LK_SYNC_DBG_LS_TICK_LO_TICK_LO : Field := ⟨0, 0xf0044, 0, 32, 0, .ro⟩
/-- R184: LK_SYNC_DBG_LS_TICK_HI.TICK_HI [31:0] RO -/
def LK_SYNC_DBG_LS_TICK_HI_TICK_HI : Field := ⟨0, 0xf0048, 0, 32, 0, .ro⟩
/-- R212: LK_GQ_STAT.BOUND [12:0] RO -/
def LK_GQ_STAT_BOUND : Field := ⟨0, 0x300, 0, 13, 0, .ro⟩
/-- R212: LK_GQ_STAT.HEAD_USED [25:13] RO -/
def LK_GQ_STAT_HEAD_USED : Field := ⟨0, 0x300, 13, 13, 0, .ro⟩
/-- R212: LK_GQ_IRQ.COMPLETE [0] W1C -/
def LK_GQ_IRQ_COMPLETE : Field := ⟨0, 0x304, 0, 1, 0, .w1c⟩
/-- R212: LK_GQ_IRQ.FAULT [1] W1C -/
def LK_GQ_IRQ_FAULT : Field := ⟨0, 0x304, 1, 1, 0, .w1c⟩
/-- R212: LK_GQ_IRQ.DROP [2] W1C -/
def LK_GQ_IRQ_DROP : Field := ⟨0, 0x304, 2, 1, 0, .w1c⟩
/-- R212: LK_GQ_IRQ.STALL [3] W1C -/
def LK_GQ_IRQ_STALL : Field := ⟨0, 0x304, 3, 1, 0, .w1c⟩
/-- R212: LK_GQ_IRQ.ERR [4] W1C -/
def LK_GQ_IRQ_ERR : Field := ⟨0, 0x304, 4, 1, 0, .w1c⟩
/-- R212: LK_GQ_IRQ_EN.EN [4:0] RW -/
def LK_GQ_IRQ_EN_EN : Field := ⟨0, 0x308, 0, 5, 19, .rw⟩
/-- R212: LK_GQ_LAST.QUEUE [11:0] RO -/
def LK_GQ_LAST_QUEUE : Field := ⟨0, 0x30c, 0, 12, 0, .ro⟩
/-- R212: LK_GQ_DROP.STALE [15:0] RC -/
def LK_GQ_DROP_STALE : Field := ⟨0, 0x310, 0, 16, 0, .rc⟩
/-- R212: LK_GQ_DROP.EARLY [31:16] RC -/
def LK_GQ_DROP_EARLY : Field := ⟨0, 0x310, 16, 16, 0, .rc⟩
/-- R212: LK_GQ_BASIN.USED [10:0] RO -/
def LK_GQ_BASIN_USED : Field := ⟨0, 0x314, 0, 11, 0, .ro⟩
/-- R212: LK_GQ_ERR.QUEUE [11:0] RO -/
def LK_GQ_ERR_QUEUE : Field := ⟨0, 0x318, 0, 12, 0, .ro⟩
/-- R212: LK_GQ_ERR.CAUSE [13:12] RO -/
def LK_GQ_ERR_CAUSE : Field := ⟨0, 0x318, 12, 2, 0, .ro⟩
/-- R252: LK_CS_CFG.BASE_OP [3:0] RO (prof) -/
def LK_CS_CFG_BASE_OP : Field := ⟨0, 0x3000, 0, 4, 8, .ro⟩
/-- R252: LK_CS_CFG.SAFE_OP [7:4] RO (fuse) -/
def LK_CS_CFG_SAFE_OP : Field := ⟨0, 0x3000, 4, 4, 0, .ro⟩
/-- R252: LK_CS_CFG.VSETTLE_US [12:8] RO (prof) -/
def LK_CS_CFG_VSETTLE_US : Field := ⟨0, 0x3000, 8, 5, 8, .ro⟩
/-- R252: LK_CS_CFG.DROOP_MV [20:13] RO (prof) -/
def LK_CS_CFG_DROOP_MV : Field := ⟨0, 0x3000, 13, 8, 35, .ro⟩
/-- R252: LK_CS_CFG.HYST_MV [26:21] RO (prof) -/
def LK_CS_CFG_HYST_MV : Field := ⟨0, 0x3000, 21, 6, 10, .ro⟩
/-- R252: LK_CS_CFG.MARGIN_WARN [30:27] RO (prof) -/
def LK_CS_CFG_MARGIN_WARN : Field := ⟨0, 0x3000, 27, 4, 2, .ro⟩
/-- R252: LK_CS_CFG2.STR_WARN_PPM [15:0] RO (prof) -/
def LK_CS_CFG2_STR_WARN_PPM : Field := ⟨0, 0x3004, 0, 16, 1000, .ro⟩
/-- R252: LK_CS_CFG2.MARGIN_ERR_LIMIT [31:16] RO (prof) -/
def LK_CS_CFG2_MARGIN_ERR_LIMIT : Field := ⟨0, 0x3004, 16, 16, 64, .ro⟩
/-- R252: LK_CS_STAT.CUR_OP [3:0] RO (fuse) -/
def LK_CS_STAT_CUR_OP : Field := ⟨0, 0x3008, 0, 4, 0, .ro⟩
/-- R252: LK_CS_STAT.NEXT_OP [7:4] RO -/
def LK_CS_STAT_NEXT_OP : Field := ⟨0, 0x3008, 4, 4, 0, .ro⟩
/-- R252: LK_CS_STAT.NEXT_VALID [8] RO -/
def LK_CS_STAT_NEXT_VALID : Field := ⟨0, 0x3008, 8, 1, 0, .ro⟩
/-- R252: LK_CS_STAT.READY [9] RO -/
def LK_CS_STAT_READY : Field := ⟨0, 0x3008, 9, 1, 0, .ro⟩
/-- R252: LK_CS_STAT.OP_CEIL [13:10] RO -/
def LK_CS_STAT_OP_CEIL : Field := ⟨0, 0x3008, 10, 4, 15, .ro⟩
/-- R252: LK_CS_STAT.REGIONS [19:14] RO (fuse) -/
def LK_CS_STAT_REGIONS : Field := ⟨0, 0x3008, 14, 6, 63, .ro⟩
/-- R252: LK_CS_STAT.NOT_GRID [26:20] RO -/
def LK_CS_STAT_NOT_GRID : Field := ⟨0, 0x3008, 20, 7, 0, .ro⟩
/-- R252: LK_CS_NEXT_NS.NS [31:0] RO -/
def LK_CS_NEXT_NS_NS : Field := ⟨0, 0x300c, 0, 32, 0, .ro⟩
/-- R252: LK_CS_NEXT_SEC_LO.SEC_LO [31:0] RO -/
def LK_CS_NEXT_SEC_LO_SEC_LO : Field := ⟨0, 0x3010, 0, 32, 0, .ro⟩
/-- R252: LK_CS_NEXT_SEC_HI.SEC_HI [15:0] RO -/
def LK_CS_NEXT_SEC_HI_SEC_HI : Field := ⟨0, 0x3014, 0, 16, 0, .ro⟩
/-- R252: LK_CS_IRQ.LOR [0] W1C -/
def LK_CS_IRQ_LOR : Field := ⟨0, 0x3018, 0, 1, 0, .w1c⟩
/-- R252: LK_CS_IRQ.MARGIN_FAULT [1] W1C -/
def LK_CS_IRQ_MARGIN_FAULT : Field := ⟨0, 0x3018, 1, 1, 0, .w1c⟩
/-- R252: LK_CS_IRQ.FENCE [2] W1C -/
def LK_CS_IRQ_FENCE : Field := ⟨0, 0x3018, 2, 1, 0, .w1c⟩
/-- R252: LK_CS_IRQ.STR_WARN [3] W1C -/
def LK_CS_IRQ_STR_WARN : Field := ⟨0, 0x3018, 3, 1, 0, .w1c⟩
/-- R252: LK_CS_IRQ.VID_FAULT [4] W1C -/
def LK_CS_IRQ_VID_FAULT : Field := ⟨0, 0x3018, 4, 1, 0, .w1c⟩
/-- R252: LK_CS_IRQ.SWITCH_DONE [5] W1C -/
def LK_CS_IRQ_SWITCH_DONE : Field := ⟨0, 0x3018, 5, 1, 0, .w1c⟩
/-- R252: LK_CS_IRQ_EN.EN [5:0] RW -/
def LK_CS_IRQ_EN_EN : Field := ⟨0, 0x301c, 0, 6, 31, .rw⟩
/-- R252: LK_CS_CNT.CHANGES [15:0] RO -/
def LK_CS_CNT_CHANGES : Field := ⟨0, 0x3020, 0, 16, 0, .ro⟩
/-- R252: LK_CS_CNT.VID_FAULTS [31:16] RC -/
def LK_CS_CNT_VID_FAULTS : Field := ⟨0, 0x3020, 16, 16, 0, .rc⟩
/-- R252: LK_OPTi.FREQ_MHZ [11:0] RO (fuse) -/
def LK_OPTi_FREQ_MHZ (i : Nat) : Field := ⟨0, (0x3040 + i * 4), 0, 12, (Config.optFreq i), .ro⟩
/-- R252: LK_OPTi.VOLT_MV [23:12] RO (fuse) -/
def LK_OPTi_VOLT_MV (i : Nat) : Field := ⟨0, (0x3040 + i * 4), 12, 12, (Config.optVolt i).toNat, .ro⟩
/-- R252: LK_CS_FENCE_CTRL.CORE [7:0] RW -/
def LK_CS_FENCE_CTRL_CORE : Field := ⟨0, 0x3080, 0, 8, 0, .rw⟩
/-- R252: LK_CS_FENCE_CTRL.FENCE_CORE [8] WO -/
def LK_CS_FENCE_CTRL_FENCE_CORE : Field := ⟨0, 0x3080, 8, 1, 0, .wo⟩
/-- R252: LK_CS_FENCE_CTRL.FENCE_REGION [9] WO -/
def LK_CS_FENCE_CTRL_FENCE_REGION : Field := ⟨0, 0x3080, 9, 1, 0, .wo⟩
/-- R252: LK_CS_FENCEDk.FENCED [31:0] RO -/
def LK_CS_FENCEDk_FENCED (i : Nat) : Field := ⟨0, (0x3084 + i * 4), 0, 32, 0, .ro⟩
/-- R252: LK_CS_FENCE_DROP.DROPS [31:0] RC -/
def LK_CS_FENCE_DROP_DROPS : Field := ⟨0, 0x30a4, 0, 32, 0, .rc⟩
/-- R252: LK_CS_REGr_STAT.STATE [2:0] RO -/
def LK_CS_REGr_STAT_STATE (i : Nat) : Field := ⟨0, (0x3800 + i * 0x20 + 0x00), 0, 3, 0, .ro⟩
/-- R252: LK_CS_REGr_STAT.OP [6:3] RO (fuse) -/
def LK_CS_REGr_STAT_OP (i : Nat) : Field := ⟨0, (0x3800 + i * 0x20 + 0x00), 3, 4, 0, .ro⟩
/-- R252: LK_CS_REGr_STAT.MARGIN_LOW [7] RO -/
def LK_CS_REGr_STAT_MARGIN_LOW (i : Nat) : Field := ⟨0, (0x3800 + i * 0x20 + 0x00), 7, 1, 0, .ro⟩
/-- R252: LK_CS_REGr_STAT.MARGIN_MIN [11:8] RO -/
def LK_CS_REGr_STAT_MARGIN_MIN (i : Nat) : Field := ⟨0, (0x3800 + i * 0x20 + 0x00), 8, 4, 0, .ro⟩
/-- R252: LK_CS_REGr_STAT.STR_WARN [12] W1C -/
def LK_CS_REGr_STAT_STR_WARN (i : Nat) : Field := ⟨0, (0x3800 + i * 0x20 + 0x00), 12, 1, 0, .w1c⟩
/-- R252: LK_CS_REGr_STAT.INEXACT [13] RO -/
def LK_CS_REGr_STAT_INEXACT (i : Nat) : Field := ⟨0, (0x3800 + i * 0x20 + 0x00), 13, 1, 0, .ro⟩
/-- R252: LK_CS_REGr_STAT.LOR_COUNT [23:16] RC -/
def LK_CS_REGr_STAT_LOR_COUNT (i : Nat) : Field := ⟨0, (0x3800 + i * 0x20 + 0x00), 16, 8, 0, .rc⟩
/-- R252: LK_CS_REGr_STAT.MARGIN_ERR [31:24] RC -/
def LK_CS_REGr_STAT_MARGIN_ERR (i : Nat) : Field := ⟨0, (0x3800 + i * 0x20 + 0x00), 24, 8, 0, .rc⟩
/-- R252: LK_CS_REGr_CYC_LO.CYC_LO [31:0] RO -/
def LK_CS_REGr_CYC_LO_CYC_LO (i : Nat) : Field := ⟨0, (0x3800 + i * 0x20 + 0x04), 0, 32, 0, .ro⟩
/-- R252: LK_CS_REGr_CYC_HI.CYC_HI [31:0] RO -/
def LK_CS_REGr_CYC_HI_CYC_HI (i : Nat) : Field := ⟨0, (0x3800 + i * 0x20 + 0x08), 0, 32, 0, .ro⟩
/-- R252: LK_CS_REGr_LOST_LO.LOST_LO [31:0] RO -/
def LK_CS_REGr_LOST_LO_LOST_LO (i : Nat) : Field := ⟨0, (0x3800 + i * 0x20 + 0x0C), 0, 32, 0, .ro⟩
/-- R252: LK_CS_REGr_LOST_HI.LOST_HI [15:0] RO -/
def LK_CS_REGr_LOST_HI_LOST_HI (i : Nat) : Field := ⟨0, (0x3800 + i * 0x20 + 0x10), 0, 16, 0, .ro⟩
/-- R252: LK_CS_REGr_LOST_HI.EVENTS [31:16] RO -/
def LK_CS_REGr_LOST_HI_EVENTS (i : Nat) : Field := ⟨0, (0x3800 + i * 0x20 + 0x10), 16, 16, 0, .ro⟩
/-- R252: LK_CS_REGr_STEP_LOST.STEP_LOST [31:0] RO -/
def LK_CS_REGr_STEP_LOST_STEP_LOST (i : Nat) : Field := ⟨0, (0x3800 + i * 0x20 + 0x14), 0, 32, 0, .ro⟩
/-- R252: LK_CS_REGr_LAST_LOST.LAST_LOST [31:0] RO -/
def LK_CS_REGr_LAST_LOST_LAST_LOST (i : Nat) : Field := ⟨0, (0x3800 + i * 0x20 + 0x18), 0, 32, 0, .ro⟩
/-- R252: LK_CS_REGr_MARGIN.CODES [31:0] RO -/
def LK_CS_REGr_MARGIN_CODES (i : Nat) : Field := ⟨0, (0x3800 + i * 0x20 + 0x1C), 0, 32, 0, .ro⟩
/-- R276: LK_PG_CFG.HARMONISE [0] RO (prof) -/
def LK_PG_CFG_HARMONISE : Field := ⟨0, 0x4000, 0, 1, 1, .ro⟩
/-- R276: LK_PG_CFG.BOOST_PCT [8:1] RO (prof) -/
def LK_PG_CFG_BOOST_PCT : Field := ⟨0, 0x4000, 1, 8, 135, .ro⟩
/-- R276: LK_PG_CFG.BOOST_MS [14:9] RO (prof) -/
def LK_PG_CFG_BOOST_MS : Field := ⟨0, 0x4000, 9, 6, 40, .ro⟩
/-- R276: LK_PG_CFG.SLOPE_QW [23:15] RO (prof) -/
def LK_PG_CFG_SLOPE_QW : Field := ⟨0, 0x4000, 15, 9, 16, .ro⟩
/-- R276: LK_PG_CFG.OPDOWN_DENSITY [29:24] RO (prof) -/
def LK_PG_CFG_OPDOWN_DENSITY : Field := ⟨0, 0x4000, 24, 6, 48, .ro⟩
/-- R276: LK_PG_CFG2.OPDOWN_MS [7:0] RO (prof) -/
def LK_PG_CFG2_OPDOWN_MS : Field := ⟨0, 0x4004, 0, 8, 10, .ro⟩
/-- R276: LK_PG_CFG2.OPUP_MS [17:8] RO (prof) -/
def LK_PG_CFG2_OPUP_MS : Field := ⟨0, 0x4004, 8, 10, 100, .ro⟩
/-- R276: LK_PG_CFG2.TWARN_C [25:18] RO (prof) -/
def LK_PG_CFG2_TWARN_C : Field := ⟨0, 0x4004, 18, 8, 100, .ro⟩
/-- R276: LK_PG_DEFER_CFG.DEFER_MIN [15:0] RO (prof) -/
def LK_PG_DEFER_CFG_DEFER_MIN : Field := ⟨0, 0x4008, 0, 16, 100, .ro⟩
/-- R276: LK_PG_DEFER_CFG.DEFER_MAX_US [31:16] RO (prof) -/
def LK_PG_DEFER_CFG_DEFER_MAX_US : Field := ⟨0, 0x4008, 16, 16, 1000, .ro⟩
/-- R276: LK_PG_CAP.CAP_1S [15:0] RW (prof) -/
def LK_PG_CAP_CAP_1S : Field := ⟨0, 0x400c, 0, 16, 0, .rw⟩
/-- R276: LK_PG_CAP.CAP_10S [31:16] RW (prof) -/
def LK_PG_CAP_CAP_10S : Field := ⟨0, 0x400c, 16, 16, 0, .rw⟩
/-- R276: LK_PG_STAT.CAPPING [0] RO -/
def LK_PG_STAT_CAPPING : Field := ⟨0, 0x4010, 0, 1, 0, .ro⟩
/-- R276: LK_PG_STAT.BOOST_OPEN [1] RO -/
def LK_PG_STAT_BOOST_OPEN : Field := ⟨0, 0x4010, 1, 1, 0, .ro⟩
/-- R276: LK_PG_STAT.BOOST_ARMED [2] RO -/
def LK_PG_STAT_BOOST_ARMED : Field := ⟨0, 0x4010, 2, 1, 1, .ro⟩
/-- R276: LK_PG_STAT.CAP_UNREACHABLE [3] RO -/
def LK_PG_STAT_CAP_UNREACHABLE : Field := ⟨0, 0x4010, 3, 1, 0, .ro⟩
/-- R276: LK_PG_STAT.SLOPE_LIMITED [4] RO -/
def LK_PG_STAT_SLOPE_LIMITED : Field := ⟨0, 0x4010, 4, 1, 0, .ro⟩
/-- R276: LK_PG_STAT.TWARN [5] RO -/
def LK_PG_STAT_TWARN : Field := ⟨0, 0x4010, 5, 1, 0, .ro⟩
/-- R276: LK_PG_STAT.TRIPPED [6] RO -/
def LK_PG_STAT_TRIPPED : Field := ⟨0, 0x4010, 6, 1, 0, .ro⟩
/-- R276: LK_PG_STAT.DET_SLOTS [7] RO -/
def LK_PG_STAT_DET_SLOTS : Field := ⟨0, 0x4010, 7, 1, 0, .ro⟩
/-- R276: LK_PG_STAT.MAX_DENSITY [13:8] RO -/
def LK_PG_STAT_MAX_DENSITY : Field := ⟨0, 0x4010, 8, 6, 0, .ro⟩
/-- R276: LK_PG_STAT.HINT_PENDING [14] RO -/
def LK_PG_STAT_HINT_PENDING : Field := ⟨0, 0x4010, 14, 1, 0, .ro⟩
/-- R276: LK_PG_POWER.P_EST [15:0] RO -/
def LK_PG_POWER_P_EST : Field := ⟨0, 0x4014, 0, 16, 0, .ro⟩
/-- R276: LK_PG_POWER.P_LIMIT [31:16] RO -/
def LK_PG_POWER_P_LIMIT : Field := ⟨0, 0x4014, 16, 16, 0, .ro⟩
/-- R276: LK_PG_AVG.AVG_1S [15:0] RO -/
def LK_PG_AVG_AVG_1S : Field := ⟨0, 0x4018, 0, 16, 0, .ro⟩
/-- R276: LK_PG_AVG.AVG_10S [31:16] RO -/
def LK_PG_AVG_AVG_10S : Field := ⟨0, 0x4018, 16, 16, 0, .ro⟩
/-- R276: LK_PG_FLOOR.FLOOR [15:0] RO -/
def LK_PG_FLOOR_FLOOR : Field := ⟨0, 0x401c, 0, 16, 0, .ro⟩
/-- R276: LK_PG_FLOOR.SHORT [31:16] RO -/
def LK_PG_FLOOR_SHORT : Field := ⟨0, 0x401c, 16, 16, 0, .ro⟩
/-- R276: LK_PG_TEMP.TEMP_C [7:0] RO -/
def LK_PG_TEMP_TEMP_C : Field := ⟨0, 0x4020, 0, 8, 0, .ro⟩
/-- R276: LK_PG_TEMP.TMAX_C [15:8] RC -/
def LK_PG_TEMP_TMAX_C : Field := ⟨0, 0x4020, 8, 8, 0, .rc⟩
/-- R276: LK_PG_TEMP.TCRIT_C [23:16] RO (fuse) -/
def LK_PG_TEMP_TCRIT_C : Field := ⟨0, 0x4020, 16, 8, 110, .ro⟩
/-- R276: LK_PG_TEMP.HOT_REGION [29:24] RO -/
def LK_PG_TEMP_HOT_REGION : Field := ⟨0, 0x4020, 24, 6, 0, .ro⟩
/-- R276: LK_PG_IRQ.CAP_UNREACHABLE [0] W1C -/
def LK_PG_IRQ_CAP_UNREACHABLE : Field := ⟨0, 0x4024, 0, 1, 0, .w1c⟩
/-- R276: LK_PG_IRQ.TWARN [1] W1C -/
def LK_PG_IRQ_TWARN : Field := ⟨0, 0x4024, 1, 1, 0, .w1c⟩
/-- R276: LK_PG_IRQ.TRIP [2] W1C -/
def LK_PG_IRQ_TRIP : Field := ⟨0, 0x4024, 2, 1, 0, .w1c⟩
/-- R276: LK_PG_IRQ.CAP_ERR [3] W1C -/
def LK_PG_IRQ_CAP_ERR : Field := ⟨0, 0x4024, 3, 1, 0, .w1c⟩
/-- R276: LK_PG_IRQ.DEFER_SENT [4] W1C -/
def LK_PG_IRQ_DEFER_SENT : Field := ⟨0, 0x4024, 4, 1, 0, .w1c⟩
/-- R276: LK_PG_IRQ.BOOST [5] W1C -/
def LK_PG_IRQ_BOOST : Field := ⟨0, 0x4024, 5, 1, 0, .w1c⟩
/-- R276: LK_PG_IRQ.CEIL [6] W1C -/
def LK_PG_IRQ_CEIL : Field := ⟨0, 0x4024, 6, 1, 0, .w1c⟩
/-- R276: LK_PG_IRQ_EN.EN [6:0] RW -/
def LK_PG_IRQ_EN_EN : Field := ⟨0, 0x4028, 0, 7, 15, .rw⟩
/-- R276: LK_PG_DEFER_CNT.REQUESTS [15:0] RC -/
def LK_PG_DEFER_CNT_REQUESTS : Field := ⟨0, 0x402c, 0, 16, 0, .rc⟩
/-- R276: LK_PG_DEFER_CNT.APPLIED [31:16] RC -/
def LK_PG_DEFER_CNT_APPLIED : Field := ⟨0, 0x402c, 16, 16, 0, .rc⟩
/-- R276: LK_PG_JOB_UJ_LO.LO [31:0] RO -/
def LK_PG_JOB_UJ_LO_LO : Field := ⟨0, 0x4030, 0, 32, 0, .ro⟩
/-- R276: LK_PG_JOB_UJ_HI.HI [31:0] RO -/
def LK_PG_JOB_UJ_HI_HI : Field := ⟨0, 0x4034, 0, 32, 0, .ro⟩
/-- R276: LK_PG_TOTAL_UJ_LO.LO [31:0] RO -/
def LK_PG_TOTAL_UJ_LO_LO : Field := ⟨0, 0x4038, 0, 32, 0, .ro⟩
/-- R276: LK_PG_TOTAL_UJ_HI.HI [31:0] RO -/
def LK_PG_TOTAL_UJ_HI_HI : Field := ⟨0, 0x403c, 0, 32, 0, .ro⟩
/-- R276: LK_PG_MODEL.V_REF_MV [11:0] RO (fuse) -/
def LK_PG_MODEL_V_REF_MV : Field := ⟨0, 0x4040, 0, 12, Config.vRefMv.toNat, .ro⟩
/-- R276: LK_PG_WEIGHTk.WEIGHT [15:0] RO (fuse) -/
def LK_PG_WEIGHTk_WEIGHT (i : Nat) : Field := ⟨0, (0x4080 + i * 4), 0, 16, (Config.weight i).toNat, .ro⟩
/-- R276: LK_PG_SHAREk.SHARES [31:0] RO (prof) -/
def LK_PG_SHAREk_SHARES (i : Nat) : Field := ⟨0, (0x4100 + i * 4), 0, 32, 269488144, .ro⟩
/-- R277: LK_PG_REGr_STAT.DENSITY [5:0] RO -/
def LK_PG_REGr_STAT_DENSITY (i : Nat) : Field := ⟨0, (0x4400 + i * 0x10 + 0x0), 0, 6, 0, .ro⟩
/-- R277: LK_PG_REGr_STAT.DEMAND [12:6] RO -/
def LK_PG_REGr_STAT_DEMAND (i : Nat) : Field := ⟨0, (0x4400 + i * 0x10 + 0x0), 6, 7, 0, .ro⟩
/-- R277: LK_PG_REGr_STAT.SLOPE [13] RO -/
def LK_PG_REGr_STAT_SLOPE (i : Nat) : Field := ⟨0, (0x4400 + i * 0x10 + 0x0), 13, 1, 0, .ro⟩
/-- R277: LK_PG_REGr_STAT.LIMIT [31:16] RO -/
def LK_PG_REGr_STAT_LIMIT (i : Nat) : Field := ⟨0, (0x4400 + i * 0x10 + 0x0), 16, 16, 0, .ro⟩
/-- R277: LK_PG_REGr_POWER.P_EST [15:0] RO -/
def LK_PG_REGr_POWER_P_EST (i : Nat) : Field := ⟨0, (0x4400 + i * 0x10 + 0x4), 0, 16, 0, .ro⟩
/-- R277: LK_PG_REGr_POWER.TEMP_C [23:16] RO -/
def LK_PG_REGr_POWER_TEMP_C (i : Nat) : Field := ⟨0, (0x4400 + i * 0x10 + 0x4), 16, 8, 0, .ro⟩
/-- R277: LK_PG_REGr_STEP_BUBBLES.BUBBLES [31:0] RO -/
def LK_PG_REGr_STEP_BUBBLES_BUBBLES (i : Nat) : Field := ⟨0, (0x4400 + i * 0x10 + 0x8), 0, 32, 0, .ro⟩
/-- R277: LK_PG_REGr_LAST_BUBBLES.BUBBLES [31:0] RO -/
def LK_PG_REGr_LAST_BUBBLES_BUBBLES (i : Nat) : Field := ⟨0, (0x4400 + i * 0x10 + 0xC), 0, 32, 0, .ro⟩
/-- R300: LK_DET_CFG.CANON_RECOVERY [0] RW -/
def LK_DET_CFG_CANON_RECOVERY : Field := ⟨0, 0x5000, 0, 1, 0, .rw⟩
/-- R300: LK_DET_CFG.DIG_QUEUE [12:1] RW -/
def LK_DET_CFG_DIG_QUEUE : Field := ⟨0, 0x5000, 1, 12, 0, .rw⟩
/-- R300: LK_DET_PERIOD.PERIOD_NS [31:0] RW -/
def LK_DET_PERIOD_PERIOD_NS : Field := ⟨0, 0x5004, 0, 32, 1000000, .rw⟩
/-- R300: LK_DET_RANK.RANK_BASE [21:0] RW -/
def LK_DET_RANK_RANK_BASE : Field := ⟨0, 0x5008, 0, 22, 0, .rw⟩
/-- R300: LK_DET_RANK.RANKS [26:22] RW -/
def LK_DET_RANK_RANKS : Field := ⟨0, 0x5008, 22, 5, 1, .rw⟩
/-- R300: LK_DET_STAT.DETMODE [0] RO -/
def LK_DET_STAT_DETMODE : Field := ⟨0, 0x500c, 0, 1, 0, .ro⟩
/-- R300: LK_DET_STAT.CANON [2:1] RO -/
def LK_DET_STAT_CANON : Field := ⟨0, 0x500c, 1, 2, 0, .ro⟩
/-- R300: LK_DET_STAT.ALIGN_MISS [3] W1C -/
def LK_DET_STAT_ALIGN_MISS : Field := ⟨0, 0x500c, 3, 1, 0, .w1c⟩
/-- R300: LK_DET_STAT.ALIGNED [4] RO -/
def LK_DET_STAT_ALIGNED : Field := ⟨0, 0x500c, 4, 1, 0, .ro⟩
/-- R300: LK_DET_STAT.INFLIGHT_AT_PAUSE [5] W1C -/
def LK_DET_STAT_INFLIGHT_AT_PAUSE : Field := ⟨0, 0x500c, 5, 1, 0, .w1c⟩
/-- R300: LK_DET_STAT.PAUSE_ARMED [6] RO -/
def LK_DET_STAT_PAUSE_ARMED : Field := ⟨0, 0x500c, 6, 1, 0, .ro⟩
/-- R300: LK_DET_STAT.LOADED [7] RO -/
def LK_DET_STAT_LOADED : Field := ⟨0, 0x500c, 7, 1, 0, .ro⟩
/-- R300: LK_DET_ALIGN.SKIPPED [15:0] RO -/
def LK_DET_ALIGN_SKIPPED : Field := ⟨0, 0x5010, 0, 16, 0, .ro⟩
/-- R300: LK_DET_ALIGN.MISSES [31:16] RC -/
def LK_DET_ALIGN_MISSES : Field := ⟨0, 0x5010, 16, 16, 0, .rc⟩
/-- R300: LK_DET_PAUSE_TOTAL_LO.LO [31:0] RO -/
def LK_DET_PAUSE_TOTAL_LO_LO : Field := ⟨0, 0x5014, 0, 32, 0, .ro⟩
/-- R300: LK_DET_PAUSE_TOTAL_HI.HI [31:0] RO -/
def LK_DET_PAUSE_TOTAL_HI_HI : Field := ⟨0, 0x5018, 0, 32, 0, .ro⟩
/-- R300: LK_DET_DIG_CNT.LATE [15:0] RC -/
def LK_DET_DIG_CNT_LATE : Field := ⟨0, 0x501c, 0, 16, 0, .rc⟩
/-- R300: LK_DET_DIG_CNT.DISCARDED [31:16] RC -/
def LK_DET_DIG_CNT_DISCARDED : Field := ⟨0, 0x501c, 16, 16, 0, .rc⟩
/-- R300: LK_DET_DIG_REQ.TAG [3:0] RW -/
def LK_DET_DIG_REQ_TAG : Field := ⟨0, 0x5020, 0, 4, 0, .rw⟩
/-- R300: LK_DET_DIG_REQ.KIND [4] RW -/
def LK_DET_DIG_REQ_KIND : Field := ⟨0, 0x5020, 4, 1, 0, .rw⟩
/-- R300: LK_DET_DIG_REQ.GO [5] WO -/
def LK_DET_DIG_REQ_GO : Field := ⟨0, 0x5020, 5, 1, 0, .wo⟩
/-- R300: LK_DET_DIG_REQ.BUSY [6] RO -/
def LK_DET_DIG_REQ_BUSY : Field := ⟨0, 0x5020, 6, 1, 0, .ro⟩
/-- R300: LK_DET_DIG_REQ.DONE [7] W1C -/
def LK_DET_DIG_REQ_DONE : Field := ⟨0, 0x5020, 7, 1, 0, .w1c⟩
/-- R300: LK_DET_DIG_REQ.RESULT [11:8] RO -/
def LK_DET_DIG_REQ_RESULT : Field := ⟨0, 0x5020, 8, 4, 0, .ro⟩
/-- R300: LK_DET_DIG_RESk.RES [31:0] RO -/
def LK_DET_DIG_RESk_RES (i : Nat) : Field := ⟨0, (0x5024 + i * 4), 0, 32, 0, .ro⟩
/-- R300: LK_DET_DIG_RES_CNT_LO.LO [31:0] RO -/
def LK_DET_DIG_RES_CNT_LO_LO : Field := ⟨0, 0x5034, 0, 32, 0, .ro⟩
/-- R300: LK_DET_DIG_RES_CNT_HI.HI [31:0] RO -/
def LK_DET_DIG_RES_CNT_HI_HI : Field := ⟨0, 0x5038, 0, 32, 0, .ro⟩
/-- R300: LK_DET_SEED_RANK.RANK [31:0] RW -/
def LK_DET_SEED_RANK_RANK : Field := ⟨0, 0x5040, 0, 32, 0, .rw⟩
/-- R300: LK_DET_SEED_STREAM.STREAM [31:0] RW -/
def LK_DET_SEED_STREAM_STREAM : Field := ⟨0, 0x5044, 0, 32, 0, .rw⟩
/-- R300: LK_DET_SEED_STEP_LO.LO [31:0] RW -/
def LK_DET_SEED_STEP_LO_LO : Field := ⟨0, 0x5048, 0, 32, 0, .rw⟩
/-- R300: LK_DET_SEED_STEP_HI.HI [31:0] RW -/
def LK_DET_SEED_STEP_HI_HI : Field := ⟨0, 0x504c, 0, 32, 0, .rw⟩
/-- R300: LK_DET_SEED_CTRL.GO [0] WO -/
def LK_DET_SEED_CTRL_GO : Field := ⟨0, 0x5050, 0, 1, 0, .wo⟩
/-- R300: LK_DET_SEED_CTRL.PRESENT [1] RW -/
def LK_DET_SEED_CTRL_PRESENT : Field := ⟨0, 0x5050, 1, 1, 0, .rw⟩
/-- R300: LK_DET_SEED_CTRL.DONE [2] RO -/
def LK_DET_SEED_CTRL_DONE : Field := ⟨0, 0x5050, 2, 1, 0, .ro⟩
/-- R300: LK_DET_SEED_CTRL.NO_JOB [3] RO -/
def LK_DET_SEED_CTRL_NO_JOB : Field := ⟨0, 0x5050, 3, 1, 0, .ro⟩
/-- R300: LK_DET_SEEDk.SEED [31:0] RO -/
def LK_DET_SEEDk_SEED (i : Nat) : Field := ⟨0, (0x5054 + i * 4), 0, 32, 0, .ro⟩
/-- R300: LK_DET_DIGt_Dk.D [31:0] RO -/
def LK_DET_DIGt_Dk_D (i k : Nat) : Field := ⟨0, (0x5100 + i * 0x20 + k * 4), 0, 32, 0, .ro⟩
/-- R300: LK_DET_DIGt_CNT_LO.LO [31:0] RO -/
def LK_DET_DIGt_CNT_LO_LO (i : Nat) : Field := ⟨0, (0x5100 + i * 0x20 + 0x10), 0, 32, 0, .ro⟩
/-- R300: LK_DET_DIGt_CNT_HI.HI [7:0] RO -/
def LK_DET_DIGt_CNT_HI_HI (i : Nat) : Field := ⟨0, (0x5100 + i * 0x20 + 0x14), 0, 8, 0, .ro⟩
/-- R300: LK_DET_DIGt_STEP_LO.LO [31:0] RO -/
def LK_DET_DIGt_STEP_LO_LO (i : Nat) : Field := ⟨0, (0x5100 + i * 0x20 + 0x18), 0, 32, 0, .ro⟩
/-- R300: LK_DET_DIGt_STEP_HI.HI [31:0] RO -/
def LK_DET_DIGt_STEP_HI_HI (i : Nat) : Field := ⟨0, (0x5100 + i * 0x20 + 0x1C), 0, 32, 0, .ro⟩
/-- R345: LK_HM_CFG.SOUND_PERIOD_S [9:0] RO (prof) -/
def LK_HM_CFG_SOUND_PERIOD_S : Field := ⟨0, 0x6000, 0, 10, 60, .ro⟩
/-- R345: LK_HM_CFG.KAT_AUTO [10] RO (prof) -/
def LK_HM_CFG_KAT_AUTO : Field := ⟨0, 0x6000, 10, 1, 0, .ro⟩
/-- R345: LK_HM_CFG.MIN_SEV [13:11] RO (prof) -/
def LK_HM_CFG_MIN_SEV : Field := ⟨0, 0x6000, 11, 3, 1, .ro⟩
/-- R345: LK_HM_CFG.FWD_SEV [16:14] RO (prof) -/
def LK_HM_CFG_FWD_SEV : Field := ⟨0, 0x6000, 14, 3, 3, .ro⟩
/-- R345: LK_HM_CFG.FWD_RATE [31:17] RO (prof) -/
def LK_HM_CFG_FWD_RATE : Field := ⟨0, 0x6000, 17, 15, 1000, .ro⟩
/-- R345: LK_HM_CFG2.ACT_FULL_W [15:0] RO (prof) -/
def LK_HM_CFG2_ACT_FULL_W : Field := ⟨0, 0x6004, 0, 16, 600, .ro⟩
/-- R345: LK_HM_CFG2.KAT_LIMIT_US [27:16] RO (prof) -/
def LK_HM_CFG2_KAT_LIMIT_US : Field := ⟨0, 0x6004, 16, 12, 50, .ro⟩
/-- R345: LK_HM_SOUND.SOUND_NOW [0] WO -/
def LK_HM_SOUND_SOUND_NOW : Field := ⟨0, 0x6008, 0, 1, 0, .wo⟩
/-- R345: LK_HM_SOUND.MASK [4:1] RW -/
def LK_HM_SOUND_MASK : Field := ⟨0, 0x6008, 1, 4, 7, .rw⟩
/-- R345: LK_HM_SOUND.BUSY [5] RO -/
def LK_HM_SOUND_BUSY : Field := ⟨0, 0x6008, 5, 1, 0, .ro⟩
/-- R345: LK_HM_SOUND.DONE [6] W1C -/
def LK_HM_SOUND_DONE : Field := ⟨0, 0x6008, 6, 1, 0, .w1c⟩
/-- R345: LK_HM_STAT.HSTATE [2:0] RO -/
def LK_HM_STAT_HSTATE : Field := ⟨0, 0x600c, 0, 3, 1, .ro⟩
/-- R345: LK_HM_STAT.CELL [7:3] RO -/
def LK_HM_STAT_CELL : Field := ⟨0, 0x600c, 3, 5, 0, .ro⟩
/-- R345: LK_HM_STAT.KAT_PENDING [8] RO -/
def LK_HM_STAT_KAT_PENDING : Field := ⟨0, 0x600c, 8, 1, 0, .ro⟩
/-- R345: LK_HM_STAT.KAT_LAST [10:9] RO -/
def LK_HM_STAT_KAT_LAST : Field := ⟨0, 0x600c, 9, 2, 0, .ro⟩
/-- R345: LK_HM_STAT.KAT_REGION [16:11] RO -/
def LK_HM_STAT_KAT_REGION : Field := ⟨0, 0x600c, 11, 6, 0, .ro⟩
/-- R345: LK_HM_IRQ.MARGIN_LOW [0] W1C -/
def LK_HM_IRQ_MARGIN_LOW : Field := ⟨0, 0x6010, 0, 1, 0, .w1c⟩
/-- R345: LK_HM_IRQ.KAT_FAIL [1] W1C -/
def LK_HM_IRQ_KAT_FAIL : Field := ⟨0, 0x6010, 1, 1, 0, .w1c⟩
/-- R345: LK_HM_IRQ.KAT_TIMEOUT [2] W1C -/
def LK_HM_IRQ_KAT_TIMEOUT : Field := ⟨0, 0x6010, 2, 1, 0, .w1c⟩
/-- R345: LK_HM_IRQ.HSTATE [3] W1C -/
def LK_HM_IRQ_HSTATE : Field := ⟨0, 0x6010, 3, 1, 0, .w1c⟩
/-- R345: LK_HM_IRQ.LOG_LOSS [4] W1C -/
def LK_HM_IRQ_LOG_LOSS : Field := ⟨0, 0x6010, 4, 1, 0, .w1c⟩
/-- R345: LK_HM_IRQ.SPILL_ERR [5] W1C -/
def LK_HM_IRQ_SPILL_ERR : Field := ⟨0, 0x6010, 5, 1, 0, .w1c⟩
/-- R345: LK_HM_IRQ.NEST_LIMIT [6] W1C -/
def LK_HM_IRQ_NEST_LIMIT : Field := ⟨0, 0x6010, 6, 1, 0, .w1c⟩
/-- R345: LK_HM_IRQ_EN.EN [6:0] RW -/
def LK_HM_IRQ_EN_EN : Field := ⟨0, 0x6014, 0, 7, 127, .rw⟩
/-- R345: LK_HM_KAT_SIG_LO.LO [31:0] RW (x) -/
def LK_HM_KAT_SIG_LO_LO : Field := ⟨0, 0x6018, 0, 32, 0, .rw⟩
/-- R345: LK_HM_KAT_SIG_HI.HI [31:0] RW (x) -/
def LK_HM_KAT_SIG_HI_HI : Field := ⟨0, 0x601c, 0, 32, 0, .rw⟩
/-- R345: LK_HM_NOFWD.SOUNDINGS [15:0] RC -/
def LK_HM_NOFWD_SOUNDINGS : Field := ⟨0, 0x6020, 0, 16, 0, .rc⟩
/-- R345: LK_HM_NOFWD.ENTRIES [31:16] RC -/
def LK_HM_NOFWD_ENTRIES : Field := ⟨0, 0x6020, 16, 16, 0, .rc⟩
/-- R345: LK_HM_RECk.REC [31:0] RO -/
def LK_HM_RECk_REC (i : Nat) : Field := ⟨0, (0x6040 + i * 4), 0, 32, 0, .ro⟩
/-- R345: LK_HM_MAPc.MIN [3:0] RO -/
def LK_HM_MAPc_MIN (i : Nat) : Field := ⟨0, (0x6100 + i * 4), 0, 4, 15, .ro⟩
/-- R345: LK_HM_MAPc.ERR [15:4] RO -/
def LK_HM_MAPc_ERR (i : Nat) : Field := ⟨0, (0x6100 + i * 4), 4, 12, 0, .ro⟩
/-- R345: LK_HM_MAPc.SOUNDINGS [23:16] RO -/
def LK_HM_MAPc_SOUNDINGS (i : Nat) : Field := ⟨0, (0x6100 + i * 4), 16, 8, 0, .ro⟩
/-- R345: LK_HM_MAPc.KAT_PASS [27:24] RO -/
def LK_HM_MAPc_KAT_PASS (i : Nat) : Field := ⟨0, (0x6100 + i * 4), 24, 4, 0, .ro⟩
/-- R345: LK_HM_MAPc.KAT_FAIL [31:28] RO -/
def LK_HM_MAPc_KAT_FAIL (i : Nat) : Field := ⟨0, (0x6100 + i * 4), 28, 4, 0, .ro⟩
/-- R345: LK_LOG_CTRL.SPILL_EN [0] RW -/
def LK_LOG_CTRL_SPILL_EN : Field := ⟨0, 0x6200, 0, 1, 0, .rw⟩
/-- R345: LK_LOG_CTRL.SPILL_LOG2 [4:1] RW -/
def LK_LOG_CTRL_SPILL_LOG2 : Field := ⟨0, 0x6200, 1, 4, 0, .rw⟩
/-- R345: LK_LOG_STAT.USED [10:0] RO -/
def LK_LOG_STAT_USED : Field := ⟨0, 0x6204, 0, 11, 0, .ro⟩
/-- R345: LK_LOG_STAT.RESERVE [11] RO -/
def LK_LOG_STAT_RESERVE : Field := ⟨0, 0x6204, 11, 1, 0, .ro⟩
/-- R345: LK_LOG_STAT.SPILL_ERR [12] W1C -/
def LK_LOG_STAT_SPILL_ERR : Field := ⟨0, 0x6204, 12, 1, 0, .w1c⟩
/-- R345: LK_LOG_STAT.SPILL_FULL [13] RO -/
def LK_LOG_STAT_SPILL_FULL : Field := ⟨0, 0x6204, 13, 1, 0, .ro⟩
/-- R345: LK_LOG_WR.SEQ [31:0] RO -/
def LK_LOG_WR_SEQ : Field := ⟨0, 0x6208, 0, 32, 0, .ro⟩
/-- R345: LK_LOG_RD.SEQ [31:0] RW -/
def LK_LOG_RD_SEQ : Field := ⟨0, 0x620c, 0, 32, 0, .rw⟩
/-- R345: LK_LOG_LOST.LOW [15:0] RC -/
def LK_LOG_LOST_LOW : Field := ⟨0, 0x6210, 0, 16, 0, .rc⟩
/-- R345: LK_LOG_LOST.HIGH [31:16] RC -/
def LK_LOG_LOST_HIGH : Field := ⟨0, 0x6210, 16, 16, 0, .rc⟩
/-- R345: LK_LOG_SPILL_LO.BASE_LO [31:6] RW -/
def LK_LOG_SPILL_LO_BASE_LO : Field := ⟨0, 0x6214, 6, 26, 0, .rw⟩
/-- R345: LK_LOG_SPILL_HI.BASE_HI [31:0] RW -/
def LK_LOG_SPILL_HI_BASE_HI : Field := ⟨0, 0x6218, 0, 32, 0, .rw⟩
/-- R345: LK_LOG_SPILL_HEAD.HEAD [31:0] RW -/
def LK_LOG_SPILL_HEAD_HEAD : Field := ⟨0, 0x621c, 0, 32, 0, .rw⟩
/-- R345: LK_LOG_SPILL_TAIL.TAIL [31:0] RO -/
def LK_LOG_SPILL_TAIL_TAIL : Field := ⟨0, 0x6220, 0, 32, 0, .ro⟩
/-- R365: LK_ID.PART [15:0] RO (fuse) -/
def LK_ID_PART : Field := ⟨0, 0x0, 0, 16, 19531, .ro⟩
/-- R365: LK_ID.STEPPING [23:16] RO (fuse) -/
def LK_ID_STEPPING : Field := ⟨0, 0x0, 16, 8, (Config.stepping .lotik).toNat, .ro⟩
/-- R365: LK_ID_HOST.REGIONS [5:0] RO (fuse) -/
def LK_ID_HOST_REGIONS : Field := ⟨0, 0x4, 0, 6, 63, .ro⟩
/-- R365: LK_ID_HOST.CORES [13:6] RO (fuse) -/
def LK_ID_HOST_CORES : Field := ⟨0, 0x4, 6, 8, 255, .ro⟩
/-- R365: LK_BOOT.STAGE [2:0] RO -/
def LK_BOOT_STAGE : Field := ⟨0, 0x8, 0, 3, 0, .ro⟩
/-- R365: LK_BOOT.FAULT [6:3] RO -/
def LK_BOOT_FAULT : Field := ⟨0, 0x8, 3, 4, 0, .ro⟩
/-- R365: LK_BOOT.PROF [8:7] RO (prof) -/
def LK_BOOT_PROF : Field := ⟨0, 0x8, 7, 2, 0, .ro⟩
/-- R365: LK_BOOT.NEXT_PROF [10:9] RO -/
def LK_BOOT_NEXT_PROF : Field := ⟨0, 0x8, 9, 2, 0, .ro⟩
/-- R365: LK_BOOT.PROF_DEFAULT [11] RO -/
def LK_BOOT_PROF_DEFAULT : Field := ⟨0, 0x8, 11, 1, 0, .ro⟩
/-- R365: LK_BOOT.PROF_TIMEOUT [12] RO -/
def LK_BOOT_PROF_TIMEOUT : Field := ⟨0, 0x8, 12, 1, 0, .ro⟩
/-- R365: LK_BOOT.PATCH [13] RO -/
def LK_BOOT_PATCH : Field := ⟨0, 0x8, 13, 1, 0, .ro⟩
/-- R365: LK_PWR.TC_AWAKE [0] RO -/
def LK_PWR_TC_AWAKE : Field := ⟨0, 0x20, 0, 1, 0, .ro⟩
/-- R365: LK_PWR.LOGIC_AWAKE [1] RO -/
def LK_PWR_LOGIC_AWAKE : Field := ⟨0, 0x20, 1, 1, 1, .ro⟩
/-- R365: LK_PWR.FCLK_LOSS [23:16] RC -/
def LK_PWR_FCLK_LOSS : Field := ⟨0, 0x20, 16, 8, 0, .rc⟩
/-- R365: LK_WAKES.TC [15:0] RC -/
def LK_WAKES_TC : Field := ⟨0, 0x24, 0, 16, 0, .rc⟩
/-- R365: LK_WAKES.LOGIC [31:16] RC -/
def LK_WAKES_LOGIC : Field := ⟨0, 0x24, 16, 16, 0, .rc⟩
/-- R393: LK_MBOX_CTRL.CLAIM [0] WO -/
def LK_MBOX_CTRL_CLAIM : Field := ⟨0, 0x7000, 0, 1, 0, .wo⟩
/-- R393: LK_MBOX_CTRL.SEND [1] WO -/
def LK_MBOX_CTRL_SEND : Field := ⟨0, 0x7000, 1, 1, 0, .wo⟩
/-- R393: LK_MBOX_CTRL.RELEASE [2] WO -/
def LK_MBOX_CTRL_RELEASE : Field := ⟨0, 0x7000, 2, 1, 0, .wo⟩
/-- R393: LK_MBOX_STAT.STATE [1:0] RO -/
def LK_MBOX_STAT_STATE : Field := ⟨0, 0x7004, 0, 2, 0, .ro⟩
/-- R393: LK_MBOX_STAT.HELD [5:2] RO -/
def LK_MBOX_STAT_HELD : Field := ⟨0, 0x7004, 2, 4, 0, .ro⟩
/-- R393: LK_MBOX_IRQ.DELIVERED [0] W1C -/
def LK_MBOX_IRQ_DELIVERED : Field := ⟨0, 0x7008, 0, 1, 0, .w1c⟩
/-- R393: LK_MBOX_IRQ.ERR [1] W1C -/
def LK_MBOX_IRQ_ERR : Field := ⟨0, 0x7008, 1, 1, 0, .w1c⟩
/-- R393: LK_MBOX_IRQ.DROP [2] W1C -/
def LK_MBOX_IRQ_DROP : Field := ⟨0, 0x7008, 2, 1, 0, .w1c⟩
/-- R393: LK_MBOX_IRQ_EN.EN [2:0] RW -/
def LK_MBOX_IRQ_EN_EN : Field := ⟨0, 0x700c, 0, 3, 7, .rw⟩
/-- R393: LK_MBOX_BUF.DATA [31:0] RW (x) -/
def LK_MBOX_BUF_DATA (i : Nat) : Field := ⟨0, (0x7010 + i * 4), 0, 32, 0, .rw⟩
/-- R418: LK_IRQ_STAT.PENDING [7:0] RO -/
def LK_IRQ_STAT_PENDING : Field := ⟨0, 0x30, 0, 8, 0, .ro⟩
/-- R418: LK_IRQ_MASK.MASK [7:0] RW -/
def LK_IRQ_MASK_MASK : Field := ⟨0, 0x34, 0, 8, 255, .rw⟩
/-- R419: LK_STEP_IRQ.FAULT [0] W1C -/
def LK_STEP_IRQ_FAULT : Field := ⟨0, 0x204c, 0, 1, 0, .w1c⟩
/-- R419: LK_STEP_IRQ.IDLE [1] W1C -/
def LK_STEP_IRQ_IDLE : Field := ⟨0, 0x204c, 1, 1, 0, .w1c⟩
/-- R419: LK_STEP_IRQ.LATE [2] W1C -/
def LK_STEP_IRQ_LATE : Field := ⟨0, 0x204c, 2, 1, 0, .w1c⟩
/-- R419: LK_STEP_IRQ.OVERRUN [3] W1C -/
def LK_STEP_IRQ_OVERRUN : Field := ⟨0, 0x204c, 3, 1, 0, .w1c⟩
/-- R419: LK_STEP_IRQ.ENDED [4] W1C -/
def LK_STEP_IRQ_ENDED : Field := ⟨0, 0x204c, 4, 1, 0, .w1c⟩
/-- R419: LK_STEP_IRQ_EN.EN [4:0] RW -/
def LK_STEP_IRQ_EN_EN : Field := ⟨0, 0x2050, 0, 5, 3, .rw⟩

end Sys2Proof.Machine.R
end

