-- ==== Sys2Proof/Machine/RegsShared.lean ====
section
/-! DEFINITION. the register fields both parts carry in one layout (R43, R74, R75, R395, R415).
A field marked prof resets to the fused default profile (R423, R424), fuse to Config, x to 0 (notes/assumptions/4). -/

namespace Sys2Proof.Machine.R

open Sys2Proof.Machine

/-- R42: TIME_CTRL.LATCH [0] WO -/
def TIME_CTRL_LATCH (d : Dev) : Field := ⟨d.timeSp, (d.timeBase + 0), 0, 1, 0, .wo⟩
/-- R42: TIME_CTRL.FINE [1] RW -/
def TIME_CTRL_FINE (d : Dev) : Field := ⟨d.timeSp, (d.timeBase + 0), 1, 1, 0, .rw⟩
/-- R42: TIME_CTRL.HOLD_AWAKE [2] RW -/
def TIME_CTRL_HOLD_AWAKE (d : Dev) : Field := ⟨d.timeSp, (d.timeBase + 0), 2, 1, 0, .rw⟩
/-- R42: TIME_STAT.VALID [0] RO -/
def TIME_STAT_VALID (d : Dev) : Field := ⟨d.timeSp, (d.timeBase + 4), 0, 1, 0, .ro⟩
/-- R42: TIME_STAT.PENDING [1] RO -/
def TIME_STAT_PENDING (d : Dev) : Field := ⟨d.timeSp, (d.timeBase + 4), 1, 1, 0, .ro⟩
/-- R42: TIME_STAT.FINE [2] RO -/
def TIME_STAT_FINE (d : Dev) : Field := ⟨d.timeSp, (d.timeBase + 4), 2, 1, (if d = .verard then 1 else 0), .ro⟩
/-- R42: TIME_STAT.DEFERRED [3] RO -/
def TIME_STAT_DEFERRED (d : Dev) : Field := ⟨d.timeSp, (d.timeBase + 4), 3, 1, 0, .ro⟩
/-- R42: TIME_STAT.CAP_STATE [6:4] RO -/
def TIME_STAT_CAP_STATE (d : Dev) : Field := ⟨d.timeSp, (d.timeBase + 4), 4, 3, 0, .ro⟩
/-- R42: TIME_STAT.TIME_MODE [7] RO (prof) -/
def TIME_STAT_TIME_MODE (d : Dev) : Field := ⟨d.timeSp, (d.timeBase + 4), 7, 1, 0, .ro⟩
/-- R42: TIME_STAT.STATE [10:8] RO -/
def TIME_STAT_STATE (d : Dev) : Field := ⟨d.timeSp, (d.timeBase + 4), 8, 3, 0, .ro⟩
/-- R42: TIME_STAT.LATCH_GAP [11] W1C -/
def TIME_STAT_LATCH_GAP (d : Dev) : Field := ⟨d.timeSp, (d.timeBase + 4), 11, 1, 0, .w1c⟩
/-- R42: TIME_STAT.UNCAL [12] RO -/
def TIME_STAT_UNCAL (d : Dev) : Field := ⟨d.timeSp, (d.timeBase + 4), 12, 1, 1, .ro⟩
/-- R42: TIME_STAT.MODE_MISMATCH [13] RO -/
def TIME_STAT_MODE_MISMATCH (d : Dev) : Field := ⟨d.timeSp, (d.timeBase + 4), 13, 1, 0, .ro⟩
/-- R42: TIME_STAT.SLEWING [14] RO -/
def TIME_STAT_SLEWING (d : Dev) : Field := ⟨d.timeSp, (d.timeBase + 4), 14, 1, 0, .ro⟩
/-- R42: TIME_SEC_LO.SEC_LO [31:0] RO -/
def TIME_SEC_LO_SEC_LO (d : Dev) : Field := ⟨d.timeSp, (d.timeBase + 8), 0, 32, 0, .ro⟩
/-- R42: TIME_SEC_HI.SEC_HI [15:0] RO -/
def TIME_SEC_HI_SEC_HI (d : Dev) : Field := ⟨d.timeSp, (d.timeBase + 12), 0, 16, 0, .ro⟩
/-- R42: TIME_SEC_HI.DISC [31:16] RO -/
def TIME_SEC_HI_DISC (d : Dev) : Field := ⟨d.timeSp, (d.timeBase + 12), 16, 16, 0, .ro⟩
/-- R42: TIME_NS.NS [31:0] RO -/
def TIME_NS_NS (d : Dev) : Field := ⟨d.timeSp, (d.timeBase + 16), 0, 32, 0, .ro⟩
/-- R42: TIME_SUB.SUB [15:0] RO -/
def TIME_SUB_SUB (d : Dev) : Field := ⟨d.timeSp, (d.timeBase + 20), 0, 16, 0, .ro⟩
/-- R42: TIME_ERR.ERR_PS [23:0] RO -/
def TIME_ERR_ERR_PS (d : Dev) : Field := ⟨d.timeSp, (d.timeBase + 24), 0, 24, 16777215, .ro⟩
/-- R42: TIME_UTC.UTC_OFFSET [15:0] RO -/
def TIME_UTC_UTC_OFFSET (d : Dev) : Field := ⟨d.timeSp, (d.timeBase + 28), 0, 16, 0, .ro⟩
/-- R42: TIME_UTC.UTC_VALID [16] RO -/
def TIME_UTC_UTC_VALID (d : Dev) : Field := ⟨d.timeSp, (d.timeBase + 28), 16, 1, 0, .ro⟩
/-- R74: PORT_CTRL.ENABLE [0] RW (prof) -/
def PORT_CTRL_ENABLE (p : PortId) : Field := ⟨p.sp, (p.base + 0x000), 0, 1, p.enableReset, .rw⟩
/-- R74: PORT_CTRL.RETRY [1] WO -/
def PORT_CTRL_RETRY (p : PortId) : Field := ⟨p.sp, (p.base + 0x000), 1, 1, 0, .wo⟩
/-- R74: PORT_CTRL.CAL_NOW [2] WO -/
def PORT_CTRL_CAL_NOW (p : PortId) : Field := ⟨p.sp, (p.base + 0x000), 2, 1, 0, .wo⟩
/-- R74: PORT_STAT.STATE [3:0] RO -/
def PORT_STAT_STATE (p : PortId) : Field := ⟨p.sp, (p.base + 0x004), 0, 4, 0, .ro⟩
/-- R74: PORT_STAT.FAULT [7:4] RO -/
def PORT_STAT_FAULT (p : PortId) : Field := ⟨p.sp, (p.base + 0x004), 4, 4, 0, .ro⟩
/-- R74: PORT_STAT.HOLD [10:8] RO -/
def PORT_STAT_HOLD (p : PortId) : Field := ⟨p.sp, (p.base + 0x004), 8, 3, 0, .ro⟩
/-- R74: PORT_STAT.UNCAL [11] RO -/
def PORT_STAT_UNCAL (p : PortId) : Field := ⟨p.sp, (p.base + 0x004), 11, 1, 1, .ro⟩
/-- R74: PORT_STAT.TIME_USE [12] RO -/
def PORT_STAT_TIME_USE (p : PortId) : Field := ⟨p.sp, (p.base + 0x004), 12, 1, 0, .ro⟩
/-- R74: PORT_STAT.RTT_STEP [13] W1C -/
def PORT_STAT_RTT_STEP (p : PortId) : Field := ⟨p.sp, (p.base + 0x004), 13, 1, 0, .w1c⟩
/-- R74: PORT_STAT.MODE_MISMATCH [14] RO -/
def PORT_STAT_MODE_MISMATCH (p : PortId) : Field := ⟨p.sp, (p.base + 0x004), 14, 1, 0, .ro⟩
/-- R74: PORT_RTT.RTT_PS [23:0] RO -/
def PORT_RTT_RTT_PS (p : PortId) : Field := ⟨p.sp, (p.base + 0x008), 0, 24, 0, .ro⟩
/-- R74: PORT_ASYM.ASYM_PS [15:0] RO -/
def PORT_ASYM_ASYM_PS (p : PortId) : Field := ⟨p.sp, (p.base + 0x00C), 0, 16, 0, .ro⟩
/-- R74: PORT_ASYM.CAL_COUNT [31:16] RO -/
def PORT_ASYM_CAL_COUNT (p : PortId) : Field := ⟨p.sp, (p.base + 0x00C), 16, 16, 0, .ro⟩
/-- R74: PORT_OFFSET.OFFSET_PS [31:0] RO -/
def PORT_OFFSET_OFFSET_PS (p : PortId) : Field := ⟨p.sp, (p.base + 0x010), 0, 32, 0, .ro⟩
/-- R74: PORT_AUTH.AUTH_FAIL [15:0] RC -/
def PORT_AUTH_AUTH_FAIL (p : PortId) : Field := ⟨p.sp, (p.base + 0x014), 0, 16, 0, .rc⟩
/-- R74: PORT_AUTH.INCOMPLETE [31:16] RC -/
def PORT_AUTH_INCOMPLETE (p : PortId) : Field := ⟨p.sp, (p.base + 0x014), 16, 16, 0, .rc⟩
/-- R74: PORT_ERR.CRC_ERR [15:0] RC -/
def PORT_ERR_CRC_ERR (p : PortId) : Field := ⟨p.sp, (p.base + 0x018), 0, 16, 0, .rc⟩
/-- R74: PORT_ERR.TRAIN_COUNT [23:16] RO -/
def PORT_ERR_TRAIN_COUNT (p : PortId) : Field := ⟨p.sp, (p.base + 0x018), 16, 8, 0, .ro⟩
/-- R74: PORT_PEER.PEER_UA [19:0] RO -/
def PORT_PEER_PEER_UA (p : PortId) : Field := ⟨p.sp, (p.base + 0x01C), 0, 20, 0, .ro⟩
/-- R74: PORT_PEER.PEER_SIDE [20] RO -/
def PORT_PEER_PEER_SIDE (p : PortId) : Field := ⟨p.sp, (p.base + 0x01C), 20, 1, 0, .ro⟩
/-- R74: PORT_PEER.PEER_VALID [21] RO -/
def PORT_PEER_PEER_VALID (p : PortId) : Field := ⟨p.sp, (p.base + 0x01C), 21, 1, 0, .ro⟩
/-- R213: PORT_TXCRED_A.CONTROL [15:0] RO -/
def PORT_TXCRED_A_CONTROL (p : PortId) : Field := ⟨p.sp, (p.base + 0x040), 0, 16, 0, .ro⟩
/-- R213: PORT_TXCRED_A.UP [31:16] RO -/
def PORT_TXCRED_A_UP (p : PortId) : Field := ⟨p.sp, (p.base + 0x040), 16, 16, 0, .ro⟩
/-- R213: PORT_TXCRED_B.DOWN [15:0] RO -/
def PORT_TXCRED_B_DOWN (p : PortId) : Field := ⟨p.sp, (p.base + 0x044), 0, 16, 0, .ro⟩
/-- R213: PORT_TXCRED_B.MGMT [31:16] RO -/
def PORT_TXCRED_B_MGMT (p : PortId) : Field := ⟨p.sp, (p.base + 0x044), 16, 16, 0, .ro⟩
/-- R213: PORT_RXUSE_A.CONTROL [15:0] RO -/
def PORT_RXUSE_A_CONTROL (p : PortId) : Field := ⟨p.sp, (p.base + 0x048), 0, 16, 0, .ro⟩
/-- R213: PORT_RXUSE_A.UP [31:16] RO -/
def PORT_RXUSE_A_UP (p : PortId) : Field := ⟨p.sp, (p.base + 0x048), 16, 16, 0, .ro⟩
/-- R213: PORT_RXUSE_B.DOWN [15:0] RO -/
def PORT_RXUSE_B_DOWN (p : PortId) : Field := ⟨p.sp, (p.base + 0x04C), 0, 16, 0, .ro⟩
/-- R213: PORT_RXUSE_B.MGMT [31:16] RO -/
def PORT_RXUSE_B_MGMT (p : PortId) : Field := ⟨p.sp, (p.base + 0x04C), 16, 16, 0, .ro⟩
/-- R213: PORT_GROUP.GROUP_ACTIVE [0] RO -/
def PORT_GROUP_GROUP_ACTIVE (p : PortId) : Field := ⟨p.sp, (p.base + 0x050), 0, 1, 0, .ro⟩
/-- R213: PORT_GROUP.STALL [1] W1C -/
def PORT_GROUP_STALL (p : PortId) : Field := ⟨p.sp, (p.base + 0x050), 1, 1, 0, .w1c⟩
/-- R213: PORT_MSG_CNT.STALE [15:0] RC -/
def PORT_MSG_CNT_STALE (p : PortId) : Field := ⟨p.sp, (p.base + 0x054), 0, 16, 0, .rc⟩
/-- R213: PORT_MSG_CNT.STALLS [31:16] RC -/
def PORT_MSG_CNT_STALLS (p : PortId) : Field := ⟨p.sp, (p.base + 0x054), 16, 16, 0, .rc⟩
/-- R321: PORT_OPT_STAT.CHAN [2:0] RO -/
def PORT_OPT_STAT_CHAN (p : PortId) : Field := ⟨p.sp, (p.base + 0x060), 0, 3, 0, .ro⟩
/-- R321: PORT_OPT_STAT.MOD_RING [5:3] RO -/
def PORT_OPT_STAT_MOD_RING (p : PortId) : Field := ⟨p.sp, (p.base + 0x060), 3, 3, 0, .ro⟩
/-- R321: PORT_OPT_STAT.DROP_RING [8:6] RO -/
def PORT_OPT_STAT_DROP_RING (p : PortId) : Field := ⟨p.sp, (p.base + 0x060), 6, 3, 0, .ro⟩
/-- R321: PORT_OPT_STAT.OSTATE [11:9] RO -/
def PORT_OPT_STAT_OSTATE (p : PortId) : Field := ⟨p.sp, (p.base + 0x060), 9, 3, 0, .ro⟩
/-- R321: PORT_OPT_STAT.LINE [15:12] RO -/
def PORT_OPT_STAT_LINE (p : PortId) : Field := ⟨p.sp, (p.base + 0x060), 12, 4, 15, .ro⟩
/-- R321: PORT_OPT_STAT.QUIET [16] RO -/
def PORT_OPT_STAT_QUIET (p : PortId) : Field := ⟨p.sp, (p.base + 0x060), 16, 1, 0, .ro⟩
/-- R321: PORT_OPT_PWR.RX_PWR [15:0] RO -/
def PORT_OPT_PWR_RX_PWR (p : PortId) : Field := ⟨p.sp, (p.base + 0x064), 0, 16, 0, .ro⟩
/-- R321: PORT_OPT_PWR.TX_PWR [31:16] RO -/
def PORT_OPT_PWR_TX_PWR (p : PortId) : Field := ⟨p.sp, (p.base + 0x064), 16, 16, 0, .ro⟩
/-- R321: PORT_OPT_HEAT.MOD_HEAT [11:0] RO -/
def PORT_OPT_HEAT_MOD_HEAT (p : PortId) : Field := ⟨p.sp, (p.base + 0x068), 0, 12, 0, .ro⟩
/-- R321: PORT_OPT_HEAT.DROP_HEAT [27:16] RO -/
def PORT_OPT_HEAT_DROP_HEAT (p : PortId) : Field := ⟨p.sp, (p.base + 0x068), 16, 12, 0, .ro⟩
/-- R321: PORT_OPT_CNT.WRONG_LINE [15:0] RC -/
def PORT_OPT_CNT_WRONG_LINE (p : PortId) : Field := ⟨p.sp, (p.base + 0x06C), 0, 16, 0, .rc⟩
/-- R321: PORT_OPT_CNT.RELOCKS [31:16] RC -/
def PORT_OPT_CNT_RELOCKS (p : PortId) : Field := ⟨p.sp, (p.base + 0x06C), 16, 16, 0, .rc⟩
/-- R321: PORT_QUIET_NS.NS [31:0] RO -/
def PORT_QUIET_NS_NS (p : PortId) : Field := ⟨p.sp, (p.base + 0x070), 0, 32, 0, .ro⟩
/-- R321: PORT_QUIET_SEC_LO.SEC_LO [31:0] RO -/
def PORT_QUIET_SEC_LO_SEC_LO (p : PortId) : Field := ⟨p.sp, (p.base + 0x074), 0, 32, 0, .ro⟩
/-- R321: PORT_QUIET_SEC_HI.SEC_HI [15:0] RO -/
def PORT_QUIET_SEC_HI_SEC_HI (p : PortId) : Field := ⟨p.sp, (p.base + 0x078), 0, 16, 0, .ro⟩
/-- R321: PORT_QUIET_LEN.WINDOW [31:0] RO -/
def PORT_QUIET_LEN_WINDOW (p : PortId) : Field := ⟨p.sp, (p.base + 0x07C), 0, 32, 0, .ro⟩
/-- R395: CMD_STAT.SESSIONS [6:0] RO -/
def CMD_STAT_SESSIONS (d : Dev) : Field := ⟨d.sp, (d.cmdBase + 0x0), 0, 7, 0, .ro⟩
/-- R395: CMD_STAT.GSESSIONS [10:7] RO -/
def CMD_STAT_GSESSIONS (d : Dev) : Field := ⟨d.sp, (d.cmdBase + 0x0), 7, 4, 0, .ro⟩
/-- R395: CMD_STAT.REASM [17:11] RO -/
def CMD_STAT_REASM (d : Dev) : Field := ⟨d.sp, (d.cmdBase + 0x0), 11, 7, 0, .ro⟩
/-- R395: CMD_STAT.VER_MIN [27:24] RO -/
def CMD_STAT_VER_MIN (d : Dev) : Field := ⟨d.sp, (d.cmdBase + 0x0), 24, 4, 1, .ro⟩
/-- R395: CMD_STAT.VER_MAX [31:28] RO -/
def CMD_STAT_VER_MAX (d : Dev) : Field := ⟨d.sp, (d.cmdBase + 0x0), 28, 4, 1, .ro⟩
/-- R395: CMD_CNT.AUTH_FAIL [15:0] RC -/
def CMD_CNT_AUTH_FAIL (d : Dev) : Field := ⟨d.sp, (d.cmdBase + 0x4), 0, 16, 0, .rc⟩
/-- R395: CMD_CNT.REPLAY [31:16] RC -/
def CMD_CNT_REPLAY (d : Dev) : Field := ⟨d.sp, (d.cmdBase + 0x4), 16, 16, 0, .rc⟩
/-- R395: CMD_CNT2.REASM_DROP [15:0] RC -/
def CMD_CNT2_REASM_DROP (d : Dev) : Field := ⟨d.sp, (d.cmdBase + 0x8), 0, 16, 0, .rc⟩
/-- R395: CMD_CNT2.NOTICES [31:16] RC -/
def CMD_CNT2_NOTICES (d : Dev) : Field := ⟨d.sp, (d.cmdBase + 0x8), 16, 16, 0, .rc⟩
/-- R395: CMD_CNT3.EXECUTED [15:0] RO -/
def CMD_CNT3_EXECUTED (d : Dev) : Field := ⟨d.sp, (d.cmdBase + 0xC), 0, 16, 0, .ro⟩
/-- R395: CMD_CNT3.RELAYED [31:16] RO -/
def CMD_CNT3_RELAYED (d : Dev) : Field := ⟨d.sp, (d.cmdBase + 0xC), 16, 16, 0, .ro⟩
/-- R415: SEC_LC.STATE [2:0] RO (fuse) -/
def SEC_LC_STATE (d : Dev) : Field := ⟨d.sp, (d.secBase + 0x00), 0, 3, 0, .ro⟩
/-- R415: SEC_LC.PENDING [3] RO -/
def SEC_LC_PENDING (d : Dev) : Field := ⟨d.sp, (d.secBase + 0x00), 3, 1, 0, .ro⟩
/-- R415: SEC_LC.TOKEN_OPEN [4] RO -/
def SEC_LC_TOKEN_OPEN (d : Dev) : Field := ⟨d.sp, (d.secBase + 0x00), 4, 1, 0, .ro⟩
/-- R415: SEC_LC.ID_KEY [5] RO (fuse) -/
def SEC_LC_ID_KEY (d : Dev) : Field := ⟨d.sp, (d.secBase + 0x00), 5, 1, 0, .ro⟩
/-- R415: SEC_LC.CERT [6] RO (fuse) -/
def SEC_LC_CERT (d : Dev) : Field := ⟨d.sp, (d.secBase + 0x00), 6, 1, 0, .ro⟩
/-- R415: SEC_LC.KEYS [13:7] RO (fuse) -/
def SEC_LC_KEYS (d : Dev) : Field := ⟨d.sp, (d.secBase + 0x00), 7, 7, 0, .ro⟩
/-- R415: SEC_LC.PROFILE_KEY [14] RO (fuse) -/
def SEC_LC_PROFILE_KEY (d : Dev) : Field := ⟨d.sp, (d.secBase + 0x00), 14, 1, 0, .ro⟩
/-- R415: SEC_LC.USED [20:15] RO (fuse) -/
def SEC_LC_USED (d : Dev) : Field := ⟨d.sp, (d.secBase + 0x00), 15, 6, 0, .ro⟩
/-- R415: SEC_SERIAL_LO.SERIAL_LO [31:0] RO (fuse) -/
def SEC_SERIAL_LO_SERIAL_LO (d : Dev) : Field := ⟨d.sp, (d.secBase + 0x04), 0, 32, ((Config.serial d).toNat % 2 ^ 32), .ro⟩
/-- R415: SEC_SERIAL_HI.SERIAL_HI [31:0] RO (fuse) -/
def SEC_SERIAL_HI_SERIAL_HI (d : Dev) : Field := ⟨d.sp, (d.secBase + 0x08), 0, 32, ((Config.serial d).toNat / 2 ^ 32), .ro⟩
/-- R415: SEC_SVN.SVN_MIN [5:0] RO (fuse) -/
def SEC_SVN_SVN_MIN (d : Dev) : Field := ⟨d.sp, (d.secBase + 0x0C), 0, 6, 0, .ro⟩
/-- R415: SEC_SVN.KEY0_REVOKED [6] RO (fuse) -/
def SEC_SVN_KEY0_REVOKED (d : Dev) : Field := ⟨d.sp, (d.secBase + 0x0C), 6, 1, 0, .ro⟩
/-- R415: SEC_CNT.STAMPS [15:0] RO -/
def SEC_CNT_STAMPS (d : Dev) : Field := ⟨d.sp, (d.secBase + 0x10), 0, 16, 0, .ro⟩
/-- R415: SEC_CNT.DENIED [31:16] RC -/
def SEC_CNT_DENIED (d : Dev) : Field := ⟨d.sp, (d.secBase + 0x10), 16, 16, 0, .rc⟩
/-- R415: FW_STAT.XFER [1:0] RO -/
def FW_STAT_XFER (d : Dev) : Field := ⟨d.sp, (d.secBase + 0x20), 0, 2, 0, .ro⟩
/-- R415: FW_STAT.LAST_FAIL [2] W1C -/
def FW_STAT_LAST_FAIL (d : Dev) : Field := ⟨d.sp, (d.secBase + 0x20), 2, 1, 0, .w1c⟩
/-- R415: FW_STAT.FAIL_CAUSE [6:3] RO -/
def FW_STAT_FAIL_CAUSE (d : Dev) : Field := ⟨d.sp, (d.secBase + 0x20), 3, 4, 0, .ro⟩
/-- R415: FW_STAT.SOURCE [8:7] RO -/
def FW_STAT_SOURCE (d : Dev) : Field := ⟨d.sp, (d.secBase + 0x20), 7, 2, 0, .ro⟩
/-- R415: FW_RUN_VER.VERSION [31:0] RO -/
def FW_RUN_VER_VERSION (d : Dev) : Field := ⟨d.sp, (d.secBase + 0x24), 0, 32, 0, .ro⟩
/-- R415: FW_STAGE_VER.VERSION [31:0] RO -/
def FW_STAGE_VER_VERSION (d : Dev) : Field := ⟨d.sp, (d.secBase + 0x28), 0, 32, 0, .ro⟩
/-- R415: FW_XFER_ID.ID [31:0] RO -/
def FW_XFER_ID_ID (d : Dev) : Field := ⟨d.sp, (d.secBase + 0x2C), 0, 32, 0, .ro⟩
/-- R415: FW_PARTS.TOTAL [11:0] RO -/
def FW_PARTS_TOTAL (d : Dev) : Field := ⟨d.sp, (d.secBase + 0x30), 0, 12, 0, .ro⟩
/-- R415: FW_PARTS.HELD [23:12] RO -/
def FW_PARTS_HELD (d : Dev) : Field := ⟨d.sp, (d.secBase + 0x30), 12, 12, 0, .ro⟩

end Sys2Proof.Machine.R
end

