-- ==== Sys2Proof/Machine/RegsVerard.lean ====
section
/-! DEFINITION. the register fields of Verard BAR0 and BAR2 (R5 to R8, R417), one definition a field.
A field marked prof resets to the fused default profile (R423, R424), fuse to Config, x to 0 (notes/assumptions/4). -/

namespace Sys2Proof.Machine.R

open Sys2Proof.Machine

/-- R25: VD_TOPO.UA [19:0] RO -/
def VD_TOPO_UA : Field := ⟨1, 0x10, 0, 20, 0, .ro⟩
/-- R25: VD_TOPO.ROLE [21:20] RO (prof) -/
def VD_TOPO_ROLE : Field := ⟨1, 0x10, 20, 2, 1, .ro⟩
/-- R25: VD_TOPO.SIDE [22] RO (prof) -/
def VD_TOPO_SIDE : Field := ⟨1, 0x10, 22, 1, 0, .ro⟩
/-- R25: VD_TOPO.UA_VALID [23] RO -/
def VD_TOPO_UA_VALID : Field := ⟨1, 0x10, 23, 1, 0, .ro⟩
/-- R25: VD_TOPO.HOMING [24] RO (prof) -/
def VD_TOPO_HOMING : Field := ⟨1, 0x10, 24, 1, 0, .ro⟩
/-- R25: VD_TOPO.TIME_PARENT [26:25] RO -/
def VD_TOPO_TIME_PARENT : Field := ⟨1, 0x10, 25, 2, 0, .ro⟩
/-- R25: VD_TOPO.DEGRADED [27] RO -/
def VD_TOPO_DEGRADED : Field := ⟨1, 0x10, 27, 1, 0, .ro⟩
/-- R25: VD_TOPO.SIDE_MISMATCH [28] RO -/
def VD_TOPO_SIDE_MISMATCH : Field := ⟨1, 0x10, 28, 1, 0, .ro⟩
/-- R103: VD_REF_CFG.REVERTIVE [0] RO (prof) -/
def VD_REF_CFG_REVERTIVE : Field := ⟨1, 0x10000, 0, 1, 0, .ro⟩
/-- R103: VD_REF_CFG.PAIR [1] RO (prof) -/
def VD_REF_CFG_PAIR : Field := ⟨1, 0x10000, 1, 1, 0, .ro⟩
/-- R103: VD_REF_CFG.ASSIST [2] RO (prof) -/
def VD_REF_CFG_ASSIST : Field := ⟨1, 0x10000, 2, 1, 0, .ro⟩
/-- R103: VD_REF_CFG.WTR_S [15:4] RO (prof) -/
def VD_REF_CFG_WTR_S : Field := ⟨1, 0x10000, 4, 12, 300, .ro⟩
/-- R103: VD_REF_CFG.QUAL_S [25:16] RO (prof) -/
def VD_REF_CFG_QUAL_S : Field := ⟨1, 0x10000, 16, 10, 10, .ro⟩
/-- R103: VD_REF_STAT.SELECTED [2:0] RO -/
def VD_REF_STAT_SELECTED : Field := ⟨1, 0x10004, 0, 3, 7, .ro⟩
/-- R103: VD_REF_STAT.REF_STATE [5:3] RO -/
def VD_REF_STAT_REF_STATE : Field := ⟨1, 0x10004, 3, 3, 0, .ro⟩
/-- R103: VD_REF_STAT.PAIRED [6] RO -/
def VD_REF_STAT_PAIRED : Field := ⟨1, 0x10004, 6, 1, 0, .ro⟩
/-- R103: VD_REF_STAT.ASSIST_ACTIVE [7] RO -/
def VD_REF_STAT_ASSIST_ACTIVE : Field := ⟨1, 0x10004, 7, 1, 0, .ro⟩
/-- R103: VD_REF_STAT.OCXO_WARM [8] RO -/
def VD_REF_STAT_OCXO_WARM : Field := ⟨1, 0x10004, 8, 1, 0, .ro⟩
/-- R103: VD_REF_STAT.OCXO_READY [9] RO -/
def VD_REF_STAT_OCXO_READY : Field := ⟨1, 0x10004, 9, 1, 0, .ro⟩
/-- R103: VD_REF_STAT.OCXO_FAIL [10] RO -/
def VD_REF_STAT_OCXO_FAIL : Field := ⟨1, 0x10004, 10, 1, 0, .ro⟩
/-- R103: VD_REF_STAT.TOD_VALID [11] RO -/
def VD_REF_STAT_TOD_VALID : Field := ⟨1, 0x10004, 11, 1, 0, .ro⟩
/-- R103: VD_REF_STAT.SWITCHED [12] W1C -/
def VD_REF_STAT_SWITCHED : Field := ⟨1, 0x10004, 12, 1, 0, .w1c⟩
/-- R103: VD_REF_STAT.JUMP_REFUSED [13] W1C -/
def VD_REF_STAT_JUMP_REFUSED : Field := ⟨1, 0x10004, 13, 1, 0, .w1c⟩
/-- R103: VD_REF_STAT.SWITCH_COUNT [31:16] RO -/
def VD_REF_STAT_SWITCH_COUNT : Field := ⟨1, 0x10004, 16, 16, 0, .ro⟩
/-- R103: VD_HOLD_EST.EST_PS [31:0] RO -/
def VD_HOLD_EST_EST_PS : Field := ⟨1, 0x10008, 0, 32, 0, .ro⟩
/-- R103: VD_HOLD_REMAIN.REMAIN_S [23:0] RO -/
def VD_HOLD_REMAIN_REMAIN_S : Field := ⟨1, 0x1000c, 0, 24, 16777215, .ro⟩
/-- R103: VD_HOLD_ELAPSED.ELAPSED_S [31:0] RO -/
def VD_HOLD_ELAPSED_ELAPSED_S : Field := ⟨1, 0x10010, 0, 32, 0, .ro⟩
/-- R103: VD_HOLD_CFG.SPEC_NS [13:0] RO (prof) -/
def VD_HOLD_CFG_SPEC_NS : Field := ⟨1, 0x10014, 0, 14, 100, .ro⟩
/-- R103: VD_HOLD_CFG.AGEING [31:14] RO (prof) -/
def VD_HOLD_CFG_AGEING : Field := ⟨1, 0x10014, 14, 18, 0, .ro⟩
/-- R103: VD_LOOP_FREQ.FREQ_PPT [31:0] RO -/
def VD_LOOP_FREQ_FREQ_PPT : Field := ⟨1, 0x10018, 0, 32, 0, .ro⟩
/-- R103: VD_LOOP_PHASE.PHASE_PS [31:0] RO -/
def VD_LOOP_PHASE_PHASE_PS : Field := ⟨1, 0x1001c, 0, 32, 0, .ro⟩
/-- R103: VD_JUMP.JUMP_NS [9:0] RO (prof) -/
def VD_JUMP_JUMP_NS : Field := ⟨1, 0x10020, 0, 10, 50, .ro⟩
/-- R103: VD_JUMP.LAST_INPUT [12:10] RO -/
def VD_JUMP_LAST_INPUT : Field := ⟨1, 0x10020, 10, 3, 0, .ro⟩
/-- R103: VD_JUMP.REFUSALS [31:16] RC -/
def VD_JUMP_REFUSALS : Field := ⟨1, 0x10020, 16, 16, 0, .rc⟩
/-- R103: VD_JUMP_LAST.LAST_NS [31:0] RO -/
def VD_JUMP_LAST_LAST_NS : Field := ⟨1, 0x10024, 0, 32, 0, .ro⟩
/-- R103: VD_BEARING_RES.RES_PS [31:0] RO -/
def VD_BEARING_RES_RES_PS : Field := ⟨1, 0x10028, 0, 32, 0, .ro⟩
/-- R103: VD_OUT_CTRL.PPS_EN [0] RW (prof) -/
def VD_OUT_CTRL_PPS_EN : Field := ⟨1, 0x10030, 0, 1, 0, .rw⟩
/-- R103: VD_OUT_CTRL.F10M_EN [1] RW (prof) -/
def VD_OUT_CTRL_F10M_EN : Field := ⟨1, 0x10030, 1, 1, 0, .rw⟩
/-- R103: VD_OUT_CTRL.REALIGN [2] WO -/
def VD_OUT_CTRL_REALIGN : Field := ⟨1, 0x10030, 2, 1, 0, .wo⟩
/-- R103: VD_OUT_STAT.ALIGNED [0] RO -/
def VD_OUT_STAT_ALIGNED : Field := ⟨1, 0x10034, 0, 1, 0, .ro⟩
/-- R103: VD_OUT_STAT.REALIGN_PENDING [1] RO -/
def VD_OUT_STAT_REALIGN_PENDING : Field := ⟨1, 0x10034, 1, 1, 0, .ro⟩
/-- R103: VD_PPS_OFS.OFS_NS [31:0] RO -/
def VD_PPS_OFS_OFS_NS : Field := ⟨1, 0x10038, 0, 32, 0, .ro⟩
/-- R103: VD_REFi_CFG.PRIO [3:0] RW (prof) -/
def VD_REFi_CFG_PRIO (i : Nat) : Field := ⟨1, (0x10100 + i * 0x20 + 0x00), 0, 4, 0, .rw⟩
/-- R103: VD_REFi_CFG.LOCKOUT [4] RW -/
def VD_REFi_CFG_LOCKOUT (i : Nat) : Field := ⟨1, (0x10100 + i * 0x20 + 0x00), 4, 1, 0, .rw⟩
/-- R103: VD_REFi_ST.QUAL [2:0] RO -/
def VD_REFi_ST_QUAL (i : Nat) : Field := ⟨1, (0x10100 + i * 0x20 + 0x04), 0, 3, 0, .ro⟩
/-- R103: VD_REFi_ST.CAUSE [6:3] RO -/
def VD_REFi_ST_CAUSE (i : Nat) : Field := ⟨1, (0x10100 + i * 0x20 + 0x04), 3, 4, 0, .ro⟩
/-- R103: VD_REFi_ST.FAULT [10:7] RO -/
def VD_REFi_ST_FAULT (i : Nat) : Field := ⟨1, (0x10100 + i * 0x20 + 0x04), 7, 4, 0, .ro⟩
/-- R103: VD_REFi_ST.WTR_RUN [11] RO -/
def VD_REFi_ST_WTR_RUN (i : Nat) : Field := ⟨1, (0x10100 + i * 0x20 + 0x04), 11, 1, 0, .ro⟩
/-- R103: VD_REFi_FREQ.FREQ_PPT [31:0] RO -/
def VD_REFi_FREQ_FREQ_PPT (i : Nat) : Field := ⟨1, (0x10100 + i * 0x20 + 0x08), 0, 32, 0, .ro⟩
/-- R103: VD_REFi_BEARING.BEARING_PS [31:0] RO -/
def VD_REFi_BEARING_BEARING_PS (i : Nat) : Field := ⟨1, (0x10100 + i * 0x20 + 0x0C), 0, 32, 0, .ro⟩
/-- R103: VD_REFi_TIMERS.QUAL_REMAIN_S [15:0] RO -/
def VD_REFi_TIMERS_QUAL_REMAIN_S (i : Nat) : Field := ⟨1, (0x10100 + i * 0x20 + 0x10), 0, 16, 0, .ro⟩
/-- R103: VD_REFi_TIMERS.WTR_REMAIN_S [31:16] RO -/
def VD_REFi_TIMERS_WTR_REMAIN_S (i : Nat) : Field := ⟨1, (0x10100 + i * 0x20 + 0x10), 16, 16, 0, .ro⟩
/-- R103: VD_REFi_CNT.REJECTS [15:0] RC -/
def VD_REFi_CNT_REJECTS (i : Nat) : Field := ⟨1, (0x10100 + i * 0x20 + 0x14), 0, 16, 0, .rc⟩
/-- R103: VD_REFi_CNT.REFUSALS [31:16] RC -/
def VD_REFi_CNT_REFUSALS (i : Nat) : Field := ⟨1, (0x10100 + i * 0x20 + 0x14), 16, 16, 0, .rc⟩
/-- R104: PTP_CTRL.ENABLE [0] RO (prof) -/
def PTP_CTRL_ENABLE (i : Nat) : Field := ⟨1, (0x20000 + i * 0x100 + 0x00), 0, 1, 0, .ro⟩
/-- R104: PTP_CTRL.TRANSPORT [2:1] RO (prof) -/
def PTP_CTRL_TRANSPORT (i : Nat) : Field := ⟨1, (0x20000 + i * 0x100 + 0x00), 1, 2, 0, .ro⟩
/-- R104: PTP_CTRL.TWO_STEP [3] RO (prof) -/
def PTP_CTRL_TWO_STEP (i : Nat) : Field := ⟨1, (0x20000 + i * 0x100 + 0x00), 3, 1, 0, .ro⟩
/-- R104: PTP_CTRL.DELAY_MECH [4] RO (prof) -/
def PTP_CTRL_DELAY_MECH (i : Nat) : Field := ⟨1, (0x20000 + i * 0x100 + 0x00), 4, 1, 0, .ro⟩
/-- R104: PTP_CTRL.PORT_ROLE [5] RO (prof) -/
def PTP_CTRL_PORT_ROLE (i : Nat) : Field := ⟨1, (0x20000 + i * 0x100 + 0x00), 5, 1, 0, .ro⟩
/-- R104: PTP_CTRL.DOMAIN [13:6] RO (prof) -/
def PTP_CTRL_DOMAIN (i : Nat) : Field := ⟨1, (0x20000 + i * 0x100 + 0x00), 6, 8, 0, .ro⟩
/-- R104: PTP_CTRL.LOG_SYNC [17:14] RO (prof) -/
def PTP_CTRL_LOG_SYNC (i : Nat) : Field := ⟨1, (0x20000 + i * 0x100 + 0x00), 14, 4, 0, .ro⟩
/-- R104: PTP_CTRL.LOG_ANNOUNCE [21:18] RO (prof) -/
def PTP_CTRL_LOG_ANNOUNCE (i : Nat) : Field := ⟨1, (0x20000 + i * 0x100 + 0x00), 18, 4, 0, .ro⟩
/-- R104: PTP_CTRL.LOG_DELAYREQ [25:22] RO (prof) -/
def PTP_CTRL_LOG_DELAYREQ (i : Nat) : Field := ⟨1, (0x20000 + i * 0x100 + 0x00), 22, 4, 0, .ro⟩
/-- R104: PTP_CTRL.UNICAST [26] RO (prof) -/
def PTP_CTRL_UNICAST (i : Nat) : Field := ⟨1, (0x20000 + i * 0x100 + 0x00), 26, 1, 0, .ro⟩
/-- R104: PTP_STAT.PORT_STATE [3:0] RO -/
def PTP_STAT_PORT_STATE (i : Nat) : Field := ⟨1, (0x20000 + i * 0x100 + 0x04), 0, 4, 1, .ro⟩
/-- R104: PTP_STAT.GM_PRESENT [4] RO -/
def PTP_STAT_GM_PRESENT (i : Nat) : Field := ⟨1, (0x20000 + i * 0x100 + 0x04), 4, 1, 0, .ro⟩
/-- R104: PTP_STAT.GM_CLASS [12:5] RO -/
def PTP_STAT_GM_CLASS (i : Nat) : Field := ⟨1, (0x20000 + i * 0x100 + 0x04), 5, 8, 255, .ro⟩
/-- R104: PTP_STAT.TRACEABLE [13] RO -/
def PTP_STAT_TRACEABLE (i : Nat) : Field := ⟨1, (0x20000 + i * 0x100 + 0x04), 13, 1, 0, .ro⟩
/-- R104: PTP_STAT.TSQ_OVF [14] W1C -/
def PTP_STAT_TSQ_OVF (i : Nat) : Field := ⟨1, (0x20000 + i * 0x100 + 0x04), 14, 1, 0, .w1c⟩
/-- R104: PTP_STAT.TSQ_COUNT [21:15] RO -/
def PTP_STAT_TSQ_COUNT (i : Nat) : Field := ⟨1, (0x20000 + i * 0x100 + 0x04), 15, 7, 0, .ro⟩
/-- R104: PTP_OFFSET.OFFSET_PS [31:0] RO -/
def PTP_OFFSET_OFFSET_PS (i : Nat) : Field := ⟨1, (0x20000 + i * 0x100 + 0x08), 0, 32, 0, .ro⟩
/-- R104: PTP_MPD.MPD_PS [31:0] RO -/
def PTP_MPD_MPD_PS (i : Nat) : Field := ⟨1, (0x20000 + i * 0x100 + 0x0C), 0, 32, 0, .ro⟩
/-- R104: PTP_TSQ_KEY.SEQ_ID [15:0] RW -/
def PTP_TSQ_KEY_SEQ_ID (i : Nat) : Field := ⟨1, (0x20000 + i * 0x100 + 0x10), 0, 16, 0, .rw⟩
/-- R104: PTP_TSQ_KEY.MSG_TYPE [19:16] RW -/
def PTP_TSQ_KEY_MSG_TYPE (i : Nat) : Field := ⟨1, (0x20000 + i * 0x100 + 0x10), 16, 4, 0, .rw⟩
/-- R104: PTP_TSQ_KEY.LOOKUP [20] WO -/
def PTP_TSQ_KEY_LOOKUP (i : Nat) : Field := ⟨1, (0x20000 + i * 0x100 + 0x10), 20, 1, 0, .wo⟩
/-- R104: PTP_TSQ_KEY.POP [21] WO -/
def PTP_TSQ_KEY_POP (i : Nat) : Field := ⟨1, (0x20000 + i * 0x100 + 0x10), 21, 1, 0, .wo⟩
/-- R104: PTP_TSQ_RES.SEQ_ID [15:0] RO -/
def PTP_TSQ_RES_SEQ_ID (i : Nat) : Field := ⟨1, (0x20000 + i * 0x100 + 0x14), 0, 16, 0, .ro⟩
/-- R104: PTP_TSQ_RES.MSG_TYPE [19:16] RO -/
def PTP_TSQ_RES_MSG_TYPE (i : Nat) : Field := ⟨1, (0x20000 + i * 0x100 + 0x14), 16, 4, 0, .ro⟩
/-- R104: PTP_TSQ_RES.FOUND [20] RO -/
def PTP_TSQ_RES_FOUND (i : Nat) : Field := ⟨1, (0x20000 + i * 0x100 + 0x14), 20, 1, 0, .ro⟩
/-- R104: PTP_TSQ_RES.DONE [21] RO -/
def PTP_TSQ_RES_DONE (i : Nat) : Field := ⟨1, (0x20000 + i * 0x100 + 0x14), 21, 1, 0, .ro⟩
/-- R104: PTP_TSQ_RES.ONE_STEP [22] RO -/
def PTP_TSQ_RES_ONE_STEP (i : Nat) : Field := ⟨1, (0x20000 + i * 0x100 + 0x14), 22, 1, 0, .ro⟩
/-- R104: PTP_TSQ_SEC_LO.SEC_LO [31:0] RO -/
def PTP_TSQ_SEC_LO_SEC_LO (i : Nat) : Field := ⟨1, (0x20000 + i * 0x100 + 0x18), 0, 32, 0, .ro⟩
/-- R104: PTP_TSQ_SEC_HI.SEC_HI [15:0] RO -/
def PTP_TSQ_SEC_HI_SEC_HI (i : Nat) : Field := ⟨1, (0x20000 + i * 0x100 + 0x1C), 0, 16, 0, .ro⟩
/-- R104: PTP_TSQ_SEC_HI.SUB [31:16] RO -/
def PTP_TSQ_SEC_HI_SUB (i : Nat) : Field := ⟨1, (0x20000 + i * 0x100 + 0x1C), 16, 16, 0, .ro⟩
/-- R104: PTP_TSQ_NS.NS [31:0] RO -/
def PTP_TSQ_NS_NS (i : Nat) : Field := ⟨1, (0x20000 + i * 0x100 + 0x20), 0, 32, 0, .ro⟩
/-- R104: PTP_CNT.TSQ_LOST [15:0] RC -/
def PTP_CNT_TSQ_LOST (i : Nat) : Field := ⟨1, (0x20000 + i * 0x100 + 0x24), 0, 16, 0, .rc⟩
/-- R104: PTP_CNT.RX_DROP [31:16] RC -/
def PTP_CNT_RX_DROP (i : Nat) : Field := ⟨1, (0x20000 + i * 0x100 + 0x24), 16, 16, 0, .rc⟩
/-- R115: VD_MEAS_CAL.CAL_NOW [0] WO -/
def VD_MEAS_CAL_CAL_NOW : Field := ⟨1, 0x30000, 0, 1, 0, .wo⟩
/-- R115: VD_MEAS_CAL.CAL_DONE [4:1] RO -/
def VD_MEAS_CAL_CAL_DONE : Field := ⟨1, 0x30000, 1, 4, 0, .ro⟩
/-- R115: VD_MEAS_CAL.CAL_COUNT [31:16] RO -/
def VD_MEAS_CAL_CAL_COUNT : Field := ⟨1, 0x30000, 16, 16, 0, .ro⟩
/-- R115: MEAS_CTRL.START [0] WO -/
def MEAS_CTRL_START (i : Nat) : Field := ⟨1, (0x30100 + i * 0x80 + 0x00), 0, 1, 0, .wo⟩
/-- R115: MEAS_CTRL.ABORT [1] WO -/
def MEAS_CTRL_ABORT (i : Nat) : Field := ⟨1, (0x30100 + i * 0x80 + 0x00), 1, 1, 0, .wo⟩
/-- R115: MEAS_CTRL.MODE [3:2] RW -/
def MEAS_CTRL_MODE (i : Nat) : Field := ⟨1, (0x30100 + i * 0x80 + 0x00), 2, 2, 0, .rw⟩
/-- R115: MEAS_CTRL.EDGE [4] RW -/
def MEAS_CTRL_EDGE (i : Nat) : Field := ⟨1, (0x30100 + i * 0x80 + 0x00), 4, 1, 0, .rw⟩
/-- R115: MEAS_CTRL.PRESCALE [7:5] RW -/
def MEAS_CTRL_PRESCALE (i : Nat) : Field := ⟨1, (0x30100 + i * 0x80 + 0x00), 5, 3, 0, .rw⟩
/-- R115: MEAS_CTRL.STOP_SEL [9:8] RW -/
def MEAS_CTRL_STOP_SEL (i : Nat) : Field := ⟨1, (0x30100 + i * 0x80 + 0x00), 8, 2, 0, .rw⟩
/-- R115: MEAS_CTRL.STOP_EDGE [10] RW -/
def MEAS_CTRL_STOP_EDGE (i : Nat) : Field := ⟨1, (0x30100 + i * 0x80 + 0x00), 10, 1, 0, .rw⟩
/-- R115: MEAS_CTRL.AT [11] RW -/
def MEAS_CTRL_AT (i : Nat) : Field := ⟨1, (0x30100 + i * 0x80 + 0x00), 11, 1, 0, .rw⟩
/-- R115: MEAS_GATE.GATE_US [26:0] RW -/
def MEAS_GATE_GATE_US (i : Nat) : Field := ⟨1, (0x30100 + i * 0x80 + 0x04), 0, 27, 1000, .rw⟩
/-- R115: MEAS_TIMEOUT.TIMEOUT_US [26:0] RW -/
def MEAS_TIMEOUT_TIMEOUT_US (i : Nat) : Field := ⟨1, (0x30100 + i * 0x80 + 0x08), 0, 27, 1000000, .rw⟩
/-- R115: MEAS_START_NS.NS [31:0] RW -/
def MEAS_START_NS_NS (i : Nat) : Field := ⟨1, (0x30100 + i * 0x80 + 0x0C), 0, 32, 0, .rw⟩
/-- R115: MEAS_START_SEC_LO.SEC_LO [31:0] RW -/
def MEAS_START_SEC_LO_SEC_LO (i : Nat) : Field := ⟨1, (0x30100 + i * 0x80 + 0x10), 0, 32, 0, .rw⟩
/-- R115: MEAS_START_SEC_HI.SEC_HI [15:0] RW -/
def MEAS_START_SEC_HI_SEC_HI (i : Nat) : Field := ⟨1, (0x30100 + i * 0x80 + 0x14), 0, 16, 0, .rw⟩
/-- R115: MEAS_STAT.BUSY [0] RO -/
def MEAS_STAT_BUSY (i : Nat) : Field := ⟨1, (0x30100 + i * 0x80 + 0x18), 0, 1, 0, .ro⟩
/-- R115: MEAS_STAT.ARMED [1] RO -/
def MEAS_STAT_ARMED (i : Nat) : Field := ⟨1, (0x30100 + i * 0x80 + 0x18), 1, 1, 0, .ro⟩
/-- R115: MEAS_STAT.DONE [2] W1C -/
def MEAS_STAT_DONE (i : Nat) : Field := ⟨1, (0x30100 + i * 0x80 + 0x18), 2, 1, 0, .w1c⟩
/-- R115: MEAS_STAT.SLEWED [3] RO -/
def MEAS_STAT_SLEWED (i : Nat) : Field := ⟨1, (0x30100 + i * 0x80 + 0x18), 3, 1, 0, .ro⟩
/-- R115: MEAS_STAT.RESULT [7:4] RO -/
def MEAS_STAT_RESULT (i : Nat) : Field := ⟨1, (0x30100 + i * 0x80 + 0x18), 4, 4, 0, .ro⟩
/-- R115: MEAS_STAT.UNLOCKED [8] RO -/
def MEAS_STAT_UNLOCKED (i : Nat) : Field := ⟨1, (0x30100 + i * 0x80 + 0x18), 8, 1, 0, .ro⟩
/-- R115: MEAS_STAT.FAULT [15:12] RO -/
def MEAS_STAT_FAULT (i : Nat) : Field := ⟨1, (0x30100 + i * 0x80 + 0x18), 12, 4, 0, .ro⟩
/-- R115: MEAS_N.N [16:0] RO -/
def MEAS_N_N (i : Nat) : Field := ⟨1, (0x30100 + i * 0x80 + 0x1C), 0, 17, 0, .ro⟩
/-- R115: MEAS_DECIM.K [31:0] RO -/
def MEAS_DECIM_K (i : Nat) : Field := ⟨1, (0x30100 + i * 0x80 + 0x20), 0, 32, 0, .ro⟩
/-- R115: MEAS_RES_LO.RES_LO [31:0] RO -/
def MEAS_RES_LO_RES_LO (i : Nat) : Field := ⟨1, (0x30100 + i * 0x80 + 0x24), 0, 32, 0, .ro⟩
/-- R115: MEAS_RES_HI.RES_HI [31:0] RO -/
def MEAS_RES_HI_RES_HI (i : Nat) : Field := ⟨1, (0x30100 + i * 0x80 + 0x28), 0, 32, 0, .ro⟩
/-- R115: MEAS_FREQ_LO.FREQ_LO [31:0] RO -/
def MEAS_FREQ_LO_FREQ_LO (i : Nat) : Field := ⟨1, (0x30100 + i * 0x80 + 0x2C), 0, 32, 0, .ro⟩
/-- R115: MEAS_FREQ_HI.FREQ_HI [31:0] RO -/
def MEAS_FREQ_HI_FREQ_HI (i : Nat) : Field := ⟨1, (0x30100 + i * 0x80 + 0x30), 0, 32, 0, .ro⟩
/-- R115: MEAS_SIGMA.SIGMA [31:0] RO -/
def MEAS_SIGMA_SIGMA (i : Nat) : Field := ⟨1, (0x30100 + i * 0x80 + 0x34), 0, 32, 0, .ro⟩
/-- R115: MEAS_RESID.RESID_FS [31:0] RO -/
def MEAS_RESID_RESID_FS (i : Nat) : Field := ⟨1, (0x30100 + i * 0x80 + 0x38), 0, 32, 0, .ro⟩
/-- R115: MEAS_T0_NS.NS [31:0] RO -/
def MEAS_T0_NS_NS (i : Nat) : Field := ⟨1, (0x30100 + i * 0x80 + 0x3C), 0, 32, 0, .ro⟩
/-- R115: MEAS_T0_SEC_LO.SEC_LO [31:0] RO -/
def MEAS_T0_SEC_LO_SEC_LO (i : Nat) : Field := ⟨1, (0x30100 + i * 0x80 + 0x40), 0, 32, 0, .ro⟩
/-- R115: MEAS_T0_SEC_HI.SEC_HI [15:0] RO -/
def MEAS_T0_SEC_HI_SEC_HI (i : Nat) : Field := ⟨1, (0x30100 + i * 0x80 + 0x44), 0, 16, 0, .ro⟩
/-- R115: MEAS_T0_SEC_HI.SUB [31:16] RO -/
def MEAS_T0_SEC_HI_SUB (i : Nat) : Field := ⟨1, (0x30100 + i * 0x80 + 0x44), 16, 16, 0, .ro⟩
/-- R214: VD_BUF_POOLS.USED [17:0] RO -/
def VD_BUF_POOLS_USED : Field := ⟨2, 0x2800000, 0, 18, 0, .ro⟩
/-- R214: VD_BUF_PEAK.PEAK [17:0] RC -/
def VD_BUF_PEAK_PEAK : Field := ⟨2, 0x2800004, 0, 18, 0, .rc⟩
/-- R214: VD_BUF_RESV.GIDS [17:0] RO -/
def VD_BUF_RESV_GIDS : Field := ⟨2, 0x2800008, 0, 18, 0, .ro⟩
/-- R214: VD_ENG_RATE.MSGS [31:0] RO -/
def VD_ENG_RATE_MSGS : Field := ⟨2, 0x280000c, 0, 32, 0, .ro⟩
/-- R214: VD_ENG_STALE.STALE [31:0] RC -/
def VD_ENG_STALE_STALE : Field := ⟨2, 0x2800010, 0, 32, 0, .rc⟩
/-- R214: VD_BASIN_USE.RESERVED [17:0] RO -/
def VD_BASIN_USE_RESERVED : Field := ⟨2, 0x2800014, 0, 18, 0, .ro⟩
/-- R214: VD_BUILDS.OPEN [4:0] RO -/
def VD_BUILDS_OPEN : Field := ⟨2, 0x2800018, 0, 5, 0, .ro⟩
/-- R322: VD_OE_CTRL.ENABLE [0] RW (prof) -/
def VD_OE_CTRL_ENABLE (e : Nat) : Field := ⟨1, (0x60000 + e * 0x200 + 0x000), 0, 1, 1, .rw⟩
/-- R322: VD_OE_CTRL.HOLD_SWAPS [1] RW -/
def VD_OE_CTRL_HOLD_SWAPS (e : Nat) : Field := ⟨1, (0x60000 + e * 0x200 + 0x000), 1, 1, 0, .rw⟩
/-- R322: VD_OE_CTRL.RESEARCH [2] WO -/
def VD_OE_CTRL_RESEARCH (e : Nat) : Field := ⟨1, (0x60000 + e * 0x200 + 0x000), 2, 1, 0, .wo⟩
/-- R322: VD_OE_STAT.STATE [2:0] RO -/
def VD_OE_STAT_STATE (e : Nat) : Field := ⟨1, (0x60000 + e * 0x200 + 0x004), 0, 3, 0, .ro⟩
/-- R322: VD_OE_STAT.SHIFT [5:3] RO -/
def VD_OE_STAT_SHIFT (e : Nat) : Field := ⟨1, (0x60000 + e * 0x200 + 0x004), 3, 3, 0, .ro⟩
/-- R322: VD_OE_STAT.DROP_SHIFT [8:6] RO -/
def VD_OE_STAT_DROP_SHIFT (e : Nat) : Field := ⟨1, (0x60000 + e * 0x200 + 0x004), 6, 3, 0, .ro⟩
/-- R322: VD_OE_STAT.SPARES_LEFT [10:9] RO -/
def VD_OE_STAT_SPARES_LEFT (e : Nat) : Field := ⟨1, (0x60000 + e * 0x200 + 0x004), 9, 2, 0, .ro⟩
/-- R322: VD_OE_STAT.SLEW_LIMITED [11] RO -/
def VD_OE_STAT_SLEW_LIMITED (e : Nat) : Field := ⟨1, (0x60000 + e * 0x200 + 0x004), 11, 1, 0, .ro⟩
/-- R322: VD_OE_STAT.SWAP_ACTIVE [12] RO -/
def VD_OE_STAT_SWAP_ACTIVE (e : Nat) : Field := ⟨1, (0x60000 + e * 0x200 + 0x004), 12, 1, 0, .ro⟩
/-- R322: VD_OE_STAT.TEMP_C [23:16] RO -/
def VD_OE_STAT_TEMP_C (e : Nat) : Field := ⟨1, (0x60000 + e * 0x200 + 0x004), 16, 8, 0, .ro⟩
/-- R322: VD_OE_HEAT.HEAT_PWR [15:0] RO -/
def VD_OE_HEAT_HEAT_PWR (e : Nat) : Field := ⟨1, (0x60000 + e * 0x200 + 0x008), 0, 16, 0, .ro⟩
/-- R322: VD_OE_IRQ.AGEING [0] W1C -/
def VD_OE_IRQ_AGEING (e : Nat) : Field := ⟨1, (0x60000 + e * 0x200 + 0x00C), 0, 1, 0, .w1c⟩
/-- R322: VD_OE_IRQ.SWAP_DUE [1] W1C -/
def VD_OE_IRQ_SWAP_DUE (e : Nat) : Field := ⟨1, (0x60000 + e * 0x200 + 0x00C), 1, 1, 0, .w1c⟩
/-- R322: VD_OE_IRQ.SWAPPED [2] W1C -/
def VD_OE_IRQ_SWAPPED (e : Nat) : Field := ⟨1, (0x60000 + e * 0x200 + 0x00C), 2, 1, 0, .w1c⟩
/-- R322: VD_OE_IRQ.WRONG_LINE [3] W1C -/
def VD_OE_IRQ_WRONG_LINE (e : Nat) : Field := ⟨1, (0x60000 + e * 0x200 + 0x00C), 3, 1, 0, .w1c⟩
/-- R322: VD_OE_IRQ.SPARES_OUT [4] W1C -/
def VD_OE_IRQ_SPARES_OUT (e : Nat) : Field := ⟨1, (0x60000 + e * 0x200 + 0x00C), 4, 1, 0, .w1c⟩
/-- R322: VD_OE_IRQ.LASER_FAULT [5] W1C -/
def VD_OE_IRQ_LASER_FAULT (e : Nat) : Field := ⟨1, (0x60000 + e * 0x200 + 0x00C), 5, 1, 0, .w1c⟩
/-- R322: VD_OE_IRQ.SEARCH_FAIL [6] W1C -/
def VD_OE_IRQ_SEARCH_FAIL (e : Nat) : Field := ⟨1, (0x60000 + e * 0x200 + 0x00C), 6, 1, 0, .w1c⟩
/-- R322: VD_OE_IRQ_EN.EN [6:0] RW -/
def VD_OE_IRQ_EN_EN (e : Nat) : Field := ⟨1, (0x60000 + e * 0x200 + 0x010), 0, 7, 127, .rw⟩
/-- R322: VD_OE_CNT.SWAPS [15:0] RO -/
def VD_OE_CNT_SWAPS (e : Nat) : Field := ⟨1, (0x60000 + e * 0x200 + 0x014), 0, 16, 0, .ro⟩
/-- R322: VD_OE_CNT.WRONG_LINE [31:16] RC -/
def VD_OE_CNT_WRONG_LINE (e : Nat) : Field := ⟨1, (0x60000 + e * 0x200 + 0x014), 16, 16, 0, .rc⟩
/-- R322: VD_OE_LINEl_STAT.LSTATE [3:0] RO -/
def VD_OE_LINEl_STAT_LSTATE (e l : Nat) : Field := ⟨1, (0x60040 + e * 0x200 + l * 0x10 + 0x0), 0, 4, 0, .ro⟩
/-- R322: VD_OE_LINEl_STAT.CHAN [7:4] RO -/
def VD_OE_LINEl_STAT_CHAN (e l : Nat) : Field := ⟨1, (0x60040 + e * 0x200 + l * 0x10 + 0x0), 4, 4, 15, .ro⟩
/-- R322: VD_OE_LINEl_STAT.TONE_OK [8] RO -/
def VD_OE_LINEl_STAT_TONE_OK (e l : Nat) : Field := ⟨1, (0x60040 + e * 0x200 + l * 0x10 + 0x0), 8, 1, 0, .ro⟩
/-- R322: VD_OE_LINEl_STAT.TUNABLE [9] RO (fuse) -/
def VD_OE_LINEl_STAT_TUNABLE (e l : Nat) : Field := ⟨1, (0x60040 + e * 0x200 + l * 0x10 + 0x0), 9, 1, (if e = 8 ∨ 8 ≤ l then 1 else 0), .ro⟩
/-- R322: VD_OE_LINEl_PWR.PWR [15:0] RO -/
def VD_OE_LINEl_PWR_PWR (e l : Nat) : Field := ⟨1, (0x60040 + e * 0x200 + l * 0x10 + 0x4), 0, 16, 0, .ro⟩
/-- R322: VD_OE_LINEl_PWR.BIAS [31:16] RO -/
def VD_OE_LINEl_PWR_BIAS (e l : Nat) : Field := ⟨1, (0x60040 + e * 0x200 + l * 0x10 + 0x4), 16, 16, 0, .ro⟩
/-- R322: VD_OE_LINEl_LIT.LIT_H [23:0] RO -/
def VD_OE_LINEl_LIT_LIT_H (e l : Nat) : Field := ⟨1, (0x60040 + e * 0x200 + l * 0x10 + 0x8), 0, 24, 0, .ro⟩
/-- R322: VD_OE_LINEl_FADE.RATE [15:0] RO -/
def VD_OE_LINEl_FADE_RATE (e l : Nat) : Field := ⟨1, (0x60040 + e * 0x200 + l * 0x10 + 0xC), 0, 16, 0, .ro⟩
/-- R322: VD_OE_LINEl_FADE.DAYS [31:16] RO -/
def VD_OE_LINEl_FADE_DAYS (e l : Nat) : Field := ⟨1, (0x60040 + e * 0x200 + l * 0x10 + 0xC), 16, 16, 65535, .ro⟩
/-- R322: VD_OPT_CFG.P_TGT [15:0] RO (prof) -/
def VD_OPT_CFG_P_TGT : Field := ⟨1, 0x61200, 0, 16, 800, .ro⟩
/-- R322: VD_OPT_CFG.WARN_DROP [23:16] RO (prof) -/
def VD_OPT_CFG_WARN_DROP : Field := ⟨1, 0x61200, 16, 8, 20, .ro⟩
/-- R322: VD_OPT_CFG.SWAP_DROP [31:24] RO (prof) -/
def VD_OPT_CFG_SWAP_DROP : Field := ⟨1, 0x61200, 24, 8, 40, .ro⟩
/-- R322: VD_OPT_CFG2.FORCE_DROP [7:0] RO (prof) -/
def VD_OPT_CFG2_FORCE_DROP : Field := ⟨1, 0x61204, 0, 8, 60, .ro⟩
/-- R322: VD_OPT_CFG2.BIAS_WARN_PCT [14:8] RO (prof) -/
def VD_OPT_CFG2_BIAS_WARN_PCT : Field := ⟨1, 0x61204, 8, 7, 85, .ro⟩
/-- R322: VD_OPT_CFG2.BIAS_MAX [31:16] RO (prof) -/
def VD_OPT_CFG2_BIAS_MAX : Field := ⟨1, 0x61204, 16, 16, 65535, .ro⟩
/-- R322: VD_OPT_CFG3.SWAP_WAIT_S [15:0] RO (prof) -/
def VD_OPT_CFG3_SWAP_WAIT_S : Field := ⟨1, 0x61208, 0, 16, 3600, .ro⟩
/-- R322: VD_OPT_CFG3.HEAT_SLEW [23:16] RO (prof) -/
def VD_OPT_CFG3_HEAT_SLEW : Field := ⟨1, 0x61208, 16, 8, 8, .ro⟩
/-- R322: VD_OPT_QUIET_CNT.ACCEPTED [15:0] RC -/
def VD_OPT_QUIET_CNT_ACCEPTED : Field := ⟨1, 0x6120c, 0, 16, 0, .rc⟩
/-- R322: VD_OPT_QUIET_CNT.LATE [31:16] RC -/
def VD_OPT_QUIET_CNT_LATE : Field := ⟨1, 0x6120c, 16, 16, 0, .rc⟩
/-- R322: VD_OCSo_CTRL.ARM [0] WO -/
def VD_OCSo_CTRL_ARM (i : Nat) : Field := ⟨1, (0x61300 + i * 0x20 + 0x00), 0, 1, 0, .wo⟩
/-- R322: VD_OCSo_CTRL.CANCEL [1] WO -/
def VD_OCSo_CTRL_CANCEL (i : Nat) : Field := ⟨1, (0x61300 + i * 0x20 + 0x00), 1, 1, 0, .wo⟩
/-- R322: VD_OCSo_CTRL.MODE [2] RW -/
def VD_OCSo_CTRL_MODE (i : Nat) : Field := ⟨1, (0x61300 + i * 0x20 + 0x00), 2, 1, 0, .rw⟩
/-- R322: VD_OCSo_CTRL.POLARITY [3] RW -/
def VD_OCSo_CTRL_POLARITY (i : Nat) : Field := ⟨1, (0x61300 + i * 0x20 + 0x00), 3, 1, 0, .rw⟩
/-- R322: VD_OCSo_CTRL.UP_MASK [5:4] RW -/
def VD_OCSo_CTRL_UP_MASK (i : Nat) : Field := ⟨1, (0x61300 + i * 0x20 + 0x00), 4, 2, 0, .rw⟩
/-- R322: VD_OCSo_AT_NS.NS [31:0] RW -/
def VD_OCSo_AT_NS_NS (i : Nat) : Field := ⟨1, (0x61300 + i * 0x20 + 0x04), 0, 32, 0, .rw⟩
/-- R322: VD_OCSo_AT_SEC_LO.SEC_LO [31:0] RW -/
def VD_OCSo_AT_SEC_LO_SEC_LO (i : Nat) : Field := ⟨1, (0x61300 + i * 0x20 + 0x08), 0, 32, 0, .rw⟩
/-- R322: VD_OCSo_AT_SEC_HI.SEC_HI [15:0] RW -/
def VD_OCSo_AT_SEC_HI_SEC_HI (i : Nat) : Field := ⟨1, (0x61300 + i * 0x20 + 0x0C), 0, 16, 0, .rw⟩
/-- R322: VD_OCSo_PORTS_LO.PORTS [31:0] RW -/
def VD_OCSo_PORTS_LO_PORTS (i : Nat) : Field := ⟨1, (0x61300 + i * 0x20 + 0x10), 0, 32, 0, .rw⟩
/-- R322: VD_OCSo_PORTS_HI.PORTS [31:0] RW -/
def VD_OCSo_PORTS_HI_PORTS (i : Nat) : Field := ⟨1, (0x61300 + i * 0x20 + 0x14), 0, 32, 0, .rw⟩
/-- R322: VD_OCSo_TIMING.WIDTH_US [15:0] RW -/
def VD_OCSo_TIMING_WIDTH_US (i : Nat) : Field := ⟨1, (0x61300 + i * 0x20 + 0x18), 0, 16, 10, .rw⟩
/-- R322: VD_OCSo_TIMING.SETTLE_MS [31:16] RW -/
def VD_OCSo_TIMING_SETTLE_MS (i : Nat) : Field := ⟨1, (0x61300 + i * 0x20 + 0x18), 16, 16, 50, .rw⟩
/-- R322: VD_OCSo_STAT.ARMED [0] RO -/
def VD_OCSo_STAT_ARMED (i : Nat) : Field := ⟨1, (0x61300 + i * 0x20 + 0x1C), 0, 1, 0, .ro⟩
/-- R322: VD_OCSo_STAT.WAITING [1] RO -/
def VD_OCSo_STAT_WAITING (i : Nat) : Field := ⟨1, (0x61300 + i * 0x20 + 0x1C), 1, 1, 0, .ro⟩
/-- R322: VD_OCSo_STAT.FIRED [2] W1C -/
def VD_OCSo_STAT_FIRED (i : Nat) : Field := ⟨1, (0x61300 + i * 0x20 + 0x1C), 2, 1, 0, .w1c⟩
/-- R322: VD_OCSo_STAT.CFG_ERR [3] W1C -/
def VD_OCSo_STAT_CFG_ERR (i : Nat) : Field := ⟨1, (0x61300 + i * 0x20 + 0x1C), 3, 1, 0, .w1c⟩
/-- R322: VD_OCSo_STAT.LATE [4] W1C -/
def VD_OCSo_STAT_LATE (i : Nat) : Field := ⟨1, (0x61300 + i * 0x20 + 0x1C), 4, 1, 0, .w1c⟩
/-- R322: VD_OCSo_STAT.FIRES [15:8] RO -/
def VD_OCSo_STAT_FIRES (i : Nat) : Field := ⟨1, (0x61300 + i * 0x20 + 0x1C), 8, 8, 0, .ro⟩
/-- R346: VD_HM_CFG.PROBATION [7:0] RO (prof) -/
def VD_HM_CFG_PROBATION : Field := ⟨1, 0x70000, 0, 8, 160, .ro⟩
/-- R346: VD_HM_CFG.EXPEL [15:8] RO (prof) -/
def VD_HM_CFG_EXPEL : Field := ⟨1, 0x70000, 8, 8, 64, .ro⟩
/-- R346: VD_HM_CFG.REJOIN [23:16] RO (prof) -/
def VD_HM_CFG_REJOIN : Field := ⟨1, 0x70000, 16, 8, 128, .ro⟩
/-- R346: VD_HM_CFG.EXPEL_RATE [27:24] RO (prof) -/
def VD_HM_CFG_EXPEL_RATE : Field := ⟨1, 0x70000, 24, 4, 4, .ro⟩
/-- R346: VD_HM_CFG.MIN_SEV [30:28] RO (prof) -/
def VD_HM_CFG_MIN_SEV : Field := ⟨1, 0x70000, 28, 3, 1, .ro⟩
/-- R346: VD_HM_CFG2.RECOVER_MIN [9:0] RO (prof) -/
def VD_HM_CFG2_RECOVER_MIN : Field := ⟨1, 0x70004, 0, 10, 60, .ro⟩
/-- R346: VD_HM_CFG2.PROB_H [19:10] RO (prof) -/
def VD_HM_CFG2_PROB_H : Field := ⟨1, 0x70004, 10, 10, 72, .ro⟩
/-- R346: VD_HM_CFG2.COMMON_DIES [31:20] RO (prof) -/
def VD_HM_CFG2_COMMON_DIES : Field := ⟨1, 0x70004, 20, 12, 40, .ro⟩
/-- R346: VD_HM_SPARES.AVAIL [15:0] RO -/
def VD_HM_SPARES_AVAIL : Field := ⟨1, 0x70008, 0, 16, 0, .ro⟩
/-- R346: VD_HM_SPARES.FLOOR [31:16] RO (prof) -/
def VD_HM_SPARES_FLOOR : Field := ⟨1, 0x70008, 16, 16, 2, .ro⟩
/-- R346: VD_HM_STAT.PROBATION [11:0] RO -/
def VD_HM_STAT_PROBATION : Field := ⟨1, 0x7000c, 0, 12, 0, .ro⟩
/-- R346: VD_HM_STAT.PENDING [23:12] RO -/
def VD_HM_STAT_PENDING : Field := ⟨1, 0x7000c, 12, 12, 0, .ro⟩
/-- R346: VD_HM_STAT.HOLD [24] RO -/
def VD_HM_STAT_HOLD : Field := ⟨1, 0x7000c, 24, 1, 0, .ro⟩
/-- R346: VD_HM_STAT.RATE_LIMITED [25] RO -/
def VD_HM_STAT_RATE_LIMITED : Field := ⟨1, 0x7000c, 25, 1, 0, .ro⟩
/-- R346: VD_HM_STAT.SPARE_LOW [26] RO -/
def VD_HM_STAT_SPARE_LOW : Field := ⟨1, 0x7000c, 26, 1, 0, .ro⟩
/-- R346: VD_HM_IRQ.EXPELLED [0] W1C -/
def VD_HM_IRQ_EXPELLED : Field := ⟨1, 0x70010, 0, 1, 0, .w1c⟩
/-- R346: VD_HM_IRQ.PENDING [1] W1C -/
def VD_HM_IRQ_PENDING : Field := ⟨1, 0x70010, 1, 1, 0, .w1c⟩
/-- R346: VD_HM_IRQ.COMMON_CAUSE [2] W1C -/
def VD_HM_IRQ_COMMON_CAUSE : Field := ⟨1, 0x70010, 2, 1, 0, .w1c⟩
/-- R346: VD_HM_IRQ.SILENT [3] W1C -/
def VD_HM_IRQ_SILENT : Field := ⟨1, 0x70010, 3, 1, 0, .w1c⟩
/-- R346: VD_HM_IRQ.LOG_LOSS [4] W1C -/
def VD_HM_IRQ_LOG_LOSS : Field := ⟨1, 0x70010, 4, 1, 0, .w1c⟩
/-- R346: VD_HM_IRQ.KAT_FAIL [5] W1C -/
def VD_HM_IRQ_KAT_FAIL : Field := ⟨1, 0x70010, 5, 1, 0, .w1c⟩
/-- R346: VD_HM_IRQ_EN.EN [5:0] RW -/
def VD_HM_IRQ_EN_EN : Field := ⟨1, 0x70014, 0, 6, 63, .rw⟩
/-- R346: VD_HM_EXPEL_CNT.LAST_HOUR [15:0] RO -/
def VD_HM_EXPEL_CNT_LAST_HOUR : Field := ⟨1, 0x70018, 0, 16, 0, .ro⟩
/-- R346: VD_HM_EXPEL_CNT.TOTAL [31:16] RO -/
def VD_HM_EXPEL_CNT_TOTAL : Field := ⟨1, 0x70018, 16, 16, 0, .ro⟩
/-- R346: VD_HM_RATE_DROP.REPORTS [31:0] RC -/
def VD_HM_RATE_DROP_REPORTS : Field := ⟨1, 0x7001c, 0, 32, 0, .rc⟩
/-- R346: VD_HM_DIEn.SCORE [7:0] RO -/
def VD_HM_DIEn_SCORE (i : Nat) : Field := ⟨1, (0x71000 + i * 4), 0, 8, 255, .ro⟩
/-- R346: VD_HM_DIEn.HSTATE [10:8] RO -/
def VD_HM_DIEn_HSTATE (i : Nat) : Field := ⟨1, (0x71000 + i * 4), 8, 3, 0, .ro⟩
/-- R346: VD_HM_DIEn.CAUSE [15:11] RO -/
def VD_HM_DIEn_CAUSE (i : Nat) : Field := ⟨1, (0x71000 + i * 4), 11, 5, 0, .ro⟩
/-- R346: VD_HM_DIEn.DECIDER [16] RO -/
def VD_HM_DIEn_DECIDER (i : Nat) : Field := ⟨1, (0x71000 + i * 4), 16, 1, 0, .ro⟩
/-- R346: VD_HM_DIEn.TRIPPED [17] RO -/
def VD_HM_DIEn_TRIPPED (i : Nat) : Field := ⟨1, (0x71000 + i * 4), 17, 1, 0, .ro⟩
/-- R346: VD_HM_DIEn.FENCED [18] RO -/
def VD_HM_DIEn_FENCED (i : Nat) : Field := ⟨1, (0x71000 + i * 4), 18, 1, 0, .ro⟩
/-- R346: VD_HM_DIEn.SILENT [19] RO -/
def VD_HM_DIEn_SILENT (i : Nat) : Field := ⟨1, (0x71000 + i * 4), 19, 1, 0, .ro⟩
/-- R346: VD_HM_DIEn.CHAIN [20] RO -/
def VD_HM_DIEn_CHAIN (i : Nat) : Field := ⟨1, (0x71000 + i * 4), 20, 1, 0, .ro⟩
/-- R346: VD_HM_DIEn.SINGLE [21] RO -/
def VD_HM_DIEn_SINGLE (i : Nat) : Field := ⟨1, (0x71000 + i * 4), 21, 1, 0, .ro⟩
/-- R346: VD_HM_DIEn.KAT_FAILS [25:22] RO -/
def VD_HM_DIEn_KAT_FAILS (i : Nat) : Field := ⟨1, (0x71000 + i * 4), 22, 4, 0, .ro⟩
/-- R346: VD_LOG_STAT.USED [16:0] RO -/
def VD_LOG_STAT_USED : Field := ⟨1, 0x80000, 0, 17, 0, .ro⟩
/-- R346: VD_LOG_STAT.RESERVE [17] RO -/
def VD_LOG_STAT_RESERVE : Field := ⟨1, 0x80000, 17, 1, 0, .ro⟩
/-- R346: VD_LOG_WR.SEQ [31:0] RO -/
def VD_LOG_WR_SEQ : Field := ⟨1, 0x80004, 0, 32, 0, .ro⟩
/-- R346: VD_LOG_RD.SEQ [31:0] RW -/
def VD_LOG_RD_SEQ : Field := ⟨1, 0x80008, 0, 32, 0, .rw⟩
/-- R346: VD_LOG_LOST.LOW [15:0] RC -/
def VD_LOG_LOST_LOW : Field := ⟨1, 0x8000c, 0, 16, 0, .rc⟩
/-- R346: VD_LOG_LOST.HIGH [31:16] RC -/
def VD_LOG_LOST_HIGH : Field := ⟨1, 0x8000c, 16, 16, 0, .rc⟩
/-- R346: VD_LOG_SEL.SEQ [31:0] RW -/
def VD_LOG_SEL_SEQ : Field := ⟨1, 0x80010, 0, 32, 0, .rw⟩
/-- R346: VD_LOG_VIEW.VALID [0] RO -/
def VD_LOG_VIEW_VALID : Field := ⟨1, 0x80014, 0, 1, 0, .ro⟩
/-- R346: VD_LOG_ENTRYk.ENTRY [31:0] RO -/
def VD_LOG_ENTRYk_ENTRY (i : Nat) : Field := ⟨1, (0x80040 + i * 4), 0, 32, 0, .ro⟩
/-- R366: VD_ID.PART [15:0] RO (fuse) -/
def VD_ID_PART : Field := ⟨1, 0x0, 0, 16, 22084, .ro⟩
/-- R366: VD_ID.STEPPING [23:16] RO (fuse) -/
def VD_ID_STEPPING : Field := ⟨1, 0x0, 16, 8, (Config.stepping .verard).toNat, .ro⟩
/-- R366: VD_BOOT.STAGE [2:0] RO -/
def VD_BOOT_STAGE : Field := ⟨1, 0x4, 0, 3, 0, .ro⟩
/-- R366: VD_BOOT.FAULT [6:3] RO -/
def VD_BOOT_FAULT : Field := ⟨1, 0x4, 3, 4, 0, .ro⟩
/-- R366: VD_BOOT.PROF [8:7] RO (prof) -/
def VD_BOOT_PROF : Field := ⟨1, 0x4, 7, 2, 0, .ro⟩
/-- R366: VD_BOOT.BANK [9] RO -/
def VD_BOOT_BANK : Field := ⟨1, 0x4, 9, 1, 0, .ro⟩
/-- R366: VD_RAIL.IN_TOL [5:0] RO -/
def VD_RAIL_IN_TOL : Field := ⟨1, 0x8, 0, 6, 0, .ro⟩
/-- R366: VD_RAIL.TJ_C [13:6] RO -/
def VD_RAIL_TJ_C : Field := ⟨1, 0x8, 6, 8, 0, .ro⟩
/-- R394: VD_CMD_REQ_LO.BASE_LO [31:12] RW -/
def VD_CMD_REQ_LO_BASE_LO : Field := ⟨1, 0x90000, 12, 20, 0, .rw⟩
/-- R394: VD_CMD_REQ_HI.BASE_HI [31:0] RW -/
def VD_CMD_REQ_HI_BASE_HI : Field := ⟨1, 0x90004, 0, 32, 0, .rw⟩
/-- R394: VD_CMD_REQ_CFG.LOG2 [3:0] RW -/
def VD_CMD_REQ_CFG_LOG2 : Field := ⟨1, 0x90008, 0, 4, 0, .rw⟩
/-- R394: VD_CMD_REQ_CFG.ENABLE [4] RW -/
def VD_CMD_REQ_CFG_ENABLE : Field := ⟨1, 0x90008, 4, 1, 0, .rw⟩
/-- R394: VD_CMD_REQ_TAIL.TAIL [9:0] RW -/
def VD_CMD_REQ_TAIL_TAIL : Field := ⟨1, 0x9000c, 0, 10, 0, .rw⟩
/-- R394: VD_CMD_REQ_HEAD.HEAD [9:0] RO -/
def VD_CMD_REQ_HEAD_HEAD : Field := ⟨1, 0x90010, 0, 10, 0, .ro⟩
/-- R394: VD_CMD_RSP_LO.BASE_LO [31:12] RW -/
def VD_CMD_RSP_LO_BASE_LO : Field := ⟨1, 0x90014, 12, 20, 0, .rw⟩
/-- R394: VD_CMD_RSP_HI.BASE_HI [31:0] RW -/
def VD_CMD_RSP_HI_BASE_HI : Field := ⟨1, 0x90018, 0, 32, 0, .rw⟩
/-- R394: VD_CMD_RSP_CFG.LOG2 [3:0] RW -/
def VD_CMD_RSP_CFG_LOG2 : Field := ⟨1, 0x9001c, 0, 4, 0, .rw⟩
/-- R394: VD_CMD_RSP_CFG.ENABLE [4] RW -/
def VD_CMD_RSP_CFG_ENABLE : Field := ⟨1, 0x9001c, 4, 1, 0, .rw⟩
/-- R394: VD_CMD_RSP_CFG.VECTOR [9:5] RW -/
def VD_CMD_RSP_CFG_VECTOR : Field := ⟨1, 0x9001c, 5, 5, 0, .rw⟩
/-- R394: VD_CMD_RSP_TAIL.TAIL [9:0] RO -/
def VD_CMD_RSP_TAIL_TAIL : Field := ⟨1, 0x90020, 0, 10, 0, .ro⟩
/-- R394: VD_CMD_RSP_TAIL.PHASE [10] RO -/
def VD_CMD_RSP_TAIL_PHASE : Field := ⟨1, 0x90020, 10, 1, 1, .ro⟩
/-- R394: VD_CMD_RSP_HEAD.HEAD [9:0] RW -/
def VD_CMD_RSP_HEAD_HEAD : Field := ⟨1, 0x90024, 0, 10, 0, .rw⟩
/-- R394: VD_CMD_IRQ.REPLY [0] W1C -/
def VD_CMD_IRQ_REPLY : Field := ⟨1, 0x90028, 0, 1, 0, .w1c⟩
/-- R394: VD_CMD_IRQ.REQ_ERR [1] W1C -/
def VD_CMD_IRQ_REQ_ERR : Field := ⟨1, 0x90028, 1, 1, 0, .w1c⟩
/-- R394: VD_CMD_IRQ.DROP [2] W1C -/
def VD_CMD_IRQ_DROP : Field := ⟨1, 0x90028, 2, 1, 0, .w1c⟩
/-- R394: VD_CMD_IRQ_EN.EN [2:0] RW -/
def VD_CMD_IRQ_EN_EN : Field := ⟨1, 0x9002c, 0, 3, 7, .rw⟩
/-- R394: VD_CMD_HELD.HELD [6:0] RO -/
def VD_CMD_HELD_HELD : Field := ⟨1, 0x90030, 0, 7, 0, .ro⟩
/-- R420: VD_IRQ_STAT.REF [0] RO -/
def VD_IRQ_STAT_REF : Field := ⟨1, 0x20, 0, 1, 0, .ro⟩
/-- R420: VD_IRQ_STAT.MEAS [1] RO -/
def VD_IRQ_STAT_MEAS : Field := ⟨1, 0x20, 1, 1, 0, .ro⟩
/-- R420: VD_IRQ_STAT.PORT [2] RO -/
def VD_IRQ_STAT_PORT : Field := ⟨1, 0x20, 2, 1, 0, .ro⟩
/-- R420: VD_IRQ_STAT.OPT [3] RO -/
def VD_IRQ_STAT_OPT : Field := ⟨1, 0x20, 3, 1, 0, .ro⟩
/-- R420: VD_IRQ_STAT.OCS [4] RO -/
def VD_IRQ_STAT_OCS : Field := ⟨1, 0x20, 4, 1, 0, .ro⟩
/-- R420: VD_IRQ_STAT.HM [5] RO -/
def VD_IRQ_STAT_HM : Field := ⟨1, 0x20, 5, 1, 0, .ro⟩
/-- R420: VD_IRQ_MASK.MASK [5:0] RW -/
def VD_IRQ_MASK_MASK : Field := ⟨1, 0x24, 0, 6, 63, .rw⟩
/-- R420: VD_IRQ_VEC.REF_VEC [4:0] RW -/
def VD_IRQ_VEC_REF_VEC : Field := ⟨1, 0x28, 0, 5, 1, .rw⟩
/-- R420: VD_IRQ_VEC.MEAS_VEC [9:5] RW -/
def VD_IRQ_VEC_MEAS_VEC : Field := ⟨1, 0x28, 5, 5, 2, .rw⟩
/-- R420: VD_IRQ_VEC.PORT_VEC [14:10] RW -/
def VD_IRQ_VEC_PORT_VEC : Field := ⟨1, 0x28, 10, 5, 3, .rw⟩
/-- R420: VD_IRQ_VEC.OPT_VEC [19:15] RW -/
def VD_IRQ_VEC_OPT_VEC : Field := ⟨1, 0x28, 15, 5, 4, .rw⟩
/-- R420: VD_IRQ_VEC.OCS_VEC [24:20] RW -/
def VD_IRQ_VEC_OCS_VEC : Field := ⟨1, 0x28, 20, 5, 5, .rw⟩
/-- R420: VD_IRQ_VEC.HM_VEC [29:25] RW -/
def VD_IRQ_VEC_HM_VEC : Field := ⟨1, 0x28, 25, 5, 6, .rw⟩
/-- R425: VD_PROF_CTRL.PROGRAM [0] WO -/
def VD_PROF_CTRL_PROGRAM : Field := ⟨1, 0xa2000, 0, 1, 0, .wo⟩
/-- R425: VD_PROF_CTRL.RELOAD [1] WO -/
def VD_PROF_CTRL_RELOAD : Field := ⟨1, 0xa2000, 1, 1, 0, .wo⟩
/-- R425: VD_PROF_CTRL.BUSY [2] RO -/
def VD_PROF_CTRL_BUSY : Field := ⟨1, 0xa2000, 2, 1, 0, .ro⟩
/-- R425: VD_PROF_CTRL.DONE [3] W1C -/
def VD_PROF_CTRL_DONE : Field := ⟨1, 0xa2000, 3, 1, 0, .w1c⟩
/-- R425: VD_PROF_CTRL.RESULT [6:4] RO -/
def VD_PROF_CTRL_RESULT : Field := ⟨1, 0xa2000, 4, 3, 0, .ro⟩
/-- R425: VD_PROF_CTRL.LOADED [7] RO -/
def VD_PROF_CTRL_LOADED : Field := ⟨1, 0xa2000, 7, 1, 0, .ro⟩
/-- R425: VD_PROF_CTRL.FALLBACK [8] RO -/
def VD_PROF_CTRL_FALLBACK : Field := ⟨1, 0xa2000, 8, 1, 0, .ro⟩

end Sys2Proof.Machine.R
end

