-- ==== Sys2Proof/Machine/RegMap.lean ====
section
/-! DEFINITION. The register maps of R417: which fields lie at an offset, and which offsets are mapped. -/

namespace Sys2Proof.Machine

open Sys2Proof

/-- The fields at `off` of the blocks that begin at `base`, `stride` bytes apart, `n` of them. -/
def block (off base stride n : Nat) (f : Nat → List Field) : List Field :=
  if base ≤ off ∧ off < base + stride * n then (f ((off - base) / stride)).filter (fun x => x.off == off) else []

/-- The single registers of the Lotik window, part 0. -/
def lkPlain0 : List Field :=
  [R.LK_TOPO_UA, R.LK_TOPO_ROLE, R.LK_TOPO_UA_VALID, R.LK_TOPO_RING_CHAIN, R.LK_TOPO_MASTER, R.LK_TOPO_SIDE_MISMATCH, R.LK_TOPO_ROLE_CONFLICT, R.LK_TOPO_HOMING_MISMATCH, R.LK_TIME_HOLD_EST_PS, R.LK_RING_STAT_E_STATE, R.LK_RING_STAT_W_STATE, R.LK_RING_STAT_E_FAULT] ++
  [R.LK_RING_STAT_W_FAULT, R.LK_RING_STAT_FOLLOW, R.LK_RING_STAT_HOPS, R.LK_RING_STAT_RING_SIZE, R.LK_RING_STAT_ENUM, R.LK_RING_CNT_CRC_ERR, R.LK_RING_CNT_REPLAY, R.LK_RING_MASTER_OFS_OFS_PS, R.LK_RING_HOP_E_HOP_PS, R.LK_RING_HOP_W_HOP_PS, R.LK_STEP_CTRL_STEP_DONE, R.LK_STEP_CTRL_HOST_ABORT] ++
  [R.LK_STEP_STAT_SLOT0_STATE, R.LK_STEP_STAT_SLOT1_STATE, R.LK_STEP_STAT_ACTIVE, R.LK_STEP_STAT_ENDED, R.LK_STEP_STAT_GATE_PENDING, R.LK_STEP_STAT_PROG_WR_ERR, R.LK_STEP_STAT_CAUSE, R.LK_STEP_LO_STEP_LO, R.LK_STEP_HI_STEP_HI, R.LK_MARK_NS_NS, R.LK_MARK_SEC_LO_SEC_LO, R.LK_MARK_SEC_HI_SEC_HI] ++
  [R.LK_NEXT_NS_NS, R.LK_NEXT_SEC_LO_SEC_LO, R.LK_NEXT_SEC_HI_SEC_HI, R.LK_NEXT_SEC_HI_KNOWN, R.LK_JOB_ID_GID, R.LK_JOB_ID_GEN, R.LK_JOB_T0_NS_NS, R.LK_JOB_T0_SEC_LO_SEC_LO, R.LK_JOB_T0_SEC_HI_SEC_HI, R.LK_WP_PC_PC, R.LK_WP_PC_DEPTH, R.LK_WP_FETCH_AHEAD] ++
  [R.LK_MARK_CNT_LATE, R.LK_MARK_CNT_OVERRUN, R.LK_DEFER_TOTAL_TICKS, R.LK_FAULT_PC_PC, R.LK_SYNC_STAT_WAITERS_USED, R.LK_SYNC_STAT_PEND_USED, R.LK_SYNC_STAT_PEND_FULL, R.LK_SYNC_IRQ_UNDERFLOW, R.LK_SYNC_IRQ_OVERFLOW, R.LK_SYNC_IRQ_SATURATED, R.LK_SYNC_IRQ_AHEAD, R.LK_SYNC_IRQ_LINK_FAULT] ++
  [R.LK_SYNC_IRQ_PEND_STALE, R.LK_SYNC_IRQ_WAITER_FULL, R.LK_SYNC_IRQ_SAVE_DONE, R.LK_SYNC_IRQ_EN_EN, R.LK_SYNC_FAULT_OBJECT, R.LK_SYNC_FAULT_CODE, R.LK_SYNC_OPRES_STATUS, R.LK_SYNC_OPRES_OBJECT, R.LK_SYNC_OPVAL_VALUE, R.LK_SYNC_LIMITS_PEND_LIMIT_US, R.LK_SYNC_SAVE_LO_BASE_LO, R.LK_SYNC_SAVE_HI_BASE_HI] ++
  [R.LK_SYNC_SAVE_RANGE_FIRST, R.LK_SYNC_SAVE_RANGE_COUNT, R.LK_SYNC_SAVE_CTRL_SAVE, R.LK_SYNC_SAVE_CTRL_RESTORE, R.LK_SYNC_SAVE_CTRL_BUSY, R.LK_SYNC_SAVE_CTRL_DONE, R.LK_SYNC_SAVE_CTRL_RESULT, R.LK_SYNC_SAVE_FLOWS_FLOW_FIRST]

/-- The single registers of the Lotik window, part 1. -/
def lkPlain1 : List Field :=
  [R.LK_SYNC_SAVE_FLOWS_FLOW_COUNT, R.LK_SYNC_SAVE_LEN_BYTES, R.LK_SYNC_FLOW_FLOW, R.LK_SYNC_FLOW_RESET, R.LK_SYNC_DBG_SEL_OBJECT, R.LK_SYNC_DBG_VALUE_VALUE, R.LK_SYNC_DBG_CFG_CFG, R.LK_SYNC_DBG_STAT_STAT, R.LK_SYNC_DBG_COUNTS_WAITERS, R.LK_SYNC_DBG_COUNTS_PENDING, R.LK_SYNC_DBG_LS_WHO_CTX, R.LK_SYNC_DBG_LS_WHO_SRC] ++
  [R.LK_SYNC_DBG_LS_WHO_OP, R.LK_SYNC_DBG_LS_UA_UA, R.LK_SYNC_DBG_LS_UA_FLOW, R.LK_SYNC_DBG_LS_STEP_LO_STEP_LO, R.LK_SYNC_DBG_LS_STEP_HI_STEP_HI, R.LK_SYNC_DBG_LS_TICK_LO_TICK_LO, R.LK_SYNC_DBG_LS_TICK_HI_TICK_HI, R.LK_GQ_STAT_BOUND, R.LK_GQ_STAT_HEAD_USED, R.LK_GQ_IRQ_COMPLETE, R.LK_GQ_IRQ_FAULT, R.LK_GQ_IRQ_DROP] ++
  [R.LK_GQ_IRQ_STALL, R.LK_GQ_IRQ_ERR, R.LK_GQ_IRQ_EN_EN, R.LK_GQ_LAST_QUEUE, R.LK_GQ_DROP_STALE, R.LK_GQ_DROP_EARLY, R.LK_GQ_BASIN_USED, R.LK_GQ_ERR_QUEUE, R.LK_GQ_ERR_CAUSE, R.LK_CS_CFG_BASE_OP, R.LK_CS_CFG_SAFE_OP, R.LK_CS_CFG_VSETTLE_US] ++
  [R.LK_CS_CFG_DROOP_MV, R.LK_CS_CFG_HYST_MV, R.LK_CS_CFG_MARGIN_WARN, R.LK_CS_CFG2_STR_WARN_PPM, R.LK_CS_CFG2_MARGIN_ERR_LIMIT, R.LK_CS_STAT_CUR_OP, R.LK_CS_STAT_NEXT_OP, R.LK_CS_STAT_NEXT_VALID, R.LK_CS_STAT_READY, R.LK_CS_STAT_OP_CEIL, R.LK_CS_STAT_REGIONS, R.LK_CS_STAT_NOT_GRID] ++
  [R.LK_CS_NEXT_NS_NS, R.LK_CS_NEXT_SEC_LO_SEC_LO, R.LK_CS_NEXT_SEC_HI_SEC_HI, R.LK_CS_IRQ_LOR, R.LK_CS_IRQ_MARGIN_FAULT, R.LK_CS_IRQ_FENCE, R.LK_CS_IRQ_STR_WARN, R.LK_CS_IRQ_VID_FAULT, R.LK_CS_IRQ_SWITCH_DONE, R.LK_CS_IRQ_EN_EN, R.LK_CS_CNT_CHANGES, R.LK_CS_CNT_VID_FAULTS] ++
  [R.LK_CS_FENCE_CTRL_CORE, R.LK_CS_FENCE_CTRL_FENCE_CORE, R.LK_CS_FENCE_CTRL_FENCE_REGION, R.LK_CS_FENCE_DROP_DROPS, R.LK_PG_CFG_HARMONISE, R.LK_PG_CFG_BOOST_PCT, R.LK_PG_CFG_BOOST_MS, R.LK_PG_CFG_SLOPE_QW, R.LK_PG_CFG_OPDOWN_DENSITY, R.LK_PG_CFG2_OPDOWN_MS, R.LK_PG_CFG2_OPUP_MS, R.LK_PG_CFG2_TWARN_C] ++
  [R.LK_PG_DEFER_CFG_DEFER_MIN, R.LK_PG_DEFER_CFG_DEFER_MAX_US, R.LK_PG_CAP_CAP_1S, R.LK_PG_CAP_CAP_10S, R.LK_PG_STAT_CAPPING, R.LK_PG_STAT_BOOST_OPEN, R.LK_PG_STAT_BOOST_ARMED, R.LK_PG_STAT_CAP_UNREACHABLE]

/-- The single registers of the Lotik window, part 2. -/
def lkPlain2 : List Field :=
  [R.LK_PG_STAT_SLOPE_LIMITED, R.LK_PG_STAT_TWARN, R.LK_PG_STAT_TRIPPED, R.LK_PG_STAT_DET_SLOTS, R.LK_PG_STAT_MAX_DENSITY, R.LK_PG_STAT_HINT_PENDING, R.LK_PG_POWER_P_EST, R.LK_PG_POWER_P_LIMIT, R.LK_PG_AVG_AVG_1S, R.LK_PG_AVG_AVG_10S, R.LK_PG_FLOOR_FLOOR, R.LK_PG_FLOOR_SHORT] ++
  [R.LK_PG_TEMP_TEMP_C, R.LK_PG_TEMP_TMAX_C, R.LK_PG_TEMP_TCRIT_C, R.LK_PG_TEMP_HOT_REGION, R.LK_PG_IRQ_CAP_UNREACHABLE, R.LK_PG_IRQ_TWARN, R.LK_PG_IRQ_TRIP, R.LK_PG_IRQ_CAP_ERR, R.LK_PG_IRQ_DEFER_SENT, R.LK_PG_IRQ_BOOST, R.LK_PG_IRQ_CEIL, R.LK_PG_IRQ_EN_EN] ++
  [R.LK_PG_DEFER_CNT_REQUESTS, R.LK_PG_DEFER_CNT_APPLIED, R.LK_PG_JOB_UJ_LO_LO, R.LK_PG_JOB_UJ_HI_HI, R.LK_PG_TOTAL_UJ_LO_LO, R.LK_PG_TOTAL_UJ_HI_HI, R.LK_PG_MODEL_V_REF_MV, R.LK_DET_CFG_CANON_RECOVERY, R.LK_DET_CFG_DIG_QUEUE, R.LK_DET_PERIOD_PERIOD_NS, R.LK_DET_RANK_RANK_BASE, R.LK_DET_RANK_RANKS] ++
  [R.LK_DET_STAT_DETMODE, R.LK_DET_STAT_CANON, R.LK_DET_STAT_ALIGN_MISS, R.LK_DET_STAT_ALIGNED, R.LK_DET_STAT_INFLIGHT_AT_PAUSE, R.LK_DET_STAT_PAUSE_ARMED, R.LK_DET_STAT_LOADED, R.LK_DET_ALIGN_SKIPPED, R.LK_DET_ALIGN_MISSES, R.LK_DET_PAUSE_TOTAL_LO_LO, R.LK_DET_PAUSE_TOTAL_HI_HI, R.LK_DET_DIG_CNT_LATE] ++
  [R.LK_DET_DIG_CNT_DISCARDED, R.LK_DET_DIG_REQ_TAG, R.LK_DET_DIG_REQ_KIND, R.LK_DET_DIG_REQ_GO, R.LK_DET_DIG_REQ_BUSY, R.LK_DET_DIG_REQ_DONE, R.LK_DET_DIG_REQ_RESULT, R.LK_DET_DIG_RES_CNT_LO_LO, R.LK_DET_DIG_RES_CNT_HI_HI, R.LK_DET_SEED_RANK_RANK, R.LK_DET_SEED_STREAM_STREAM, R.LK_DET_SEED_STEP_LO_LO] ++
  [R.LK_DET_SEED_STEP_HI_HI, R.LK_DET_SEED_CTRL_GO, R.LK_DET_SEED_CTRL_PRESENT, R.LK_DET_SEED_CTRL_DONE, R.LK_DET_SEED_CTRL_NO_JOB, R.LK_HM_CFG_SOUND_PERIOD_S, R.LK_HM_CFG_KAT_AUTO, R.LK_HM_CFG_MIN_SEV, R.LK_HM_CFG_FWD_SEV, R.LK_HM_CFG_FWD_RATE, R.LK_HM_CFG2_ACT_FULL_W, R.LK_HM_CFG2_KAT_LIMIT_US] ++
  [R.LK_HM_SOUND_SOUND_NOW, R.LK_HM_SOUND_MASK, R.LK_HM_SOUND_BUSY, R.LK_HM_SOUND_DONE, R.LK_HM_STAT_HSTATE, R.LK_HM_STAT_CELL, R.LK_HM_STAT_KAT_PENDING, R.LK_HM_STAT_KAT_LAST]

/-- The single registers of the Lotik window, part 3. -/
def lkPlain3 : List Field :=
  [R.LK_HM_STAT_KAT_REGION, R.LK_HM_IRQ_MARGIN_LOW, R.LK_HM_IRQ_KAT_FAIL, R.LK_HM_IRQ_KAT_TIMEOUT, R.LK_HM_IRQ_HSTATE, R.LK_HM_IRQ_LOG_LOSS, R.LK_HM_IRQ_SPILL_ERR, R.LK_HM_IRQ_NEST_LIMIT, R.LK_HM_IRQ_EN_EN, R.LK_HM_KAT_SIG_LO_LO, R.LK_HM_KAT_SIG_HI_HI, R.LK_HM_NOFWD_SOUNDINGS] ++
  [R.LK_HM_NOFWD_ENTRIES, R.LK_LOG_CTRL_SPILL_EN, R.LK_LOG_CTRL_SPILL_LOG2, R.LK_LOG_STAT_USED, R.LK_LOG_STAT_RESERVE, R.LK_LOG_STAT_SPILL_ERR, R.LK_LOG_STAT_SPILL_FULL, R.LK_LOG_WR_SEQ, R.LK_LOG_RD_SEQ, R.LK_LOG_LOST_LOW, R.LK_LOG_LOST_HIGH, R.LK_LOG_SPILL_LO_BASE_LO] ++
  [R.LK_LOG_SPILL_HI_BASE_HI, R.LK_LOG_SPILL_HEAD_HEAD, R.LK_LOG_SPILL_TAIL_TAIL, R.LK_ID_PART, R.LK_ID_STEPPING, R.LK_ID_HOST_REGIONS, R.LK_ID_HOST_CORES, R.LK_BOOT_STAGE, R.LK_BOOT_FAULT, R.LK_BOOT_PROF, R.LK_BOOT_NEXT_PROF, R.LK_BOOT_PROF_DEFAULT] ++
  [R.LK_BOOT_PROF_TIMEOUT, R.LK_BOOT_PATCH, R.LK_PWR_TC_AWAKE, R.LK_PWR_LOGIC_AWAKE, R.LK_PWR_FCLK_LOSS, R.LK_WAKES_TC, R.LK_WAKES_LOGIC, R.LK_MBOX_CTRL_CLAIM, R.LK_MBOX_CTRL_SEND, R.LK_MBOX_CTRL_RELEASE, R.LK_MBOX_STAT_STATE, R.LK_MBOX_STAT_HELD] ++
  [R.LK_MBOX_IRQ_DELIVERED, R.LK_MBOX_IRQ_ERR, R.LK_MBOX_IRQ_DROP, R.LK_MBOX_IRQ_EN_EN, R.LK_IRQ_STAT_PENDING, R.LK_IRQ_MASK_MASK, R.LK_STEP_IRQ_FAULT, R.LK_STEP_IRQ_IDLE, R.LK_STEP_IRQ_LATE, R.LK_STEP_IRQ_OVERRUN, R.LK_STEP_IRQ_ENDED, R.LK_STEP_IRQ_EN_EN]

/-- The single registers (R417). -/
def lkPlain : List Field := lkPlain0 ++ lkPlain1 ++ lkPlain2 ++ lkPlain3

/-- The single registers of the Verard BARs, part 0. -/
def vdPlain0 : List Field :=
  [R.VD_TOPO_UA, R.VD_TOPO_ROLE, R.VD_TOPO_SIDE, R.VD_TOPO_UA_VALID, R.VD_TOPO_HOMING, R.VD_TOPO_TIME_PARENT, R.VD_TOPO_DEGRADED, R.VD_TOPO_SIDE_MISMATCH, R.VD_REF_CFG_REVERTIVE, R.VD_REF_CFG_PAIR, R.VD_REF_CFG_ASSIST, R.VD_REF_CFG_WTR_S] ++
  [R.VD_REF_CFG_QUAL_S, R.VD_REF_STAT_SELECTED, R.VD_REF_STAT_REF_STATE, R.VD_REF_STAT_PAIRED, R.VD_REF_STAT_ASSIST_ACTIVE, R.VD_REF_STAT_OCXO_WARM, R.VD_REF_STAT_OCXO_READY, R.VD_REF_STAT_OCXO_FAIL, R.VD_REF_STAT_TOD_VALID, R.VD_REF_STAT_SWITCHED, R.VD_REF_STAT_JUMP_REFUSED, R.VD_REF_STAT_SWITCH_COUNT] ++
  [R.VD_HOLD_EST_EST_PS, R.VD_HOLD_REMAIN_REMAIN_S, R.VD_HOLD_ELAPSED_ELAPSED_S, R.VD_HOLD_CFG_SPEC_NS, R.VD_HOLD_CFG_AGEING, R.VD_LOOP_FREQ_FREQ_PPT, R.VD_LOOP_PHASE_PHASE_PS, R.VD_JUMP_JUMP_NS, R.VD_JUMP_LAST_INPUT, R.VD_JUMP_REFUSALS, R.VD_JUMP_LAST_LAST_NS, R.VD_BEARING_RES_RES_PS] ++
  [R.VD_OUT_CTRL_PPS_EN, R.VD_OUT_CTRL_F10M_EN, R.VD_OUT_CTRL_REALIGN, R.VD_OUT_STAT_ALIGNED, R.VD_OUT_STAT_REALIGN_PENDING, R.VD_PPS_OFS_OFS_NS, R.VD_MEAS_CAL_CAL_NOW, R.VD_MEAS_CAL_CAL_DONE, R.VD_MEAS_CAL_CAL_COUNT, R.VD_BUF_POOLS_USED, R.VD_BUF_PEAK_PEAK, R.VD_BUF_RESV_GIDS] ++
  [R.VD_ENG_RATE_MSGS, R.VD_ENG_STALE_STALE, R.VD_BASIN_USE_RESERVED, R.VD_BUILDS_OPEN, R.VD_OPT_CFG_P_TGT, R.VD_OPT_CFG_WARN_DROP, R.VD_OPT_CFG_SWAP_DROP, R.VD_OPT_CFG2_FORCE_DROP, R.VD_OPT_CFG2_BIAS_WARN_PCT, R.VD_OPT_CFG2_BIAS_MAX, R.VD_OPT_CFG3_SWAP_WAIT_S, R.VD_OPT_CFG3_HEAT_SLEW] ++
  [R.VD_OPT_QUIET_CNT_ACCEPTED, R.VD_OPT_QUIET_CNT_LATE, R.VD_HM_CFG_PROBATION, R.VD_HM_CFG_EXPEL, R.VD_HM_CFG_REJOIN, R.VD_HM_CFG_EXPEL_RATE, R.VD_HM_CFG_MIN_SEV, R.VD_HM_CFG2_RECOVER_MIN, R.VD_HM_CFG2_PROB_H, R.VD_HM_CFG2_COMMON_DIES, R.VD_HM_SPARES_AVAIL, R.VD_HM_SPARES_FLOOR] ++
  [R.VD_HM_STAT_PROBATION, R.VD_HM_STAT_PENDING, R.VD_HM_STAT_HOLD, R.VD_HM_STAT_RATE_LIMITED, R.VD_HM_STAT_SPARE_LOW, R.VD_HM_IRQ_EXPELLED, R.VD_HM_IRQ_PENDING, R.VD_HM_IRQ_COMMON_CAUSE]

/-- The single registers of the Verard BARs, part 1. -/
def vdPlain1 : List Field :=
  [R.VD_HM_IRQ_SILENT, R.VD_HM_IRQ_LOG_LOSS, R.VD_HM_IRQ_KAT_FAIL, R.VD_HM_IRQ_EN_EN, R.VD_HM_EXPEL_CNT_LAST_HOUR, R.VD_HM_EXPEL_CNT_TOTAL, R.VD_HM_RATE_DROP_REPORTS, R.VD_LOG_STAT_USED, R.VD_LOG_STAT_RESERVE, R.VD_LOG_WR_SEQ, R.VD_LOG_RD_SEQ, R.VD_LOG_LOST_LOW] ++
  [R.VD_LOG_LOST_HIGH, R.VD_LOG_SEL_SEQ, R.VD_LOG_VIEW_VALID, R.VD_ID_PART, R.VD_ID_STEPPING, R.VD_BOOT_STAGE, R.VD_BOOT_FAULT, R.VD_BOOT_PROF, R.VD_BOOT_BANK, R.VD_RAIL_IN_TOL, R.VD_RAIL_TJ_C, R.VD_CMD_REQ_LO_BASE_LO] ++
  [R.VD_CMD_REQ_HI_BASE_HI, R.VD_CMD_REQ_CFG_LOG2, R.VD_CMD_REQ_CFG_ENABLE, R.VD_CMD_REQ_TAIL_TAIL, R.VD_CMD_REQ_HEAD_HEAD, R.VD_CMD_RSP_LO_BASE_LO, R.VD_CMD_RSP_HI_BASE_HI, R.VD_CMD_RSP_CFG_LOG2, R.VD_CMD_RSP_CFG_ENABLE, R.VD_CMD_RSP_CFG_VECTOR, R.VD_CMD_RSP_TAIL_TAIL, R.VD_CMD_RSP_TAIL_PHASE] ++
  [R.VD_CMD_RSP_HEAD_HEAD, R.VD_CMD_IRQ_REPLY, R.VD_CMD_IRQ_REQ_ERR, R.VD_CMD_IRQ_DROP, R.VD_CMD_IRQ_EN_EN, R.VD_CMD_HELD_HELD, R.VD_IRQ_STAT_REF, R.VD_IRQ_STAT_MEAS, R.VD_IRQ_STAT_PORT, R.VD_IRQ_STAT_OPT, R.VD_IRQ_STAT_OCS, R.VD_IRQ_STAT_HM] ++
  [R.VD_IRQ_MASK_MASK, R.VD_IRQ_VEC_REF_VEC, R.VD_IRQ_VEC_MEAS_VEC, R.VD_IRQ_VEC_PORT_VEC, R.VD_IRQ_VEC_OPT_VEC, R.VD_IRQ_VEC_OCS_VEC, R.VD_IRQ_VEC_HM_VEC, R.VD_PROF_CTRL_PROGRAM, R.VD_PROF_CTRL_RELOAD, R.VD_PROF_CTRL_BUSY, R.VD_PROF_CTRL_DONE, R.VD_PROF_CTRL_RESULT] ++
  [R.VD_PROF_CTRL_LOADED, R.VD_PROF_CTRL_FALLBACK]

/-- The single registers (R417). -/
def vdPlain : List Field := vdPlain0 ++ vdPlain1

/-- The registers both parts carry (R43, R395, R415). -/
def devFields (d : Dev) : List Field :=
  [R.TIME_CTRL_LATCH d, R.TIME_CTRL_FINE d, R.TIME_CTRL_HOLD_AWAKE d, R.TIME_STAT_VALID d, R.TIME_STAT_PENDING d, R.TIME_STAT_FINE d, R.TIME_STAT_DEFERRED d, R.TIME_STAT_CAP_STATE d, R.TIME_STAT_TIME_MODE d, R.TIME_STAT_STATE d, R.TIME_STAT_LATCH_GAP d, R.TIME_STAT_UNCAL d] ++
  [R.TIME_STAT_MODE_MISMATCH d, R.TIME_STAT_SLEWING d, R.TIME_SEC_LO_SEC_LO d, R.TIME_SEC_HI_SEC_HI d, R.TIME_SEC_HI_DISC d, R.TIME_NS_NS d, R.TIME_SUB_SUB d, R.TIME_ERR_ERR_PS d, R.TIME_UTC_UTC_OFFSET d, R.TIME_UTC_UTC_VALID d, R.CMD_STAT_SESSIONS d, R.CMD_STAT_GSESSIONS d] ++
  [R.CMD_STAT_REASM d, R.CMD_STAT_VER_MIN d, R.CMD_STAT_VER_MAX d, R.CMD_CNT_AUTH_FAIL d, R.CMD_CNT_REPLAY d, R.CMD_CNT2_REASM_DROP d, R.CMD_CNT2_NOTICES d, R.CMD_CNT3_EXECUTED d, R.CMD_CNT3_RELAYED d, R.SEC_LC_STATE d, R.SEC_LC_PENDING d, R.SEC_LC_TOKEN_OPEN d] ++
  [R.SEC_LC_ID_KEY d, R.SEC_LC_CERT d, R.SEC_LC_KEYS d, R.SEC_LC_PROFILE_KEY d, R.SEC_LC_USED d, R.SEC_SERIAL_LO_SERIAL_LO d, R.SEC_SERIAL_HI_SERIAL_HI d, R.SEC_SVN_SVN_MIN d, R.SEC_SVN_KEY0_REVOKED d, R.SEC_CNT_STAMPS d, R.SEC_CNT_DENIED d, R.FW_STAT_XFER d] ++
  [R.FW_STAT_LAST_FAIL d, R.FW_STAT_FAIL_CAUSE d, R.FW_STAT_SOURCE d, R.FW_RUN_VER_VERSION d, R.FW_STAGE_VER_VERSION d, R.FW_XFER_ID_ID d, R.FW_PARTS_TOTAL d, R.FW_PARTS_HELD d]

/-- The registers of a port block (R74, R75, R213, R321). -/
def portFields (p : PortId) : List Field :=
  [R.PORT_CTRL_ENABLE p, R.PORT_CTRL_RETRY p, R.PORT_CTRL_CAL_NOW p, R.PORT_STAT_STATE p, R.PORT_STAT_FAULT p, R.PORT_STAT_HOLD p, R.PORT_STAT_UNCAL p, R.PORT_STAT_TIME_USE p, R.PORT_STAT_RTT_STEP p, R.PORT_STAT_MODE_MISMATCH p, R.PORT_RTT_RTT_PS p, R.PORT_ASYM_ASYM_PS p] ++
  [R.PORT_ASYM_CAL_COUNT p, R.PORT_OFFSET_OFFSET_PS p, R.PORT_AUTH_AUTH_FAIL p, R.PORT_AUTH_INCOMPLETE p, R.PORT_ERR_CRC_ERR p, R.PORT_ERR_TRAIN_COUNT p, R.PORT_PEER_PEER_UA p, R.PORT_PEER_PEER_SIDE p, R.PORT_PEER_PEER_VALID p, R.PORT_TXCRED_A_CONTROL p, R.PORT_TXCRED_A_UP p, R.PORT_TXCRED_B_DOWN p] ++
  [R.PORT_TXCRED_B_MGMT p, R.PORT_RXUSE_A_CONTROL p, R.PORT_RXUSE_A_UP p, R.PORT_RXUSE_B_DOWN p, R.PORT_RXUSE_B_MGMT p, R.PORT_GROUP_GROUP_ACTIVE p, R.PORT_GROUP_STALL p, R.PORT_MSG_CNT_STALE p, R.PORT_MSG_CNT_STALLS p, R.PORT_OPT_STAT_CHAN p, R.PORT_OPT_STAT_MOD_RING p, R.PORT_OPT_STAT_DROP_RING p] ++
  [R.PORT_OPT_STAT_OSTATE p, R.PORT_OPT_STAT_LINE p, R.PORT_OPT_STAT_QUIET p, R.PORT_OPT_PWR_RX_PWR p, R.PORT_OPT_PWR_TX_PWR p, R.PORT_OPT_HEAT_MOD_HEAT p, R.PORT_OPT_HEAT_DROP_HEAT p, R.PORT_OPT_CNT_WRONG_LINE p, R.PORT_OPT_CNT_RELOCKS p, R.PORT_QUIET_NS_NS p, R.PORT_QUIET_SEC_LO_SEC_LO p, R.PORT_QUIET_SEC_HI_SEC_HI p] ++
  [R.PORT_QUIET_LEN_WINDOW p]

/-- The fields of one of the 4 blocks at 0x10100, 0x20 bytes apart. -/
def fields_10100 (i : Nat) : List Field :=
  [R.VD_REFi_CFG_PRIO i, R.VD_REFi_CFG_LOCKOUT i, R.VD_REFi_ST_QUAL i, R.VD_REFi_ST_CAUSE i, R.VD_REFi_ST_FAULT i, R.VD_REFi_ST_WTR_RUN i, R.VD_REFi_FREQ_FREQ_PPT i, R.VD_REFi_BEARING_BEARING_PS i, R.VD_REFi_TIMERS_QUAL_REMAIN_S i, R.VD_REFi_TIMERS_WTR_REMAIN_S i, R.VD_REFi_CNT_REJECTS i, R.VD_REFi_CNT_REFUSALS i]

/-- The fields of one of the 2 blocks at 0x20000, 0x100 bytes apart. -/
def fields_20000 (i : Nat) : List Field :=
  [R.PTP_CTRL_ENABLE i, R.PTP_CTRL_TRANSPORT i, R.PTP_CTRL_TWO_STEP i, R.PTP_CTRL_DELAY_MECH i, R.PTP_CTRL_PORT_ROLE i, R.PTP_CTRL_DOMAIN i, R.PTP_CTRL_LOG_SYNC i, R.PTP_CTRL_LOG_ANNOUNCE i, R.PTP_CTRL_LOG_DELAYREQ i, R.PTP_CTRL_UNICAST i, R.PTP_STAT_PORT_STATE i, R.PTP_STAT_GM_PRESENT i] ++
  [R.PTP_STAT_GM_CLASS i, R.PTP_STAT_TRACEABLE i, R.PTP_STAT_TSQ_OVF i, R.PTP_STAT_TSQ_COUNT i, R.PTP_OFFSET_OFFSET_PS i, R.PTP_MPD_MPD_PS i, R.PTP_TSQ_KEY_SEQ_ID i, R.PTP_TSQ_KEY_MSG_TYPE i, R.PTP_TSQ_KEY_LOOKUP i, R.PTP_TSQ_KEY_POP i, R.PTP_TSQ_RES_SEQ_ID i, R.PTP_TSQ_RES_MSG_TYPE i] ++
  [R.PTP_TSQ_RES_FOUND i, R.PTP_TSQ_RES_DONE i, R.PTP_TSQ_RES_ONE_STEP i, R.PTP_TSQ_SEC_LO_SEC_LO i, R.PTP_TSQ_SEC_HI_SEC_HI i, R.PTP_TSQ_SEC_HI_SUB i, R.PTP_TSQ_NS_NS i, R.PTP_CNT_TSQ_LOST i, R.PTP_CNT_RX_DROP i]

/-- The fields of one of the 4 blocks at 0x30100, 0x80 bytes apart. -/
def fields_30100 (i : Nat) : List Field :=
  [R.MEAS_CTRL_START i, R.MEAS_CTRL_ABORT i, R.MEAS_CTRL_MODE i, R.MEAS_CTRL_EDGE i, R.MEAS_CTRL_PRESCALE i, R.MEAS_CTRL_STOP_SEL i, R.MEAS_CTRL_STOP_EDGE i, R.MEAS_CTRL_AT i, R.MEAS_GATE_GATE_US i, R.MEAS_TIMEOUT_TIMEOUT_US i, R.MEAS_START_NS_NS i, R.MEAS_START_SEC_LO_SEC_LO i] ++
  [R.MEAS_START_SEC_HI_SEC_HI i, R.MEAS_STAT_BUSY i, R.MEAS_STAT_ARMED i, R.MEAS_STAT_DONE i, R.MEAS_STAT_SLEWED i, R.MEAS_STAT_RESULT i, R.MEAS_STAT_UNLOCKED i, R.MEAS_STAT_FAULT i, R.MEAS_N_N i, R.MEAS_DECIM_K i, R.MEAS_RES_LO_RES_LO i, R.MEAS_RES_HI_RES_HI i] ++
  [R.MEAS_FREQ_LO_FREQ_LO i, R.MEAS_FREQ_HI_FREQ_HI i, R.MEAS_SIGMA_SIGMA i, R.MEAS_RESID_RESID_FS i, R.MEAS_T0_NS_NS i, R.MEAS_T0_SEC_LO_SEC_LO i, R.MEAS_T0_SEC_HI_SEC_HI i, R.MEAS_T0_SEC_HI_SUB i]

/-- The fields of one of the 2 blocks at 0x1200, 0x20 bytes apart. -/
def fields_1200 (i : Nat) : List Field :=
  [R.LK_TRIGi_CTRL_ENABLE i, R.LK_TRIGi_CTRL_EDGE i, R.LK_TRIGi_CTRL_FINE i, R.LK_TRIGi_CTRL_HOST_FWD i, R.LK_TRIGi_STAT_COUNT i, R.LK_TRIGi_STAT_OVF i, R.LK_TRIGi_STAT_READ_VALID i, R.LK_TRIGi_STAT_READ_FINE i, R.LK_TRIGi_STAT_FAULT i, R.LK_TRIGi_STAT_MISSED i, R.LK_TRIGi_POP_POP i, R.LK_TRIGi_NS_NS i] ++
  [R.LK_TRIGi_SEC_LO_SEC_LO i, R.LK_TRIGi_SEC_HI_SEC_HI i, R.LK_TRIGi_SEC_HI_SUB i]

/-- The fields of one of the 2 blocks at 0x1240, 0x20 bytes apart. -/
def fields_1240 (i : Nat) : List Field :=
  [R.LK_TRIGo_CTRL_ARM i, R.LK_TRIGo_CTRL_CANCEL i, R.LK_TRIGo_CTRL_POLARITY i, R.LK_TRIGo_CTRL_ROUTE i, R.LK_TRIGo_AT_NS_NS i, R.LK_TRIGo_AT_SEC_LO_SEC_LO i, R.LK_TRIGo_AT_SEC_HI_SEC_HI i, R.LK_TRIGo_TIMING_WIDTH i, R.LK_TRIGo_TIMING_PERIOD i, R.LK_TRIGo_STAT_ARMED i, R.LK_TRIGo_STAT_CFG_ERR i, R.LK_TRIGo_STAT_LATE i] ++
  [R.LK_TRIGo_STAT_FAULT i, R.LK_TRIGo_STAT_SKIPPED i, R.LK_TRIGo_STAT_PULSES i]

/-- The fields of one of the 8 blocks at 0x2100, 0x10 bytes apart. -/
def fields_2100 (i : Nat) : List Field :=
  [R.LK_PROGn_BASE_LO_BASE_LO i, R.LK_PROGn_BASE_HI_BASE_HI i, R.LK_PROGn_LEN_LEN i, R.LK_PROGn_LEN_VALID i]

/-- The fields of one of the 8 blocks at 0xf0014, 4 bytes apart. -/
def fields_f0014 (i : Nat) : List Field :=
  [R.LK_SYNC_DBG_CORESk_CORES i]

/-- The fields of one of the 16 blocks at 0x3040, 4 bytes apart. -/
def fields_3040 (i : Nat) : List Field :=
  [R.LK_OPTi_FREQ_MHZ i, R.LK_OPTi_VOLT_MV i]

/-- The fields of one of the 8 blocks at 0x3084, 4 bytes apart. -/
def fields_3084 (i : Nat) : List Field :=
  [R.LK_CS_FENCEDk_FENCED i]

/-- The fields of one of the 64 blocks at 0x3800, 0x20 bytes apart. -/
def fields_3800 (i : Nat) : List Field :=
  [R.LK_CS_REGr_STAT_STATE i, R.LK_CS_REGr_STAT_OP i, R.LK_CS_REGr_STAT_MARGIN_LOW i, R.LK_CS_REGr_STAT_MARGIN_MIN i, R.LK_CS_REGr_STAT_STR_WARN i, R.LK_CS_REGr_STAT_INEXACT i, R.LK_CS_REGr_STAT_LOR_COUNT i, R.LK_CS_REGr_STAT_MARGIN_ERR i, R.LK_CS_REGr_CYC_LO_CYC_LO i, R.LK_CS_REGr_CYC_HI_CYC_HI i, R.LK_CS_REGr_LOST_LO_LOST_LO i, R.LK_CS_REGr_LOST_HI_LOST_HI i] ++
  [R.LK_CS_REGr_LOST_HI_EVENTS i, R.LK_CS_REGr_STEP_LOST_STEP_LOST i, R.LK_CS_REGr_LAST_LOST_LAST_LOST i, R.LK_CS_REGr_MARGIN_CODES i]

/-- The fields of one of the 32 blocks at 0x4080, 4 bytes apart. -/
def fields_4080 (i : Nat) : List Field :=
  [R.LK_PG_WEIGHTk_WEIGHT i]

/-- The fields of one of the 16 blocks at 0x4100, 4 bytes apart. -/
def fields_4100 (i : Nat) : List Field :=
  [R.LK_PG_SHAREk_SHARES i]

/-- The fields of one of the 64 blocks at 0x4400, 0x10 bytes apart. -/
def fields_4400 (i : Nat) : List Field :=
  [R.LK_PG_REGr_STAT_DENSITY i, R.LK_PG_REGr_STAT_DEMAND i, R.LK_PG_REGr_STAT_SLOPE i, R.LK_PG_REGr_STAT_LIMIT i, R.LK_PG_REGr_POWER_P_EST i, R.LK_PG_REGr_POWER_TEMP_C i, R.LK_PG_REGr_STEP_BUBBLES_BUBBLES i, R.LK_PG_REGr_LAST_BUBBLES_BUBBLES i]

/-- The fields of one of the 4 blocks at 0x5024, 4 bytes apart. -/
def fields_5024 (i : Nat) : List Field :=
  [R.LK_DET_DIG_RESk_RES i]

/-- The fields of one of the 4 blocks at 0x5054, 4 bytes apart. -/
def fields_5054 (i : Nat) : List Field :=
  [R.LK_DET_SEEDk_SEED i]

/-- The repeated words of the blocks at 0x5100. -/
def fields2_5100 (i k : Nat) : List Field :=
  [R.LK_DET_DIGt_Dk_D i k]

/-- The fields of one of the 16 blocks at 0x5100, 0x20 bytes apart. -/
def fields_5100 (i : Nat) : List Field :=
  [R.LK_DET_DIGt_CNT_LO_LO i, R.LK_DET_DIGt_CNT_HI_HI i, R.LK_DET_DIGt_STEP_LO_LO i, R.LK_DET_DIGt_STEP_HI_HI i]

/-- The fields of one of the 9 blocks at 0x60000, 0x200 bytes apart. -/
def fields_60000 (i : Nat) : List Field :=
  [R.VD_OE_CTRL_ENABLE i, R.VD_OE_CTRL_HOLD_SWAPS i, R.VD_OE_CTRL_RESEARCH i, R.VD_OE_STAT_STATE i, R.VD_OE_STAT_SHIFT i, R.VD_OE_STAT_DROP_SHIFT i, R.VD_OE_STAT_SPARES_LEFT i, R.VD_OE_STAT_SLEW_LIMITED i, R.VD_OE_STAT_SWAP_ACTIVE i, R.VD_OE_STAT_TEMP_C i, R.VD_OE_HEAT_HEAT_PWR i, R.VD_OE_IRQ_AGEING i] ++
  [R.VD_OE_IRQ_SWAP_DUE i, R.VD_OE_IRQ_SWAPPED i, R.VD_OE_IRQ_WRONG_LINE i, R.VD_OE_IRQ_SPARES_OUT i, R.VD_OE_IRQ_LASER_FAULT i, R.VD_OE_IRQ_SEARCH_FAIL i, R.VD_OE_IRQ_EN_EN i, R.VD_OE_CNT_SWAPS i, R.VD_OE_CNT_WRONG_LINE i]

/-- The registers of a line block (R322). -/
def lineFields (e l : Nat) : List Field :=
  [R.VD_OE_LINEl_STAT_LSTATE e l, R.VD_OE_LINEl_STAT_CHAN e l, R.VD_OE_LINEl_STAT_TONE_OK e l, R.VD_OE_LINEl_STAT_TUNABLE e l, R.VD_OE_LINEl_PWR_PWR e l, R.VD_OE_LINEl_PWR_BIAS e l, R.VD_OE_LINEl_LIT_LIT_H e l, R.VD_OE_LINEl_FADE_RATE e l, R.VD_OE_LINEl_FADE_DAYS e l]

/-- The fields of one of the 4 blocks at 0x61300, 0x20 bytes apart. -/
def fields_61300 (i : Nat) : List Field :=
  [R.VD_OCSo_CTRL_ARM i, R.VD_OCSo_CTRL_CANCEL i, R.VD_OCSo_CTRL_MODE i, R.VD_OCSo_CTRL_POLARITY i, R.VD_OCSo_CTRL_UP_MASK i, R.VD_OCSo_AT_NS_NS i, R.VD_OCSo_AT_SEC_LO_SEC_LO i, R.VD_OCSo_AT_SEC_HI_SEC_HI i, R.VD_OCSo_PORTS_LO_PORTS i, R.VD_OCSo_PORTS_HI_PORTS i, R.VD_OCSo_TIMING_WIDTH_US i, R.VD_OCSo_TIMING_SETTLE_MS i] ++
  [R.VD_OCSo_STAT_ARMED i, R.VD_OCSo_STAT_WAITING i, R.VD_OCSo_STAT_FIRED i, R.VD_OCSo_STAT_CFG_ERR i, R.VD_OCSo_STAT_LATE i, R.VD_OCSo_STAT_FIRES i]

/-- The fields of one of the 8 blocks at 0x6040, 4 bytes apart. -/
def fields_6040 (i : Nat) : List Field :=
  [R.LK_HM_RECk_REC i]

/-- The fields of one of the 32 blocks at 0x6100, 4 bytes apart. -/
def fields_6100 (i : Nat) : List Field :=
  [R.LK_HM_MAPc_MIN i, R.LK_HM_MAPc_ERR i, R.LK_HM_MAPc_SOUNDINGS i, R.LK_HM_MAPc_KAT_PASS i, R.LK_HM_MAPc_KAT_FAIL i]

/-- The fields of one of the 2048 blocks at 0x71000, 4 bytes apart. -/
def fields_71000 (i : Nat) : List Field :=
  [R.VD_HM_DIEn_SCORE i, R.VD_HM_DIEn_HSTATE i, R.VD_HM_DIEn_CAUSE i, R.VD_HM_DIEn_DECIDER i, R.VD_HM_DIEn_TRIPPED i, R.VD_HM_DIEn_FENCED i, R.VD_HM_DIEn_SILENT i, R.VD_HM_DIEn_CHAIN i, R.VD_HM_DIEn_SINGLE i, R.VD_HM_DIEn_KAT_FAILS i]

/-- The fields of one of the 16 blocks at 0x80040, 4 bytes apart. -/
def fields_80040 (i : Nat) : List Field :=
  [R.VD_LOG_ENTRYk_ENTRY i]

/-- The fields of one of the 1020 blocks at 0x7010, 4 bytes apart. -/
def fields_7010 (i : Nat) : List Field :=
  [R.LK_MBOX_BUF_DATA i]

/-- The port whose block holds a Verard BAR0 offset, if any (R74). -/
def portAt (off : Nat) : Option PortId :=
  if 0x40000 ≤ off ∧ off < 0x50000 then some (.down (Fin.ofNat 64 ((off - 0x40000) / 0x400)))
  else if 0x50000 ≤ off ∧ off < 0x50400 then some .upA
  else if 0x50400 ≤ off ∧ off < 0x50800 then some .upB
  else none

/-- The fields of the Lotik window at an offset. -/
def lkFieldsAt (off : Nat) : List Field :=
  (lkPlain ++ devFields .lotik ++ portFields .tlink).filter (fun x => x.off == off) ++
  block off 0x1200 0x20 2 fields_1200 ++
  block off 0x1240 0x20 2 fields_1240 ++
  block off 0x2100 0x10 8 fields_2100 ++
  block off 0xf0014 4 8 fields_f0014 ++
  block off 0x3040 4 16 fields_3040 ++
  block off 0x3084 4 8 fields_3084 ++
  block off 0x3800 0x20 64 fields_3800 ++
  block off 0x4080 4 32 fields_4080 ++
  block off 0x4100 4 16 fields_4100 ++
  block off 0x4400 0x10 64 fields_4400 ++
  block off 0x5024 4 4 fields_5024 ++
  block off 0x5054 4 4 fields_5054 ++
  (List.range 4).flatMap (fun k => block off 0x5100 0x20 16 (fun i => fields2_5100 i k)) ++
  block off 0x5100 0x20 16 fields_5100 ++
  block off 0x6040 4 8 fields_6040 ++
  block off 0x6100 4 32 fields_6100 ++
  block off 0x7010 4 1020 fields_7010

/-- The fields of Verard BAR0 at an offset. -/
def vdFieldsAt (off : Nat) : List Field :=
  (vdPlain ++ devFields .verard ++ (match portAt off with | some p => portFields p | none => [])).filter
    (fun x => x.sp == 1 && x.off == off) ++
  block off 0x10100 0x20 4 fields_10100 ++
  block off 0x20000 0x100 2 fields_20000 ++
  block off 0x30100 0x80 4 fields_30100 ++
  block off 0x60000 0x200 9 fields_60000 ++
  (List.range 10).flatMap (fun l => block off 0x60000 0x200 9 (fun e => lineFields e l)) ++
  block off 0x61300 0x20 4 fields_61300 ++
  block off 0x71000 4 2048 fields_71000 ++
  block off 0x80040 4 16 fields_80040

/-- The fields at an offset of a space (R417); a reserved offset has none. -/
def fieldsAt (sp off : Nat) : List Field :=
  if sp = 0 then
    -- The T-link keeps only the eight link registers of a port block (R75).
    (lkFieldsAt off).filter (fun x => !(decide (0x1160 ≤ x.off) && decide (x.off < 0x1200)))
  else if sp = 1 then vdFieldsAt off
  else vdPlain.filter (fun x => x.sp == 2 && x.off == off)

/-- The listed blocks of the Lotik window (R417). -/
def lkRanges : List (Nat × Nat) :=
  [(0x0, 0x8), (0x10, 0x10), (0x20, 0x24), (0x30, 0x34), (0x200, 0x238), (0x300, 0x318),
   (0x1000, 0x1020), (0x1100, 0x110c), (0x1140, 0x115c), (0x1200, 0x1234), (0x1240, 0x1274), (0x2000, 0x2048),
   (0x204c, 0x2050), (0x2100, 0x217c), (0x3000, 0x3020), (0x3040, 0x307c), (0x3080, 0x30a4), (0x3800, 0x3ffc),
   (0x4000, 0x4040), (0x4080, 0x40fc), (0x4100, 0x413c), (0x4400, 0x47fc), (0x5000, 0x5060), (0x5100, 0x52fc),
   (0x6000, 0x6020), (0x6040, 0x605c), (0x6100, 0x617c), (0x6200, 0x6220), (0x7000, 0x7fff), (0x8000, 0x800c),
   (0x8010, 0x8040), (0x40000, 0x7ffff), (0x80000, 0xbffff), (0xc0000, 0xcffff), (0xe0000, 0xeffff), (0xf0000, 0xf0048)]

/-- The listed blocks of Verard BAR0 (R417). -/
def vdRanges : List (Nat × Nat) :=
  [(0x0, 0x8), (0x10, 0x10), (0x20, 0x28), (0x10000, 0x10038), (0x10100, 0x10174), (0x10800, 0x10820),
   (0x20000, 0x20124), (0x30000, 0x30000), (0x30100, 0x302c4), (0x40000, 0x4ffff), (0x50000, 0x507ff), (0x60000, 0x611ff),
   (0x61200, 0x6120c), (0x61300, 0x6137c), (0x70000, 0x7001c), (0x71000, 0x72ffc), (0x80000, 0x8007c), (0x90000, 0x90030),
   (0x90040, 0x9004c), (0x90100, 0x90130), (0xa0000, 0xa103f), (0xa2000, 0xa2000)]

/-- The listed blocks of Verard BAR2 (R417). -/
def v2Ranges : List (Nat × Nat) :=
  [(0x0, 0xffffff), (0x1000000, 0x1ffffff), (0x2000000, 0x27fffff), (0x2800000, 0x2800018)]

/-- Whether an offset is mapped or reserved, not unmapped (R417). -/
def mapped (sp off : Nat) : Bool :=
  (if sp = 0 then lkRanges else if sp = 1 then vdRanges else v2Ranges).any (fun r => decide (r.1 ≤ off) && decide (off ≤ r.2))

end Sys2Proof.Machine
end

