-- ==== Sys2Proof/Machine/State.lean ====
section
/-! DEFINITION. The state of the block, as plain data: one Lotik, one Verard, what they have sent out, and the waiting commands. -/

namespace Sys2Proof.Machine

open Sys2Proof

/-- The block stops with no fault: no rule of the spec leaves a command without an effect. -/
inductive Fault where
  deriving DecidableEq, Repr

/-- Why a command is refused. -/
inductive Refusal where
  /-- Raised by exec for a command that has no meaning yet; safe. -/
  | notModelled (mnemonic : String)
  deriving DecidableEq, Repr

/-- What the block has sent or driven, newest first: the model's own record of its outputs. -/
inductive Out where
  /-- The data of a register read. -/
  | bus (d : Dev) (v : BitVec 64)
  /-- The content of a TICK block on a T-link (R4, R50, R53). -/
  | tick (p : PortId) (content : BitVec 56)
  /-- A TIME frame (R54). -/
  | time (p : PortId) (f : TimeFrame)
  /-- An AUTH frame (R58). -/
  | auth (p : PortId) (group : BitVec 64) (tag : List Byte)
  /-- An ENUM frame (R62). -/
  | enum (p : PortId) (f : EnumFrame)
  /-- An ENUM_ACK frame (R62). -/
  | enumAck (p : PortId) (ua : Ua) (role : BitVec 2) (side : BitVec 1)
  /-- A CAL frame (R56). -/
  | cal (p : PortId) (b : CalBody)
  /-- A HEALTH frame or, from a die without a T-link, the record sent to both heads (R326, R341). -/
  | health (path : Path) (kind : Byte) (body : List Byte)
  /-- A ring symbol's 128 bits (R4, R64). -/
  | ring (r : RingPort) (word : BitVec 128)
  /-- A fragment of a command packet (R378). -/
  | frag (path : Path) (f : Fragment)
  /-- An MSI-X message (R420). -/
  | msix (vector : Nat)
  /-- A PTP message on a reference port (R100). -/
  | ptp (port : Nat) (m : PtpMsg)
  /-- What a port sends in TRAIN (R60, R61). -/
  | train (p : PortId) (own : TrainPeer)
  /-- The START block of the T-frame recorded after it, and that frame's CRC (R51). -/
  | start (p : PortId) (content : BitVec 56) (crc : Word)
  /-- A tree message: job control or a group message (R138, R202). -/
  | tree (path : Path) (m : TreeMsg)
  /-- A write to the memory of a part's host. -/
  | hostWrite (d : Dev) (addr : Nat) (bytes : List Byte)
  /-- A read asked of the memory of a part's host. -/
  | hostRead (d : Dev) (addr len : Nat)
  /-- A level or pulse on a named pin or boundary signal (R348). -/
  | pin (name : String) (v : Nat)
  /-- The level of a signal that every region has: AO_MODE[r], its state's code, or CLK_STOP[r] (R348). -/
  | regionPin (name : String) (r v : Nat)
  deriving DecidableEq, Repr

/-- A Log entry (R338); `cont` holds the 56 bytes of a continuation, or nothing (R339). -/
structure LogEntry where
  kind : Nat
  sev : Nat
  coalesced : Bool := false
  depth : Nat := 0
  forwarded : Bool := false
  seq : Nat := 0
  first : Nat := 0
  last : Nat := 0
  count : Nat := 1
  ua : Nat := 0
  step : Nat := 0
  arg : List Byte := []
  cont : List Byte := []
  /-- It was forwarded when it was made, and is to be again with its final COUNT where it has been coalesced (R341). -/
  sent : Bool := false
  deriving DecidableEq, Repr

/-- A part's Log (R337 to R342): entries newest first, and the loss being gathered. -/
structure Log where
  entries : List LogEntry := []
  wr : Nat := 0
  rd : Nat := 0
  lossLow : Nat := 0
  lossHigh : Nat := 0
  lossKind : Nat := 0
  lossFirst : Nat := 0
  lossLast : Nat := 0
  /-- Forwarding tokens, in 2⁻¹⁶ ns of FWD_RATE (R341), and when they were last counted; the burst of 64 is there at reset
  (notes/assumptions/136). -/
  tokens : Nat := 64 * 65536000000000
  tokensAt : Nat := 0
  /-- Reports not forwarded since the last RATE_SUMMARY (R341). -/
  noFwd : Nat := 0
  /-- When the last RATE_SUMMARY was recorded (R341). -/
  sumAt : Option Nat := none
  /-- SEQ and places of the entry being spilled (R337). -/
  spilling : Option (Nat × Nat) := none
  /-- Reports in the input queue (R342), as counted at an instant. -/
  inQueue : Nat := 0
  inQueueAt : Nat := 0
  deriving DecidableEq, Repr

/-- A part's hall time (R37) and what its loop and holdover keep. -/
structure Clock where
  ticks : BitVec 64 := 0
  phase : BitVec 48 := 0
  /-- INC, in 2⁻⁴⁸ of a tick (R37). -/
  inc : BitVec 49 := 0x1000000000000
  /-- The value of INC that tracks the parent's rate (R38). -/
  rate : BitVec 49 := 0x1000000000000
  /-- What the loop's proportional way and an absorbed bearing's BEARING_SLEW add to that value in INC (R38, R85, R97). -/
  prop : Int := 0
  bear : Int := 0
  disc : BitVec 16 := 0
  /-- The device's own time state (R91); the one it shows is the worst on its path (R49). -/
  own : BitVec 3 := 0
  /-- A join step or first lock has happened since reset (R48). -/
  joined : Bool := false
  /-- Offset still to be slewed out, own minus parent, 2⁻⁴⁸ of a tick (R48). -/
  slew : Int := 0
  /-- When the present own state was entered. -/
  since : Nat := 0
  /-- The last offset fed to the loop, own minus parent, 2⁻¹⁶ ns. -/
  lastOfs : Int := 0
  /-- Dead reckoning (R94): entry instant, e0 in ps, f in 10⁻¹², a in 10⁻¹² per day. -/
  holdAt : Nat := 0
  holdE0 : Nat := 0
  holdF : Nat := 0
  holdA : Nat := 0
  holdF0 : Nat := 0
  holdA0 : Nat := 0
  /-- Present estimate, ps. -/
  est : Nat := 0
  /-- The capture in progress: its instant, and whether one is (R40). -/
  capAt : Nat := 0
  capDisc : BitVec 16 := 0
  capErr : Nat := 0
  capState : BitVec 3 := 0
  capFine : Bool := false
  capDeferred : Bool := false
  /-- The capture's instant has been stamped. -/
  capReady : Bool := false
  /-- The instant of the latch before (R35). -/
  lastLatch : Option Nat := none
  /-- This device is hall master (R19). -/
  hallMaster : Bool := false
  /-- A rejoin slew of R48 runs. -/
  slewing : Bool := false
  /-- The path sum of R44 as last known while a parent was followed, ps: what a device in holdover adds (R49). -/
  holdPath : Nat := 0
  /-- A root has been hall master of its own half while the tie was down (R426). -/
  lone : Bool := false
  /-- In ACQUIRING: the first offset taken, which the join step or first lock removes (R48; notes/assumptions/110). -/
  base : Option Int := none
  /-- In ACQUIRING: the last instant at which a residual lay outside the limits of R91. -/
  wideAt : Nat := 0
  deriving DecidableEq, Repr

/-- What a T-link port keeps beyond its registers (R53 to R62). -/
structure TPort where
  txSeq : BitVec 16 := 0
  rxSeq : BitVec 16 := 0
  rxAt : Nat := 0
  /-- The last transmit stamps, newest first, at most 8 (R55). -/
  txStamps : List (Nat × Nat) := []
  /-- The last receive stamps of the peer's ticks, newest first. -/
  rxStamps : List (Nat × Nat) := []
  txGroup : List (List Byte) := []
  rxGroup : List (Nat × List Byte) := []
  /-- Buffered (rtt, offset) of the group, ps. -/
  meas : List (Int × Int) := []
  groupBad : Bool := false
  /-- The group of 64 under way, by TICK_SEQ / 64; none between an AUTH frame and the next TIME frame (R58, R59). -/
  rxGroupNo : Option Nat := none
  txGroupNo : BitVec 64 := 0
  tagFails : Nat := 0
  lastTick : Nat := 0
  peer : Option TrainPeer := none
  peerState : BitVec 3 := 0
  /-- A TIME frame has come since the port entered SERVICE: the peer's state is known (R54, R426). -/
  heard : Bool := false
  peerDegraded : Bool := false
  peerMaster : Bool := false
  peerErr : BitVec 24 := 0
  /-- A calibration runs here; this end's fold median and the peer's (R56). -/
  folding : Bool := false
  foldOwn : Option Nat := none
  foldPeer : Option Nat := none
  calRtt : Option Nat := none
  calAt : Nat := 0
  /-- Stopped feeding by an rtt step until calibration completes (R57). -/
  feedStop : Bool := false
  linkKey : List Byte := []
  noncePrefix : BitVec 32 := 0
  /-- The key and nonce prefix of the groups that arrive (R400). -/
  rxKey : List Byte := []
  rxPrefix : BitVec 32 := 0
  keyAt : Nat := 0
  /-- A key agreed in SERVICE (R400): the key, own and peer's prefixes, SWITCH_SEQ, and which directions have switched. -/
  nextKey : Option (List Byte × BitVec 32 × BitVec 32 × BitVec 16 × Bool × Bool) := none
  /-- This end's round-1 payload and the draw of its ephemeral key, while an agreement runs (R400). -/
  keyTx : List Byte := []
  keyDraw : Nat := 0
  /-- When the last re-key failed. -/
  rekeyFail : Option Nat := none
  /-- When the present state of R60 was entered. -/
  since : Nat := 0
  keyRx : List Byte := []
  /-- Frames of the other TIME_MODE are being received here (R32). -/
  otherMode : Bool := false
  /-- Why the port is in HELD: 0 not held, 1 side, 2 homing, 3 authentication, 4 role (R15, R16, R23, R60). -/
  heldFor : Nat := 0
  /-- The next FSEQ by FTYPE (R51). -/
  fseq : List (Nat × Nat) := []
  /-- Frames that wait out a swap's gap, oldest first (R316). -/
  gap : List Out := []
  deriving DecidableEq, Repr

/-- A frame held until its target die is awake (R67). -/
structure HeldData where
  dst : BitVec 5
  out : Out
  deriving DecidableEq, Repr

/-- One ring port's hidden state (R64, R65, R73). -/
structure Hop where
  /-- Tracked offset of the copy taken here, 2⁻¹⁶ ns (R65). -/
  ofs : Int := 0
  /-- When a TIME symbol last arrived here. -/
  seenAt : Option Nat := none
  echoes : List Nat := []
  echoSeq : BitVec 16 := 0
  echoAt : Option Nat := none
  missed : Nat := 0
  badCrc : Nat := 0
  /-- The last 64 DATA symbols sent here, newest first: part and target (R64). -/
  replay : List (BitVec 96 × BitVec 6) := []
  /-- The next FSEQ by FTYPE (R51). -/
  fseq : List (Nat × Nat) := []
  /-- When the hop was declared open (R73, R343). -/
  openAt : Option Nat := none
  deriving DecidableEq, Repr

/-- What a die keeps about its ring (R63 to R69). -/
structure Ring where
  hopE : Hop := {}
  hopW : Hop := {}
  started : Bool := false
  startAt : Nat := 0
  /-- When the first ring port came UP (R68). -/
  firstUp : Option Nat := none
  die : BitVec 5 := 0
  dieValid : Bool := false
  pod : BitVec 6 := 0
  port : BitVec 6 := 0
  portValid : Bool := false
  /-- Die number of the ring time master followed. -/
  master : BitVec 5 := 0
  /-- Sources the forwarded clock. -/
  sources : Bool := false
  lastTime : Option Nat := none
  masterErr : BitVec 24 := 0xFFFFFF
  masterState : BitVec 3 := 0
  masterHold : BitVec 24 := 0
  /-- AWAKE of each die, from its last STATUS (R67). -/
  awake : List (Nat × Bool) := []
  held : List HeldData := []
  handover : Option (Nat × BitVec 5) := none
  /-- Symbols of the other TIME_MODE are being received on the ring (R32). -/
  otherMode : Bool := false
  /-- Whether this head's own T-link qualifies (R19 item 3), the tick at which that last changed, and whether the order waits for
  the next tick (item 4). -/
  qual : Bool := false
  qualAt : Nat := 0
  again : Bool := false
  /-- The dies whose last STATUS told of an open hop beside them (R73). -/
  chains : List Nat := []
  /-- Die number of ALT_HEAD as last learnt, and the group path head in force: 0 none, 1 HEAD, 2 ALT_HEAD (R26). -/
  altDie : BitVec 5 := 16
  /-- The port number pod Verard B gave ALT_HEAD (R16). -/
  altPort : Option (BitVec 6) := none
  gph : BitVec 2 := 1
  /-- What this die knows of the T-links of HEAD and ALT_HEAD, and the LK_TOPO.MASTER at which it was learnt (R26). -/
  headUp : Bool := true
  altUp : Bool := false
  learntAt : BitVec 2 := 0
  deriving DecidableEq, Repr

/-- What a reference input keeps beyond its registers (R80 to R90). -/
structure RefIn where
  /-- Since when every accept limit has been met. -/
  goodSince : Option Nat := none
  /-- Since when the input has been QUALIFIED. -/
  qualSince : Option Nat := none
  lastAnnounce : Option Nat := none
  lastSync : Option Nat := none
  lastEdge : Option Nat := none
  /-- The last observation differed from the prediction by more than JUMP_NS (R88). -/
  jumpOnce : Bool := false
  /-- The input is REFUSED, shown or behind a lockout, until its offset comes back (R89). -/
  refused : Bool := false
  /-- Observations of the input's time minus hall time, ps, newest first. -/
  obs : List Int := []
  utcOffset : BitVec 16 := 0
  utcValid : Bool := false
  /-- The data set of the best time transmitter seen, and its sourcePortIdentity. -/
  best : List Nat := []
  source : Option (BitVec 80) := none
  deriving DecidableEq, Repr

/-- One entry of a transmit time-stamp queue (R102). -/
structure TsqEntry where
  seqId : BitVec 16
  msgType : BitVec 4
  stamp : Nat
  oneStep : Bool
  deriving DecidableEq, Repr

/-- A PTP port's hidden state (R100 to R102). -/
structure PtpPort where
  tsq : List TsqEntry := []
  seqSync : BitVec 16 := 0
  seqDelay : BitVec 16 := 0
  seqPdelay : BitVec 16 := 0
  seqAnnounce : BitVec 16 := 0
  /-- A two-step Sync in hand: its sequenceId, receive stamp and correction, ps. -/
  syncRx : Option (BitVec 16 × Nat × Int) := none
  /-- The last Sync's t2 − t1, ps. -/
  syncDiff : Option Int := none
  /-- The last Delay_Req or Pdelay_Req sent: its sequenceId and stamp. -/
  reqTx : Option (BitVec 16 × Nat) := none
  /-- A two-step Pdelay_Resp in hand: its source, its receive stamp, the peer's stamp of our request, and its correction, ps. -/
  respRx : Option (BitVec 80 × Nat × Nat × Int) := none
  mpd : Int := 0
  /-- Exchanges of the present second: (mean path delay, offset), ps. -/
  window : List (Int × Int) := []
  windowAt : Nat := 0
  deriving DecidableEq, Repr

/-- An event that the next loop update takes in its place in the order of R84. -/
inductive RefEvent where
  /-- A jump refusal, with the size of the step, ps (R88). -/
  | refuse (i : Nat) (step : Int)
  /-- A frequency measured, 10⁻¹² (R80). -/
  | measured (i : Nat) (ppt : BitVec 32)
  /-- A grandmaster outside the limits, with the cause (R80, R81). -/
  | unfit (i : Nat) (cause : Nat)
  /-- A lockout set or released (R83). -/
  | lockout (i : Nat) (on : Bool)
  deriving DecidableEq, Repr

/-- Verard's reference side (R77 to R99). -/
structure Refs where
  inputs : List (Nat × RefIn) := []
  ptp : List (Nat × PtpPort) := []
  /-- A priority write has asked for a fresh selection (R83). -/
  rerun : Bool := false
  /-- This root has become hall master and has still to absorb its input's bearing (R87, R426). -/
  absorb : Bool := false
  /-- The events that the next loop update takes (R84). -/
  events : List RefEvent := []
  /-- INC works the absorbed bearing off: each loop update takes BEARING_SLEW off the residual (R85). -/
  working : Bool := false
  warmSince : Option Nat := none
  /-- Outputs (R99): begun, and pulse instant minus second boundary. -/
  pulsing : Bool := false
  ppsOfs : Int := 0
  realignAt : Option Nat := none
  /-- A second realignment, asked for less than 1 s before the first takes effect (R99). -/
  realignThen : Option Nat := none
  pulses : Nat := 0
  deriving DecidableEq, Repr

/-- A stored answer (R374): its SEQUENCE, opcode and version, the REPLY's payload and the COMPLETION's once sent. -/
structure Answer where
  seq : BitVec 32
  opcode : Byte
  version : Byte
  reply : List Byte
  completion : Option (List Byte) := none
  deriving DecidableEq, Repr

/-- A session (R372 to R376), unicast or of a group. -/
structure Session where
  id : BitVec 32
  group : Bool := false
  key : List Byte := []
  saltIn : BitVec 32 := 0
  saltOut : BitVec 32 := 0
  /-- H and the record of the counters below it (R373). -/
  high : BitVec 64 := 0
  seen : BitVec 64 := 0
  /-- The last COUNTER sent. -/
  tx : BitVec 64 := 0
  /-- The last 16 answers, newest first. -/
  answers : List Answer := []
  outstanding : Nat := 0
  lastAuth : Nat := 0
  keyIndex : Nat := 0
  gid : BitVec 18 := 0
  gen : BitVec 14 := 0
  deriving DecidableEq, Repr

/-- An asynchronous command in progress (R386): who asked, the opcode, and what it waits for. -/
structure Work where
  ctx : CmdCtx
  opcode : Byte
  /-- The thing whose end completes it: a job word, an object, a channel ... by opcode. -/
  tag : Nat
  deriving DecidableEq, Repr

/-- A packet being put together (R380). -/
structure Reasm where
  origin : Ua
  pktId : BitVec 16
  total : BitVec 6
  parts : List (Nat × List Byte)
  startAt : Nat
  fromPath : Path
  deriving DecidableEq, Repr

/-- A relay's route record (R379). -/
structure RouteRec where
  origin : Ua
  pktId : BitVec 16
  /-- The ways out, each with the UA it leads to. -/
  path : List (Path × Nat)
  startAt : Nat
  deriving DecidableEq, Repr

/-- A firmware bank (R409 to R412): its state, 0 NONE, 1 ERASING, 2 OPEN, 3 STAGED; the transfer's ID, FW_VERSION and length; the
parts held, by number. -/
structure Bank where
  state : Nat := 0
  xfer : Nat := 0
  ver : Nat := 0
  len : Nat := 0
  parts : List (Nat × List Byte) := []
  deriving DecidableEq, Repr

/-- What a part keeps through a restart (R396 to R412): life-cycle state and record entries used, key slots by number with their masks,
profile key, identity key, certificates, anti-rollback level, FW_KEY0 revoked, firmware banks, the bank that runs and its VER_MAX, the
profile copies of a Verard and which is loaded, and a transition that is not complete with the key that asked for it. -/
structure Sec where
  lc : Nat := 0
  used : Nat := 0
  slots : List (Nat × (Nat × List Byte)) := []
  profKey : List Byte := []
  idKey : List Byte := []
  certs : List Byte := []
  svnMin : Nat := 0
  revoked : Bool := false
  bank0 : Bank := {}
  bank1 : Bank := {}
  running : Nat := 0
  verMax : Nat := 1
  copies : List (Nat × List Byte) := []
  target : Option (Nat × Nat) := none
  /-- PROF[1:0] and PROF_CMD as last sampled (R361), and the number stored for the next reset (R364). -/
  prof : Nat := 0
  profCmd : Bool := false
  nextProf : Option Nat := none
  deriving DecidableEq, Repr

/-- What a part keeps of its security work until its restart (R402, R407, R410, R425): the challenge in force, stamps that wait for the
signing engine, the stamps signed, parts being programmed, the profile area loaded and the store buffer's words, and when the present
start-up stage began. `reloading`: the profile store's work under way is a RELOAD. -/
structure SecRun where
  challenge : List Byte := []
  stamps : List (CmdCtx × List Byte) := []
  stamped : Nat := 0
  writes : List (CmdCtx × Nat × Nat × List Byte) := []
  loaded : List Byte := []
  buffer : List (Nat × Nat) := []
  stageAt : Nat := 0
  reloading : Bool := false
  /-- Lotik's PROFILE stage (R362, R364): the boot block read, none before; the number selected. -/
  boot : Option (List Byte) := none
  selected : Option Nat := none
  deriving DecidableEq, Repr

/-- A whole packet that waits for the controller (R384). -/
structure PktIn where
  path : Path
  bytes : List Byte
  at_ : Nat
  deriving DecidableEq, Repr

/-- A part's command path (R368 to R395). -/
structure CmdPath where
  sessions : List Session := []
  works : List Work := []
  pktId : BitVec 16 := 0
  reasm : List Reasm := []
  routes : List RouteRec := []
  /-- Fragments that wait by back-pressure, oldest first: a fragment 0 without a free record or buffer, and what came behind it (R379, R380). -/
  waiting : List (Path × Fragment) := []
  /-- Packets waiting for the host, oldest first (R392). -/
  held : List (List Byte) := []
  /-- Whole packets not yet taken by the controller: the way each came, and when (R384). -/
  inbox : List PktIn := []
  /-- How many ephemeral keys and random values have been drawn. -/
  draws : Nat := 0
  deriving DecidableEq, Repr

/-- The values of Lotik's profile record that no register shows (R423), at the defaults of their chapters. -/
structure LkProf where
  startMarginUs : Nat := 50
  markGuard : Nat := 200
  holdSpecNs : Nat := 100
  loAgeing : Nat := 0
  fCold : Nat := 10000
  sessionIdleS : Nat := 3600
  deriving DecidableEq, Repr

/-- The values of Verard's profile record that no register shows (R424), at the defaults of their chapters. -/
structure VdProf where
  podNumber : Nat := 0
  bwPtpMhz : Nat := 50
  bwPpsMhz : Nat := 10
  bearingSlew : Nat := 10
  classMax : Nat := 7
  fCold : Nat := 10000
  assistF : Nat := 10
  ppsDelayPs : Int := 0
  warmSettle : Nat := 60
  freqAccept : Nat := 2000000
  freqReject : Nat := 4000000
  sessionIdleS : Nat := 3600
  ptpPhy : List Nat := [0, 0]
  ptpAsymPs : List Int := [0, 0]
  ptpAddr : List Byte := []
  startMarginUs : Nat := 50
  deriving DecidableEq, Repr

/-- One entry of a loop stack (R129). -/
structure LoopEnt where
  index : Nat
  left : Nat
  deriving DecidableEq, Repr

/-- A waypoint in the fetcher's buffer (R125): its index, its bits, the loop stack when its turn comes, and the fault that
takes effect in its place (R148), 0 for none. -/
structure BufWp where
  pc : Nat
  wp : BitVec 128
  stack : List LoopEnt := []
  fault : Nat := 0
  /-- Its change, window or output has been made ready ahead of its instant (R127, R128, R243, R313). -/
  planned : Bool := false
  deriving DecidableEq, Repr

/-- Whether an entry holds a buffer place (R125): a JUMP holds none, and what stands for the program's end or a failed read is no
waypoint. -/
def BufWp.holds (b : BufWp) : Bool := b.fault == 0 || (b.wp != 0 && b.wp.toNat % 16 != 7)

/-- What a job slot holds (R136) beyond its state. -/
structure Slot where
  gid : BitVec 18 := 0
  gen : BitVec 14 := 0
  prog : Nat := 0
  detmode : Bool := false
  oosFault : Bool := false
  gateLimit : Nat := 30000
  seed : BitVec 128 := 0
  t0 : Nat := 0
  /-- The instant from which ANCHOR = 0 offsets count: T0, moved by a resume or a load (R296, R298). -/
  base : Int := 0
  pc : Nat := 0
  stack : List LoopEnt := []
  fetchPc : Nat := 0
  fetchStack : List LoopEnt := []
  /-- The spin count of R129; none before a COUNT 0 JUMP since the last MARK. -/
  spin : Option Nat := none
  fetchEnd : Bool := false
  buf : List BufWp := []
  /-- First waypoints of the bursts asked for and not yet delivered. -/
  bursts : List Nat := []
  armedAt : Nat := 0
  armCseq : Nat := 0
  prefetching : Bool := false
  /-- ARM's answer waits for the prefetch (R140). -/
  arming : Bool := false
  /-- The prefetch is that of a JOB_LOAD (R298). -/
  loading : Bool := false
  stepDone : Bool := false
  /-- The gate arrival: submitted, when, and, once its completion is held, M of R131 and the arrival (R131, R132). -/
  gateSent : Bool := false
  gateAt : Nat := 0
  gateDone : Option (Nat × Nat) := none
  overrunTested : Bool := false
  /-- The last control round heard of for this job (R138). -/
  cseq : Nat := 0
  deriving DecidableEq, Repr

/-- The waypoints held (R125, R153). -/
def Slot.ahead (x : Slot) : Nat := (x.buf.filter BufWp.holds).length

/-- The running digest of a tag (R288). -/
structure DigTag where
  lo : BitVec 64 := 0
  hi : BitVec 64 := 0
  count : BitVec 40 := 0
  deriving DecidableEq, Repr

/-- An open step's digests (R289). -/
structure DigStep where
  step : BitVec 64
  tags : List (Nat × DigTag) := []
  deriving DecidableEq, Repr

/-- The rest of a job slot: instants, rounds and what the other units keep for the job. -/
structure SlotRun where
  /-- Instant of the last waypoint executed in the present step, and the end of its last OPTICAL window (R131). -/
  lastWp : Nat := 0
  winEnd : Nat := 0
  /-- The end of the last OPTICAL window of any step (R128). -/
  winAny : Nat := 0
  /-- The instant of the waypoint or Mark before the next one (R128), and of the change before the next FREQ (R244). -/
  prevAt : Nat := 0
  freqAt : Option Nat := none
  ended : Bool := false
  defers : List (Nat × Nat) := []
  deferTotal : Nat := 0
  td : Option Nat := none
  pauseA : Option Nat := none
  /-- The Mark a pause holds: its instant and step (R294). -/
  held : Option (Nat × Nat) := none
  resumeAt : Option Nat := none
  confirm : Bool := false
  /-- The COMMIT whose answer is held (R141). -/
  commitHeld : Option JobMsg := none
  commitCseq : BitVec 16 := 0
  /-- Instants of the Marks raised, newest first (R149). -/
  marks : List Nat := []
  drainCause : Nat := 0
  period : Nat := 0
  alignMiss : Bool := false
  loaded : Bool := false
  hints : List (Nat × Nat) := []
  lastFreq : Nat := 0
  maxDensity : Nat := 0
  /-- Errors found during the drain (R343). -/
  nested : Nat := 0
  /-- Power samples with a density above 0, and samples with CAP_UNREACHABLE, since the job began (R275). -/
  bubbles : Nat := 0
  unreach : Nat := 0
  /-- The open steps' digests a loaded image brought (R298). -/
  digSteps : List DigStep := []
  deriving DecidableEq, Repr

/-- Lotik's job side (R122, R123, R136). -/
structure Jobs where
  step : BitVec 64 := 0
  mark : Nat := 0
  /-- The instant a gate's completion has fixed for the next Mark (R131, R132). -/
  next : Option Nat := none
  slots : List (Nat × Slot) := []
  runs : List (Nat × SlotRun) := []
  /-- Control messages acted on (R139): job word, CSEQ, KIND. -/
  seen : List (Nat × Nat × Nat) := []
  deriving DecidableEq, Repr

/-- A measurement channel (R109 to R113): the configuration its START took, and what it has stamped. -/
structure MeasCh where
  freq : Bool := false
  falling : Bool := false
  prescale : Nat := 0
  stopSel : Nat := 0
  stopFalling : Bool := false
  gateUs : Nat := 0
  timeoutUs : Nat := 0
  beginAt : Nat := 0
  disc : BitVec 16 := 0
  /-- The start stamp of an interval, or the first stamp of a gate. -/
  t0 : Option Nat := none
  /-- Selected edges of the own input since the start, and the last prescaled one. -/
  edges : Nat := 0
  lastPre : Option Nat := none
  k : Nat := 1
  /-- Stored (stamp, input-cycle index), newest first. -/
  stamps : List (Nat × Nat) := []
  fitting : Bool := false
  deriving DecidableEq, Repr

/-- A MEAS input's two TDC lanes (R107). -/
structure MeasIn where
  done0 : Bool := false
  done1 : Bool := false
  /-- The lane that stamps. -/
  lane : Bool := false
  /-- Lane calibrations still to run, one at a time. -/
  toCal : Nat := 2
  calAt : Nat := 0
  deriving DecidableEq, Repr

/-- A stamp in a trigger input's FIFO (R116). -/
structure TrigStamp where
  stamp : Nat
  fine : Bool
  deriving DecidableEq, Repr

/-- A trigger input's FIFO, oldest first, and its last edge. -/
structure TrigIn where
  fifo : List TrigStamp := []
  last : Option Nat := none
  deriving DecidableEq, Repr

/-- A trigger output's train (R118). -/
structure Train where
  /-- The end of the present pulse (R119). -/
  pulseEnd : Nat := 0
  next : Nat := 0
  /-- The instant it was armed for (R294). -/
  start : Nat := 0
  width : Nat := 0
  period : Nat := 0
  byJob : Bool := false
  deriving DecidableEq, Repr
/-- An entry of a landing buffer (R240): a reset alignment's placeholder carries nothing (R285). -/
structure LandEnt where
  data : Option (BitVec 64)
  wrAt : Nat
  /-- Receiver cycles it must still wait (R241). -/
  wait : Nat
  deriving DecidableEq, Repr

/-- A landing buffer between two regions (R240): entries oldest first, the sender's credits, and credits on their way back
with the instant of their read and the sender cycles they must still wait. -/
structure Crossing where
  ents : List LandEnt := []
  credits : Nat := 4
  back : List (Nat × Nat) := []
  deriving DecidableEq, Repr

/-- A clock region's hidden state: its ledger, monitors and bubbles (R239 to R250, R254 to R263). -/
structure Region where
  cyc : BitVec 64 := 0
  lost : BitVec 48 := 0
  stepLost : Nat := 0
  lastLost : Nat := 0
  events : Nat := 0
  codes : BitVec 32 := 0
  /-- Passes every second edge; for how many stretched periods since the last droop; and whether the supply has recovered, which ends
  it at the next grid edge (R239). -/
  stretching : Bool := false
  periods : Nat := 0
  recovered : Bool := false
  /-- Margin-error edges of the last millisecond, newest first. -/
  errAt : List Nat := []
  lowSince : Option Nat := none
  lorAt : List Nat := []
  lorStuck : Bool := false
  rejoinAt : Option Nat := none
  /-- Edges since a rejoin until the crossings leave DECOUPLED (R249). -/
  rejoinEdges : Nat := 0
  toSafe : Bool := false
  /-- A fence asked for: 1 from the request, 2 once the buffers into the region sink (R250). -/
  fence : Nat := 0
  /-- The fenced cores of the region, 0 to 3: 1 from the request, 2 from the first edge after it, 3 once the clock branch has stopped. -/
  cores : List (Nat × Nat) := []
  counts : List (Nat × Nat) := []
  /-- Energy of the last sample, pJ: its dynamic part unbubbled (R261), and the whole as it was. -/
  eFull : Nat := 0
  eLast : Nat := 0
  /-- The largest density computed in the present slot, and the density in force (R263). -/
  nMax : Nat := 0
  applied : Nat := 0
  /-- Region cycles since frames began to count, and under DETMODE the slots whose density has been set since the Mark (R263). -/
  frame : Nat := 0
  slots : Nat := 0
  stepBubbles : Nat := 0
  lastBubbles : Nat := 0
  temp : Int := 0
  highSince : Option Nat := none
  overSince : Option Nat := none
  /-- Entries to STRETCHED and margin-error edges since the last sounding (R326). -/
  stretches : Nat := 0
  marginErrs : Nat := 0
  deriving DecidableEq, Repr

/-- A scheduled operating-point change (R242, R243): its hall tick, the index the program asked for, and a new ceiling. -/
structure Change where
  tick : Nat
  idx : Option Nat
  ceil : Option Nat
  prepared : Bool := false
  /-- Power-good and the standby lock were there 1 µs before it (R243, R244). -/
  checked : Bool := false
  deriving DecidableEq, Repr

/-- The clock steward (R238 to R251). -/
structure Steward where
  regions : List (Nat × Region) := []
  crossings : List (Nat × Crossing) := []
  /-- Grid PLL B is live; the standby PLL's index. -/
  liveB : Bool := false
  standby : Option Nat := none
  sched : List Change := []
  /-- The index the program last requested. -/
  requested : Nat := 0
  /-- The index whose voltage is requested. -/
  volt : Nat := 0
  finishAt : Option Nat := none
  /-- The change that finishes then lowered the index (R243). -/
  lowered : Bool := false
  /-- Nominal cycles of the present step, in MHz × 2⁻¹⁶ ns, and when they were last counted. -/
  nominal : Nat := 0
  nominalAt : Nat := 0
  deriving DecidableEq, Repr

/-- The power governor (R254 to R275): energies in pJ. -/
structure Power where
  bins1 : List Int := []
  cur1 : Int := 0
  bins10 : List Int := []
  cur10 : Int := 0
  sampleNo : Nat := 0
  boostAt : Option Nat := none
  zeroSince : Option Nat := none
  warnClear : Nat := 0
  ceilStep : Nat := 0
  /-- When a sensor last read TWARN_C − 3 °C or more (R273). -/
  hotAt : Nat := 0
  /-- Since when no demand has exceeded 60. -/
  calmSince : Nat := 0
  unreachAt : Option Nat := none
  maxShort : Nat := 0
  jobPj : Nat := 0
  totalPj : Nat := 0
  /-- requested(M) of R270: the step that Mark M begins, and the amount in hall ticks. -/
  reqs : List (Nat × Nat) := []
  deriving DecidableEq, Repr
/-- The determinism unit (R279 to R301). -/
structure Det where
  /-- Open steps, the newest first, at most two. -/
  steps : List DigStep := []
  /-- The last closed step and its tags' sums. -/
  closed : DigStep := { step := 0 }
  /-- The request of R290 in progress: tag, the results of a COMPARE's two operations, how many operations have not ended, and
  whether one has failed. -/
  reqTag : Nat := 0
  first : List Byte := []
  second : List Byte := []
  left : Nat := 0
  failed : Bool := false
  /-- The Mark of the alignment asked for (R285), and whether the host was ready. -/
  alignFor : Option Nat := none
  ready : Bool := false
  /-- The alignment asked for was found to miss before its Mark, and counted (R286). -/
  missed : Bool := false
  deriving DecidableEq, Repr
/-- The last-signaller record of a sync object (R180, R184). -/
structure LastSig where
  ctx : BitVec 16 := 0
  src : Nat := 0
  op : Nat := 0
  ua : Nat := 0
  flow : Nat := 0
  step : BitVec 64 := 0
  ticks : BitVec 64 := 0
  deriving DecidableEq, Repr

/-- A sync object (R156). -/
structure SyncObj where
  v : Nat := 0
  enable : Bool := false
  sat : Bool := false
  link : Bool := false
  queue : Nat := 0
  reload : Nat := 0
  round : BitVec 16 := 0
  linkPending : Bool := false
  held : Bool := false
  satHit : Bool := false
  faulted : Bool := false
  lastFault : Nat := 0
  ls : LastSig := {}
  deriving DecidableEq, Repr

/-- A waiter record (R164); their order in the list is the order of registration. -/
structure Waiter where
  obj : Nat
  ctx : BitVec 16
  core : BitVec 8
  consume : Bool
  cmp : Nat
  arg : Nat
  deriving DecidableEq, Repr

/-- A wake decided and not yet delivered (R161, R166). -/
structure Wake where
  due : Nat
  status : Nat
  obj : Nat
  round : BitVec 16
  v : Nat
  ctx : BitVec 16
  core : BitVec 8
  deriving DecidableEq, Repr

/-- A pending slot (R175, R176): its number, the record, its cover once sequenced, its place in its flow's order (0 before), its
age. -/
structure PendSlot where
  sig : BitVec 128
  place : Nat := 0
  cover : BitVec 32 := 0
  order : Nat := 0
  stale : Bool := false
  ticks : BitVec 64 := 0
  since : Nat := 0
  deriving DecidableEq, Repr

/-- A flow (R174). -/
structure Flow where
  landed : BitVec 32 := 0
  signalled : BitVec 32 := 0
  next : BitVec 16 := 0
  /-- Signals sequenced so far. -/
  seqd : Nat := 0
  deriving DecidableEq, Repr

/-- An operation at a sync object: its source (R184), what it does, and whom it answers. -/
structure SyncOp where
  src : Nat
  op : Nat
  obj : Nat
  arg : Nat
  cmp : Nat := 0
  ctx : BitVec 16 := 0
  core : BitVec 8 := 0
  ua : Nat := 0
  flow : Nat := 0
  cmd : Option CmdCtx := none
  deriving DecidableEq, Repr

/-- What a save holds back (R177). -/
inductive SyncHeld where
  | op (o : SyncOp)
  | feed (flow count : Nat)
  | record (r : BitVec 128)
  deriving DecidableEq, Repr

/-- The sync unit (R155 to R185). -/
structure Sync where
  objs : List (Nat × SyncObj) := []
  waiters : List Waiter := []
  wakes : List Wake := []
  pend : List PendSlot := []
  flows : List (Nat × Flow) := []
  /-- Records that the port has refused for want of a slot, which the host network interface holds (R176). -/
  refused : List (BitVec 128) := []
  /-- The save or restore in progress: false SAVE, true RESTORE. -/
  saving : Option Bool := none
  heldOps : List SyncHeld := []
  saveRange : Nat × Nat × Nat × Nat := (0, 0, 0, 0)
  /-- The image address of the save or restore in progress, and the length of the image it writes. -/
  saveAt : Nat := 0
  saveLen : Nat := 0
  deriving DecidableEq, Repr
/-- An accumulator element (R218): the exact sum, or a key or value and an index, and the six flags. -/
structure Elem where
  v : Int := 0
  key : Nat := 0
  idx : Nat := 0
  flags : Nat := 0
  deriving DecidableEq, Repr
/-- An operation a queue has in flight (R194 to R197): its source, 0 host, 1 gate, 2 linked object, 3 digest unit, and whom it
answers; `res` holds its end until the operations before it are written: STATUS, CAUSE, UA, t_c and RESULT body. -/
structure QOp where
  oseq : BitVec 16
  src : Nat
  ref : Nat
  op : Nat := 0
  ty : Nat := 0
  sh : Nat := 0
  res : Option (Nat × Nat × Nat × Nat × List Byte) := none
  deriving DecidableEq, Repr

/-- A member's own count of a PACKAGE barrier (R199): dies that have arrived, the latest departure instant, the first arrival. -/
structure PkgCount where
  oseq : BitVec 16
  dies : Nat := 0
  latest : Nat := 0
  firstAt : Nat := 0
  deriving DecidableEq, Repr

/-- A local group queue (R193 to R197, R211). -/
structure Queue where
  enable : Bool := false
  irqEn : Bool := false
  sqLog2 : Nat := 0
  cqLog2 : Nat := 0
  gid : Nat := 0
  gen : Nat := 0
  sq : Nat := 0
  cq : Nat := 0
  sqTail : Nat := 0
  sqHead : Nat := 0
  cqTail : Nat := 0
  cqPhase : Bool := true
  cqHead : Nat := 0
  /-- Completion entries the host has not consumed. -/
  cqUsed : Nat := 0
  state : Nat := 0
  depth : Nat := 0
  cqWait : Bool := false
  next : BitVec 16 := 0
  done : BitVec 16 := 0
  faultCause : Nat := 0
  faultUa : Nat := 0
  completed : Nat := 0
  faulted : Nat := 0
  ops : List QOp := []
  /-- Early statuses (R197): OSEQ, STATUS, CAUSE, UA. -/
  early : List (BitVec 16 × Nat × Nat × Nat) := []
  /-- Internal arrivals that wait (R196): source, whom to answer, submission entry. -/
  waiting : List (Nat × Nat × List Byte) := []
  /-- A submission read is outstanding. -/
  fetching : Bool := false
  counts : List PkgCount := []
  deriving DecidableEq, Repr

/-- A fragment sequence being taken from one contributor (R223): the next index, the total, the elements so far. -/
structure FragSeq where
  from_ : Nat
  next : Nat
  total : Nat
  elems : List (Nat × Elem)
  deriving DecidableEq, Repr

/-- A tree-counter slot (R198, R214), or a head-table entry's operation. `from_` names the contributors counted, by UA. -/
structure OpSlot where
  oseq : BitVec 16 := 0
  busy : Bool := false
  faulted : Bool := false
  cover : Nat := 0
  from_ : List Nat := []
  /-- The Basin entry that the operation has among its group's DEPTH (R233). -/
  entry : Nat := 0
  op : Nat := 0
  ty : Nat := 0
  sh : Nat := 0
  firstAt : Nat := 0
  elems : List Elem := []
  frags : List FragSeq := []
  /-- This node has sent its own contribution upward. -/
  sent : Bool := false
  /-- The operation has ended here. -/
  ended : Bool := false
  deriving DecidableEq, Repr

/-- A round at the top node (R191, R192): 1 SEAL, 2 RENEW, 3 DELETE; when it began, the dies and the nodes (Verards, HEADs and
ALT_HEADs) that have acknowledged, and the nodes expected to. -/
structure GroupRound where
  kind : Nat
  at_ : Nat
  dies : List (Nat × Nat) := []
  verards : List Nat := []
  expect : List Nat := []
  deriving DecidableEq, Repr

/-- What a part holds for a GID (R186 to R192, R214): state 0 FREE, 1 BUILDING, 2 SEALING, 3 SEALED; role 0 TOP, 1 COMBINING, 2 RELAY. -/
structure GroupRec where
  state : Nat := 0
  role : Nat := 0
  scope : Nat := 0
  acc : Nat := 0
  maxElems : Nat := 0
  depth : Nat := 0
  gen : Nat := 0
  limitMs : Nat := 0
  /-- Member packages by UA, with their die masks. -/
  members : List (Nat × Nat) := []
  slots : List (Nat × OpSlot) := []
  done : BitVec 16 := 0
  completed : Nat := 0
  faults : Nat := 0
  lastCause : Nat := 0
  lastUa : Nat := 0
  lastOseq : Nat := 0
  stale : Nat := 0
  /-- Basin units reserved, and the first of them. -/
  basin : Nat := 0
  basinAt : Nat := 0
  round : Option GroupRound := none
  /-- The nodes, Verards, HEADs and ALT_HEADs, that have acknowledged the group's BIND (R192). -/
  verards : List Nat := []
  /-- The UA of the top node that built the group (R190, R191). -/
  top : Nat := 0
  /-- The operations that links beside a Verard carry (R208): OSEQ, OP, and the ports. -/
  carried : List (BitVec 16 × Nat × List Nat) := []
  deriving DecidableEq, Repr

/-- Answers a head or pod Verard gathers for one round (R139): by KIND, job or group word, CSEQ and step count. `got` holds the
dies that answered, by port; a head uses port 0. -/
structure AckAgg where
  kind : Nat
  word : Nat
  cseq : Nat
  step : Nat := 0
  got : List (Nat × Nat) := []
  firstAt : Nat := 0
  timed : Bool := false
  sent : Nat := 0
  deriving DecidableEq, Repr

/-- A job record at its root (R137, R140 to R151, R272, R294). -/
structure JobRec where
  gid : Nat
  gen : Nat
  state : Nat := 1
  cseq : Nat := 0
  /-- The open round: 0 none, 1 ARM, 2 COMMIT, 3 RESUME; 4, a RESUME confirmed whose instant lies ahead. -/
  round : Nat := 1
  acked : List (Nat × Nat) := []
  t0 : Nat := 0
  checkStep : Option Nat := none
  checked : List (Nat × Nat) := []
  checkOpen : Bool := false
  firstFault : Option (Nat × Nat × Nat) := none
  td : Nat := 0
  drained : List (Nat × Nat) := []
  /-- By step (R272): the amount granted, and M as the deferrals sent have moved it. -/
  granted : List (Nat × Nat × Nat) := []
  /-- Deferrals sent: A and D. -/
  defers : List (Nat × Nat) := []
  /-- The steps gathered for: step, since when, the largest D, M. -/
  gathers : List (Nat × Nat × Nat × Nat) := []
  /-- The pause asked for, and the reports: package, die mask; P and M of the first, and when it came. -/
  pauseAt : Option Nat := none
  paused : List (Nat × Nat) := []
  pauseP : Option (Nat × Nat × Nat) := none
  deriving DecidableEq, Repr

/-- A frame that waits for credit (R204): the peer, the class, its cells, since when, and what it is. -/
structure TxWait where
  peer : Nat
  cls : Nat
  cells : Nat
  since : Nat
  stalled : Bool := false
  out : Out
  deriving DecidableEq, Repr

/-- What a part keeps of the tree (R186 to R210): groups by GID, job records, gathered answers, credits used by peer and class,
frames that wait, and the DEFER_REQs already forwarded (R271). -/
structure Tree where
  groups : List (Nat × GroupRec) := []
  jobs : List JobRec := []
  aggs : List AckAgg := []
  used : List (Nat × Nat) := []
  waits : List TxWait := []
  deferFwd : List (Nat × Nat × Nat) := []
  /-- Frames of the other classes served since MGMT had its slot (R203). -/
  sinceMgmt : Nat := 0
  /-- Messages of the present millisecond (R214). -/
  engMs : Nat := 0
  engCount : Nat := 0
  deriving DecidableEq, Repr
/-- A quiet window a Verard port holds (R313, R314): its port, start, end, and the job's group word. -/
structure Window where
  port : Nat
  start : Nat
  stop : Nat
  word : Nat
  deriving DecidableEq, Repr
/-- A sounding that runs (R324, R325), with what it latched at its instant: the smallest code and its region, the edges and
stretches since the last one, and the cell. -/
structure Sounding where
  mask : Nat
  auto : Bool
  at_ : Nat
  margin : Nat
  worst : Nat
  errs : Nat
  stretches : Nat
  /-- Every region's eight codes, and its MARGIN_ERR since the last sounding (R248). -/
  latched : List (BitVec 32 × Nat) := []
  cell : Nat
  deriving DecidableEq, Repr

/-- A known-answer test that runs (R328): since when, its cell, and the signatures that have arrived. -/
structure Kat where
  since : Nat
  cell : Nat
  sigs : List (Nat × BitVec 64) := []
  deriving DecidableEq, Repr

/-- Lotik's health unit (R324 to R328): `asked` is the instant of a KAT request that waits for its Mark; `askers` are the HM_SOUND
requests that wait for a record, with their masks. -/
structure Health where
  first : Bool := true
  lastAt : Nat := 0
  sounding : Option Sounding := none
  kat : Option Kat := none
  asked : Nat := 0
  askers : List (CmdCtx × Nat) := []
  deriving DecidableEq, Repr

/-- What Verard keeps of a die beyond its table word (R330, R331): the last record, since when it is on PROBATION, since when all
has been clean, its last KAT FAIL by cell, and which hops beside it are open (bit 0 E, bit 1 W). -/
structure HmDie where
  known : Bool := false
  lastRec : Nat := 0
  probSince : Nat := 0
  cleanSince : Nat := 0
  katFails : List (Nat × Nat) := []
  open_ : Nat := 0
  /-- The die is a head whose T-link it has reported out of SERVICE, and its package holds over (R330). -/
  tlinkDown : Bool := false
  degraded : Bool := false
  deriving DecidableEq, Repr

/-- Verard's health manager (R329 to R336, R341): dies, expulsions of the last hour, dies that have entered PROBATION or lower
with the instant, frames taken and not yet applied (port, KIND, body), and the count of the present second by port. -/
structure HmUnit where
  dies : List (Nat × HmDie) := []
  expels : List Nat := []
  lows : List (Nat × Nat) := []
  inbox : List (Nat × Byte × List Byte) := []
  rates : List (Nat × Nat × Nat) := []
  deriving DecidableEq, Repr
/-- What Verard keeps of a laser line (R312, R315): whether it is lit, since when and for how long before that, when it became
SWAP_DUE, whether its swap is forced or its wait is over, and its power at BIAS_MAX by instant, newest first. -/
structure OeLine where
  lit : Bool := false
  litSince : Nat := 0
  litTotal : Nat := 0
  dueAt : Nat := 0
  forced : Bool := false
  waited : Bool := false
  asked : Bool := false
  hist : List (Nat × Int) := []
  deriving DecidableEq, Repr

/-- A swap that has begun (R316, R318): its port or bus, the lines, when it began, and whether the old line is to be put back. -/
structure OeSwap where
  port : Nat
  old : Nat
  spare : Nat
  at_ : Nat
  restore : Bool := false
  deriving DecidableEq, Repr

/-- A ring (R305 to R311): its heater code, the codes the search found for the channels, moves in the present ms, consecutive wrong
tones, and the instants of its wrong lines of the last hour. -/
structure OeRing where
  code : Nat := 0
  found : List Nat := []
  ms : Nat := 0
  moved : Nat := 0
  wrong : Nat := 0
  wrongs : List Nat := []
  /-- A drop ring: since when it has no light, its code frozen (R309). -/
  darkAt : Option Nat := none
  /-- The code to which it is moving (R302, R306, R308, R311). -/
  goal : Option Nat := none
  /-- It is swept alone to find its own tone again (R311); a sweep goes down to code 0 first. -/
  seek : Bool := false
  down : Bool := false
  deriving DecidableEq, Repr

/-- An optical engine (R302 to R318): since when it is in its state, its lines, its rings (modulators 0 to 7, drop rings 8 to 15), the
swap under way, the end of the last, and the upstream ports whose channel is identified. -/
structure Oe where
  since : Nat := 0
  lines : List (Nat × OeLine) := []
  rings : List (Nat × OeRing) := []
  swap : Option OeSwap := none
  lastSwap : Option Nat := none
  ident : List Nat := []
  /-- The port whose frames wait out a swap's gap, and when that began (R316). -/
  gap : Option (Nat × Nat) := none
  /-- The places whose rings move to the codes that a search has found (R306, R308). -/
  settling : List Nat := []
  /-- The optical state of TEST0 and TEST1 (places 2 and 3 of engine 8), which have no port registers (R302). -/
  tests : List (Nat × Nat) := []
  /-- The last update of the lock loops (R305) and the last adjustment of the biases (R312). -/
  lockAt : Option Nat := none
  biasAt : Option Nat := none
  deriving DecidableEq, Repr

/-- A circuit-switch output (R319, R320): the instant of its pulse, the last pulse, and whether a loss of light has been recorded since. -/
structure Ocs where
  at_ : Option Nat := none
  firedAt : Option Nat := none
  mask : List Nat := []
  /-- The ports of the mask still SWITCHING since the last pulse (R320). -/
  live : List Nat := []
  lossLogged : Bool := false
  deriving DecidableEq, Repr

/-- What both parts keep. -/
structure Part where
  clk : Clock := {}
  log : Log := {}
  cmd : CmdPath := {}
  tree : Tree := {}
  sec : Sec := {}
  run : SecRun := {}
  deriving DecidableEq, Repr

/-- What Lotik alone keeps. -/
structure LotikSt where
  ring : Ring := {}
  prof : LkProf := {}
  jobs : Jobs := {}
  trigIn : List (Nat × TrigIn) := []
  trains : List (Nat × Train) := []
  /-- CAPTURE OP 0 waypoints that wait for an edge: trigger, instant, step (R127). -/
  captures : List (Nat × Nat × Nat) := []
  cs : Steward := {}
  /-- Hand-overs between the units of the die not yet acted on, oldest first. -/
  mail : List Mail := []
  pg : Power := {}
  det : Det := {}
  sync : Sync := {}
  /-- HOST_RST_N is low (R350). -/
  hostDown : Bool := false
  /-- The last instants at which the logic domain and the timing core had work (R352). -/
  logicAt : Nat := 0
  tcAt : Nat := 0
  /-- The logic domain enters sleep: FCLK_REQ is low (R352). -/
  sleeping : Bool := false
  queues : List (Nat × Queue) := []
  hm : Health := {}
  /-- The die was TRIPPED when it restarted (R361). -/
  wasTripped : Bool := false
  deriving DecidableEq, Repr

/-- What Verard alone keeps. -/
structure VerardSt where
  refs : Refs := {}
  /-- Groups of R420 for which a message has been sent and that have not been clear since. -/
  msixSent : BitVec 6 := 0
  prof : VdProf := {}
  meas : List (Nat × MeasCh) := []
  measIn : List (Nat × MeasIn) := []
  /-- Quiet windows held (R314). -/
  windows : List Window := []
  hm : HmUnit := {}
  /-- SEQ of the entry loaded into the Log view, where the Log held it (R346). -/
  logView : Option Nat := none
  oe : List (Nat × Oe) := []
  ocs : List (Nat × Ocs) := []
  /-- The laser source reports ready (LS_READY, R355). -/
  lsReady : Bool := false
  /-- Verard holds itself in reset, too hot (R360). -/
  hot : Bool := false
  deriving DecidableEq, Repr

/-- The state of the block. -/
structure State where
  /-- The register fields that differ from their reset values: key and difference, keys rising. -/
  reg : List (Nat × Nat) := []
  lkPart : Part := {}
  vdPart : Part := {}
  lk : LotikSt := {}
  vd : VerardSt := {}
  /-- T-link ports by index. -/
  ports : List (Nat × TPort) := []
  /-- The model's record of outputs, newest first. -/
  out : List Out := []
  /-- The model's count of free values drawn. -/
  free : Nat := 0
  /-- The commands that wait, first in, first out. -/
  pending : List Instr := []
  deriving DecidableEq, Repr

/-- The block right after reset (R8): every register at its reset value, nothing sent, no command waiting. -/
def State.reset : State := {}

end Sys2Proof.Machine
end

