-- ==== Sys2Proof/Machine/Ops.lean ====
section
/-! DEFINITION. The named operations over the register fields, the two parts, the ports, the outputs and the free values. -/

namespace Sys2Proof.Machine

open Sys2Proof

/-- The outcome of a command. -/
abbrev Res := Host.Outcome State Fault Refusal

-- Register fields.

/-- The value of a register field. -/
def State.get (s : State) (f : Field) : Nat := (smGet 0 s.reg f.key + f.reset) % 2 ^ f.width

/-- Set a register field, modulo its width. -/
def State.put (s : State) (f : Field) (v : Nat) : State :=
  { s with reg := smPut 0 s.reg f.key ((v + (2 ^ f.width - f.reset % 2 ^ f.width)) % 2 ^ f.width) }

/-- Set a register field to a signed value, two's complement. -/
def State.putS (s : State) (f : Field) (v : Int) : State := s.put f (ofSigned f.width v)

/-- A register field as a signed value, two's complement. -/
def State.getS (s : State) (f : Field) : Int := toSigned f.width (s.get f)

/-- Set a register field, holding the largest value it can show. -/
def State.putSat (s : State) (f : Field) (v : Nat) : State := s.put f (min v (2 ^ f.width - 1))

/-- Set a register field to a signed value, saturating. -/
def State.putSSat (s : State) (f : Field) (v : Int) : State :=
  s.putS f (clampInt (-(2 ^ (f.width - 1) : Nat)) ((2 ^ (f.width - 1) : Nat) - 1) v)

/-- Set a one-bit field from a Boolean. -/
def State.putB (s : State) (f : Field) (b : Bool) : State := s.put f (b2n b)

/-- A one-bit field as a Boolean. -/
def State.getB (s : State) (f : Field) : Bool := s.get f != 0

/-- Count one in a wrapping counter field. -/
def State.bump (s : State) (f : Field) : State := s.put f (s.get f + 1)

/-- Count in a saturating counter field. -/
def State.bumpSat (s : State) (f : Field) (n : Nat := 1) : State := s.putSat f (s.get f + n)

/-- The stored word of a register: its fields put together (R5). -/
def State.word (s : State) (sp off : Nat) : Nat :=
  ((fieldsAt sp off).map (fun f => s.get f * 2 ^ f.lsb)).sum % 2 ^ 32

-- Parts.

/-- What both parts keep, of one part. -/
def State.part (s : State) : Dev → Part
  | .lotik => s.lkPart
  | .verard => s.vdPart

/-- Replace what one part keeps. -/
def State.setPart (s : State) (d : Dev) (p : Part) : State :=
  match d with
  | .lotik => { s with lkPart := p }
  | .verard => { s with vdPart := p }

/-- A part's clock. -/
def State.clk (s : State) (d : Dev) : Clock := (s.part d).clk

/-- Replace a part's clock. -/
def State.setClk (s : State) (d : Dev) (c : Clock) : State := s.setPart d { s.part d with clk := c }

/-- A part's Log. -/
def State.log (s : State) (d : Dev) : Log := (s.part d).log

/-- Replace a part's Log. -/
def State.setLog (s : State) (d : Dev) (l : Log) : State := s.setPart d { s.part d with log := l }

/-- A T-link port's hidden state. -/
def State.port (s : State) (p : PortId) : TPort := smGet {} s.ports p.idx

/-- Replace a T-link port's hidden state. -/
def State.setPort (s : State) (p : PortId) (t : TPort) : State := { s with ports := smPut {} s.ports p.idx t }

/-- Replace the ring's hidden state. -/
def State.setRing (s : State) (r : Ring) : State := { s with lk := { s.lk with ring := r } }

/-- One hop of the ring. -/
def State.hop (s : State) : RingPort → Hop
  | .e => s.lk.ring.hopE
  | .w => s.lk.ring.hopW

/-- Replace one hop of the ring. -/
def State.setHop (s : State) (p : RingPort) (h : Hop) : State :=
  match p with
  | .e => s.setRing { s.lk.ring with hopE := h }
  | .w => s.setRing { s.lk.ring with hopW := h }

/-- Replace the reference side. -/
def State.setRefs (s : State) (r : Refs) : State := { s with vd := { s.vd with refs := r } }

/-- Record an output. -/
def State.emit (s : State) (o : Out) : State := { s with out := o :: s.out }

/-- Record several outputs, in order. -/
def State.emits (s : State) (os : List Out) : State := { s with out := os.reverse ++ s.out }

/-- Record an output where a condition holds. -/
def State.emitIf (s : State) (b : Bool) (o : Out) : State := if b then s.emit o else s

/-- The value that fills the next open result (notes/assumptions/1). -/
def State.freeW (s : State) : Nat := (Config.freeValue s.free).toNat

/-- Count a free value as drawn. -/
def State.drawn (s : State) : State := { s with free := s.free + 1 }

/-- Apply a change where a condition holds. -/
def State.doIf (s : State) (b : Bool) (f : State → State) : State := if b then f s else s

/-- Put free values into fields, one each. -/
def State.putFree (s : State) (fs : List Field) : State :=
  fs.foldl (fun s f => (s.put f s.freeW).drawn) s

/-- Whether any of the flags is set and enabled: flag i by bit i of the enable field. -/
def State.irqOn (s : State) (flags : List Field) (en : Field) : Bool :=
  flags.zipIdx.any (fun x => s.getB x.1 && (s.get en).testBit x.2)

-- Hall time as an instant: 2⁻¹⁶ ns counted from the origin (R37).

/-- One hall tick, 10 ns, in 2⁻¹⁶ ns (R31). -/
def tickSub : Nat := 655360

/-- Nanoseconds, microseconds, milliseconds and seconds in 2⁻¹⁶ ns. -/
def nsSub (n : Nat) : Nat := n * 65536
def usSub (n : Nat) : Nat := n * 65536000
def msSub (n : Nat) : Nat := n * 65536000000
def secSub (n : Nat) : Nat := n * 65536000000000

/-- The instant an accumulator shows (R37). -/
def Clock.now (c : Clock) : Nat := c.ticks.toNat * tickSub + c.phase.toNat * tickSub / 2 ^ 48

/-- A part's hall time. -/
def State.now (s : State) (d : Dev) : Nat := (s.clk d).now

/-- An instant sharpened by TDC bins of 3.90625 ps, 1/256 ns, scaled by INC (R39). The instant and the interval are each cut to
2⁻¹⁶ ns before they are added (DESIGN CHOICE, notes/assumptions/111). -/
def fineStamp (c : Clock) (t bins : Nat) : Nat := t + bins * 256 * c.inc.toNat / 2 ^ 48

/-- A part's fine hall time at an instant within the present tick (R39, R198): how far into the tick it lies, in bins, is a free value
(notes/assumptions/145). -/
def State.fineNow (s : State) (d : Dev) : Nat := fineStamp (s.clk d) (s.now d) (s.freeW % 2560)

/-- Whether a part counts in WRAP mode (R32). -/
def State.wrap (s : State) (d : Dev) : Bool := s.getB (R.TIME_STAT_TIME_MODE d)

/-- An instant packed as R30, in the mode given (R33, R34). -/
def packInstant (wrap : Bool) (t : Nat) : Packed :=
  let ns := t / 65536
  let sec := if wrap then 0 else ns / 1000000000
  let ns := if wrap then ns % 2 ^ 32 else ns % 1000000000
  BitVec.ofNat 96 (sec % 2 ^ 48 * 2 ^ 48 + ns * 2 ^ 16 + t % 65536)

/-- The twelve bytes of a packed instant (R4, R30). -/
def packedBytes (wrap : Bool) (t : Nat) : List Byte := leBytes 12 (packInstant wrap t).toNat

/-- The total nanoseconds nearest to `now` whose value modulo 2³² is given (R36), from 2³¹ before it. -/
def nearestTotal (nowNs v : Nat) : Int :=
  let past := nowNs + 2 ^ 31
  let t := past / 2 ^ 32 * 2 ^ 32 + v
  if t < past then (t : Int) else (t : Int) - 2 ^ 32

/-- The same as an instant a part can name: none lies before the origin (notes/assumptions/36). -/
def nearestWrap (nowNs v : Nat) : Nat := (nearestTotal nowNs v).toNat

/-- The instant a packed value names, at a part whose present hall time is given (R33, R36). -/
def unpackInstant (wrap : Bool) (now : Nat) (p : Packed) : Nat :=
  let v := p.toNat
  let ns := bits v 16 32
  if wrap then nearestWrap (now / 65536) ns * 65536 + v % 65536
  else (v / 2 ^ 48 * 1000000000 + ns) * 65536 + v % 65536

/-- The time a peer's packed value names beside a part's own hall time, 2⁻¹⁶ ns (R33, R36, R55): a peer that is ahead of a part just
begun may stand before that part's origin. -/
def peerInstant (wrap : Bool) (now : Nat) (p : Packed) : Int :=
  if wrap then nearestTotal (now / 65536) (bits p.toNat 16 32) * 65536 + (p.toNat % 65536 : Nat) else unpackInstant wrap now p

/-- The accumulator value that shows a time which may lie before the origin (R33, R37, R48): in WRAP the same NS, else modulo 2⁶⁴ ticks. -/
def accOf (wrap : Bool) (t : Int) : Nat :=
  if 0 ≤ t then t.toNat else (t % ((if wrap then 2 ^ 48 else 2 ^ 64 * tickSub : Nat) : Int)).toNat

/-- Whether an instant lies on a hall tick (R31). In WRAP mode it is the extended total that is held against 10 ns, since 2³² is no
multiple of 10 (DESIGN CHOICE, notes/assumptions/111). -/
def onTick (t : Nat) : Bool := t % tickSub == 0

/-- 2⁻¹⁶ ns to picoseconds, towards zero. -/
def subToPs (v : Int) : Int := v * 1000 / 65536

/-- Picoseconds to 2⁻¹⁶ ns. -/
def psToSub (v : Int) : Int := v * 65536 / 1000

-- Verard's interrupt groups (R420).

/-- The ports of Verard. -/
def vdPorts : List PortId := (List.range 64).map (fun n => PortId.down (Fin.ofNat 64 n)) ++ [.upA, .upB]

/-- Which of the six groups are set (R420). -/
def State.vdGroups (s : State) : Nat :=
  b2n (s.getB R.VD_REF_STAT_SWITCHED || s.getB R.VD_REF_STAT_JUMP_REFUSED ||
    s.getB (R.PTP_STAT_TSQ_OVF 0) || s.getB (R.PTP_STAT_TSQ_OVF 1)) +
  2 * b2n ((List.range 4).any (fun i => s.getB (R.MEAS_STAT_DONE i))) +
  4 * b2n (vdPorts.any (fun p => s.getB (R.PORT_STAT_RTT_STEP p) || s.getB (R.PORT_GROUP_STALL p))) +
  8 * b2n ((List.range 9).any (fun e => s.irqOn [R.VD_OE_IRQ_AGEING e, R.VD_OE_IRQ_SWAP_DUE e, R.VD_OE_IRQ_SWAPPED e,
    R.VD_OE_IRQ_WRONG_LINE e, R.VD_OE_IRQ_SPARES_OUT e, R.VD_OE_IRQ_LASER_FAULT e, R.VD_OE_IRQ_SEARCH_FAIL e] (R.VD_OE_IRQ_EN_EN e))) +
  16 * b2n ((List.range 4).any (fun o => s.getB (R.VD_OCSo_STAT_FIRED o) || s.getB (R.VD_OCSo_STAT_CFG_ERR o) ||
    s.getB (R.VD_OCSo_STAT_LATE o))) +
  32 * b2n (s.irqOn [R.VD_HM_IRQ_EXPELLED, R.VD_HM_IRQ_PENDING, R.VD_HM_IRQ_COMMON_CAUSE, R.VD_HM_IRQ_SILENT,
    R.VD_HM_IRQ_LOG_LOSS, R.VD_HM_IRQ_KAT_FAIL] R.VD_HM_IRQ_EN_EN)

/-- The MSI-X vector of a group (R420). -/
def State.groupVec (s : State) (g : Nat) : Nat :=
  s.get (match g with
    | 0 => R.VD_IRQ_VEC_REF_VEC | 1 => R.VD_IRQ_VEC_MEAS_VEC | 2 => R.VD_IRQ_VEC_PORT_VEC
    | 3 => R.VD_IRQ_VEC_OPT_VEC | 4 => R.VD_IRQ_VEC_OCS_VEC | _ => R.VD_IRQ_VEC_HM_VEC)

/-- Send the MSI-X messages that a change has made due: one for each group that is set, unmasked and not yet sent since it was clear (R420). -/
def State.settle (s : State) : State :=
  let set := s.vdGroups
  let mask := s.get R.VD_IRQ_MASK_MASK
  let sent := s.vd.msixSent.toNat &&& set
  let due := (List.range 6).filter (fun g => (set &&& mask).testBit g && !sent.testBit g)
  let s := { s with vd := { s.vd with msixSent := BitVec.ofNat 6 (sent ||| (set &&& mask)) } }
  s.emits (due.map (fun g => .msix (s.groupVec g)))

/-- An engine. -/
def State.oe (s : State) (e : Nat) : Oe := smGet {} s.vd.oe e

/-- Replace an engine. -/
def State.setOe (s : State) (e : Nat) (x : Oe) : State := { s with vd := { s.vd with oe := smPut {} s.vd.oe e x } }

/-- A command's next state: its effect, then the messages this makes due. -/
def done (s : State) : Res := .next s.settle

-- CRC-32 (R51).

/-- One step of CRC-32 over the polynomial of R51, most significant bit first. -/
def crc32Bit (c : Nat) (b : Bool) : Nat :=
  let top := (c / 2 ^ 31 % 2 == 1) != b
  let c := c * 2 % 2 ^ 32
  if top then c ^^^ 0x04C11DB7 else c

/-- CRC-32 of bytes, each fed from its most significant bit (R51; notes/assumptions/10). -/
def crc32 (bs : List Byte) : Nat :=
  (bs.foldl (fun c b => (List.range 8).foldl (fun c i => crc32Bit c (b.toNat.testBit (7 - i))) c) 0xFFFFFFFF) ^^^ 0xFFFFFFFF

end Sys2Proof.Machine
end

