-- ==== Sys2Proof/Machine/Basin.lean ====
section
/-! DEFINITION. Exact scalar reduction (R216 to R233): conversion, limb lists, combining and the final rounding. -/

namespace Sys2Proof.Machine

open Sys2Proof

/-- Bytes of a TYPE (R216). -/
def tyBytes (ty : Nat) : Nat := if ty = 1 ∨ ty = 7 then 4 else if ty = 2 ∨ ty = 3 then 2 else if ty = 4 ∨ ty = 5 then 1 else 8

/-- Exponent and fraction bits of a floating-point TYPE. -/
def fpBits (ty : Nat) : Nat × Nat :=
  match ty with
  | 1 => (8, 23) | 2 => (8, 7) | 3 => (5, 10) | 4 => (4, 3) | 5 => (5, 2) | _ => (11, 52)

/-- Whether a TYPE is floating point. -/
def isFp (ty : Nat) : Bool := decide (1 ≤ ty) && decide (ty ≤ 6)

/-- The canonical quiet NaN, infinity and largest finite value of a TYPE (R216). -/
def qNan (ty : Nat) : Nat :=
  match ty with
  | 1 => 0x7FC00000 | 2 => 0x7FC0 | 3 => 0x7E00 | 4 => 0x7F | 5 => 0x7E | _ => 0x7FF8000000000000
def pInf (ty : Nat) : Nat :=
  match ty with
  | 1 => 0x7F800000 | 2 => 0x7F80 | 3 => 0x7C00 | 4 => 0x7F | 5 => 0x7C | _ => 0x7FF0000000000000
def maxFin (ty : Nat) : Nat :=
  match ty with
  | 1 => 0x7F7FFFFF | 2 => 0x7F7F | 3 => 0x7BFF | 4 => 0x7E | 5 => 0x7B | _ => 0x7FEFFFFFFFFFFFFF

/-- The operation class (R218): 1 for an FP64 SUM, else 0. -/
def opClass (op ty : Nat) : Nat := if op = 1 ∧ ty = 6 then 1 else 0

/-- Whether an OP is SUM or SUM_SAT, a keyed operation, a located one, or bitwise (R216). -/
def isSum (op : Nat) : Bool := op == 1 || op == 2
def isKeyed (op : Nat) : Bool := op == 3 || op == 4 || op == 8 || op == 9
def isLoc (op : Nat) : Bool := op == 8 || op == 9

/-- Whether an OP accepts a TYPE with this RMODE (R216). -/
def opAccepts (op ty rmode : Nat) : Bool :=
  match op with
  | 0 => ty == 0 && rmode == 0
  | 1 => decide (1 ≤ ty) && decide (ty ≤ 9) && (decide (ty ≤ 6) || rmode == 0)
  | 2 | 5 | 6 | 7 => decide (7 ≤ ty) && decide (ty ≤ 9) && rmode == 0
  | 3 | 4 | 8 | 9 => decide (1 ≤ ty) && decide (ty ≤ 9) && rmode == 0
  | _ => false

/-- The exponent of value bit 0 and of the smallest positive value of a TYPE (R218). -/
def expWeight (ty : Nat) : Nat := if ty = 6 then 1074 else 149
def expMin (ty : Nat) : Nat := 2 ^ ((fpBits ty).1 - 1) - 2 + (fpBits ty).2

/-- Sign, exponent field and fraction of a value. -/
def fpSign (ty b : Nat) : Bool := bits b (8 * tyBytes ty - 1) 1 == 1
def fpExp (ty b : Nat) : Nat := bits b (fpBits ty).2 (fpBits ty).1
def fpFrac (ty b : Nat) : Nat := bits b 0 (fpBits ty).2

/-- Whether a value is a NaN; an E4M3 NaN is 0x7F or 0xFF (R216). -/
def fpNan (ty b : Nat) : Bool :=
  if ty = 4 then b % 128 == 127 else fpExp ty b == 2 ^ (fpBits ty).1 - 1 && fpFrac ty b != 0

/-- Whether a NaN is signalling; E4M3 NaNs are quiet (R216). -/
def fpSnan (ty b : Nat) : Bool := ty != 4 && fpNan ty b && !(fpFrac ty b).testBit ((fpBits ty).2 - 1)

/-- Whether a value is an infinity. -/
def fpInf (ty b : Nat) : Bool := ty != 4 && fpExp ty b == 2 ^ (fpBits ty).1 - 1 && fpFrac ty b == 0

/-- The magnitude of a finite value in units of the class's value bit 0 (R219). -/
def fpMag (ty b : Nat) : Nat :=
  let e := fpExp ty b
  let m := if e = 0 then fpFrac ty b else fpFrac ty b + 2 ^ (fpBits ty).2
  m * 2 ^ (expWeight ty - expMin ty + (e - 1))

/-- An integer input's value (R219). -/
def intVal (ty b : Nat) : Int := if ty = 9 then (b : Int) else toSigned (8 * tyBytes ty) b

/-- The order key of a value (R219). -/
def keyOf (ty b : Nat) : Nat :=
  let w := 8 * tyBytes ty
  if isFp ty then (if fpSign ty b then 2 ^ w - 1 - b else b + 2 ^ (w - 1))
  else if ty = 9 then b else b ^^^ 2 ^ (w - 1)

/-- The value whose key is given. -/
def ofKey (ty k : Nat) : Nat :=
  let w := 8 * tyBytes ty
  if isFp ty then (if 2 ^ (w - 1) ≤ k then k - 2 ^ (w - 1) else 2 ^ w - 1 - k)
  else if ty = 9 then k else k ^^^ 2 ^ (w - 1)

/-- A member's conversion of one input (R219). -/
def toElem (op ty b idx : Nat) : Elem :=
  if isSum op then
    if !isFp ty then { v := intVal ty b }
    else if fpNan ty b then { flags := 1 + 2 * b2n (fpSnan ty b) }
    else if fpInf ty b then { flags := if fpSign ty b then 8 else 4 }
    else
      let m := fpMag ty b
      if m = 0 then { flags := if fpSign ty b then 32 else 16 }
      else { v := if fpSign ty b then -(m : Int) else m, flags := 48 }
  else if isKeyed op then
    if isFp ty && fpNan ty b then { flags := 1 + 2 * b2n (fpSnan ty b) }
    else { key := keyOf ty b, idx := if isLoc op then idx else 0, flags := 16 }
  else { key := b, flags := 16 }

/-- Combine two elements (R225). -/
def Elem.combine (op : Nat) (a b : Elem) : Elem :=
  let fl := a.flags ||| b.flags
  if isSum op then { v := a.v + b.v, flags := fl }
  else if a.flags.testBit 4 && b.flags.testBit 4 then
    if isKeyed op then
      let less := decide (a.key < b.key) || (a.key == b.key && decide (a.idx ≤ b.idx))
      let more := decide (b.key < a.key) || (a.key == b.key && decide (a.idx ≤ b.idx))
      let w := if (if op = 3 ∨ op = 8 then less else more) then a else b
      { w with flags := fl }
    else { key := if op = 5 then a.key &&& b.key else if op = 6 then a.key ||| b.key else a.key ^^^ b.key, flags := fl }
  else if a.flags.testBit 4 then { a with flags := fl }
  else { b with flags := fl }

-- Limb lists (R221 to R224).

/-- The bytes of one limb list element (R221, R222). -/
def Elem.encode (op ty i : Nat) (e : Elem) : List Byte :=
  let mag := if isSum op then e.v.natAbs else e.key + 2 ^ 64 * e.idx
  let neg := isSum op && decide (e.v < 0)
  let n := if opClass op ty = 1 then 34 else 5
  let limbs := (List.range n).filter (fun k => bits mag (64 * k) 64 != 0)
  let mask := (limbs.map (fun k => 2 ^ k)).sum
  let head := i + 16 * b2n neg + 32 * mask
  (if opClass op ty = 1 then leBytes 6 (head + 2 ^ 39 * e.flags) else leBytes 2 (head + 2 ^ 10 * e.flags)) ++
  limbs.flatMap (fun k => leBytes 8 (bits mag (64 * k) 64))

/-- Cut encoded elements into fragments of at most 1,024 bytes of frame (R223): the elements of the present one, newest first. -/
def cutFrags (room : Nat) : List (List Byte) → List (List Byte) → List (List (List Byte))
  | acc, [] => if acc = [] then [] else [acc.reverse]
  | acc, e :: es =>
    if acc ≠ [] ∧ room < (acc.map (·.length)).sum + e.length then acc.reverse :: cutFrags room [e] es
    else cutFrags room (e :: acc) es

/-- The limb lists of a PARTIAL, one a fragment (R221, R223). -/
def limbLists (op ty : Nat) (es : List Elem) : List (List Byte) :=
  let enc := es.zipIdx.map (fun x => x.1.encode op ty x.2)
  (cutFrags (1024 - 47) [] enc).map (fun f => leBytes 4 (f.length + 256 * opClass op ty) ++ f.flatten)

/-- Read the limbs of a mask: the magnitude and the bytes after them; a zero limb or a short list is refused. -/
def readLimbs (mask : Nat) : List Nat → List Byte → Option (Nat × List Byte)
  | [], bs => some (0, bs)
  | k :: ks, bs =>
    if mask.testBit k then
      if bs.length < 8 ∨ ofLe (bs.take 8) = 0 then none
      else (readLimbs mask ks (bs.drop 8)).map (fun r => (r.1 + ofLe (bs.take 8) * 2 ^ (64 * k), r.2))
    else readLimbs mask ks bs

/-- The limbs an operation may name (R218, R222, R224): a keyed one's limb 0 is its key and limb 1 its index. -/
def limbsUsed (op ty : Nat) : Nat := if isSum op then (if opClass op ty = 1 then 34 else 5) else if isKeyed op then 2 else 1

/-- The flags an operation uses (R218): all six for a sum, NAN, SNAN and KEY for another. -/
def flagsUsed (op : Nat) : Nat := if isSum op then 63 else 19

/-- Read one element of a limb list, checked by R224: its index, the element, the bytes after it. -/
def readElem (op ty : Nat) (bs : List Byte) : Option (Nat × Elem × List Byte) :=
  let c := opClass op ty
  let h := if c = 1 then 6 else 2
  let v := ofLe (bs.take h)
  let mask := if c = 1 then bits v 5 34 else bits v 5 5
  let flags := if c = 1 then bits v 39 6 else bits v 10 6
  let neg := bits v 4 1 == 1
  if bs.length < h ∨ (c = 1 ∧ bits v 45 3 ≠ 0) ∨ 2 ^ limbsUsed op ty ≤ mask ∨ flags &&& flagsUsed op ≠ flags ∨
      (neg ∧ (mask = 0 ∨ !isSum op)) then none
  else (readLimbs mask (List.range (limbsUsed op ty)) (bs.drop h)).map (fun r =>
    (bits v 0 4,
      (if isSum op then { v := if neg then -(r.1 : Int) else r.1, flags := flags }
       else { key := r.1 % 2 ^ 64, idx := r.1 / 2 ^ 64, flags := flags }), r.2))

/-- Read `n` elements in ascending ELEM order below COUNT. -/
def readElems (op ty count : Nat) : Nat → Nat → List Byte → Option (List (Nat × Elem))
  | 0, _, bs => if bs = [] then some [] else none
  | n + 1, from_, bs =>
    match readElem op ty bs with
    | none => none
    | some (i, e, rest) =>
      if i < from_ ∨ count ≤ i then none
      else (readElems op ty count n (i + 1) rest).map (fun l => (i, e) :: l)

/-- Read one fragment's body (R221, R224). -/
def readFrag (op ty count : Nat) (bs : List Byte) : Option (List (Nat × Elem)) :=
  let h := ofLe (bs.take 4)
  let n := bits h 0 5
  if bs.length < 4 ∨ n = 0 ∨ 16 < n ∨ bits h 5 3 ≠ 0 ∨ bits h 10 22 ≠ 0 ∨ bits h 8 2 ≠ opClass op ty then none
  else readElems op ty count n 0 (bs.drop 4)

-- Submission and result (R195, R216, R217, R231).

/-- COUNT and RMODE of a SHAPE. -/
def shapeCount (sh : Nat) : Nat := bits sh 0 5
def shapeMode (sh : Nat) : Nat := bits sh 5 2

/-- Whether bytes are all 0. -/
def zeros (bs : List Byte) : Bool := bs.all (· == 0)

/-- A submission entry as a member reads it (R195, R216, R217): OP, TYPE, SHAPE and the elements, or nothing for BAD_PARAM. -/
def readSubmission (acc maxElems : Nat) (e : List Byte) : Option (Nat × Nat × Nat × List Elem) :=
  let op := leAt e 0 1
  let ty := leAt e 1 1
  let sh := leAt e 2 1
  let n := shapeCount sh
  if leAt e 3 1 ≠ 0 ∨ !zeros ((e.drop 8).take 24) ∨ 128 ≤ sh ∨ !opAccepts op ty (shapeMode sh) then none
  else if op = 0 then (if sh = 0 then some (0, 0, 0, []) else none)
  else
    let ranks := leAt e 32 2
    let r := max 1 ranks
    let w := tyBytes ty
    let slots := if isSum op then r * n else n
    let val (k : Nat) : Nat := leAt e (40 + 8 * k) w
    let narrow := (List.range slots).all (fun k => zeros ((e.drop (40 + 8 * k + w)).take (8 - w)))
    let tail :=
      if isSum op then zeros ((e.drop (40 + 8 * slots)).take (256 - 40 - 8 * slots))
      else
        zeros ((e.drop (40 + 8 * n)).take (128 - 8 * n)) &&
        (if isLoc op then zeros ((e.drop (168 + 4 * n)).take (64 - 4 * n)) && zeros ((e.drop 232).take 24) else zeros ((e.drop 168).take 88))
    if n = 0 ∨ 16 < n ∨ maxElems < n ∨ (opClass op ty = 1 ∧ acc = 0) ∨ !zeros ((e.drop 34).take 6) ∨ 27 < r * n ∨
        (1 < ranks ∧ !isSum op) ∨ !narrow ∨ !tail then none
    else
      let es := (List.range n).map (fun i =>
        if isSum op then
          ((List.range r).map (fun k => toElem op ty (val (k * n + i)) 0)).foldl (fun a b => a.combine op b) {}
        else toElem op ty (val i) (leAt e (168 + 4 * i) 4))
      some (op, ty, sh, es)

/-- Bits of a number. -/
def bitLen (n : Nat) : Nat := if n = 0 then 0 else Nat.log2 n + 1

/-- Round a non-zero magnitude in units of value bit 0 to a TYPE (R226): the bits without sign, and whether inexact. -/
def roundMag (ty mode : Nat) (neg : Bool) (mag : Nat) : Nat × Bool :=
  let f := (fpBits ty).2
  let base := expWeight ty - expMin ty
  let sh := max base (bitLen mag - 1 - f)
  let q := mag / 2 ^ sh
  let r := mag % 2 ^ sh
  let up : Bool :=
    match mode with
    | 0 => decide (2 ^ sh < 2 * r) || (decide (2 * r = 2 ^ sh) && r != 0 && q % 2 == 1)
    | 1 => false
    | 2 => r != 0 && !neg
    | _ => r != 0 && neg
  ((sh - base) * 2 ^ f + q + b2n up, r != 0)

/-- The sign of an exact zero (R227). -/
def zeroNeg (flags mode : Nat) : Bool :=
  let nz := flags.testBit 4
  let pz := flags.testBit 5
  pz && (!nz || mode == 3)

/-- TOP's finish of one element of a floating-point SUM (R226 to R228): value and RFLAGS nibble. -/
def finishFp (ty mode : Nat) (e : Elem) : Nat × Nat :=
  let sgn := 2 ^ (8 * tyBytes ty - 1)
  let f (k : Nat) : Bool := e.flags.testBit k
  if f 0 then (qNan ty, 1 + 2 * b2n (f 1))
  else if f 2 && f 3 then (qNan ty, 3)
  else if f 2 then (pInf ty, 0)
  else if f 3 then (pInf ty + sgn, 0)
  else if e.v = 0 then (if zeroNeg e.flags mode then sgn else 0, 0)
  else
    let neg := decide (e.v < 0)
    let (b, inexact) := roundMag ty mode neg e.v.natAbs
    let s := if neg then sgn else 0
    if maxFin ty < b then
      let inf := mode == 0 || (mode == 2 && !neg) || (mode == 3 && neg)
      if inf then (if ty = 4 then (0x7F, 13) else (pInf ty + s, 12)) else (maxFin ty + s, 12)
    else (b + s, 8 * b2n inexact)

/-- TOP's finish of one element: value, RFLAGS nibble, index (R226 to R230). -/
def finishElem (op ty mode : Nat) (e : Elem) : Nat × Nat × Nat :=
  let w := 8 * tyBytes ty
  if isSum op then
    if isFp ty then ((finishFp ty mode e).1, (finishFp ty mode e).2, 0)
    else
      let lo : Int := if ty = 9 then 0 else -(2 ^ (w - 1) : Nat)
      let hi : Int := if ty = 9 then (2 ^ w - 1 : Nat) else (2 ^ (w - 1) - 1 : Nat)
      let out := decide (e.v < lo) || decide (hi < e.v)
      (ofSigned w (if op = 2 then clampInt lo hi e.v else e.v), 4 * b2n out, 0)
  else if isKeyed op then
    if e.flags.testBit 0 then (qNan ty, 1 + 2 * b2n (e.flags.testBit 1), 0xFFFFFFFF) else (ofKey ty e.key, 0, e.idx)
  else (e.key % 2 ^ w, 0, 0)

/-- The RESULT body (R231). -/
def resultBody (op ty sh : Nat) (es : List Elem) : List Byte :=
  let rs := es.map (finishElem op ty (shapeMode sh))
  leBytes 8 ((rs.zipIdx.map (fun x => x.1.2.1 * 16 ^ x.2)).sum) ++ rs.flatMap (fun r => leBytes (tyBytes ty) r.1) ++
  (if isLoc op then rs.flatMap (fun r => leBytes 4 r.2.2) else [])

/-- Bytes 24 to 255 of a completion entry, from a RESULT body (R195, R217, R231). -/
def resultArea (op ty sh : Nat) (body : List Byte) : List Byte :=
  let n := shapeCount sh
  let w := tyBytes ty
  let vals := (List.range n).flatMap (fun i => padTo8 ((body.drop (8 + w * i)).take w))
  let idxs := if isLoc op then (body.drop (8 + w * n)).take (4 * n) else []
  pad 232 (body.take 8 ++ List.replicate 8 0 ++ pad 128 vals ++ idxs)
where
  pad (n : Nat) (bs : List Byte) : List Byte := (bs ++ List.replicate n 0).take n
  padTo8 (bs : List Byte) : List Byte := (bs ++ List.replicate 8 0).take 8

/-- The units of 64 bytes a reservation takes (R233). -/
def basinUnits (depth maxElems acc : Nat) : Nat := depth * ((maxElems * (if acc = 1 then 280 else 48) + 63) / 64)

/-- An element as it lies in a Basin unit (R218): value limbs and the flag limb. -/
def Elem.limbBytes (cls : Nat) (op : Nat) (e : Elem) : List Byte :=
  let n := if cls = 1 then 34 else 5
  let v := if isSum op then ofSigned (64 * n) e.v else e.key + 2 ^ 64 * e.idx
  leBytes (8 * n) v ++ leBytes 8 e.flags

end Sys2Proof.Machine
end

