-- ==== Sys2Proof/Machine/Wire.lean ====
section
/-! DEFINITION. Wire formats (R4, R50 to R54, R58, R62, R64, R138, R202, R378): blocks, T-frames and ring symbols as bits and bytes. -/

namespace Sys2Proof.Machine

open Sys2Proof

-- Blocks (R50, R53).

/-- The control block types (R50). -/
def btIdle : Byte := 0x1E
def btTrain : Byte := 0x4B
def btStart : Byte := 0x78
def btTick : Byte := 0xD2

/-- Whether a control block is of a type a receiver keeps (R50). -/
def knownBlock (ty : Byte) : Bool := ty == btIdle || ty == btTrain || ty == btStart || ty == btTick

/-- The 56 bits of a TICK block's content (R53). -/
def tickContent (b : TickBlock) : BitVec 56 := BitVec.ofNat 56 (b.seq.toNat + b.senderUa.toNat * 2 ^ 16 + b2n b.wrap * 2 ^ 36)

/-- The TICK block that a content spells (R53). The content's bit 0 is the block's bit 8. -/
def tickOf (c : BitVec 56) : TickBlock :=
  { seq := BitVec.ofNat 16 (bits c.toNat 0 16), senderUa := BitVec.ofNat 20 (bits c.toNat 16 20), wrap := bits c.toNat 36 1 == 1 }

-- T-frames (R51, R52).

/-- The frame types (R52). -/
def ftTime := 0x01
def ftAuth := 0x02
def ftEnum := 0x03
def ftEnumAck := 0x04
def ftCal := 0x05
def ftTree := 0x10
def ftCmd := 0x20
def ftHealth := 0x30

/-- The data blocks a payload needs with its CRC (R51). -/
def frameLen (payload : Nat) : Nat := (payload + 4 + 7) / 8

/-- The 56 bits of a START block's content (R51). -/
def startContent (ftype cls len fseq : Nat) : BitVec 56 :=
  BitVec.ofNat 56 (ftype % 2 ^ 8 + cls % 2 ^ 8 * 2 ^ 8 + len % 2 ^ 10 * 2 ^ 16 + fseq % 2 ^ 16 * 2 ^ 26)

/-- The bytes that a frame's CRC covers: the START content and the payload, filled with zeros to its blocks (R51). -/
def frameHead (start : BitVec 56) (payload : List Byte) : List Byte :=
  let n := frameLen payload.length * 8 - 4
  leBytes 7 start.toNat ++ (payload ++ List.replicate n 0).take n

/-- A whole T-frame from its START content to its CRC (R51). -/
def frameBytes (start : BitVec 56) (payload : List Byte) : List Byte :=
  let h := frameHead start payload
  h ++ leBytes 4 (crc32 h)

-- Payloads.

/-- The 36 bytes of a TIME frame's payload (R54). -/
def timePayload (f : TimeFrame) : List Byte :=
  leBytes 2 f.seq.toNat ++ leBytes 2 f.peerSeq.toNat ++ leBytes 12 f.prevTx.toNat ++ leBytes 12 f.peerRx.toNat ++
  leBytes 3 f.errPs.toNat ++
  [BitVec.ofNat 8 (f.state.toNat + 8 * b2n f.wrap + 16 * b2n f.degraded + 32 * b2n f.hallMaster)] ++
  leBytes 2 f.utcOffset.toNat ++ [BitVec.ofNat 8 (b2n f.utcValid), 0]

/-- The 28 bytes of an AUTH frame's payload (R58). -/
def authPayload (group : BitVec 64) (tag : List Byte) : List Byte :=
  leBytes 8 group.toNat ++ (tag ++ List.replicate 16 0).take 16 ++ [0, 0, 0, 0]

/-- The 8 bytes of an ENUM frame's payload (R62). -/
def enumPayload (f : EnumFrame) : List Byte :=
  leBytes 3 (f.parentUa.toNat + f.parentSide.toNat * 2 ^ 20) ++
  [BitVec.ofNat 8 f.pod.toNat, BitVec.ofNat 8 f.port.toNat, BitVec.ofNat 8 (b2n f.wrap), 0, 0]

/-- The 8 bytes of an ENUM_ACK's payload (R62): UA and SIDE where ENUM has them, and the ROLE where it has POD (notes/assumptions/17). -/
def enumAckPayload (ua : Ua) (role : BitVec 2) (side : BitVec 1) : List Byte :=
  leBytes 3 (ua.toNat + side.toNat * 2 ^ 20) ++ [BitVec.ofNat 8 role.toNat, 0, 0, 0, 0]

/-- A CAL frame's payload (R56, R400): a first byte tells what it is, 0x4B key agreement; the others' codes are the model's
(notes/assumptions/17). -/
def calPayload : CalBody → List Byte
  | .fold m => 0x01 :: leBytes 3 m.toNat
  | .constants tx rx fo => 0x02 :: (leBytes 2 tx.toNat ++ leBytes 2 rx.toNat ++ leBytes 2 fo.toNat)
  | .keyAgreement p => p

/-- The 56 bytes of a job control message (R138). -/
def jobBytes (m : JobMsg) : List Byte :=
  [m.kind, m.status] ++ leBytes 4 (m.gid.toNat + m.gen.toNat * 2 ^ 18) ++ leBytes 2 m.cseq.toNat ++ leBytes 12 m.instant.toNat ++
  leBytes 3 m.src.toNat ++ [0] ++ leBytes 8 m.bitmap.toNat ++ [m.prog, m.flags, 0, 0] ++ leBytes 4 m.gateLimit.toNat ++
  leBytes 16 m.seed.toNat

/-- A group message's body (R202, R204, R313); the places inside a BIND and its acks are the model's (notes/assumptions/17). -/
def bodyBytes : GroupBody → List Byte
  | .none => []
  | .limbs b => b
  | .result b => b
  | .bind scope acc maxElems depth limitMs ms delete =>
    [BitVec.ofNat 8 scope, BitVec.ofNat 8 acc, BitVec.ofNat 8 maxElems, BitVec.ofNat 8 depth] ++ leBytes 4 limitMs ++
    [BitVec.ofNat 8 (b2n delete), 0, 0, 0, 0, 0, 0, 0] ++ ms.flatMap (fun m => leBytes 4 m.1 ++ leBytes 4 m.2.toNat)
  | .ack bm vs => leBytes 8 bm.toNat ++ vs.flatMap (leBytes 4)
  | .credit a b c d => leBytes 2 a.toNat ++ leBytes 2 b.toNat ++ leBytes 2 c.toNat ++ leBytes 2 d.toNat
  | .quiet _ w => leBytes 4 w.toNat ++ [0, 0, 0, 0]

/-- The bytes of a group message (R202). -/
def groupBytes (m : GroupMsg) : List Byte :=
  [m.kind, m.status] ++ leBytes 4 (m.gid.toNat + m.gen.toNat * 2 ^ 18) ++ leBytes 2 m.oseq.toNat ++ [m.op, m.ty, m.shape, m.cause] ++
  leBytes 3 m.src.toNat ++ [BitVec.ofNat 8 (b2n m.sideB + 2 * b2n m.relayed)] ++ leBytes 2 m.cover.toNat ++ [m.fragIx, m.fragTotal] ++
  leBytes 12 m.stamp.toNat ++ bodyBytes m.body

/-- The bytes of a tree message (R138, R202). -/
def treeBytes : TreeMsg → List Byte
  | .job m => jobBytes m
  | .grp m => groupBytes m

/-- The bytes of a CMD frame's payload (R378); the frame's blocks are filled with zeros. -/
def fragPayload (f : Fragment) : List Byte :=
  leBytes 3 f.origin.toNat ++ leBytes 2 f.pktId.toNat ++
  [BitVec.ofNat 8 f.index.toNat, BitVec.ofNat 8 f.total.toNat, BitVec.ofNat 8 f.part.length] ++ f.part

/-- A HEALTH frame's payload (R326). -/
def healthPayload (kind : Byte) (body : List Byte) : List Byte := [kind, 0, 0, 0] ++ body

/-- The class of a tree message (R203). -/
def treeCls : TreeMsg → Nat
  | .job _ => 1
  | .grp m => if m.kind = 0x28 then 0 else if m.kind = 0x20 ∨ m.kind = 0x21 then 2 else if m.kind = 0x22 ∨ m.kind = 0x23 then 3 else 1

/-- The T-frame that an output is, if it is one: its way, FTYPE, CLASS and payload (R51, R52, R203). -/
def frameOf : Out → Option (Path × Nat × Nat × List Byte)
  | .time p f => some (.port p, ftTime, 0, timePayload f)
  | .auth p g t => some (.port p, ftAuth, 0, authPayload g t)
  | .enum p f => some (.port p, ftEnum, 0, enumPayload f)
  | .enumAck p ua role side => some (.port p, ftEnumAck, 0, enumAckPayload ua role side)
  | .cal p b => some (.port p, ftCal, 0, calPayload b)
  | .tree path m => some (path, ftTree, treeCls m, treeBytes m)
  | .frag path f => some (path, ftCmd, 4, fragPayload f)
  | .health path k b => some (path, ftHealth, 4, healthPayload k b)
  | _ => none

/-- The cells of a frame with this payload: from its START content through its CRC (R204). -/
def cellsFor (payload : Nat) : Nat := (7 + frameLen payload * 8 + 63) / 64

/-- The cells of a tree message (R204). -/
def treeCells (m : TreeMsg) : Nat := cellsFor (treeBytes m).length

-- Ring symbols (R64).

/-- A ring symbol's 112 bits before its CRC (R64). -/
def symbolBits (x : RingSymbol) : Nat :=
  let ty := match x.body with
    | .idle => 0 | .time .. => 1 | .echo .. => 2 | .enum .. => 3 | .status .. => 4 | .handover .. => 5
    | .wake .. => 6 | .data .. => 7 | .credit .. => 8
  let body := match x.body with
    | .idle => 0
    | .time t p path st w => t.toNat + p.toNat * 2 ^ 40 + path.toNat * 2 ^ 72 + st.toNat * 2 ^ 92 + b2n w * 2 ^ 95
    | .echo q r => q.toNat + b2n r * 2 ^ 16
    | .enum t d => t.toNat + b2n d * 2 ^ 6
    | .status e u uv pod port pv ch aw m ms h =>
      e.toNat + u.toNat * 2 ^ 24 + b2n uv * 2 ^ 40 + pod.toNat * 2 ^ 41 + port.toNat * 2 ^ 47 + b2n pv * 2 ^ 53 + b2n ch * 2 ^ 54 +
      b2n aw * 2 ^ 55 + m.toNat * 2 ^ 56 + ms.toNat * 2 ^ 61 + h.toNat * 2 ^ 64
    | .handover t m => t.toNat + m.toNat * 2 ^ 40
    | .wake r => r.toNat
    | .data d => d.toNat
    | .credit d => d.toNat
  ty + b2n x.ccw * 2 ^ 4 + x.src.toNat * 2 ^ 5 + x.dst.toNat * 2 ^ 10 + body * 2 ^ 16

/-- CRC-16 of a symbol over its bits [111:0], the most significant first (R64; notes/assumptions/10). -/
def symbolCrc (v : Nat) : Nat :=
  (List.range 112).foldl (fun c i =>
    let top := (c / 2 ^ 15 % 2 == 1) != v.testBit (111 - i)
    let c := c * 2 % 2 ^ 16
    if top then c ^^^ 0x1021 else c) 0xFFFF

/-- A whole ring symbol, its CRC in bits [127:112] (R64). -/
def symbolWord (x : RingSymbol) : BitVec 128 := BitVec.ofNat 128 (symbolBits x + symbolCrc (symbolBits x) * 2 ^ 112)

/-- The output that a ring symbol is on its port (R4, R64). -/
def ringOut (r : RingPort) (x : RingSymbol) : Out := .ring r (symbolWord x)

/-- A ring symbol by its fields (R64): TYPE with DIR, SRC with DST, BODY and CRC. -/
def ringWord (kind : BitVec 5) (ends : BitVec 11) (body : BitVec 96) (crc : BitVec 16) : BitVec 128 :=
  BitVec.ofNat 128 (kind.toNat + ends.toNat * 2 ^ 5 + body.toNat * 2 ^ 16 + crc.toNat * 2 ^ 112)

/-- Whether a symbol's CRC is good (R64). -/
def symbolOk (w : BitVec 128) : Bool := bits w.toNat 112 16 == symbolCrc (w.toNat % 2 ^ 112)

/-- The ring symbol a word spells (R64); none where its TYPE is reserved. -/
def symbolOf (w : BitVec 128) : Option RingSymbol :=
  let v := w.toNat
  let b := bits v 16 96
  let body : Option RingBody := match bits v 0 4 with
    | 0 => some .idle
    | 1 => some (.time (BitVec.ofNat 40 b) (BitVec.ofNat 32 (b / 2 ^ 40)) (BitVec.ofNat 20 (b / 2 ^ 72)) (BitVec.ofNat 3 (b / 2 ^ 92))
        (b.testBit 95))
    | 2 => some (.echo (BitVec.ofNat 16 b) (b.testBit 16))
    | 3 => some (.enum (BitVec.ofNat 6 b) (b.testBit 6))
    | 4 => some (.status (BitVec.ofNat 24 b) (BitVec.ofNat 16 (b / 2 ^ 24)) (b.testBit 40) (BitVec.ofNat 6 (b / 2 ^ 41))
        (BitVec.ofNat 6 (b / 2 ^ 47)) (b.testBit 53) (b.testBit 54) (b.testBit 55) (BitVec.ofNat 5 (b / 2 ^ 56))
        (BitVec.ofNat 3 (b / 2 ^ 61)) (BitVec.ofNat 24 (b / 2 ^ 64)))
    | 5 => some (.handover (BitVec.ofNat 40 b) (BitVec.ofNat 5 (b / 2 ^ 40)))
    | 6 => some (.wake (BitVec.ofNat 4 b))
    | 7 => some (.data (BitVec.ofNat 96 b))
    | 8 => some (.credit (BitVec.ofNat 96 b))
    | _ => none
  body.map (fun x => { ccw := v.testBit 4, src := BitVec.ofNat 5 (v / 2 ^ 5), dst := BitVec.ofNat 6 (v / 2 ^ 10), body := x })

/-- The body of a CREDIT symbol (R204). -/
def creditBody (cls cells : Nat) : BitVec 96 := BitVec.ofNat 96 (cls % 8 + cells % 2 ^ 16 * 2 ^ 3)

/-- A frame cut into the bodies of DATA symbols, START content first (R64); `n` bounds the count. -/
def dataParts : Nat → List Byte → List (BitVec 96)
  | 0, _ => []
  | n + 1, bs => if bs.isEmpty then [] else BitVec.ofNat 96 (ofLe (bs.take 12)) :: dataParts n (bs.drop 12)

-- Sending.

/-- Put a T-frame on a T-link port with the next FSEQ of its type (R51): its START block and CRC are recorded, then the frame.
Any other output is recorded alone. -/
def State.putFrame (s : State) (o : Out) : State :=
  match frameOf o with
  | some (.port p, ft, cls, pay) =>
    let t := s.port p
    let q := smGet 0 t.fseq ft
    let c := startContent ft cls (frameLen pay.length) q
    let s := s.setPort p { t with fseq := smPut 0 t.fseq ft ((q + 1) % 2 ^ 16) }
    (s.emit (.start p c (BitVec.ofNat 32 (crc32 (frameHead c pay))))).emit o
  | _ => s.emit o

/-- Whether frames of a port wait out a swap's gap: none starts from S to S + 220 ns (R316). -/
def State.gapped (s : State) (p : PortId) : Bool :=
  p.dev == .verard && (!(s.port p).gap.isEmpty || s.vd.oe.any (fun e => match e.2.gap with
    | some (q, t) => q == p.idx && decide (s.now .verard < t + nsSub 220)
    | none => false))

/-- Send a T-frame, in its turn where a swap's gap holds its port's frames (R316). -/
def State.emitFrame (s : State) (o : Out) : State :=
  match frameOf o with
  | some (.port p, _) => if s.gapped p then s.setPort p { s.port p with gap := (s.port p).gap ++ [o] } else s.putFrame o
  | _ => s.putFrame o

/-- Send an output as a T-frame where a condition holds. -/
def State.emitFrameIf (s : State) (b : Bool) (o : Out) : State := if b then s.emitFrame o else s

/-- Put a T-frame on a ring port as DATA symbols to a die, or to every die (R64): they stay in the replay buffer of 64. The frame is
recorded after its symbols. -/
def State.ringFrame (s : State) (r : RingPort) (dst : BitVec 6) (o : Out) : State :=
  match frameOf o with
  | some (_, ft, cls, pay) =>
    let h := s.hop r
    let q := smGet 0 h.fseq ft
    let bs := frameBytes (startContent ft cls (frameLen pay.length) q) pay
    let parts := dataParts (bs.length / 12 + 1) bs
    let s := s.setHop r { h with fseq := smPut 0 h.fseq ft ((q + 1) % 2 ^ 16),
                                 replay := ((parts.map (fun p => (p, dst))).reverse ++ h.replay).take 64 }
    (s.emits (parts.map (fun p => ringOut r { ccw := r == .w, src := s.lk.ring.die, dst := dst, body := .data p }))).emit o
  | none => s.emit o

end Sys2Proof.Machine
end

