-- ==== Sys2Proof/Machine/Tx.lean ====
section
/-! DEFINITION. Flow control (R203 to R205, R213): credits by peer and class, and the frames that wait for them. -/

namespace Sys2Proof.Machine

open Sys2Proof

/-- Whether a port is in SERVICE (R60). -/
def State.inService (s : State) (p : PortId) : Bool := s.get (R.PORT_STAT_STATE p) == 6

/-- What a part keeps of the tree. -/
def State.tree (s : State) (d : Dev) : Tree := (s.part d).tree

/-- Replace what a part keeps of the tree. -/
def State.setTree (s : State) (d : Dev) (t : Tree) : State := s.setPart d { s.part d with tree := t }

/-- Whether a ring port carries symbols. -/
def State.ringUp (s : State) : RingPort → Bool
  | .e => s.get R.LK_RING_STAT_E_STATE == 2
  | .w => s.get R.LK_RING_STAT_W_STATE == 2

/-- The ring port on the shorter way to a die; where that port is not UP, the other (R65, R73). -/
def State.ringToward (s : State) (die : Nat) : RingPort :=
  let size := s.get R.LK_RING_STAT_RING_SIZE + 1
  let up := (die + size - s.lk.ring.die.toNat % size) % size
  let r := if 2 * up ≤ size then RingPort.e else RingPort.w
  if s.ringUp r then r else r.other

/-- The peer number of a die on the ring; a port's is its index. -/
def ringPeer (die : Nat) : Nat := 100 + die

/-- Whether a port's far end is a Lotik (R204): the downstream ports of a pod Verard or COMBINED Verard. -/
def State.peerIsLotik (s : State) (peer : Nat) : Bool := decide (peer < 64) && s.get R.VD_TOPO_ROLE != 0

/-- The receive pool of a peer, by class (R204); nothing where the spec gives none, and then no credit is needed. -/
def State.pool (s : State) (peer cls : Nat) : Option Nat :=
  let four (a b c d : Nat) : Option Nat := match cls with | 1 => some a | 2 => some b | 3 => some c | 4 => some d | _ => none
  if cls = 0 then none
  else if 100 ≤ peer then
    let die := peer - 100
    let role := s.get R.LK_TOPO_ROLE
    if cls = 2 then (if die = 0 ∨ die = s.lk.ring.altDie.toNat then some 16 else none)
    else if cls = 3 then (if role ≠ 0 ∧ role = s.lk.ring.gph.toNat then some 8 else none)
    else four 2 0 0 2
  else if s.peerIsLotik peer then four 16 0 64 16
  else four 128 1024 640 192

/-- The key of a peer's class. -/
def credKey (peer cls : Nat) : Nat := peer * 8 + cls

/-- Cells in use at a peer, by this part's frames. -/
def State.credUsed (s : State) (d : Dev) (peer cls : Nat) : Nat := smGet 0 (s.tree d).used (credKey peer cls)

/-- Credits held toward a peer (R204). -/
def State.credit (s : State) (d : Dev) (peer cls : Nat) : Option Nat := (s.pool peer cls).map (fun n => n - s.credUsed d peer cls)

/-- The port with an index. -/
def portOfIdx (n : Nat) : PortId := if n = 64 then .upA else if n = 65 then .upB else if n = 66 then .tlink else .down (Fin.ofNat 64 n)

/-- Show the credits of a Verard port (R213). -/
def State.showCred (s : State) (p : PortId) : State :=
  if p = .tlink then s else
  let v (c : Nat) : Nat := if s.inService p then (s.credit .verard p.idx c).getD 0 else 0
  (((s.put (R.PORT_TXCRED_A_CONTROL p) (v 1)).put (R.PORT_TXCRED_A_UP p) (v 2)).put (R.PORT_TXCRED_B_DOWN p) (v 3)).put (R.PORT_TXCRED_B_MGMT p) (v 4)

/-- The operation whose output a waiting frame is: GID and OSEQ of an ARRIVE, PARTIAL, COMPLETE or RESULT. It waits as a descriptor of
its group's reservation cell, however many ports it waits for (R205). -/
def TxWait.descriptor (w : TxWait) : Option (Nat × Nat) :=
  match w.out with
  | .tree _ (.grp m) => if w.cls = 2 ∨ w.cls = 3 then some (m.gid.toNat, m.oseq.toNat) else none
  | _ => none

/-- The descriptors that wait at a part, each once (R205). -/
def State.descriptors (s : State) (d : Dev) : List (Nat × Nat) := ((s.tree d).waits.filterMap TxWait.descriptor).eraseDups

/-- Show the GIDs with a descriptor that waits (R205, R214). -/
def State.showResv (s : State) : State :=
  s.put R.VD_BUF_RESV_GIDS (((s.descriptors .verard).map (·.1)).eraseDups).length

/-- Show what a change of credits touched at a part. -/
def State.showTx (s : State) (d : Dev) (peer : Nat) : State :=
  match d with
  | .lotik => s
  | .verard => (if peer < 66 then s.showCred (portOfIdx peer) else s).showResv

/-- Whether a peer's class has credit for a whole frame. -/
def State.hasCredit (s : State) (d : Dev) (peer cls cells : Nat) : Bool :=
  match s.credit d peer cls with
  | none => true
  | some n => decide (cells ≤ n)

/-- Take credits for a frame. -/
def State.useCredit (s : State) (d : Dev) (peer cls cells : Nat) : State :=
  if (s.pool peer cls).isNone then s
  else s.setTree d { s.tree d with used := smPut 0 (s.tree d).used (credKey peer cls) (s.credUsed d peer cls + cells) }

/-- The GID of a tree message's frame; frames of different GIDs never wait for one another (R206, R207). -/
def Out.gid : Out → Option Nat
  | .tree _ (.grp m) => some m.gid.toNat
  | .tree _ (.job m) => some m.gid.toNat
  | _ => none

/-- Put a frame on the ring toward one die: at once if its last STATUS showed it awake, else a WAKE goes and the frame is held until
its STATUS does (R67). -/
def State.ringTo (s : State) (die : Nat) (o : Out) : State :=
  let r := s.ringToward die
  if smGet false s.lk.ring.awake die then s.ringFrame r (BitVec.ofNat 6 die) o
  else
    let s := s.setRing { s.lk.ring with held := s.lk.ring.held ++ [{ dst := BitVec.ofNat 5 die, out := o }] }
    s.emit (ringOut r { ccw := r == .w, src := s.lk.ring.die, dst := BitVec.ofNat 6 die, body := .wake 0 })

/-- Put a frame on the way to its peer: a port by its index, a die of the ring by `ringPeer`. -/
def State.sendTo (s : State) (peer : Nat) (o : Out) : State :=
  if 100 ≤ peer then s.ringTo (peer - 100) o else s.emitFrame o

/-- Send a frame to a peer where it holds credit for the whole of it, in its turn (R204); else the frame waits. Its turn is after the
frames of its own class and GID (R203, R206, R207). -/
def State.transmit (s : State) (d : Dev) (peer cls cells : Nat) (o : Out) : State :=
  let behind := (s.tree d).waits.any (fun w => w.peer == peer && w.cls == cls && w.out.gid == o.gid)
  if !behind && s.hasCredit d peer cls cells then ((s.useCredit d peer cls cells).sendTo peer o).showTx d peer
  else (s.setTree d { s.tree d with waits := (s.tree d).waits ++ [{ peer := peer, cls := cls, cells := cells, since := s.now d, out := o }] }).showTx d peer

/-- The first waiting frame of a peer's class that has credit and before which no frame of its own GID waits. -/
def State.nextWait (s : State) (d : Dev) (peer cls : Nat) (ws : List TxWait) (seen : List (Option Nat)) : Option TxWait :=
  match ws with
  | [] => none
  | w :: ws =>
    if w.peer ≠ peer ∨ w.cls ≠ cls ∨ seen.contains w.out.gid then s.nextWait d peer cls ws seen
    else if s.hasCredit d peer cls w.cells then some w
    else s.nextWait d peer cls ws (w.out.gid :: seen)

/-- The waiting frame served next at a peer (R203): by class, CONTROL, DOWN, UP, MGMT; but MGMT after 15 frames of the others. -/
def State.served (s : State) (d : Dev) (peer : Nat) : Option TxWait :=
  let t := s.tree d
  let go (c : Nat) : Option TxWait := s.nextWait d peer c t.waits []
  let others := ((go 1).or (go 3)).or (go 2)
  if 15 ≤ t.sinceMgmt then (go 4).or others else others.or (go 4)

/-- Send the waiting frames that have credit, in the order in which they are served (R203). -/
def State.drainTx (s : State) (d : Dev) (peer : Nat) : Nat → State
  | 0 => s
  | n + 1 =>
    match s.served d peer with
    | none => s
    | some w =>
      let t := s.tree d
      let s := s.setTree d { t with waits := t.waits.erase w, sinceMgmt := if w.cls = 4 then 0 else t.sinceMgmt + 1 }
      ((s.useCredit d peer w.cls w.cells).sendTo peer w.out).drainTx d peer n

/-- Credits of classes 1 to 4 come back from a peer (R204). -/
def State.giveCredit (s : State) (d : Dev) (peer : Nat) (counts : List Nat) : State :=
  let s := counts.zipIdx.foldl (fun s x =>
    let k := credKey peer (x.2 + 1)
    s.setTree d { s.tree d with used := smPut 0 (s.tree d).used k (smGet 0 (s.tree d).used k - x.1) }) s
  (s.drainTx d peer (s.tree d).waits.length).showTx d peer

/-- A peer's credits are set to its pools, or lost with its frames (R204): its port entered or left SERVICE, or its hop changed. -/
def State.resetCredit (s : State) (d : Dev) (peer : Nat) : State :=
  let t := s.tree d
  (s.setTree d { t with used := t.used.filter (fun e => e.1 / 8 != peer), waits := t.waits.filter (fun w => w.peer != peer) }).showTx d peer

/-- A peer's credits stand at its pools again while the way to it holds (R204): what waits for them goes. -/
def State.freshCredit (s : State) (d : Dev) (peer : Nat) : State :=
  let t := s.tree d
  let s := s.setTree d { t with used := t.used.filter (fun e => e.1 / 8 != peer) }
  (s.drainTx d peer t.waits.length).showTx d peer

/-- A swap's gap ends 220 ns after its instant (R316): the frames that waited on its port start, in their order. -/
def State.releaseGaps (s : State) : State :=
  s.vd.oe.foldl (fun s e =>
    match e.2.gap with
    | none => s
    | some (n, t) =>
      if s.now .verard < t + nsSub 220 then s else
      let p := portOfIdx n
      let frames := (s.port p).gap
      let s := (s.setOe e.1 { s.oe e.1 with gap := none }).setPort p { s.port p with gap := [] }
      frames.foldl State.putFrame s) s

/-- A message has passed through the engine (R214): the rate of the last whole millisecond, and the pool's peak. -/
def State.engine (s : State) (cells : Nat) : State :=
  let t := s.tree .verard
  let ms := s.now .verard / msSub 1
  let s := if ms = t.engMs then s.setTree .verard { t with engCount := t.engCount + 1 }
    else (s.setTree .verard { t with engMs := ms, engCount := 1 }).put R.VD_ENG_RATE_MSGS (if ms = t.engMs + 1 then t.engCount else 0)
  if s.get R.VD_BUF_PEAK_PEAK < cells then s.put R.VD_BUF_PEAK_PEAK cells else s

/-- Show the rate of the last whole millisecond (R214). -/
def State.showEngine (s : State) : State :=
  let t := s.tree .verard
  let ms := s.now .verard / msSub 1
  if ms = t.engMs then s else s.put R.VD_ENG_RATE_MSGS (if ms = t.engMs + 1 then t.engCount else 0)

end Sys2Proof.Machine
end

