-- ==== Sys2Proof/Machine/Log.lean ====
section
/-! DEFINITION. The Log of each part (R337 to R343): reports, coalescing, losses, forwarding. -/

namespace Sys2Proof.Machine

open Sys2Proof

/-- What a rule reports to the Log (R338). -/
structure Report where
  kind : Nat
  sev : Nat
  ua : Nat := 0
  arg : List Byte := []
  /-- The continuation of a pair (R339), 56 bytes, or nothing. -/
  cont : List Byte := []
  depth : Nat := 0
  step : Nat := 0
  forwarded : Bool := false
  /-- Occurrences, and whether the first of them has been reported before: a coalesced entry forwarded again (R341). -/
  count : Nat := 1
  again : Bool := false
  deriving DecidableEq, Repr

/-- Whether a period has gone by since the last time. -/
def periodOver (last : Option Nat) (period now : Nat) : Bool :=
  match last with
  | none => true
  | some t => decide (t + period ≤ now)

/-- Bytes filled with zeros to a length, or cut to it. -/
def padTo (n : Nat) (bs : List Byte) : List Byte := (bs ++ List.replicate n 0).take n

/-- How many entries a part's Log holds (R337). -/
def logCap : Dev → Nat
  | .lotik => 1024
  | .verard => 65536

/-- The free places kept for ERROR and CRITICAL (R342). -/
def logReserve : Dev → Nat
  | .lotik => 64
  | .verard => 1024

/-- Unconsumed entries (R345, R346). -/
def Log.used (l : Log) : Nat := (l.wr + 2 ^ 32 - l.rd) % 2 ^ 32

/-- The places an entry takes: two for a pair (R339). -/
def LogEntry.places (e : LogEntry) : Nat := if e.cont = [] then 1 else 2

/-- The kinds never coalesced (R340). -/
def neverCoalesced (kind : Nat) : Bool :=
  kind == 0x0C01 || kind == 0x0901 || kind == 0x0803 || kind == 0x0801 || kind == 0x0B03 ||
  kind / 256 == 13 || kind / 256 == 14

/-- Whether a report is coalesced into an entry (R340). -/
def coalesces (l : Log) (now : Nat) (r : Report) (e : LogEntry) : Bool :=
  !neverCoalesced r.kind && r.cont.isEmpty && e.cont.isEmpty &&
  decide ((l.wr + 2 ^ 32 - e.seq) % 2 ^ 32 ≤ 16) && decide ((e.seq + 2 ^ 32 - l.rd) % 2 ^ 32 < l.used) &&
  decide (now ≤ e.last + secSub 1) && e.kind == r.kind && e.ua == r.ua && e.arg == padTo 16 r.arg

/-- Add a report to the first entry that coalesces it. -/
def coalesceInto (l : Log) (now : Nat) (r : Report) : List LogEntry → Option (List LogEntry)
  | [] => none
  | e :: es =>
    if coalesces l now r e then
      some ({ e with count := (e.count + r.count - b2n r.again) % 2 ^ 32, last := now, coalesced := true } :: es)
    else (coalesceInto l now r es).map (e :: ·)

/-- Write an entry at WR, and keep what the ring has room for. -/
def Log.write (d : Dev) (l : Log) (e : LogEntry) : Log :=
  { l with entries := ({ e with seq := l.wr } :: l.entries).take (logCap d), wr := (l.wr + e.places) % 2 ^ 32 }

/-- The free places a report of this severity may use (R342). -/
def Log.room (d : Dev) (l : Log) (sev : Nat) : Nat :=
  logCap d - l.used - (if 4 ≤ sev then 0 else logReserve d)

/-- Count a lost report (R342). -/
def Log.lose (l : Log) (now : Nat) (r : Report) : Log :=
  let fresh := l.lossLow = 0 ∧ l.lossHigh = 0
  { l with
    lossLow := l.lossLow + (if r.sev < 4 then 1 else 0)
    lossHigh := l.lossHigh + (if r.sev < 4 then 0 else 1)
    lossKind := if 4 ≤ r.sev ∧ l.lossHigh = 0 then r.kind else l.lossKind
    lossFirst := if fresh then now else l.lossFirst
    lossLast := now }

/-- The bytes of an entry (R338), or of a pair (R339). -/
def LogEntry.toBytes (wrap : Bool) (e : LogEntry) : List Byte :=
  leBytes 2 e.kind ++
  [BitVec.ofNat 8 (e.sev + 8 * b2n e.coalesced + 16 * e.depth + 64 * b2n e.forwarded), BitVec.ofNat 8 (e.kind / 256)] ++
  leBytes 4 e.seq ++ packedBytes wrap e.first ++ packedBytes wrap e.last ++ leBytes 4 e.count ++ leBytes 3 e.ua ++ [0] ++
  leBytes 8 e.step ++ padTo 16 e.arg ++
  (if e.cont = [] then [] else
    leBytes 2 (e.kind / 256 * 256 + 0xFF) ++
      [BitVec.ofNat 8 (e.sev + 16 * e.depth + 64 * b2n e.forwarded), BitVec.ofNat 8 (e.kind / 256)] ++ leBytes 4 (e.seq + 1) ++
      padTo 56 e.cont)

/-- The entry a report makes. -/
def Report.entry (r : Report) (now : Nat) : LogEntry :=
  { kind := r.kind, sev := r.sev, depth := r.depth, forwarded := r.forwarded, first := now, last := now,
    ua := r.ua, step := r.step, arg := padTo 16 r.arg, cont := r.cont, count := r.count, coalesced := r.again }

/-- The time a report stays in the input queue: one logic-domain cycle on Lotik, and on Verard a report at 4 M a second (R341, R342;
DESIGN CHOICE on Lotik, where the spec names no rate at which the queue empties: notes/assumptions/40). -/
def logDrain : Dev → Nat
  | .lotik => 65536
  | .verard => 250 * 65536

/-- The input queue without what has left it by now (R342). -/
def Log.drainQueue (d : Dev) (l : Log) (now : Nat) : Log :=
  let gone := (now - l.inQueueAt) / logDrain d
  if now < l.inQueueAt ∨ l.inQueue ≤ gone then { l with inQueue := 0, inQueueAt := now }
  else { l with inQueue := l.inQueue - gone, inQueueAt := l.inQueueAt + gone * logDrain d }

/-- Whether the input queue has no place for a report: one of its 16 is kept for CRITICAL (R342). -/
def Log.queueFull (l : Log) (sev : Nat) : Bool := decide ((if sev = 5 then 16 else 15) ≤ l.inQueue)

/-- The lowest severity a part records (R338). -/
def State.minSev (s : State) : Dev → Nat
  | .lotik => s.get R.LK_HM_CFG_MIN_SEV
  | .verard => s.get R.VD_HM_CFG_MIN_SEV

/-- LOG_LOST of a part (R342, R345, R346). -/
def State.countLoss (s : State) (d : Dev) (sev : Nat) : State :=
  match d with
  | .lotik => s.bumpSat (if sev < 4 then R.LK_LOG_LOST_LOW else R.LK_LOG_LOST_HIGH)
  | .verard => s.bumpSat (if sev < 4 then R.VD_LOG_LOST_LOW else R.VD_LOG_LOST_HIGH)

/-- Show USED, RESERVE and WR of a part's Log in its registers (R345, R346). -/
def State.showLog (s : State) (d : Dev) : State :=
  let l := s.log d
  let res := b2n (decide (logCap d - l.used ≤ logReserve d))
  match d with
  | .lotik => (((s.put R.LK_LOG_STAT_USED l.used).put R.LK_LOG_STAT_RESERVE res).put R.LK_LOG_WR_SEQ l.wr).put R.LK_LOG_RD_SEQ l.rd
  | .verard => (((s.put R.VD_LOG_STAT_USED l.used).put R.VD_LOG_STAT_RESERVE res).put R.VD_LOG_WR_SEQ l.wr).put R.VD_LOG_RD_SEQ l.rd

/-- The heads a die is not itself: HEAD, die 0, and ALT_HEAD (R427). -/
def State.otherHeads (s : State) : List Nat :=
  let role := s.get R.LK_TOPO_ROLE
  (if role = 1 then [] else [0]) ++ (if role = 2 then [] else [s.lk.ring.altDie.toNat])

/-- How a record or entry leaves a die for its pod Verards (R326): on its own T-link where it is a head with the link in
SERVICE, and on the ring to the other heads. -/
def State.sendHealth (s : State) (kind : Byte) (body : List Byte) : State :=
  let n := cellsFor (4 + body.length)
  let s := s.otherHeads.foldl (fun s die =>
    s.transmit .lotik (ringPeer die) 4 n (.health (.ring (s.ringToward die)) kind body)) s
  if s.get R.LK_TOPO_ROLE ≠ 0 ∧ s.inService .tlink then s.transmit .lotik PortId.tlink.idx 4 n (.health (.port .tlink) kind body)
  else s

/-- Whether HEAD's and ALT_HEAD's T-links are in SERVICE, as this die knows them (R26; notes/assumptions/26). -/
def State.headLink (s : State) : Bool := if s.get R.LK_TOPO_ROLE = 1 then s.inService .tlink else s.lk.ring.headUp
def State.altLink (s : State) : Bool := if s.get R.LK_TOPO_ROLE = 2 then s.inService .tlink else s.lk.ring.altUp

/-- Whether a record can reach a pod Verard (R326): by this die's own T-link, or by the ring and that of another head. -/
def State.healthPath (s : State) : Bool :=
  let role := s.get R.LK_TOPO_ROLE
  let ring := s.get R.LK_RING_STAT_E_STATE == 2 || s.get R.LK_RING_STAT_W_STATE == 2
  (role != 0 && s.inService .tlink) || (ring && ((role != 1 && s.headLink) || (role != 2 && s.altLink)))

/-- Take one forwarding token, of FWD_RATE a second with a burst of 64 (R341). -/
def Log.takeToken (l : Log) (rate now : Nat) : Log × Bool :=
  let t := min (64 * secSub 1) (l.tokens + (now - l.tokensAt) * rate)
  if secSub 1 ≤ t then ({ l with tokens := t - secSub 1, tokensAt := now }, true)
  else ({ l with tokens := t, tokensAt := now }, false)

/-- The entries Lotik forwards (R341): by severity, or of a kind that a health event of R330 depends on. -/
def State.forwards (s : State) (e : LogEntry) : Bool :=
  decide (s.get R.LK_HM_CFG_FWD_SEV ≤ e.sev) || e.kind == 0x0801 || e.kind == 0x0700 || e.kind == 0x0100

/-- Note on the entry of a sequence number whether it is to be forwarded again (R341). -/
def Log.markSent (l : Log) (seq : Nat) (b : Bool) : Log :=
  { l with entries := l.entries.map (fun e => if e.seq = seq then { e with sent := b } else e) }

/-- Forward an entry of Lotik's Log (R341): one beyond the limit is counted for the next RATE_SUMMARY, one without a path is not. -/
def State.forward (s : State) (e : LogEntry) : State :=
  if !s.forwards e then s else
  if !s.healthPath then s.bumpSat R.LK_HM_NOFWD_ENTRIES else
  let tok := (s.log .lotik).takeToken (s.get R.LK_HM_CFG_FWD_RATE) (s.now .lotik)
  let l := tok.1
  let ok := tok.2
  if ok || e.sev == 5 then
    let l := if e.sev == 5 then s.log .lotik else l
    (s.setLog .lotik (l.markSent e.seq true)).sendHealth 2 (e.toBytes (s.wrap .lotik))
  else (s.setLog .lotik { l with noFwd := l.noFwd + 1 }).bumpSat R.LK_HM_NOFWD_ENTRIES

/-- Whether an entry can still be coalesced (R340). -/
def Log.open_ (l : Log) (now : Nat) (e : LogEntry) : Bool :=
  !neverCoalesced e.kind && e.cont.isEmpty && decide ((l.wr + 2 ^ 32 - e.seq) % 2 ^ 32 ≤ 16) &&
  decide ((e.seq + 2 ^ 32 - l.rd) % 2 ^ 32 < l.used) && decide (now ≤ e.last + secSub 1)

/-- The entries of the host buffer (R345). -/
def State.spillSize (s : State) : Nat := 2 ^ (s.get R.LK_LOG_CTRL_SPILL_LOG2 + 6)

/-- Show SPILL_FULL (R345): whether the host buffer has room for no further entry, or not for a pair where one is next. -/
def State.showSpill (s : State) : State :=
  let l := s.log .lotik
  let need := match l.entries.find? (fun e => e.seq == l.rd && decide (0 < l.used)) with
    | some e => e.places
    | none => 1
  s.putB R.LK_LOG_STAT_SPILL_FULL
    (decide (s.spillSize < (s.get R.LK_LOG_SPILL_TAIL_TAIL + 2 ^ 32 - s.get R.LK_LOG_SPILL_HEAD_HEAD) % 2 ^ 32 + need))

/-- Copy Lotik's oldest entry to the host buffer (R337), once it can no longer be coalesced or USED has reached 512. -/
def State.spillNext (s : State) : State :=
  let s := s.showSpill
  let l := s.log .lotik
  if !s.getB R.LK_LOG_CTRL_SPILL_EN || s.getB R.LK_LOG_STAT_SPILL_ERR || l.spilling.isSome || s.lk.hostDown then s else
  match l.entries.find? (fun e => e.seq == l.rd && decide (0 < l.used)) with
  | none => s
  | some e =>
    if l.open_ (s.now .lotik) e && decide (l.used < 512) then s else
    if s.getB R.LK_LOG_STAT_SPILL_FULL then s else
    let n := s.spillSize
    let tail := s.get R.LK_LOG_SPILL_TAIL_TAIL
    let base := s.get R.LK_LOG_SPILL_LO_BASE_LO * 64 + s.get R.LK_LOG_SPILL_HI_BASE_HI * 2 ^ 32
    let bytes := e.toBytes (s.wrap .lotik)
    let s := s.setLog .lotik { l with spilling := some (e.seq, e.places) }
    (List.range e.places).foldl (fun s k =>
      s.emit (.hostWrite .lotik (base + (tail + k) % n * 64) ((bytes.drop (64 * k)).take 64))) s

/-- A part's own UA. -/
def State.ua (s : State) : Dev → Nat
  | .lotik => s.get R.LK_TOPO_UA
  | .verard => s.get R.VD_TOPO_UA

/-- The step count a Lotik entry carries (R338). -/
def State.stepCount (s : State) (d : Dev) : Nat :=
  match d with
  | .lotik => s.lk.jobs.step.toNat
  | .verard => 0

/-- Keep a Log that now tells of a loss, and raise LOG_LOSS (R342, R345, R346). -/
def State.lossIrq (s : State) (d : Dev) (l : Log) : State :=
  ((s.setLog d l).showLog d).put (match d with | .lotik => R.LK_HM_IRQ_LOG_LOSS | .verard => R.VD_HM_IRQ_LOG_LOSS) 1

/-- A report is lost (R342). -/
def State.loseReport (s : State) (d : Dev) (r : Report) : State :=
  ((s.setLog d ((s.log d).lose (s.now d) r)).showLog d).countLoss d r.sev

/-- Write the LOG_LOSS entry that is due, once a place is free (R342), and raise its interrupt (R345, R346); one like an entry among the
last 16 is coalesced into it (R340). It tells of an error found while the Log is written: DEPTH 1 (R343; notes/assumptions/72). -/
def State.payLoss (s : State) (d : Dev) : State :=
  let l := s.log d
  if (l.lossLow ≠ 0 ∨ l.lossHigh ≠ 0) ∧ 0 < logCap d - l.used ∧ s.minSev d ≤ 4 then
    let r : Report := { kind := 0x0B05, sev := 4, depth := 1, ua := s.ua d, step := s.stepCount d,
                        arg := leBytes 4 l.lossLow ++ leBytes 4 l.lossHigh ++ leBytes 2 l.lossKind }
    let paid : Log := { l with lossLow := 0, lossHigh := 0, lossKind := 0 }
    match coalesceInto l l.lossLast r l.entries with
    | some es => s.lossIrq d { paid with entries := es }
    | none =>
      let e := { r.entry l.lossFirst with last := l.lossLast }
      let s := s.lossIrq d (paid.write d e)
      match d with
      | .lotik => s.forward { e with seq := l.wr }
      | .verard => s
  else s

/-- A report reaches a part's Log (R337 to R342): it is coalesced, or enters the input queue and takes a place, after the LOG_LOSS entry
that is due; a report that finds the queue full, or no place it may use, is lost (notes/assumptions/40). -/
def State.report (s : State) (d : Dev) (r : Report) : State :=
  if r.sev < s.minSev d then s else
  let now := s.now d
  match coalesceInto (s.log d) now r (s.log d).entries with
  | some es => (s.setLog d { s.log d with entries := es }).showLog d
  | none =>
    let e := r.entry now
    let l := (s.log d).drainQueue d now
    if l.queueFull r.sev then ((s.setLog d l).loseReport d r).payLoss d else
    let s := (s.setLog d { l with inQueue := l.inQueue + 1 }).payLoss d
    let l := s.log d
    if e.places ≤ l.room d r.sev then
      let s := (s.setLog d (l.write d e)).showLog d
      match d with
      | .lotik => (s.forward { e with seq := l.wr }).spillNext
      | .verard => s
    else (s.loseReport d r).payLoss d

/-- An error found while one of DEPTH 1 is being handled (R343): recorded once, as NEST_LIMIT with the KIND and the fields it would have
had, and not handled on its own. -/
def State.nestLimit (s : State) (d : Dev) (r : Report) : State :=
  let s := s.report d { r with kind := 0x0B06, sev := 4, depth := 2, arg := leBytes 2 r.kind ++ r.arg.take 14 }
  match d with
  | .lotik => s.put R.LK_HM_IRQ_NEST_LIMIT 1
  | .verard => s

/-- An entry of code STATE (R338): the register that reports the change and its new value; at DEPTH 1 in a handling sequence (R343). -/
def State.logChange (s : State) (d : Dev) (source : Nat) (f : Field) (sev : Nat := 2) (depth : Nat := 0) : State :=
  s.report d { kind := source * 256, sev := sev, depth := depth, ua := s.ua d, step := s.stepCount d,
               arg := leBytes 4 (f.off + (if f.sp = 2 then 2 ^ 31 else 0)) ++ leBytes 4 (s.word f.sp f.off) }

/-- An entry of a named kind (R338). -/
def State.logKind (s : State) (d : Dev) (kind sev : Nat) (arg : List Byte) : State :=
  s.report d { kind := kind, sev := sev, ua := s.ua d, step := s.stepCount d, arg := arg }

/-- An ACCESS_ERROR entry (R338): the offset, and the write bit with the size. -/
def State.logAccess (s : State) (d : Dev) (off : Nat) (write : Bool) (size : Nat) : State :=
  s.logKind d 0x0F01 3 (leBytes 4 off ++ [BitVec.ofNat 8 (b2n write + 2 * size)])

end Sys2Proof.Machine
end

