-- ==== Sys2Proof/Machine/Cmd.lean ====
section
/-! DEFINITION. The command path's shared operations: routing, sealing, answering and delivery to a part's host (R368 to R394). -/

namespace Sys2Proof.Machine

open Sys2Proof

/-- The fields of a Unit Address (R20). -/
def uaClass (u : Nat) : Nat := bits u 17 3
def uaPod (u : Nat) : Nat := bits u 11 6
def uaPort (u : Nat) : Nat := bits u 5 6
def uaDie (u : Nat) : Nat := bits u 0 5

/-- Whether Verard runs: neither held in reset (R360) nor in FAULT (R363). -/
def State.vdRuns (s : State) : Bool := s.get R.VD_BOOT_STAGE != 6 && !s.vd.hot

/-- Whether a part serves more than its register window and Log: not in FAULT, not SCRAPPED, not held in reset (R360, R362, R363, R404). -/
def State.serves (s : State) (d : Dev) : Bool :=
  (s.part d).sec.lc != 4 && (match d with
    | .lotik => s.get R.LK_BOOT_STAGE != 7
    | .verard => s.vdRuns)

/-- Whether maker debug is open (R404, R407, R421). -/
def State.makerOpen (s : State) (d : Dev) : Bool :=
  (s.part d).sec.lc == 0 || ((s.part d).sec.lc == 3 && s.getB (R.SEC_LC_TOKEN_OPEN d))

/-- Whether user debug is open by state (R404). -/
def State.userOpen (s : State) (d : Dev) : Bool := decide ((s.part d).sec.lc ≤ 2) || s.makerOpen d

/-- The part that owns a register space, and the offset an ACCESS_ERROR or a debug command names there (R338, R391). -/
def spDev (sp : Nat) : Dev := if sp = 0 then .lotik else .verard
def busOff (sp off : Nat) : Nat := if sp = 2 then off + 2 ^ 31 else off

/-- Whether a part takes bus accesses: no new request while HOST_RST_N is low (R350), none while held in reset (R360), nor before PROFILE
ends and the endpoint answers configuration requests (R363). -/
def State.busUp (s : State) : Dev → Bool
  | .lotik => !s.lk.hostDown
  | .verard => !s.vd.hot && decide (3 ≤ s.get R.VD_BOOT_STAGE)

/-- Whether the life-cycle state refuses an access (R404, R421). A SCRAPPED part keeps its local ingress, for INFO. -/
def State.shut (s : State) (sp off : Nat) : Bool :=
  let scrapped := (s.part (spDev sp)).sec.lc == 4
  if sp = 0 then
    (scrapped && !(decide (0x7000 ≤ off) && decide (off < 0x8000))) ||
    (decide (0xE0000 ≤ off) && decide (off < 0xF0000) && !s.makerOpen .lotik) ||
    (decide (0xF0000 ≤ off) && !s.userOpen .lotik)
  else if sp = 1 then scrapped && !(decide (0x90000 ≤ off) && decide (off ≤ 0x90030))
  else scrapped || (decide (0x2000000 ≤ off) && decide (off < 0x2800000) && !s.userOpen .verard)

/-- Whether a Verard in FAULT leaves an offset dead: only its identity and Log answer (R363). -/
def State.dark (s : State) (sp off : Nat) : Bool :=
  sp != 0 && s.get R.VD_BOOT_STAGE == 6 &&
  !(sp == 1 && (decide (off ≤ 0x8) || (decide (0x80000 ≤ off) && decide (off < 0x80080))))

/-- Whether a read finds a register dark: VD_PROF_CTRL still names the newer copy in FAULT (R425). -/
def State.darkRead (s : State) (sp off : Nat) : Bool := s.dark sp off && !(sp == 1 && off == 0xA2000)

/-- Whether a part has its UA (R23). -/
def State.uaValid (s : State) : Dev → Bool
  | .lotik => s.getB R.LK_TOPO_UA_VALID
  | .verard => s.getB R.VD_TOPO_UA_VALID

/-- Whether a UA is multicast (R21). -/
def uaMulticast (u : Nat) : Bool := bits u 18 2 == 3

/-- Whether a UA's class is one no device has (R21). -/
def uaBadClass (u : Nat) : Bool := 3 ≤ uaClass u && uaClass u ≤ 5

/-- A part's command path. -/
def State.cmd (s : State) (d : Dev) : CmdPath := (s.part d).cmd

/-- Replace a part's command path. -/
def State.setCmd (s : State) (d : Dev) (c : CmdPath) : State := s.setPart d { s.part d with cmd := c }

/-- Verard's roles (R14). -/
def State.vdRole (s : State) : Nat := s.get R.VD_TOPO_ROLE

/-- The port of the root tie: upstream B on root A, upstream A on root B (R18). -/
def State.tiePort (s : State) : PortId := if s.get R.VD_TOPO_SIDE = 0 then .upB else .upA

/-- Whether a port is this Verard's root tie (R18, R28). -/
def State.isTie (s : State) (p : PortId) : Bool := s.vdRole != 1 && p == s.tiePort

/-- Whether the UA is this part's own; a COMBINED Verard also has a class 1 alias (R22). -/
def State.isOwnUa (s : State) (d : Dev) (u : Nat) : Bool :=
  u == s.ua d || (d == .verard && s.vdRole == 2 && uaClass u == 1 && u + 0x20000 == s.ua d)

/-- The way a packet to a unicast UA leaves a part (R381); none where no row applies. `arrived` is the way it came in: what came from
above goes up no more, and what came over the root tie does not go back over it. -/
def State.routeUni (s : State) (d : Dev) (u : Nat) (arrived : Option Path) : Option Path :=
  let side := s.get R.VD_TOPO_SIDE
  let fromAbove := arrived == some (.port .tlink) || (s.vdRole == 1 && (arrived == some (.port .upA) || arrived == some (.port .upB)))
  let raise (p : PortId) : Option Path := if fromAbove then none else some (.port p)
  match d with
  | .lotik =>
    let own := s.ua .lotik
    if uaClass u = 0 ∧ uaPod u = uaPod own ∧ uaPort u = uaPort own then some (.ring (s.ringToward (uaDie u)))
    else
      let role := s.get R.LK_TOPO_ROLE
      let gph := s.lk.ring.gph.toNat
      if role ≠ 0 ∧ role = gph then (if s.inService .tlink then raise .tlink else none)
      else if gph = 0 ∨ fromAbove then none
      else some (.ring (s.ringToward (if gph = 1 then 0 else s.lk.ring.altDie.toNat)))
  | .verard =>
    let pod := uaPod (s.ua .verard)
    let up : Option Path := if s.inService .upA then raise .upA else if s.inService .upB then raise .upB else none
    let tie : Option Path := if s.inService s.tiePort ∧ arrived ≠ some (.port s.tiePort) then some (.port s.tiePort) else none
    let downP (n : Nat) : PortId := .down (Fin.ofNat 64 n)
    if s.vdRole = 1 then
      if uaClass u = 0 ∧ uaPod u = pod ∧ s.inService (downP (uaPort u)) then some (.port (downP (uaPort u))) else up
    else if s.vdRole = 0 then
      let serve (p sd : Nat) : Option Path :=
        if s.getB R.VD_TOPO_HOMING then some (.port (downP (p + 32 * sd))) else if sd = side then some (.port (downP p)) else tie
      let spread := s.getB R.VD_TOPO_HOMING && decide (32 ≤ uaPod u)
      -- No UA outside the hall is forwarded (R29): a root's pod is 0, and CROSS homing has 32 pods.
      if uaClass u = 2 then (if uaPod u = 0 then tie else none)
      else if spread then none
      else if uaClass u = 1 then serve (uaPod u) (uaDie u)
      else if uaClass u = 0 then
        let p := downP (uaPod u + (if s.getB R.VD_TOPO_HOMING then 32 * side else 0))
        if s.inService p then some (.port p) else tie
      else none
    -- A site on COMBINED Verards has one pod number; nothing goes to another site (R28, R29).
    else if uaPod u ≠ pod then none
    else if uaClass u = 0 ∧ s.inService (downP (uaPort u)) then some (.port (downP (uaPort u))) else tie

/-- The header's bytes (R368). -/
def hdrBytes (h : PktHeader) : List Byte :=
  [h.version, h.type, h.opcode, h.flags] ++ leBytes 4 h.seq.toNat ++ leBytes 4 h.session.toNat ++
  leBytes 3 h.target.toNat ++ leBytes 3 h.source.toNat ++ leBytes 2 h.length.toNat ++ leBytes 4 h.salt.toNat ++
  leBytes 8 h.counter.toNat

/-- A packet's bytes (R368). -/
def pktBytes (p : Packet) : List Byte := hdrBytes p.hdr ++ p.payload ++ padTo 16 p.tag

/-- A packet cut into fragments of 108 bytes (R378). -/
def fragments (origin pktId : Nat) (bytes : List Byte) : List Fragment :=
  let total := (bytes.length + 107) / 108
  (List.range total).map (fun i =>
    { origin := BitVec.ofNat 20 origin, pktId := BitVec.ofNat 16 pktId, index := BitVec.ofNat 6 i,
      total := BitVec.ofNat 6 total, part := (bytes.drop (108 * i)).take 108 })

/-- Words of a byte buffer, four bytes each. -/
def wordsOf : Nat → List Byte → List Nat
  | 0, _ => []
  | n + 1, bs => ofLe (bs.take 4) :: wordsOf n (bs.drop 4)

/-- Fill the mailbox with a packet for the host (R393). -/
def State.mboxDeliver (s : State) (pkt : List Byte) : State :=
  let n := (pkt.length + 3) / 4
  let s := (wordsOf n pkt).zipIdx.foldl (fun s x => s.put (R.LK_MBOX_BUF_DATA x.2) x.1) s
  (s.put R.LK_MBOX_STAT_STATE 3).put R.LK_MBOX_IRQ_DELIVERED 1

/-- Whether the reply ring has a free slot (R394); one slot stays empty (notes/assumptions/9). -/
def State.rspFree (s : State) : Bool :=
  let n := 2 ^ s.get R.VD_CMD_RSP_CFG_LOG2
  s.getB R.VD_CMD_RSP_CFG_ENABLE && (s.get R.VD_CMD_RSP_TAIL_TAIL + 1) % n != s.get R.VD_CMD_RSP_HEAD_HEAD % n

/-- Set a bit of VD_CMD_IRQ and send its message where enabled (R394). -/
def State.cmdIrq (s : State) (f : Field) (bit : Nat) : State :=
  (s.put f 1).emitIf ((s.get R.VD_CMD_IRQ_EN_EN).testBit bit) (.msix (s.get R.VD_CMD_RSP_CFG_VECTOR))

/-- Write a packet into the reply ring (R394). -/
def State.rspDeliver (s : State) (pkt : List Byte) : State :=
  let n := 2 ^ s.get R.VD_CMD_RSP_CFG_LOG2
  let t := s.get R.VD_CMD_RSP_TAIL_TAIL
  let ph := s.get R.VD_CMD_RSP_TAIL_PHASE
  let base := s.get R.VD_CMD_RSP_LO_BASE_LO * 4096 + s.get R.VD_CMD_RSP_HI_BASE_HI * 2 ^ 32
  let s := s.emit (.hostWrite .verard (base + t * 4096) (padTo 4080 pkt ++ padTo 16 [BitVec.ofNat 8 ph]))
  let s := (s.put R.VD_CMD_RSP_TAIL_TAIL ((t + 1) % n)).put R.VD_CMD_RSP_TAIL_PHASE (if (t + 1) % n = 0 then 1 - ph else ph)
  s.cmdIrq R.VD_CMD_IRQ_REPLY 0

/-- Give the host its waiting packets while there is room (R392 to R394). -/
def State.drainHost (s : State) (d : Dev) : Nat → State
  | 0 => s
  | n + 1 =>
    match (s.cmd d).held with
    | [] => s
    | p :: ps =>
      let taken (s : State) : State := s.setCmd d { s.cmd d with held := ps }
      match d with
      | .lotik =>
        if s.get R.LK_MBOX_STAT_STATE = 0 then
          ((taken s).mboxDeliver p).put R.LK_MBOX_STAT_HELD ps.length
        else s
      | .verard =>
        if s.rspFree then (((taken s).rspDeliver p).put R.VD_CMD_HELD_HELD ps.length).drainHost .verard n else s

/-- A packet for a part's own host (R392): delivered, held, or discarded and counted. -/
def State.toHost (s : State) (d : Dev) (pkt : List Byte) : State :=
  let c := s.cmd d
  let cap := match d with | .lotik => 8 | .verard => 64
  if c.held.length < cap ∨ (c.held = [] ∧ d = .lotik ∧ s.get R.LK_MBOX_STAT_STATE = 0) then
    let s := s.setCmd d { c with held := c.held ++ [pkt] }
    let s := match d with
      | .lotik => s.put R.LK_MBOX_STAT_HELD (c.held.length + 1)
      | .verard => s.put R.VD_CMD_HELD_HELD (c.held.length + 1)
    s.drainHost d 64
  else match d with
    | .lotik => s.put R.LK_MBOX_IRQ_DROP 1
    | .verard => s.cmdIrq R.VD_CMD_IRQ_DROP 2

/-- Put a fragment on a way out of a part, under the credits of MGMT (R204, R378). -/
def State.sendFrag (s : State) (d : Dev) (path : Path) (target : Nat) (f : Fragment) : State :=
  let cells := cellsFor (8 + f.part.length)
  match path with
  | .port p => s.transmit d p.idx 4 cells (.frag path f)
  | .ring _ =>
    let gph := if s.lk.ring.gph = 2 then s.lk.ring.altDie.toNat else 0
    let die := if uaClass target = 0 ∧ target / 32 = s.ua .lotik / 32 then uaDie target else gph
    s.transmit d (ringPeer die) 4 cells (.frag path f)
  | .host _ => s.emit (.frag path f)

/-- Send a packet a part has made (R378, R381); where no row of R381 applies it is discarded (R343). -/
def State.sendPacket (s : State) (d : Dev) (p : Packet) : State :=
  let u := p.hdr.target.toNat % 2 ^ 20
  if s.isOwnUa d u then (if p.hdr.target.toNat / 2 ^ 20 = 1 then s.toHost d (pktBytes p) else s)
  else match s.routeUni d u none with
    | none => s
    | some path =>
      let c := s.cmd d
      let s := s.setCmd d { c with pktId := c.pktId + 1 }
      (fragments (s.ua d) c.pktId.toNat (pktBytes p)).foldl (fun s f => s.sendFrag d path u f) s

/-- A part's session by its ID. -/
def State.session (s : State) (d : Dev) (id : BitVec 32) : Option Session :=
  (s.cmd d).sessions.find? (fun x => x.id == id)

/-- Replace a part's session. -/
def State.setSession (s : State) (d : Dev) (x : Session) : State :=
  s.setCmd d { s.cmd d with sessions := (s.cmd d).sessions.map (fun y => if y.id = x.id then x else y) }

/-- SALT of an answer: the session's own, or the member's under a group session (R375). -/
def State.answerSalt (s : State) (d : Dev) (x : Session) : BitVec 32 :=
  if x.group then BitVec.ofNat 32 (0xFFF00000 + s.ua d) else x.saltOut

/-- Show how many sessions a part holds (R395). -/
def State.showSessions (s : State) (d : Dev) : State :=
  let xs := (s.cmd d).sessions
  (s.put (R.CMD_STAT_SESSIONS d) (xs.filter (fun x => !x.group)).length).put (R.CMD_STAT_GSESSIONS d) (xs.filter (fun x => x.group)).length

/-- End the sessions that meet a test (R375, R376, R399). -/
def State.endSessions (s : State) (d : Dev) (bad : Session → Bool) : State :=
  (s.setCmd d { s.cmd d with sessions := (s.cmd d).sessions.filter (fun x => !bad x) }).showSessions d

/-- Seal an answer under a session and send it (R369, R371, R373). -/
def State.sendAnswer (s : State) (c : CmdCtx) (type : Nat) (opcode : Byte) (payload : List Byte) : State :=
  let own := BitVec.ofNat 21 (s.ua c.dev)
  let hdr (salt : BitVec 32) (ctr : BitVec 64) : PktHeader :=
    { version := c.version, type := BitVec.ofNat 8 type, opcode := opcode, flags := 0, seq := c.seq, session := c.session,
      target := c.src, source := own, length := BitVec.ofNat 16 payload.length, salt := salt, counter := ctr }
  if c.session = 0 then s.sendPacket c.dev { hdr := hdr 0 0, payload := payload, tag := [] }
  else match s.session c.dev c.session with
    | none => s
    | some x =>
      if x.tx.toNat + 1 = 2 ^ 64 - 1 then s.endSessions c.dev (fun y => y.id == x.id) else
      let h := hdr (s.answerSalt c.dev x) (x.tx + 1)
      let iv := (hdrBytes h).drop 20
      let ct := Config.gcmEncrypt x.key iv (hdrBytes h) payload
      (s.setSession c.dev { x with tx := x.tx + 1 }).sendPacket c.dev
        { hdr := h, payload := ct, tag := Config.gcmTag x.key iv (hdrBytes h) ct }

/-- A status word (R371). -/
def statusWord (st : Nat) : List Byte := [BitVec.ofNat 8 st, 0, 0, 0]

/-- Store an answer in its session (R374). -/
def State.storeAnswer (s : State) (c : CmdCtx) (a : Answer) : State :=
  match s.session c.dev c.session with
  | none => s
  | some x => s.setSession c.dev { x with answers := pushN 16 a (x.answers.filter (fun b => b.seq != a.seq)) }

/-- The COMMAND entry of a request (R388). -/
def State.logCommand (s : State) (c : CmdCtx) (opcode : Byte) (status : Nat) : State :=
  s.report c.dev
    { kind := 0x0C01, sev := 1, ua := c.src.toNat, step := s.stepCount c.dev,
      arg := [opcode, BitVec.ofNat 8 status, c.version, 0] ++ leBytes 4 c.session.toNat ++ leBytes 4 c.seq.toNat }

/-- Answer a request with its final REPLY (R371, R374). -/
def State.answer (s : State) (c : CmdCtx) (opcode : Byte) (status : Nat) (fields : List Byte := []) : State :=
  let pay := statusWord status ++ fields
  let s := s.storeAnswer c { seq := c.seq, opcode := opcode, version := c.version, reply := pay }
  if c.quiet && decide (status ≤ 1) then s else s.sendAnswer c 1 opcode pay

/-- Answer ACCEPTED and keep the work for its COMPLETION (R386). -/
def State.accept (s : State) (c : CmdCtx) (opcode : Byte) (tag : Nat) : State :=
  let pay := statusWord 1
  let s := s.storeAnswer c { seq := c.seq, opcode := opcode, version := c.version, reply := pay }
  let s := s.setCmd c.dev { s.cmd c.dev with works := (s.cmd c.dev).works ++ [{ ctx := c, opcode := opcode, tag := tag }] }
  let s := match s.session c.dev c.session with
    | none => s
    | some x => s.setSession c.dev { x with outstanding := x.outstanding + 1 }
  if c.quiet then s else s.sendAnswer c 1 opcode pay

/-- Send the COMPLETION of one work (R386); a session that has ended gets none (R376). -/
def State.completeWork (s : State) (w : Work) (status : Nat) (fields : List Byte) (log : Bool) : State :=
  let pay := statusWord status ++ fields
  let s := s.setCmd w.ctx.dev { s.cmd w.ctx.dev with works := (s.cmd w.ctx.dev).works.erase w }
  let s := match s.session w.ctx.dev w.ctx.session with
    | none => s
    | some x =>
      let as := x.answers.map (fun (a : Answer) => if a.seq = w.ctx.seq then { a with completion := some pay } else a)
      s.setSession w.ctx.dev { x with outstanding := x.outstanding - 1, answers := as }
  let s := s.doIf log (fun s => s.logCommand w.ctx w.opcode status)
  if w.ctx.quiet && status == 0 then s else s.sendAnswer w.ctx 2 w.opcode pay

/-- Complete every work of a part with an opcode and tag (R386). -/
def State.complete (s : State) (d : Dev) (opcode : Byte) (tag : Nat) (status : Nat) (fields : List Byte := [])
    (log : Bool := false) : State :=
  ((s.cmd d).works.filter (fun w => w.opcode == opcode && w.tag == tag)).foldl
    (fun s w => s.completeWork w status fields log) s

/-- The group sessions of a GID end when it changes generation here (R375). -/
def State.endGroupSessions (s : State) (gid gen : Nat) : State :=
  s.endSessions .lotik (fun x => x.group && x.gid.toNat == gid && x.gen.toNat != gen)

/-- A NOTICE for a packet header (R383). -/
def State.notice (s : State) (d : Dev) (h : PktHeader) (status : Nat) : State :=
  let f := R.CMD_CNT2_NOTICES d
  let hd : PktHeader :=
    { h with type := 4, flags := 0, target := h.source, source := BitVec.ofNat 21 (s.ua d),
             length := 4, salt := 0, counter := 0 }
  (s.bumpSat f).sendPacket d { hdr := hd, payload := statusWord status, tag := [] }

/-- Register words of a reply, each little-endian (R370, R428). -/
def State.regBytes (s : State) (sp : Nat) (offs : List Nat) : List Byte := offs.flatMap (fun o => leBytes 4 (s.word sp o))

end Sys2Proof.Machine
end

