-- ==== Sys2Proof/Machine/JobOps.lean ====
section
/-! DEFINITION. The job slots' shared operations (R136, R146, R147): states, messages toward the root, faults. -/

namespace Sys2Proof.Machine

open Sys2Proof

/-- The register field of a slot's state (R153). -/
def slotField (i : Nat) : Field := if i = 0 then R.LK_STEP_STAT_SLOT0_STATE else R.LK_STEP_STAT_SLOT1_STATE

/-- A slot's state (R136). -/
def State.slotState (s : State) (i : Nat) : Nat := s.get (slotField i)

/-- A slot. -/
def State.slot (s : State) (i : Nat) : Slot := smGet {} s.lk.jobs.slots i

/-- A slot's running record. -/
def State.run (s : State) (i : Nat) : SlotRun := smGet {} s.lk.jobs.runs i

/-- Replace Lotik's job side. -/
def State.setJobs (s : State) (j : Jobs) : State := { s with lk := { s.lk with jobs := j } }

/-- Replace a slot. -/
def State.setSlot (s : State) (i : Nat) (x : Slot) : State :=
  s.setJobs { s.lk.jobs with slots := smPut {} s.lk.jobs.slots i x }

/-- Replace a slot's running record. -/
def State.setRun (s : State) (i : Nat) (x : SlotRun) : State :=
  s.setJobs { s.lk.jobs with runs := smPut {} s.lk.jobs.runs i x }

/-- The active slot (R136): the one that is CONFIRMED, RUNNING, PAUSED or DRAINING. -/
def State.activeSlot (s : State) : Option Nat :=
  if 3 ≤ s.slotState 0 then some 0 else if 3 ≤ s.slotState 1 then some 1 else none

/-- The slot that holds a job (R137). -/
def State.slotOf (s : State) (gid : BitVec 18) (gen : BitVec 14) : Option Nat :=
  if s.slotState 0 ≠ 0 ∧ (s.slot 0).gid = gid ∧ (s.slot 0).gen = gen then some 0
  else if s.slotState 1 ≠ 0 ∧ (s.slot 1).gid = gid ∧ (s.slot 1).gen = gen then some 1
  else none

/-- Show the active job in the registers that follow it (R153). -/
def State.showJob (s : State) : State :=
  match s.activeSlot with
  | none => s
  | some i =>
    let x := s.slot i
    let ns := x.t0 / 65536
    let w := s.wrap .lotik
    let s := (s.put R.LK_STEP_STAT_ACTIVE i).put R.LK_JOB_ID_GID x.gid.toNat
    let s := s.put R.LK_JOB_ID_GEN x.gen.toNat
    let s := s.put R.LK_JOB_T0_NS_NS (if w then ns else ns % 1000000000)
    let s := s.put R.LK_JOB_T0_SEC_LO_SEC_LO (if w then 0 else ns / 1000000000)
    let s := s.put R.LK_JOB_T0_SEC_HI_SEC_HI (if w then 0 else ns / 1000000000 / 2 ^ 32)
    let s := (s.put R.LK_WP_PC_PC x.pc).put R.LK_WP_PC_DEPTH x.stack.length
    (s.put R.LK_WP_FETCH_AHEAD x.ahead).put R.LK_DEFER_TOTAL_TICKS (s.run i).deferTotal

/-- Whether a slot's job has had its first Mark, Mark 0 or that of a loaded image (R275). -/
def State.jobBegun (s : State) (i : Nat) : Bool := decide (4 ≤ s.slotState i) && (s.run i).marks != []

/-- Move a slot to a state, with its Log entry and interrupts (R136, R338, R419). -/
def State.slotGo (s : State) (i st cause : Nat) : State :=
  let ends := st == 6 || (st == 0 && (s.slotState i == 1 || s.slotState i == 2) && cause != 0)
  let s := s.put (slotField i) st
  let s := if st = 0 ∨ st = 6 then s.put R.LK_STEP_STAT_CAUSE cause else s
  let s := if st = 0 then s.put R.LK_STEP_IRQ_IDLE 1 else s
  let s := if st = 6 ∧ cause ≠ 1 then s.put R.LK_STEP_IRQ_FAULT 1 else s
  (s.logChange .lotik 4 (slotField i) (if ends then 4 else 2)).showJob

/-- Leave a hand-over for another unit of the die. -/
def State.mailTo (s : State) (m : Mail) : State := { s with lk := { s.lk with mail := s.lk.mail ++ [m] } }

/-- Send a tree message to one die of the package, by the shorter direction, under its credits (R65, R204). -/
def State.ringTree (s : State) (die : Nat) (m : TreeMsg) : State :=
  s.transmit .lotik (ringPeer die) (treeCls m) (treeCells m) (.tree (.ring (s.ringToward die)) m)

/-- Send a message upward from a member die (R427): to both heads; a head counts its own copy. -/
def State.sendUp (s : State) (m : TreeMsg) : State :=
  let s := s.otherHeads.foldl (fun s die => s.ringTree die m) s
  if s.get R.LK_TOPO_ROLE = 0 then s else s.mailTo (.toHead m)

/-- Send a job control message toward the job root (R139). -/
def State.sendJobUp (s : State) (m : JobMsg) : State := s.sendUp (.job m)

/-- The message KINDs of R138. -/
def jkArm := 0x01
def jkArmAck := 0x02
def jkCommit := 0x03
def jkCommitAck := 0x04
def jkConfirm := 0x05
def jkAbort := 0x06
def jkTeardown := 0x07
def jkDrained := 0x08
def jkRetire := 0x09
def jkFault := 0x0A
def jkDefer := 0x0B
def jkDeferReq := 0x0C
def jkPause := 0x0D
def jkPaused := 0x0E
def jkResume := 0x0F
def jkCheck := 0x10

/-- A message about a slot's job, from this die. -/
def State.jobMsg (s : State) (i kind status : Nat) : JobMsg :=
  { kind := BitVec.ofNat 8 kind, status := BitVec.ofNat 8 status, gid := (s.slot i).gid, gen := (s.slot i).gen,
    cseq := BitVec.ofNat 16 (s.slot i).cseq, src := BitVec.ofNat 20 (s.ua .lotik) }

/-- Answer a control round from this die (R139): the die's own bit, and its UA. -/
def State.jobAnswer (s : State) (i kind status cseq : Nat) : State :=
  s.sendJobUp { s.jobMsg i kind status with cseq := BitVec.ofNat 16 cseq, bitmap := BitVec.ofNat 64 (2 ^ uaDie (s.ua .lotik)) }

/-- A COMMIT is accepted and acknowledged (R141). -/
def State.commitOk (s : State) (i : Nat) : State :=
  let s := s.setRun i { s.run i with commitHeld := none }
  (s.slotGo i 2 0).jobAnswer i jkCommitAck 0 (s.run i).commitCseq.toNat

/-- Once no slot is active, a COMMIT that the other slot holds is accepted (R141). -/
def State.releaseHeld (s : State) (j : Nat) : State :=
  if s.activeSlot.isNone ∧ s.slotState j = 1 ∧ (s.run j).commitHeld.isSome then s.commitOk j else s

/-- Empty a slot that returns to IDLE (R136); where it was the active one, no active job has executed END (R153), and none of its
hints reserves the boost window any more (DESIGN CHOICE, notes/assumptions/132). A JOB_LOAD that still prefetched for it completes BUSY, for
the slot is not ARMED (R301; DESIGN CHOICE, notes/assumptions/155). -/
def State.slotIdle (s : State) (i cause : Nat) : State :=
  let s := if 3 ≤ s.slotState i then (s.put R.LK_STEP_STAT_ENDED 0).put R.LK_PG_STAT_HINT_PENDING 0 else s
  let s := if (s.run i).loaded then s.put R.LK_DET_STAT_LOADED 0 else s
  let s := s.doIf (s.slot i).loading (fun s => s.complete .lotik 0x67 i 0x30 [] true)
  let s := (s.setSlot i {}).setRun i {}
  (s.slotGo i 0 cause).releaseHeld (1 - i)

/-- The ARG of a JOB_FAULT entry (R338). -/
def State.faultArg (s : State) (i cause : Nat) : List Byte :=
  leBytes 4 cause ++ leBytes 4 ((s.slot i).gid.toNat + (s.slot i).gen.toNat * 2 ^ 18) ++
  leBytes 4 (s.get R.LK_FAULT_PC_PC) ++ leBytes 4 0

/-- A trigger output's train. -/
def State.train (s : State) (o : Nat) : Train := smGet {} s.lk.trains o

/-- Replace a trigger output's train. -/
def State.setTrain (s : State) (o : Nat) (t : Train) : State :=
  { s with lk := { s.lk with trains := smPut {} s.lk.trains o t } }

/-- A train ends after the present pulse (R119). -/
def State.cancelTrain (s : State) (o : Nat) : State :=
  (s.setTrain o { pulseEnd := (s.train o).pulseEnd }).put (R.LK_TRIGo_STAT_ARMED o) 0

/-- Cancel the trigger trains a job armed (R119, R150). -/
def State.cancelJobTrains (s : State) : State :=
  [0, 1].foldl (fun s o => if (s.train o).byJob then s.cancelTrain o else s) s

/-- A discontinuity carries hall time past edges of a train (R119): they are skipped and counted; the train keeps its phase. -/
def State.skipTrains (s : State) (t : Nat) : State :=
  [0, 1].foldl (fun s o =>
    let x := s.train o
    if s.getB (R.LK_TRIGo_STAT_ARMED o) ∧ x.next < t then
      if x.period = 0 then (s.cancelTrain o).bumpSat (R.LK_TRIGo_STAT_SKIPPED o)
      else
        let p := x.period * tickSub
        let n := (t - x.next + p - 1) / p
        (s.setTrain o { x with next := x.next + n * p }).bumpSat (R.LK_TRIGo_STAT_SKIPPED o) n
    else s) s

/-- Replace the steward. -/
def State.setCs (s : State) (x : Steward) : State := { s with lk := { s.lk with cs := x } }

/-- The first hall tick at or after an instant. -/
def ceilTick (t : Nat) : Nat := (t + tickSub - 1) / tickSub * tickSub

/-- Show the next scheduled change in its registers (R252). -/
def State.showSched (s : State) : State :=
  match s.lk.cs.sched with
  | [] => s.put R.LK_CS_STAT_NEXT_VALID 0
  | c :: _ =>
    let p := (packInstant (s.wrap .lotik) c.tick).toNat
    let want := c.idx.getD s.lk.cs.requested
    let ceil := c.ceil.getD (s.get R.LK_CS_STAT_OP_CEIL)
    let s := (s.put R.LK_CS_STAT_NEXT_VALID 1).put R.LK_CS_STAT_NEXT_OP (min want ceil)
    ((s.put R.LK_CS_NEXT_NS_NS (bits p 16 32)).put R.LK_CS_NEXT_SEC_LO_SEC_LO (bits p 48 32)).put R.LK_CS_NEXT_SEC_HI_SEC_HI (bits p 80 16)

/-- Put a change into the schedule, in order of its tick; changes of one tick are one change (R264), to be prepared for its new index. -/
def schedInsert (c : Change) : List Change → List Change
  | [] => [c]
  | x :: xs =>
    if c.tick < x.tick then c :: x :: xs
    else if c.tick = x.tick then { tick := x.tick, idx := c.idx.or x.idx, ceil := c.ceil.or x.ceil } :: xs
    else x :: schedInsert c xs

/-- Schedule a change (R242). -/
def State.schedule (s : State) (c : Change) : State :=
  (s.setCs { s.lk.cs with sched := schedInsert c s.lk.cs.sched }).showSched

/-- A change without its requested index (R243): what was prepared for that index is prepared and checked anew. -/
def Change.dropIdx (c : Change) : Change := if c.idx.isNone then c else { c with idx := none, prepared := false, checked := false }

/-- Drop every scheduled index change, and keep ceilings: what a job's end cancels (R150). -/
def State.unschedule (s : State) : State :=
  (s.setCs { s.lk.cs with sched := (s.lk.cs.sched.filter (fun c => c.ceil.isSome)).map Change.dropIdx }).showSched

/-- Begin a slot's drain (R150): the fetcher stops, actions not yet taken are cancelled, the job's queues refuse submissions. -/
def State.startDrain (s : State) (i cause : Nat) : State :=
  let x := s.slot i
  let s := s.setSlot i { x with buf := [], bursts := [], fetchEnd := true, gateSent := false, gateDone := none }
  let s := s.setRun i { s.run i with drainCause := cause, pauseA := none, resumeAt := none, nested := 0 }
  let s := (((s.put R.LK_DET_STAT_PAUSE_ARMED 0).put R.LK_STEP_STAT_GATE_PENDING 0).cancelJobTrains).unschedule
  let s := { s with lk := { s.lk with
    queues := s.lk.queues.map (fun (q : Nat × Queue) =>
      if q.2.enable && q.2.gid == x.gid.toNat && q.2.gen == x.gen.toNat then (q.1, { q.2 with state := 3 }) else q),
    captures := [] } }
  s.slotGo i 6 cause

/-- A slot's job faults (R147): drained when CONFIRMED, RUNNING or PAUSED, returned to IDLE when ARMED or COMMITTED;
JOB_FAULT goes toward the root, and a round not yet answered gets the same failure. A slot that drains keeps its first cause; the
first error found meanwhile is recorded with DEPTH 1, and the next, once, as NEST_LIMIT (R343). -/
def State.slotFault (s : State) (i cause : Nat) : State :=
  let st := s.slotState i
  if st = 0 then s else
  if st = 6 then
    let r : Report := { kind := 0x0401, sev := 4, ua := s.ua .lotik, step := s.stepCount .lotik, arg := s.faultArg i cause }
    let n := (s.run i).nested
    let s := s.setRun i { s.run i with nested := n + 1 }
    if n = 0 then s.report .lotik { r with depth := 1 } else if n = 1 then s.nestLimit .lotik r else s
  else
  let s := if 3 ≤ st then s.put R.LK_FAULT_PC_PC (s.slot i).pc else s
  let s := s.sendJobUp { s.jobMsg i jkFault cause with bitmap := s.lk.jobs.step }
  let s := if (s.slot i).arming then s.jobAnswer i jkArmAck 0x51 (s.slot i).armCseq else s
  let s := if (s.run i).commitHeld.isSome then s.jobAnswer i jkCommitAck 0x51 (s.run i).commitCseq.toNat else s
  let s := s.logKind .lotik 0x0401 4 (s.faultArg i cause)
  if 3 ≤ st then s.startDrain i cause else s.slotIdle i cause

/-- The active job faults (R147). -/
def State.faultActive (s : State) (cause : Nat) : State :=
  match s.activeSlot with
  | none => s
  | some i => s.slotFault i cause

/-- A change of DISC faults every job between COMMITTED and DRAINING (R143). -/
def State.faultDiscont (s : State) : State :=
  [0, 1].foldl (fun s i => if 2 ≤ s.slotState i then s.slotFault i 11 else s) s

/-- What a change of Lotik's time state does to a running job (R143). -/
def State.jobTimeState (s : State) : State :=
  match s.activeSlot with
  | none => s
  | some i =>
    let st := s.get (R.TIME_STAT_STATE .lotik)
    if s.slotState i = 4 ∧ (st = 5 ∨ (st = 4 ∧ (s.slot i).oosFault)) then s.slotFault i 12 else s

-- Waypoints (R126, R127).

/-- A waypoint's ACTION. -/
def wpAction (w : BitVec 128) : Nat := bits w.toNat 0 4

/-- A waypoint's ARG. -/
def wpArg (w : BitVec 128) : Nat := w.toNat / 2 ^ 64

/-- Whether a waypoint counts from the Mark of its step (R126). -/
def wpAnchor (w : BitVec 128) : Bool := bits w.toNat 4 1 == 1

/-- STRICT of a MARK. -/
def wpStrict (w : BitVec 128) : Bool := bits w.toNat 5 1 == 1

/-- A waypoint's OFFSET as a duration. -/
def wpOffset (w : BitVec 128) : Nat := bits w.toNat 16 48 * tickSub

/-- KIND of a MARK: 0 TIMED, 1 GATED, 2 HYBRID. -/
def markKind (w : BitVec 128) : Nat := bits (wpArg w) 0 2

/-- The group queue of a MARK's gate. -/
def markQueue (w : BitVec 128) : Nat := bits (wpArg w) 2 12

/-- GUARD of a MARK, in hall ticks; 0 takes the profile's (R131). -/
def State.markGuard (s : State) (w : BitVec 128) : Nat :=
  let g := bits (wpArg w) 32 16
  if g = 0 then s.lk.prof.markGuard else g

/-- A scheduled instant as the deferrals have moved it (R135). -/
def deferred (ds : List (Nat × Nat)) (t : Nat) : Nat :=
  ds.foldl (fun t d => if d.1 ≤ t then t + d.2 * tickSub else t) t

/-- The scheduled instant of a waypoint whose step began at `mark` (R126, R135). -/
def State.wpAt (s : State) (i mark : Nat) (w : BitVec 128) : Nat :=
  let t := ((if wpAnchor w then (mark : Int) else (s.slot i).base) + wpOffset w).toNat
  if wpAction w = 1 then deferred (s.run i).defers t else t

/-- The Mark from which a slot's present step counts: T0 before the job runs. -/
def State.stepMark (s : State) (i : Nat) : Nat := if 4 ≤ s.slotState i then s.lk.jobs.mark else (s.slot i).t0

/-- The instants of buffered waypoints, in order, where they are fixed (R125): a TIMED Mark fixes the step after it, a gate once
its completion is held. -/
def State.instants (s : State) (i : Nat) (gate : Option Nat) : Option Nat → List BufWp → List (BufWp × Option Nat)
  | _, [] => []
  | mark, b :: bs =>
    let t : Option Nat := if wpAnchor b.wp then mark.map (fun m => s.wpAt i m b.wp) else some (s.wpAt i 0 b.wp)
    if wpAction b.wp = 1 then
      if markKind b.wp = 0 then (b, t) :: s.instants i none t bs
      else (b, gate) :: s.instants i none gate bs
    else (b, t) :: s.instants i gate mark bs

/-- Every instant of a slot at or after Mark `m` moves by t − m (R296): its base, and the deferrals still to come. -/
def State.moveJob (s : State) (i m t : Nat) : State :=
  let x := s.slot i
  let r := s.run i
  (s.setSlot i { x with base := x.base + t - m }).setRun i
    { r with defers := r.defers.map (fun d => ((d.1 + t) - m, d.2)) }

/-- M and T_R of a PAUSED slot that holds CONFIRM (R296). -/
def State.resuming (s : State) (i : Nat) : Option (Nat × Nat) :=
  let r := s.run i
  match r.held, r.resumeAt with
  | some (m, _), some t => if s.slotState i = 5 ∧ r.confirm then some (m, t) else none
  | _, _ => none

/-- A slot's buffered waypoints with their instants: none is fixed before T0 is, nor in a pause before T_R is. -/
def State.slotInstants (s : State) (i : Nat) : List (BufWp × Option Nat) :=
  match s.resuming i with
  | some (m, t) => (s.moveJob i m t).instants i none (some t) (s.slot i).buf
  | none =>
    if s.slotState i < 2 ∨ s.slotState i = 5 then (s.slot i).buf.map (fun b => (b, none))
    else s.instants i s.lk.jobs.next (some (s.stepMark i)) (s.slot i).buf

/-- The first MARK a slot holds (R123). -/
def State.nextMarkWp (s : State) (i : Nat) : Option (BitVec 128) :=
  ((s.slot i).buf.find? (fun b => wpAction b.wp == 1 && b.fault == 0)).map (·.wp)

/-- The instant of a slot's next Mark, once fixed (R123). -/
def State.nextMark (s : State) (i : Nat) : Option Nat :=
  match s.nextMarkWp i with
  | none => none
  | some w => if markKind w = 0 then some (s.wpAt i s.lk.jobs.mark w) else s.lk.jobs.next

/-- The scheduled instant of the k-th Mark ahead in a slot's buffer, where it is TIMED or HYBRID (R267). -/
def State.schedMark (s : State) (i k : Nat) : Option Nat :=
  match ((s.slot i).buf.filter (fun b => wpAction b.wp == 1 && b.fault == 0))[k]? with
  | none => none
  | some b => if markKind b.wp = 1 then none else some (s.wpAt i s.lk.jobs.mark b.wp)

/-- The scheduled instant of a slot's next Mark where it is TIMED or HYBRID (R270). -/
def State.nextSched (s : State) (i : Nat) : Option Nat :=
  match s.nextMarkWp i with
  | none => none
  | some w => if markKind w = 1 then none else some (s.wpAt i s.lk.jobs.mark w)

end Sys2Proof.Machine
end

