-- ==== Sys2Proof/Machine/Time.lean ====
section
/-! DEFINITION. Hall time: the accumulator and INC, the time states, error estimates, latches, discontinuities (R30 to R49, R91). -/

namespace Sys2Proof.Machine

open Sys2Proof

/-- 1.0 tick in the units of INC (R37). -/
def incOne : Nat := 2 ^ 48

/-- INC held inside ±200 ppm of 1.0 tick (R38). -/
def clampInc (v : Int) : Nat :=
  (clampInt (incOne - incOne * 200 / 1000000 : Nat) (incOne + incOne * 200 / 1000000 : Nat) v).toNat

/-- INC held inside ±200 ppm of 1.0 tick and ±50 ppm of the value that tracks the parent (R38). -/
def clampSlew (rate : Nat) (v : Int) : Nat :=
  clampInc (clampInt (rate - rate * 50 / 1000000 : Nat) (rate + rate * 50 / 1000000 : Nat) v)

/-- INC as the loop and an absorbed bearing make it together (R38, R85, R97). -/
def Clock.steered (c : Clock) : Clock :=
  { c with inc := BitVec.ofNat 49 (clampSlew c.rate.toNat ((c.rate.toNat : Int) + c.prop + c.bear)) }

/-- INC at the value that tracks the parent, with no way of a loop in it. -/
def Clock.coast (c : Clock) : Clock := { c with slew := 0, slewing := false, inc := c.rate, prop := 0, bear := 0 }

/-- One edge of the accumulator: add INC (R37). -/
def Clock.addInc (c : Clock) : Clock :=
  let p := c.phase.toNat + c.inc.toNat
  { c with phase := BitVec.ofNat 48 p, ticks := c.ticks + BitVec.ofNat 64 (p / 2 ^ 48) }

/-- One edge of a clock that slews (R38, R48): INC leaves the parent's rate by at most 50 ppm until the offset is gone. -/
def Clock.edge (c : Clock) : Clock :=
  if c.slew = 0 then c.addInc
  else
    let inc := clampSlew c.rate.toNat (c.rate.toNat - c.slew)
    let c' := { c with inc := BitVec.ofNat 49 inc, slew := c.slew + ((inc : Int) - c.rate.toNat) }
    let c'' := c'.addInc
    if c''.slew = 0 then { c'' with inc := c''.rate } else c''

/-- Set the accumulator to an instant (R48): a discontinuity, counted in DISC. -/
def Clock.stepTo (c : Clock) (t : Nat) : Clock :=
  { c with ticks := BitVec.ofNat 64 (t / tickSub), phase := BitVec.ofNat 48 (t % tickSub * 2 ^ 48 / tickSub),
           disc := c.disc + 1, slew := 0 }

/-- The order of time states, best first (R19): LOCKED, both holdovers, ACQUIRING, FREE_RUN, LOST. -/
def stateRank (st : Nat) : Nat :=
  if st = 2 then 0 else if st = 3 then 1 else if st = 4 then 2 else if st = 1 then 3 else if st = 0 then 4 else 5

/-- The worse of two time states (R49). -/
def worseState (a b : Nat) : Nat := if stateRank a < stateRank b then b else a

/-- The port a Verard follows for time, if any (R19, R25). -/
def State.parentPort (s : State) : Option PortId :=
  match s.get R.VD_TOPO_TIME_PARENT with
  | 1 => some .upA
  | 2 => some .upB
  | _ => none

/-- Whether this die is ring time master (R76). -/
def State.isRingMaster (s : State) : Bool := s.get R.LK_RING_STAT_FOLLOW == 3

/-- The time state of a device's parent as last received, if it has one (R49). -/
def State.parentState (s : State) : Dev → Option Nat
  | .lotik =>
    if s.isRingMaster then (if s.get R.LK_TOPO_MASTER = 0 then none else some (s.port .tlink).peerState.toNat)
    else if s.get R.LK_RING_STAT_FOLLOW = 0 then none
    else some s.lk.ring.masterState.toNat
  | .verard => s.parentPort.map (fun p => (s.port p).peerState.toNat)

/-- The state a device shows: the worst on its path, its own counted (R49). -/
def State.shownState (s : State) (d : Dev) : Nat :=
  match s.parentState d with
  | none => (s.clk d).own.toNat
  | some st => worseState (s.clk d).own.toNat st

/-- A measurement channel. -/
def State.meas (s : State) (c : Nat) : MeasCh := smGet {} s.vd.meas c

/-- Whether a channel's gate is open, or its interval has begun with its start edge. -/
def State.measuring (s : State) (c : Nat) : Bool :=
  s.getB (R.MEAS_STAT_BUSY c) && !s.getB (R.MEAS_STAT_ARMED c) && !(s.meas c).fitting && ((s.meas c).freq || (s.meas c).t0.isSome)

/-- Mark the gates and intervals in progress that hall time slews or is not LOCKED (R114). -/
def State.markMeas (s : State) : State :=
  let slew := (s.clk .verard).slew != 0 || (s.clk .verard).bear != 0
  let out := s.get (R.TIME_STAT_STATE .verard) != 2
  [0, 1, 2, 3].foldl (fun s c =>
    if s.measuring c then
      let s := if slew then s.put (R.MEAS_STAT_SLEWED c) 1 else s
      if out then s.put (R.MEAS_STAT_UNLOCKED c) 1 else s
    else s) s

/-- Put the state a device shows into its registers (R42, R43). -/
def State.showState (s : State) (d : Dev) : State :=
  let old := s.get (R.TIME_STAT_STATE d)
  let s := s.put (R.TIME_STAT_STATE d) (s.shownState d)
  let s := s.putB (R.TIME_STAT_SLEWING d) (s.clk d).slewing
  let s := if s.get (R.TIME_STAT_STATE d) = old then s else s.logChange d 0 (R.TIME_STAT_STATE d)
  match d with
  | .lotik => s.jobTimeState
  | .verard => s.markMeas

/-- The first second boundary at or after an instant. -/
def nextSecond (t : Nat) : Nat := (t + secSub 1 - 1) / secSub 1 * secSub 1

/-- Begin or hold a realignment of the output pulses (R99). Each request made in LOCKED has its own second boundary: one that falls after
a realignment already timed follows it. -/
def State.realign (s : State) : State :=
  let s := s.put R.VD_OUT_STAT_REALIGN_PENDING 1
  if (s.clk .verard).own = 2 then
    let t := nextSecond (s.now .verard + secSub 1)
    match s.vd.refs.realignAt with
    | none => s.setRefs { s.vd.refs with realignAt := some t }
    | some u => if t ≤ u then s else s.setRefs { s.vd.refs with realignThen := some t }
  else s

/-- A clock that runs free: INC is 1.0 tick, uncorrected (R37, R49). -/
def Clock.runFree (c : Clock) : Clock :=
  { c with rate := BitVec.ofNat 49 incOne }.coast

/-- A device's own time state changes (R91); in FREE_RUN the local oscillator's rate is uncorrected, in LOST the last INC stands and no
slew goes on (R49); a realignment held for LOCKED is now timed (R99). -/
def State.setOwn (s : State) (d : Dev) (st : Nat) : State :=
  let c := if st = 0 then (s.clk d).runFree else if st = 5 then { s.clk d with slew := 0, slewing := false } else s.clk d
  let stays := (c.own = 3 ∨ c.own = 4) ∧ (st = 3 ∨ st = 4)
  let s := (s.setClk d { c with own := BitVec.ofNat 3 st, since := if stays then c.since else c.now, base := none }).showState d
  s.doIf (d == .verard && st == 2 && c.own != 2 && s.getB R.VD_OUT_STAT_REALIGN_PENDING && s.vd.refs.realignAt.isNone) State.realign

/-- A device's own-hop budget of R44, ps: to the ring time master, to the pod Verard, or to the hall master, which is 0 on a COMBINED
Verard. -/
def State.hopBudget (s : State) : Dev → Nat
  | .lotik =>
    if s.isRingMaster then 150
    else if s.getB R.LK_TOPO_RING_CHAIN && decide (16 < s.get R.LK_RING_STAT_HOPS) then 90 else 60
  | .verard => if s.vdRole = 2 then 0 else 400

/-- The path sum of R44 that a device adds to what its parent reports, ps; a pod Verard below a root that follows the tie counts the
third row only once, and that root has counted it. -/
def State.ownHopPs (s : State) : Dev → Nat
  | .lotik => s.hopBudget .lotik
  | .verard =>
    match s.parentPort with
    | none => 0
    | some p => if s.vdRole = 1 ∧ (s.port p).peerMaster = false then 0 else s.hopBudget .verard

/-- What the parent reports as its error, ps (R54, R64). -/
def State.parentErr (s : State) : Dev → Nat
  | .lotik => if s.isRingMaster then (s.port .tlink).peerErr.toNat else s.lk.ring.masterErr.toNat
  | .verard => match s.parentPort with
    | none => 0
    | some p => (s.port p).peerErr.toNat

/-- The path sum of R44 at a device, ps (R49): a device that holds over with no parent keeps the one it last had. -/
def State.pathPs (s : State) (d : Dev) : Nat :=
  if (s.parentState d).isNone ∧ ((s.clk d).own = 3 ∨ (s.clk d).own = 4) then (s.clk d).holdPath
  else if d = .verard ∧ s.parentPort = none then 0
  else s.ownHopPs d + s.parentErr d

/-- A device's estimated error, ps, 24 bits saturating (R49). -/
def State.errPs (s : State) (d : Dev) : Nat :=
  let st := (s.clk d).own.toNat
  let path := s.pathPs d
  let res := match d with
    | .verard => (s.getS R.VD_BEARING_RES_RES_PS).natAbs
    | .lotik => 0
  if st = 2 then (if s.getB (R.TIME_STAT_UNCAL d) then 0xFFFFFF else min 0xFFFFFF (path + res))
  else if st = 3 ∨ st = 4 then min 0xFFFFFF (path + (s.clk d).est + res)
  else 0xFFFFFF

/-- Hold an offset from second boundaries inside half a second either way. -/
def nearSecond (v : Int) : Int :=
  let m := (v % (secSub 1 : Nat))
  if m * 2 > (secSub 1 : Nat) then m - (secSub 1 : Nat) else m

/-- The output pulses' offset from second boundaries changes (R99, R103). -/
def State.setPpsOfs (s : State) (v : Int) : State :=
  let s := s.setRefs { s.vd.refs with ppsOfs := v }
  (s.putSSat R.VD_PPS_OFS_OFS_NS (v / 65536)).putB R.VD_OUT_STAT_ALIGNED (s.vd.refs.pulsing && v == 0)

/-- An instant from which a span is counted, carried over a step of hall time: the span goes on (notes/assumptions/137). -/
def shiftBy (d : Int) (t : Nat) : Nat := ((t : Int) + d).toNat

/-- The spans of an input that a step carries over (R80, R83). -/
def RefIn.shift (x : RefIn) (d : Int) : RefIn :=
  { x with goodSince := x.goodSince.map (shiftBy d), qualSince := x.qualSince.map (shiftBy d), lastAnnounce := x.lastAnnounce.map (shiftBy d),
           lastSync := x.lastSync.map (shiftBy d), lastEdge := x.lastEdge.map (shiftBy d) }

/-- The spans of a part that a step of hall time carries over: dead times and pulses on a Lotik (R116, R119), the times of the references
and of the stamp engines on a Verard (R80, R100, R106). -/
def State.shiftSpans (s : State) (dev : Dev) (d : Int) : State :=
  match dev with
  | .lotik =>
    { s with lk := { s.lk with trigIn := s.lk.trigIn.map (fun x => (x.1, { x.2 with last := x.2.last.map (shiftBy d) })),
                               trains := s.lk.trains.map (fun x => (x.1, { x.2 with pulseEnd := shiftBy d x.2.pulseEnd })) } }
  | .verard =>
    let r := s.vd.refs
    let s := s.setRefs { r with inputs := r.inputs.map (fun x => (x.1, x.2.shift d)),
                                ptp := r.ptp.map (fun x => (x.1, { x.2 with windowAt := shiftBy d x.2.windowAt })),
                                warmSince := r.warmSince.map (shiftBy d) }
    { s with vd := { s.vd with meas := s.vd.meas.map (fun x => (x.1, { x.2 with lastPre := x.2.lastPre.map (shiftBy d) })) } }

/-- A discontinuity (R48): the accumulator is set, the Log says so, and a die's jobs fault (R143). -/
def State.stepTime (s : State) (d : Dev) (t : Nat) : State :=
  let old := s.now d
  let s := (s.setClk d ((s.clk d).stepTo t)).shiftSpans d ((t : Int) - old)
  let s := s.logChange d 0 (R.TIME_STAT_STATE d)
  match d with
  | .lotik =>
    -- Samples begin on the multiples of 200 ticks of the new time (R254).
    let s := if t < old then { s with lk := { s.lk with pg := { s.lk.pg with sampleNo := t / usSub 2 } } } else s
    -- The idle spans of R352 begin anew with the step (notes/assumptions/137).
    let s := { s with lk := { s.lk with logicAt := t, tcAt := t } }
    (s.skipTrains t).faultDiscont
  | .verard =>
    -- The output pulses do not follow a step (R99).
    if s.vd.refs.pulsing then s.setPpsOfs (nearSecond (s.vd.refs.ppsOfs + ((t : Int) - old))) else s

/-- The dead-reckoning estimate after `t` units of 2⁻¹⁶ ns, ps (R94): e0 + f t + a t² / 2, to the
nearest ps as in R96's example. DEDUCED (log 103). -/
def estPs (e0 f a t : Nat) : Nat :=
  let us := t / 65536000
  e0 + (f * us * 172800000000 + a * us * us + 86400000000000000) / 172800000000000000

/-- The largest number of whole seconds, below 2^n, for which a test that can only turn false holds. -/
def lastHeld (p : Nat → Bool) : Nat → Nat → Nat
  | 0, acc => acc
  | n + 1, acc => if p (acc + 2 ^ n) then lastHeld p n (acc + 2 ^ n) else lastHeld p n acc

/-- The whole seconds until an estimate exceeds the specification (R95). -/
def remainS (e0 f a elapsed specPs : Nat) : Nat :=
  lastHeld (fun k => decide (estPs e0 f a (elapsed + secSub k) ≤ specPs)) 24 0

/-- The holdover specification of a part, ps (R94). -/
def State.specPs (s : State) : Dev → Nat
  | .lotik => s.lk.prof.holdSpecNs * 1000
  | .verard => s.get R.VD_HOLD_CFG_SPEC_NS * 1000

/-- e0, f and a of a holdover that begins now (R94): the hall master's residual spread, and f after 1,000 s of LOCKED, are measured
quantities and so free values. -/
def State.holdEntry (s : State) (d : Dev) : Nat × Nat × Nat :=
  let c := s.clk d
  let e0 := if c.hallMaster && d == .verard then s.freeW % 2 ^ 24 else s.hopBudget d
  let long := decide (c.since + secSub 1000 ≤ c.now) && c.own == 2
  let cold := match d with | .lotik => s.lk.prof.fCold | .verard => s.vd.prof.fCold
  let f := if long then (Config.freeValue (s.free + 1)).toNat % 2 ^ 24 else cold
  let a := match d with | .lotik => s.lk.prof.loAgeing | .verard => s.get R.VD_HOLD_CFG_AGEING
  (e0, f, a)

/-- Whether holdover begun now is out of specification at once (R93). -/
def State.holdLate (s : State) (d : Dev) : Bool := d == .verard && s.get R.VD_REF_STAT_OCXO_READY == 0

/-- Show a part's estimate (R94, R95, R103). -/
def State.showEst (s : State) (d : Dev) : State :=
  let c := s.clk d
  let hold := c.own = 3 ∨ c.own = 4
  match d with
  | .lotik =>
    if s.isRingMaster then s.putSat R.LK_TIME_HOLD_EST_PS (if hold then c.est else 0)
    else s.put R.LK_TIME_HOLD_EST_PS s.lk.ring.masterHold.toNat
  | .verard =>
    let t := c.now - c.holdAt
    let s := s.putSat R.VD_HOLD_EST_EST_PS (if hold then c.est else 0)
    let s := s.putSat R.VD_HOLD_ELAPSED_ELAPSED_S (if hold then (c.now - c.since) / secSub 1 else 0)
    let e := s.holdEntry d
    let rem := if c.own = 3 then remainS c.holdE0 c.holdF c.holdA t (s.specPs d) else if c.own = 4 then 0
      else if c.own = 2 then (if s.holdLate d then 0 else remainS e.1 e.2.1 e.2.2 0 (s.specPs d)) else 0xFFFFFF
    s.putSat R.VD_HOLD_REMAIN_REMAIN_S rem

/-- Holdover begins (R49, R91, R93, R94): INC goes on at the learnt rate, and a Lotik keeps the path sum of R44 as it stands; a Verard
has kept its own when it chose its parent. -/
def State.enterHoldover (s : State) (d : Dev) : State :=
  let c := s.clk d
  let path := if d = .lotik then s.ownHopPs d + s.parentErr d else c.holdPath
  let (e0, f, a) := s.holdEntry d
  let st := if s.holdLate d then 4 else 3
  let est := if s.holdLate d then 2 ^ 32 - 1 else e0
  let c := { c with own := BitVec.ofNat 3 st, since := c.now, holdAt := c.now, holdE0 := est, holdF := f, holdA := a,
                    holdF0 := f, holdA0 := a, est := est, holdPath := path }
  ((s.drawn.drawn.setClk d c.coast).showState d).showEst d

/-- The parent or selected input is lost with no other (R91); a rejoin slew under way ends. -/
def State.loseParent (s : State) (d : Dev) : State :=
  let c := s.clk d
  if c.own = 2 then s.enterHoldover d
  else if c.own = 1 then s.setOwn d 0
  else (s.setClk d (if c.slewing then c.coast else c)).showState d

/-- The bandwidth of a device's loop, mHz (R97). -/
def State.loopMhz (s : State) : Dev → Nat
  | .lotik => if s.isRingMaster then 100000 else 10000000
  | .verard =>
    if (s.clk .verard).hallMaster then (if s.get R.VD_REF_STAT_SELECTED = 3 then s.vd.prof.bwPpsMhz else s.vd.prof.bwPtpMhz) else 100000

/-- The edges between two updates of a device's loop: a ring TIME symbol, a verified group, a second (R58, R65, R80). -/
def State.loopEdges (s : State) : Dev → Nat
  | .lotik => if s.isRingMaster then 6554 else 100
  | .verard => if (s.clk .verard).hallMaster then 100000000 else 6554

/-- The proportional gain of a loop whose bandwidth is `mhz`, in 2⁻³² (R97): 2π times the bandwidth times the time between two updates, at
most 1. With the integral gain below it that is the −3 dB bandwidth within 1.2 % (DEDUCED, notes/assumptions/110). -/
def loopAlpha (mhz edges : Nat) : Nat := min (2 ^ 32) (mhz * edges * 628319 * 2 ^ 32 / 10 ^ 16)

/-- One update of a loop (R38, R97): its two ways make it of second order; the integral gain, which the spec leaves open, stays below
α² / 88, with which damping is above 0.7 and peaking below 0.1 dB (notes/assumptions/110). Answers the rate and INC. -/
def loopStep (mhz edges rate : Nat) (ofs : Int) : Nat × Nat :=
  let al := loopAlpha mhz edges
  let be := min (Config.loopBeta mhz).toNat (al * al / (88 * 2 ^ 32))
  let o := ofs * 2 ^ 48 / tickSub
  let r := clampInc ((rate : Int) - o * be / (2 ^ 32 * edges : Nat))
  (r, clampSlew r ((r : Int) - o * al / (2 ^ 32 * edges : Nat)))

/-- Whether a residual of an ACQUIRING loop lies outside the limits of R91: phase, 2⁻¹⁶ ns, and frequency. The rule does not say how the
frequency's ±1 ppb is measured: the model takes the change that one update makes to the learnt rate (DESIGN CHOICE,
notes/assumptions/147). -/
def wideResidual (master : Bool) (phase : Int) (rate new : Nat) : Bool :=
  if master then decide (nsSub 5 < phase.natAbs ∨ incOne < ((new : Int) - rate).natAbs * 1000000000) else decide (nsSub 1 < phase.natAbs)

/-- The loop of a device steers INC by an offset, own minus what it follows (R38, R97); Verard shows its learnt correction and phase
error, own minus reference (R103; notes/assumptions/110). In ACQUIRING it is the change of the offset since the first one taken that
steers, since the join step or first lock takes the rest. Where IN2 is paired it supplies the frequency, and the loop only the phase (R79);
an absorbed bearing's slew stays in INC beside the loop's own way (R85). -/
def State.steer (s : State) (d : Dev) (ofs : Int) : State :=
  let c := s.clk d
  let b := if c.own = 1 then c.base.getD ofs else 0
  let q := loopStep (s.loopMhz d) (s.loopEdges d) c.rate.toNat (ofs - b)
  let paired := d == .verard && c.hallMaster && s.getB R.VD_REF_STAT_PAIRED
  let rate := if paired then c.rate.toNat else q.1
  let wide := wideResidual (d == .verard && c.hallMaster) (ofs - b) c.rate.toNat rate
  let c := { c with lastOfs := ofs, rate := BitVec.ofNat 49 rate, prop := (q.2 : Int) - q.1,
                    base := if c.own = 1 then some b else none, wideAt := if wide then c.now else c.wideAt }
  let s := s.setClk d c.steered
  match d with
  | .lotik => s
  | .verard => (s.putSSat R.VD_LOOP_FREQ_FREQ_PPT (((rate : Int) - incOne) * 1000000000000 / incOne)).putSSat
      R.VD_LOOP_PHASE_PHASE_PS (subToPs (ofs - b))

/-- The loop takes an offset, own minus parent (R38, R48, R91, R97): in ACQUIRING it converges, in LOCKED it steers INC inside its
bounds, after a holdover it rejoins by slew or by step. A follower that is LOCKED to a parent running free takes the parent's own join
step or first lock as an offset like another: the cases of R48 name no step for it, so it is steered in, within the 50 ppm of R38
(DESIGN CHOICE, notes/assumptions/141). -/
def State.feedLoop (s : State) (d : Dev) (ofs : Int) : State :=
  let c := s.clk d
  let st := c.own
  if st = 0 then (s.setClk d { c with lastOfs := ofs }).setOwn d 1
  else if st = 1 ∨ (st = 2 ∧ c.slew = 0) then s.steer d ofs
  else if (st = 3 ∨ st = 4) ∧ c.slewing = false then
    if 65536000 < ofs.natAbs then
      ((s.stepTime d (accOf (s.wrap d) (c.now - ofs))).setOwn d 2).showEst d
    else if ofs = 0 then (s.setOwn d 2).showEst d
    else (s.setClk d { c with slew := ofs * 2 ^ 48 / tickSub, slewing := true }).showState d
  else s

/-- The timing core has work: its 2 µs of R352 begin anew. -/
def State.tcWork (s : State) : State := { s with lk := { s.lk with tcAt := s.now .lotik } }

/-- The logic domain has work: its 10 µs of R352 begin anew, and sleep being entered is abandoned: FCLK_REQ rises again. -/
def State.logicWork (s : State) : State :=
  let s := { s with lk := { s.lk with logicAt := s.now .lotik } }
  if s.lk.sleeping && s.getB R.LK_PWR_LOGIC_AWAKE then
    ({ s with lk := { s.lk with sleeping := false } }).emit (.pin "FCLK_REQ" 1)
  else s

/-- Write to the time control register and latch (R40, R41, R42): FINE and HOLD_AWAKE are Lotik's; a LATCH while PENDING is ignored. One
write that sets LATCH and changes FINE latches with the new FINE (DESIGN CHOICE, notes/assumptions/111). -/
def State.latch (s : State) (d : Dev) (v : Word) : State :=
  let s := if d = .lotik then
      (s.put (R.TIME_CTRL_FINE d) (bits v.toNat 1 1)).put (R.TIME_CTRL_HOLD_AWAKE d) (bits v.toNat 2 1)
    else s
  let s := s.doIf (d == .lotik) State.tcWork
  if v.toNat % 2 = 0 ∨ s.getB (R.TIME_STAT_PENDING d) then s else
  let fine := d = .verard || s.getB (R.TIME_CTRL_FINE d)
  let wait := d = .lotik && fine && !s.getB R.LK_PWR_TC_AWAKE
  let c := s.clk d
  let c := { c with capAt := c.now, capDisc := c.disc, capErr := s.errPs d, capState := BitVec.ofNat 3 (s.shownState d),
                    capFine := fine, capDeferred := wait, capReady := !wait }
  ((s.setClk d c).put (R.TIME_STAT_VALID d) 0).put (R.TIME_STAT_PENDING d) 1

/-- The timing core is ready: a deferred latch is stamped now (R40). -/
def State.stampDeferred (s : State) : State :=
  let c := s.clk .lotik
  if s.getB (R.TIME_STAT_PENDING .lotik) && !c.capReady then
    s.setClk .lotik { c with capAt := c.now, capDisc := c.disc, capErr := s.errPs .lotik,
                             capState := BitVec.ofNat 3 (s.shownState .lotik), capReady := true }
  else s

/-- The timing core wakes (R351, R352): counted, and a deferred latch is stamped. -/
def State.wakeTc (s : State) : State :=
  let s := s.tcWork
  if s.getB R.LK_PWR_TC_AWAKE then s
  else ((s.put R.LK_PWR_TC_AWAKE 1).bumpSat R.LK_WAKES_TC).stampDeferred

/-- Emit a symbol on both ring ports that are UP. -/
def State.ringSend (s : State) (dst : BitVec 6) (b : RingBody) : State :=
  let s := s.emitIf (s.ringUp .e) (ringOut .e { ccw := false, src := s.lk.ring.die, dst := dst, body := b })
  s.emitIf (s.ringUp .w) (ringOut .w { ccw := true, src := s.lk.ring.die, dst := dst, body := b })

/-- The STATUS symbol of this die (R64). Its RING_CHAIN tells of an open hop beside this die (notes/assumptions/112). -/
def State.ringStatus (s : State) : RingBody :=
  let r := s.lk.ring
  .status (BitVec.ofNat 24 (if s.isRingMaster then s.errPs .lotik else r.masterErr.toNat))
    (BitVec.ofNat 16 (s.get (R.TIME_UTC_UTC_OFFSET .lotik))) (s.getB (R.TIME_UTC_UTC_VALID .lotik)) r.pod r.port r.portValid
    (s.get R.LK_RING_STAT_E_STATE == 3 || s.get R.LK_RING_STAT_W_STATE == 3) (s.getB R.LK_PWR_LOGIC_AWAKE)
    (if s.isRingMaster then r.die else r.master)
    (BitVec.ofNat 3 (if s.isRingMaster then s.shownState .lotik else r.masterState.toNat))
    (BitVec.ofNat 24 (s.get R.LK_TIME_HOLD_EST_PS))

/-- Send STATUS to every die. -/
def State.sendStatus (s : State) : State := s.ringSend 0x3F s.ringStatus

/-- The logic domain is awake again, and the die says so on its ring (R67, R351, R352). -/
def State.wakeLogic (s : State) : State :=
  let s := s.logicWork
  if s.getB R.LK_PWR_LOGIC_AWAKE then s
  else
    let s := { s with lk := { s.lk with sleeping := false } }
    (((s.put R.LK_PWR_LOGIC_AWAKE 1).bumpSat R.LK_WAKES_LOGIC).emit (.pin "FCLK_REQ" 1)).sendStatus

/-- The logic domain is asleep, and the die says so on its ring (R67, R352). -/
def State.sleepLogic (s : State) : State := (s.put R.LK_PWR_LOGIC_AWAKE 0).sendStatus

/-- A request at a host port of a part: on a Lotik it wakes the logic domain (R351). -/
def State.hostReq (s : State) : Dev → State
  | .lotik => s.wakeLogic
  | .verard => s

/-- A request at one of the host's ports: none is accepted while the host is in reset (R350), and one that is accepted wakes the
logic domain (R181, R351). -/
def State.atPort (s : State) (f : State → State) : State :=
  if s.lk.hostDown || !s.serves .lotik then s else f (s.hostReq .lotik)

/-- A register write that reaches its register only where the part takes it (R5, R350, R351, R363, R404). -/
def State.viaBus (s : State) (sp off : Nat) (f : State → State) : State :=
  if !s.busUp (spDev sp) then s
  else
    let s := s.hostReq (spDev sp)
    if s.shut sp off then s.logAccess (spDev sp) (busOff sp off) true 4
    else if s.dark sp off then s
    else f s

/-- A register read, likewise; what is closed reads 0. -/
def State.viaRead (s : State) (sp off size : Nat) (f : State → State × Nat) : State :=
  if !s.busUp (spDev sp) then s
  else
    let s := s.hostReq (spDev sp)
    if s.shut sp off then (s.logAccess (spDev sp) (busOff sp off) false size).emit (.bus (spDev sp) 0)
    else if s.darkRead sp off then s.emit (.bus (spDev sp) 0)
    else (f s).1.emit (.bus (spDev sp) (BitVec.ofNat 64 (f s).2))

/-- Both domains are started for a message that has arrived (R351). -/
def State.wakeAll (s : State) : State := s.wakeTc.wakeLogic

/-- A capture completes (R40): the latched set is written whole. The interval is scaled by INC as it stands when the capture
completes (DESIGN CHOICE, notes/assumptions/111). -/
def State.capture (s : State) (d : Dev) (bins : Nat) : State :=
  let c := s.clk d
  if !s.getB (R.TIME_STAT_PENDING d) || !c.capReady then s else
  let t := if c.capFine then fineStamp c c.capAt bins else c.capAt
  let p := (packInstant (s.wrap d) t).toNat
  let gap := match c.lastLatch with
    | none => false
    | some u => decide (u + nsSub (2 ^ 31) < t)
  let s := s.setClk d { c with lastLatch := some t, capReady := false }
  let s := (s.put (R.TIME_SEC_LO_SEC_LO d) (bits p 48 32)).put (R.TIME_SEC_HI_SEC_HI d) (bits p 80 16)
  let s := (s.put (R.TIME_SEC_HI_DISC d) c.capDisc.toNat).put (R.TIME_NS_NS d) (bits p 16 32)
  let s := (s.put (R.TIME_SUB_SUB d) (bits p 0 16)).put (R.TIME_ERR_ERR_PS d) c.capErr
  let s := (s.put (R.TIME_STAT_CAP_STATE d) c.capState.toNat).putB (R.TIME_STAT_FINE d) c.capFine
  let s := s.putB (R.TIME_STAT_DEFERRED d) c.capDeferred
  let s := if gap then s.put (R.TIME_STAT_LATCH_GAP d) 1 else s
  ((s.doIf (d == .lotik && c.capFine) State.tcWork).put (R.TIME_STAT_PENDING d) 0).put (R.TIME_STAT_VALID d) 1

/-- Show UNCAL (R42, R43): the calibration of a device's path to its time parent; 0 on the hall master. A die that follows the
ring has its path calibrated once its hop delay is measured (notes/assumptions/12). -/
def State.showUncal (s : State) (d : Dev) : State :=
  match d with
  | .lotik =>
    s.put (R.TIME_STAT_UNCAL d)
      (if s.isRingMaster then s.get (R.PORT_STAT_UNCAL .tlink)
       else match s.get R.LK_RING_STAT_FOLLOW with
        | 1 => b2n (s.get R.LK_RING_HOP_W_HOP_PS == 0)
        | 2 => b2n (s.get R.LK_RING_HOP_E_HOP_PS == 0)
        | _ => 1)
  | .verard =>
    if (s.clk d).hallMaster then s.put (R.TIME_STAT_UNCAL d) 0
    else match s.parentPort with
      | some p => s.put (R.TIME_STAT_UNCAL d) (s.get (R.PORT_STAT_UNCAL p))
      | none => s

end Sys2Proof.Machine
end

