-- ==== Sys2Proof/Machine/Measure.lean ====
section
/-! DEFINITION. Time-interval and frequency measurement on Verard, triggers on Lotik (R106 to R121). -/

namespace Sys2Proof.Machine

open Sys2Proof

/-- Replace a measurement channel. -/
def State.setMeas (s : State) (c : Nat) (x : MeasCh) : State := { s with vd := { s.vd with meas := smPut {} s.vd.meas c x } }

/-- A MEAS input's lanes. -/
def State.measIn (s : State) (c : Nat) : MeasIn := smGet {} s.vd.measIn c

/-- Replace a MEAS input's lanes. -/
def State.setMeasIn (s : State) (c : Nat) (x : MeasIn) : State :=
  { s with vd := { s.vd with measIn := smPut {} s.vd.measIn c x } }

/-- Put a 64-bit value into a pair of words. -/
def State.put2 (s : State) (lo hi : Field) (v : Nat) : State := (s.put lo v).put hi (v / 2 ^ 32)

/-- The words a MEAS_RUN completion carries (R121): MEAS_STAT through MEAS_T0_SEC_HI. -/
def measWords (c : Nat) : List Nat := (List.range 12).map (fun i => 0x30100 + c * 0x80 + 0x18 + 4 * i)

/-- A measurement ends with a result (R109 to R114). -/
def State.measEnd (s : State) (c result : Nat) : State :=
  let s := ((s.put (R.MEAS_STAT_BUSY c) 0).put (R.MEAS_STAT_ARMED c) 0).put (R.MEAS_STAT_DONE c) 1
  let s := (s.put (R.MEAS_STAT_RESULT c) result).setMeas c {}
  s.complete .verard 0x1D c 0 (s.regBytes 1 (measWords c)) true

/-- A new START clears DONE, RESULT, the flags and the result registers (R115). -/
def State.measClear (s : State) (c : Nat) : State :=
  [R.MEAS_STAT_DONE c, R.MEAS_STAT_SLEWED c, R.MEAS_STAT_RESULT c, R.MEAS_STAT_UNLOCKED c, R.MEAS_N_N c, R.MEAS_DECIM_K c,
   R.MEAS_RES_LO_RES_LO c, R.MEAS_RES_HI_RES_HI c, R.MEAS_FREQ_LO_FREQ_LO c, R.MEAS_FREQ_HI_FREQ_HI c, R.MEAS_SIGMA_SIGMA c,
   R.MEAS_RESID_RESID_FS c, R.MEAS_T0_NS_NS c, R.MEAS_T0_SEC_LO_SEC_LO c, R.MEAS_T0_SEC_HI_SEC_HI c,
   R.MEAS_T0_SEC_HI_SUB c].foldl (fun s f => s.put f 0) s

/-- The start instant in a channel's registers (R110), with the SUB of a packed instant that a command gave, which the registers do not hold:
in WRAP mode SEC is ignored and R36 applies. -/
def State.measStartAt (s : State) (c sub : Nat) : Nat :=
  let ns := s.get (R.MEAS_START_NS_NS c)
  let sec := s.get (R.MEAS_START_SEC_LO_SEC_LO c) + 2 ^ 32 * s.get (R.MEAS_START_SEC_HI_SEC_HI c)
  unpackInstant (s.wrap .verard) (s.now .verard) (BitVec.ofNat 96 (sec * 2 ^ 48 + ns * 2 ^ 16 + sub))

/-- A measurement begins: its gate opens or it waits for its start edge (R109, R110). -/
def State.measBegin (s : State) (c : Nat) : State :=
  let x := s.meas c
  let armed := s.getB (R.MEAS_STAT_ARMED c)
  let s := s.setMeas c { x with beginAt := if armed then x.beginAt else s.now .verard, disc := (s.clk .verard).disc }
  (s.put (R.MEAS_STAT_ARMED c) 0).markMeas

/-- An accepted START (R106, R108, R110): BAD_CONFIG and LATE end the channel at once, and so does a pin fault that stands. -/
def State.measStart (s : State) (c sub : Nat) : State :=
  let s := (s.measClear c).put (R.MEAS_STAT_BUSY c) 1
  let mode := s.get (R.MEAS_CTRL_MODE c)
  let gate := s.get (R.MEAS_GATE_GATE_US c)
  let tmo := s.get (R.MEAS_TIMEOUT_TIMEOUT_US c)
  let at_ := s.getB (R.MEAS_CTRL_AT c)
  let t := s.measStartAt c sub
  let fault := s.get (R.MEAS_STAT_FAULT c)
  let bad := mode == 0 || mode == 3 || s.get (R.MEAS_CTRL_PRESCALE c) == 7 || gate < 1000 || 100000000 < gate || tmo < 1 ||
    100000000 < tmo || !(s.get R.VD_MEAS_CAL_CAL_DONE).testBit c || (at_ && !onTick t)
  if bad then s.measEnd c 9
  else if at_ && decide (t < s.now .verard) then s.measEnd c 5
  else if fault ≠ 0 ∧ fault ≠ 5 then s.measEnd c 8
  else
    let s := s.setMeas c
      { freq := mode == 2, falling := s.getB (R.MEAS_CTRL_EDGE c), prescale := s.get (R.MEAS_CTRL_PRESCALE c),
        stopSel := s.get (R.MEAS_CTRL_STOP_SEL c), stopFalling := s.getB (R.MEAS_CTRL_STOP_EDGE c), gateUs := gate,
        timeoutUs := tmo, beginAt := t, disc := (s.clk .verard).disc }
    if at_ then s.put (R.MEAS_STAT_ARMED c) 1 else s.measBegin c

/-- A write of MEAS_CTRL (R110, R111): the fields, then ABORT before START. -/
def State.measCtrl (s : State) (c v : Nat) (sub : Nat := 0) : State :=
  let s := (s.put (R.MEAS_CTRL_MODE c) (bits v 2 2)).put (R.MEAS_CTRL_EDGE c) (bits v 4 1)
  let s := (s.put (R.MEAS_CTRL_PRESCALE c) (bits v 5 3)).put (R.MEAS_CTRL_STOP_SEL c) (bits v 8 2)
  let s := (s.put (R.MEAS_CTRL_STOP_EDGE c) (bits v 10 1)).put (R.MEAS_CTRL_AT c) (bits v 11 1)
  let busy := s.getB (R.MEAS_STAT_BUSY c)
  if bits v 1 1 = 1 then (if busy then s.measEnd c 6 else s)
  else if bits v 0 1 = 1 ∧ ¬busy then s.measStart c sub
  else s

/-- MEAS_START (R110, R111): a write of MEAS_CTRL with START. -/
def execMeasStart (c : Fin 4) (v : Word) (s : State) : Res :=
  done (s.viaBus 1 (0x30100 + 0x80 * c.val) (fun s => (s.measCtrl c (v.toNat ||| 1))))

/-- MEAS_ABORT (R111): a write of MEAS_CTRL with ABORT. -/
def execMeasAbort (c : Fin 4) (v : Word) (s : State) : Res :=
  done (s.viaBus 1 (0x30100 + 0x80 * c.val) (fun s => (s.measCtrl c (v.toNat ||| 2))))

/-- MEAS_START_INSTANT (R110): an armed measurement's instant is reached. -/
def execMeasStartInstant (c : Fin 4) (s : State) : Res :=
  done (if s.getB (R.MEAS_STAT_ARMED c) ∧ (s.meas c).beginAt ≤ s.now .verard then s.measBegin c else s)

/-- Show the stamp of the first edge (R115). -/
def State.measT0 (s : State) (c t : Nat) : State :=
  let p := (packInstant (s.wrap .verard) t).toNat
  let s := (s.put (R.MEAS_T0_NS_NS c) (bits p 16 32)).put (R.MEAS_T0_SEC_LO_SEC_LO c) (bits p 48 32)
  (s.put (R.MEAS_T0_SEC_HI_SEC_HI c) (bits p 80 16)).put (R.MEAS_T0_SEC_HI_SUB c) (bits p 0 16)

/-- An interval ends at its stop edge (R109, R114). -/
def State.measStop (s : State) (c t0 t : Nat) : State :=
  let disc := (s.meas c).disc != (s.clk .verard).disc
  let s := s.put (R.MEAS_N_N c) 2
  let s := if disc then s else s.put2 (R.MEAS_RES_LO_RES_LO c) (R.MEAS_RES_HI_RES_HI c) (ofSigned 64 ((t : Int) - t0))
  s.markMeas.measEnd c (if disc then 4 else 1)

/-- Keep every other stamp, the oldest first kept, of a newest-first list of even length (R113). -/
def dropOdd : List (Nat × Nat) → List (Nat × Nat)
  | _ :: y :: l => y :: dropOdd l
  | l => l

/-- Store one prescaled edge of a gate, with decimation (R113). -/
def MeasCh.store (x : MeasCh) (t m : Nat) : MeasCh :=
  if m % x.k ≠ 0 then x
  else
    let x := if x.stamps.length = 65536 then { x with stamps := dropOdd x.stamps, k := x.k * 2 } else x
    if m % x.k = 0 then { x with stamps := (t, m * 2 ^ x.prescale) :: x.stamps } else x

/-- An interval has timed out (R112): MEAS_N tells whether it had its start edge. -/
def State.measLate (s : State) (c : Nat) : State := (s.put (R.MEAS_N_N c) (b2n (s.meas c).t0.isSome)).measEnd c 2

/-- Whether a stamp lies past what bounds a measurement (R112, R113): TIMEOUT_US after its start edge or its beginning, or the gate. -/
def MeasCh.past (x : MeasCh) (t : Nat) : Bool :=
  decide (if x.freq then x.beginAt + usSub x.gateUs < t else x.t0.getD x.beginAt + usSub x.timeoutUs < t)

/-- An armed measurement whose instant lies at or before a stamp has begun (R110). -/
def State.measOpen (s : State) (c t : Nat) : State :=
  s.doIf (s.getB (R.MEAS_STAT_ARMED c) && decide ((s.meas c).beginAt ≤ t)) (fun s => s.measBegin c)

/-- An edge on a channel's own input (R106, R109, R110, R112, R113): one stamped past the timeout ends an interval that has no start edge,
and one stamped past the gate is none of it. -/
def State.measOwn (s : State) (c : Nat) (falling : Bool) (t : Nat) : State :=
  let s := s.measOpen c t
  let x := s.meas c
  if ¬s.getB (R.MEAS_STAT_BUSY c) ∨ s.getB (R.MEAS_STAT_ARMED c) ∨ x.fitting ∨ x.falling ≠ falling then s
  else if (x.freq ∨ x.t0.isNone) ∧ x.past t then (if x.freq then s else s.measLate c)
  else
    let pre := x.edges % 2 ^ x.prescale = 0
    let near := match x.lastPre with
      | none => false
      | some u => decide (t < u + nsSub 20)
    if ¬pre then s.setMeas c { x with edges := x.edges + 1 }
    else if near then s.measEnd c 7
    else
      let m := x.edges / 2 ^ x.prescale
      let x := { x with edges := x.edges + 1, lastPre := some t }
      let first := x.t0.isNone
      let x := if first then { x with t0 := some t, disc := if x.freq then x.disc else (s.clk .verard).disc } else x
      let s := if first then s.measT0 c t else s
      if x.freq then s.setMeas c (x.store t m) else (s.setMeas c x).markMeas

/-- A stamped edge of a MEAS input (R109 to R113): it stops what it stops, or ends it with TIMEOUT where it is stamped too late, and starts
or feeds its own channel. -/
def State.measTake (s : State) (i : Nat) (falling : Bool) (t : Nat) : State :=
  let s := s.markMeas
  let stops := [0, 1, 2, 3].filter (fun c =>
    let x := s.meas c
    s.getB (R.MEAS_STAT_BUSY c) && !s.getB (R.MEAS_STAT_ARMED c) && !x.freq && x.t0.isSome && x.stopSel == i && x.stopFalling == falling)
  let s := stops.foldl (fun s c => match (s.meas c).t0 with
    | some t0 => if (s.meas c).past t then s.measLate c else s.measStop c t0 t
    | none => s) s
  s.measOwn i falling t

/-- MEAS_EDGE (R106, R109, R113): an edge at a MEAS input, `bins` after the accumulator. It can be the stop of any channel that
names the input, after that channel's start edge, and the own edge of its channel. -/
def execMeasEdge (i : Fin 4) (falling : Bool) (bins : BitVec 12) (s : State) : Res :=
  done (
    let t := fineStamp (s.clk .verard) (s.now .verard) bins.toNat
    s.measTake i falling t)

/-- MEAS_TIMEOUT (R112): no start edge, or no stop edge after it, within TIMEOUT_US. An interval that times out shows TIMEOUT also where DISC
has changed: the rules rank no result above another (DESIGN CHOICE, notes/assumptions/151). -/
def execMeasTimeout (c : Fin 4) (s : State) : Res :=
  done (
    let x := s.meas c
    if ¬s.getB (R.MEAS_STAT_BUSY c) ∨ s.getB (R.MEAS_STAT_ARMED c) ∨ x.freq then s
    else
      let since := x.t0.getD x.beginAt
      if since + usSub x.timeoutUs ≤ s.now .verard then s.measLate c else s)

/-- MEAS_GATE_CLOSE (R113): the gate closes GATE_US after it opened; under 3 stamps give TOO_FEW. DISCONT stands before TOO_FEW where both
hold: the rules rank neither (DESIGN CHOICE, notes/assumptions/151). -/
def execMeasGateClose (c : Fin 4) (s : State) : Res :=
  done (
    let x := s.meas c
    if s.getB (R.MEAS_STAT_BUSY c) ∧ ¬s.getB (R.MEAS_STAT_ARMED c) ∧ x.freq ∧ ¬x.fitting ∧
        x.beginAt + usSub x.gateUs ≤ s.now .verard then
      let s := s.markMeas.put (R.MEAS_N_N c) x.stamps.length
      let s := s.put (R.MEAS_DECIM_K c) x.k
      if x.disc ≠ (s.clk .verard).disc then s.measEnd c 4
      else if x.stamps.length < 3 then s.measEnd c 3
      else s.setMeas c { x with fitting := true }
    else s)

/-- The integer square root of a number below 2^128. -/
def isqrt (v : Nat) : Nat := lastHeld (fun k => decide (k * k ≤ v)) 64 0

/-- A quotient of naturals rounded to nearest, halves up. -/
def roundDiv (a b : Nat) : Nat := if b = 0 then 0 else (2 * a + b) / (2 * b)

/-- The sums of an ordinary least-squares fit t = a + b·n (R113), each times the count: N Σn² − (Σn)², N Σnt − Σn Σt, N Σt² − (Σt)². -/
def fitSums (l : List (Nat × Nat)) : Int × Int × Int :=
  let t0 := (l.getLast?.map (·.1)).getD 0
  let n : Int := l.length
  let sx : Int := (l.map (fun p => (p.2 : Int))).sum
  let sy : Int := (l.map (fun p => (p.1 : Int) - t0)).sum
  let sxx : Int := (l.map (fun p => (p.2 : Int) * p.2)).sum
  let sxy : Int := (l.map (fun p => (p.2 : Int) * ((p.1 : Int) - t0))).sum
  let syy : Int := (l.map (fun p => ((p.1 : Int) - t0) * ((p.1 : Int) - t0))).sum
  (n * sxx - sx * sx, n * sxy - sx * sy, n * syy - sy * sy)

/-- The regression ends (R113, R114): period, frequency, residual and sigma, and the result DONE. -/
def State.fitDone (s : State) (c : Nat) : State :=
  let x := s.meas c
  let (xx, xy, yy) := fitSums x.stamps
  let n := x.stamps.length
  let dxx := xx.toNat
  let dxy := xy.toNat
  let e := (yy * xx - xy * xy).toNat
  let period := roundDiv (dxy * 65536000) dxx
  let freq := roundDiv (dxx * 65536 * 10 ^ 15) dxy
  let resid := (isqrt (4 * e * 10 ^ 12 / (n * n * dxx * 2 ^ 32)) + 1) / 2
  let sigma := (isqrt (4 * e * 10 ^ 30 / (n * dxy * dxy)) + 1) / 2
  let s := s.put2 (R.MEAS_RES_LO_RES_LO c) (R.MEAS_RES_HI_RES_HI c) period
  let s := s.put2 (R.MEAS_FREQ_LO_FREQ_LO c) (R.MEAS_FREQ_HI_FREQ_HI c) freq
  let s := (s.putSat (R.MEAS_RESID_RESID_FS c) resid).putSat (R.MEAS_SIGMA_SIGMA c) sigma
  s.measEnd c 1

/-- MEAS_FIT_DONE (R113): the period, frequency, residual and uncertainty are written and DONE sets. -/
def execMeasFitDone (c : Fin 4) (s : State) : Res :=
  done (
    let x := s.meas c
    if ¬x.fitting then s else
    s.fitDone c)

/-- A CAL_NOW write (R107): both lanes of every input are to calibrate. -/
def State.measCalNow (s : State) : State :=
  [0, 1, 2, 3].foldl (fun s i => s.setMeasIn i { s.measIn i with toCal := 2 }) s

/-- MEAS_CAL_NOW. -/
def execMeasCalNow (s : State) : Res :=
  .next (s.viaBus 1 0x30000 (fun s => s.measCalNow))

/-- MEAS_LANE_CAL_DUE (R107): both lanes of an input are to calibrate 60 s after its last calibration, or when the die temperature has moved by over 5 °C. -/
def execMeasLaneCalDue (i : Fin 4) (moved : Bool) (s : State) : Res :=
  .next (
    let x := s.measIn i
    if x.toCal = 0 ∧ (moved ∨ x.calAt + secSub 60 ≤ s.now .verard) then s.setMeasIn i { x with toCal := 2 } else s)

/-- A lane of a MEAS input is calibrated (R107, R108): the lanes swap. -/
def State.laneDone (s : State) (i : Fin 4) (x : MeasIn) : State :=
  let x := { x with done0 := x.done0 || x.lane, done1 := x.done1 || !x.lane, lane := !x.lane, toCal := x.toCal - 1,
                    calAt := s.now .verard }
  let s := (s.setMeasIn i x).bump R.VD_MEAS_CAL_CAL_COUNT
  if x.done0 && x.done1 then s.put R.VD_MEAS_CAL_CAL_DONE (s.get R.VD_MEAS_CAL_CAL_DONE ||| 2 ^ i.val) else s

/-- MEAS_LANE_CAL_DONE (R107, R108): the calibrated lane takes over stamping; CAL_DONE once both lanes have been calibrated. -/
def execMeasLaneCalDone (i : Fin 4) (s : State) : Res :=
  .next (
    let x := s.measIn i
    if x.toCal = 0 then s else
    s.laneDone i x)

/-- MEAS_RUN on an idle channel (R121): its registers are written and it starts. What the START and ABORT bits of the MEAS_CTRL it carries
do, the spec does not say: the command starts whatever they are (DESIGN CHOICE, notes/assumptions/152). -/
def State.measRun (s : State) (c : CmdCtx) (n : Nat) (ctrl gate timeout : Word) (start : Packed) : State :=
  let v := start.toNat
  let s := (s.put (R.MEAS_GATE_GATE_US n) gate.toNat).put (R.MEAS_TIMEOUT_TIMEOUT_US n) timeout.toNat
  let s := (s.put (R.MEAS_START_NS_NS n) (bits v 16 32)).put (R.MEAS_START_SEC_LO_SEC_LO n) (bits v 48 32)
  let s := s.put (R.MEAS_START_SEC_HI_SEC_HI n) (bits v 80 16)
  (s.accept c 0x1D n).measCtrl n ((ctrl.toNat ||| 3) - 2) (bits v 0 16)

/-- MEAS_RUN (R110, R121): the configuration is written and the measurement started, as by the registers. -/
def execMeasRun (c : CmdCtx) (channel : Byte) (ctrl gate timeout : Word) (start : Packed) (s : State) : Res :=
  done (
    if c.dev = .lotik then s.answer c 0x1D 0x10
    else if 3 < channel.toNat then s.answer c 0x1D 0x11
    else
      let n := channel.toNat
      if s.getB (R.MEAS_STAT_BUSY n) then s.answer c 0x1D 0x30
      else
        s.measRun c n ctrl gate timeout start)

/-- A trigger input's FIFO. -/
def State.trigIn (s : State) (i : Nat) : TrigIn := smGet {} s.lk.trigIn i

/-- Replace a trigger input's FIFO. -/
def State.setTrigIn (s : State) (i : Nat) (x : TrigIn) : State :=
  ({ s with lk := { s.lk with trigIn := smPut {} s.lk.trigIn i x } }).put (R.LK_TRIGi_STAT_COUNT i) x.fifo.length

/-- CAPTURE waypoints that waited for this stamp go to the Log (R127, R338). -/
def State.takeCaptures (s : State) (i t : Nat) : State :=
  let due := s.lk.captures.filter (fun c => c.1 == i && decide (c.2.1 ≤ t))
  let s := { s with lk := { s.lk with captures := s.lk.captures.filter (fun c => !(c.1 == i && decide (c.2.1 ≤ t))) } }
  due.foldl (fun s c => s.logKind .lotik 0x0403 1 ([0, BitVec.ofNat 8 i, 0, 0] ++ packedBytes (s.wrap .lotik) t)) s

/-- A stamped trigger edge (R116): forwarded, matched with captures, and put into the FIFO. -/
def State.trigStamp (s : State) (i : Fin 2) (x : TrigIn) (t : Nat) : State :=
  let fine := s.getB (R.LK_TRIGi_CTRL_FINE i)
  let s := s.emitIf (s.getB (R.LK_TRIGi_CTRL_HOST_FWD i)) (.pin "CTL_START" 1)
  let s := s.takeCaptures i t
  if 16 ≤ x.fifo.length then (s.setTrigIn i x).put (R.LK_TRIGi_STAT_OVF i) 1
  else s.setTrigIn i { x with fifo := x.fifo ++ [{ stamp := t, fine := fine }] }

/-- TRIG_IN_EDGE (R116): a selected edge is stamped, or counted as missed, or discarded with OVF. Whether an edge is closer than 100 ns is
told by when it fell, also where its stamp is coarse; the 100 ns run from the last edge that was not itself too close (DESIGN CHOICE,
notes/assumptions/153). -/
def execTrigInEdge (i : Fin 2) (falling : Bool) (bins : BitVec 12) (s : State) : Res :=
  .next (
    let e := s.get (R.LK_TRIGi_CTRL_EDGE i)
    let sel := (e == 0 && !falling) || (e == 1 && falling) || e == 2
    if !s.getB (R.LK_TRIGi_CTRL_ENABLE i) || !sel then s else
    let x := s.trigIn i
    let now := s.now .lotik
    let fell := fineStamp (s.clk .lotik) now bins.toNat
    let t := if s.getB (R.LK_TRIGi_CTRL_FINE i) then fell else now
    let near := match x.last with
      | none => false
      | some u => decide (fell < u + nsSub 100)
    if near then s.bumpSat (R.LK_TRIGi_STAT_MISSED i) else s.trigStamp i { x with last := some fell } t)

/-- A write of LK_TRIGi_CTRL (R116): while ENABLE and FINE are 1 the timing core is held awake. -/
def State.trigInCtrl (s : State) (i v : Nat) : State :=
  let s := (s.put (R.LK_TRIGi_CTRL_ENABLE i) (bits v 0 1)).put (R.LK_TRIGi_CTRL_EDGE i) (bits v 1 2)
  let s := (s.put (R.LK_TRIGi_CTRL_FINE i) (bits v 3 1)).put (R.LK_TRIGi_CTRL_HOST_FWD i) (bits v 4 1)
  (s.tcWork).doIf (v.testBit 0 && v.testBit 3) State.wakeTc

/-- A POP write (R117): the oldest entry moves into the read set. -/
def State.trigPop (s : State) (i : Nat) : State :=
  let x := s.trigIn i
  match x.fifo with
  | [] => s.put (R.LK_TRIGi_STAT_READ_VALID i) 0
  | e :: es =>
    let p := (packInstant (s.wrap .lotik) e.stamp).toNat
    let s := (s.setTrigIn i { x with fifo := es }).put (R.LK_TRIGi_STAT_READ_VALID i) 1
    let s := (s.putB (R.LK_TRIGi_STAT_READ_FINE i) e.fine).put (R.LK_TRIGi_NS_NS i) (bits p 16 32)
    let s := (s.put (R.LK_TRIGi_SEC_LO_SEC_LO i) (bits p 48 32)).put (R.LK_TRIGi_SEC_HI_SEC_HI i) (bits p 80 16)
    s.put (R.LK_TRIGi_SEC_HI_SUB i) (bits p 0 16)

/-- TRIG_POP. -/
def execTrigPop (i : Fin 2) (s : State) : Res :=
  .next (s.viaBus 0 (0x1208 + 0x20 * i.val) (fun s => (s.trigPop i)))

/-- Whether an ARM would be refused (R118), and whether because its instant is too near. -/
def State.armBad (s : State) (t width period : Nat) : Bool × Bool :=
  let late := decide (t < s.now .lotik + usSub 5)
  (!onTick t || width == 0 || (period != 0 && period ≤ width) || late, late)

/-- Schedule a train, or refuse it with CFG_ERR (R118, R119): a running train is replaced. -/
def State.armTrain (s : State) (o t width period : Nat) (byJob : Bool) : State :=
  let (bad, late) := s.armBad t width period
  if bad then
    let s := s.put (R.LK_TRIGo_STAT_CFG_ERR o) 1
    if late then s.put (R.LK_TRIGo_STAT_LATE o) 1 else s
  else (s.setTrain o { pulseEnd := (s.train o).pulseEnd, next := t, start := t, width := width, period := period, byJob := byJob }).put
    (R.LK_TRIGo_STAT_ARMED o) 1

/-- The instant in a trigger output's registers. -/
def State.trigAt (s : State) (o : Nat) : Nat :=
  let sec := s.get (R.LK_TRIGo_AT_SEC_LO_SEC_LO o) + 2 ^ 32 * s.get (R.LK_TRIGo_AT_SEC_HI_SEC_HI o)
  unpackInstant (s.wrap .lotik) (s.now .lotik) (BitVec.ofNat 96 (sec * 2 ^ 48 + s.get (R.LK_TRIGo_AT_NS_NS o) * 2 ^ 16))

/-- A write of LK_TRIGo_CTRL (R118, R119): CANCEL wins over ARM. -/
def State.trigCtrl (s : State) (o v : Nat) : State :=
  let s := (s.put (R.LK_TRIGo_CTRL_POLARITY o) (bits v 2 1)).put (R.LK_TRIGo_CTRL_ROUTE o) (bits v 3 2)
  if bits v 1 1 = 1 then s.cancelTrain o
  else if bits v 0 1 = 1 then
    s.armTrain o (s.trigAt o) (s.get (R.LK_TRIGo_TIMING_WIDTH o)) (s.get (R.LK_TRIGo_TIMING_PERIOD o)) false
  else s

/-- TRIG_OUT_ARM (R118): a write of the control register with ARM. -/
def execTrigOutArm (o : Fin 2) (v : Word) (s : State) : Res :=
  .next (s.viaBus 0 (0x1240 + 0x20 * o.val) (fun s => (s.trigCtrl o (v.toNat ||| 1))))

/-- TRIG_OUT_CANCEL (R119): a write of the control register with CANCEL. -/
def execTrigOutCancel (o : Fin 2) (v : Word) (s : State) : Res :=
  .next (s.viaBus 0 (0x1240 + 0x20 * o.val) (fun s => (s.trigCtrl o (v.toNat ||| 2))))

/-- What a trigger output's pin carries for one pulse: its active level in bit 0 (LK_TRIGo_CTRL.POLARITY), its width above. -/
def State.trigPulse (s : State) (o : Nat) : Nat := 1 - s.get (R.LK_TRIGo_CTRL_POLARITY o) + 2 * (s.train o).width

/-- The train goes on to its next edge, or ends after its only one (R118). -/
def State.trainNext (s : State) (o : Nat) : State :=
  let x := s.train o
  if x.period = 0 then s.cancelTrain o else s.setTrain o { x with next := x.next + x.period * tickSub }

/-- TRIG_OUT_EDGE (R118, R119): the timing core is awake and the scheduled edge is placed at its instant. An edge of a train that has
replaced another and would fall inside the other's last pulse is not emitted but counted in SKIPPED (DESIGN CHOICE,
notes/assumptions/122). -/
def execTrigOutEdge (o : Fin 2) (s : State) : Res :=
  .next (
    let x := s.train o
    if s.getB (R.LK_TRIGo_STAT_ARMED o) ∧ x.next ≤ s.now .lotik then
      if x.next < x.pulseEnd then (s.bumpSat (R.LK_TRIGo_STAT_SKIPPED o)).trainNext o
      else
      let r := s.get (R.LK_TRIGo_CTRL_ROUTE o)
      let pulse := s.trigPulse o
      let s := s.setTrain o { x with pulseEnd := x.next + x.width * tickSub }
      let s := s.wakeTc.emitIf (r.testBit 0) (.pin (if o = 0 then "TRIG_OUT0" else "TRIG_OUT1") pulse)
      let s := s.emitIf (r.testBit 1) (.pin "CTL_START" 1)
      (s.bump (R.LK_TRIGo_STAT_PULSES o)).trainNext o
    else s)

/-- TRIG_ARM (R118, R121): the output's registers are written and it is armed, or refused. The table packs POLARITY and ROUTE into one byte
and gives no places: the model has POLARITY in bit 0 and ROUTE in bits 2:1, the order of LK_TRIGo_CTRL, and refuses a byte with a higher
bit set (DESIGN CHOICE, notes/assumptions/152). -/
def State.trigArm (s : State) (c : CmdCtx) (output polRoute : Byte) (at_ : Packed) (width period : BitVec 16) : State :=
  let o := output.toNat
  let v := at_.toNat
  let s := (s.put (R.LK_TRIGo_CTRL_POLARITY o) (bits polRoute.toNat 0 1)).put (R.LK_TRIGo_CTRL_ROUTE o) (bits polRoute.toNat 1 2)
  let s := (s.put (R.LK_TRIGo_AT_NS_NS o) (bits v 16 32)).put (R.LK_TRIGo_AT_SEC_LO_SEC_LO o) (bits v 48 32)
  let s := (s.put (R.LK_TRIGo_AT_SEC_HI_SEC_HI o) (bits v 80 16)).put (R.LK_TRIGo_TIMING_WIDTH o) width.toNat
  let s := s.put (R.LK_TRIGo_TIMING_PERIOD o) period.toNat
  let t := unpackInstant (s.wrap .lotik) (s.now .lotik) at_
  let bad := (s.armBad t width.toNat period.toNat).1
  let s := s.armTrain o t width.toNat period.toNat false
  if bad then s.answer c 0x1E 0x11 else (s.answer c 0x1E 0).logCommand c 0x1E 0

/-- TRIG_ARM (R118, R121): BAD_PARAM for a refused ARM. -/
def execTrigArm (c : CmdCtx) (output polRoute : Byte) (at_ : Packed) (width period : BitVec 16) (s : State) : Res :=
  done (
    if c.dev = .verard then s.answer c 0x1E 0x10
    else if 1 < output.toNat ∨ 8 ≤ polRoute.toNat then s.answer c 0x1E 0x11
    else
      s.trigArm c output polRoute at_ width period)

end Sys2Proof.Machine
end

