-- ==== Sys2Proof/Machine/Steward.lean ====
section
/-! DEFINITION. The clock steward (R236 to R253): operating points, region states, landing buffers, the stretch ledger, fences. -/

namespace Sys2Proof.Machine

open Sys2Proof

/-- A clock region. -/
def State.region (s : State) (r : Nat) : Region := smGet {} s.lk.cs.regions r

/-- Replace a clock region. -/
def State.setRegion (s : State) (r : Nat) (x : Region) : State :=
  s.setCs { s.lk.cs with regions := smPut {} s.lk.cs.regions r x }

/-- NR, the number of regions (R1, R252). -/
def State.nr (s : State) : Nat := s.get R.LK_CS_STAT_REGIONS + 1

/-- The regions' numbers. -/
def State.regionNos (s : State) : List Nat := List.range s.nr

/-- A region's state (R247). -/
def State.regState (s : State) (r : Nat) : Nat := s.get (R.LK_CS_REGr_STAT_STATE r)

/-- FREQ_LEAD (R237). -/
def State.freqLead (s : State) : Nat := usSub (s.get R.LK_CS_CFG_VSETTLE_US + 1)

/-- Show NOT_GRID (R252). -/
def State.showGrid (s : State) : State :=
  s.put R.LK_CS_STAT_NOT_GRID (s.regionNos.filter (fun r => decide (2 ≤ s.regState r))).length

/-- Move a region to a state; into or out of LOR, MARGIN_SAFE or FENCED is logged (R247). The host gets the state as AO_MODE[r], and
CLK_STOP[r] where its clock stops (R348; notes/assumptions/159). -/
def State.regGo (s : State) (r st : Nat) : State :=
  let old := s.regState r
  let s := (s.put (R.LK_CS_REGr_STAT_STATE r) st).showGrid
  let s := s.emitIf (old != st) (.regionPin "AO_MODE" r st)
  let s := s.emitIf (old != st && st == 4) (.regionPin "CLK_STOP" r 1)
  if old ≠ st ∧ (2 ≤ old ∨ 2 ≤ st) then s.logChange .lotik 7 (R.LK_CS_REGr_STAT_STATE r) (if 2 ≤ st then 4 else 2) else s

/-- The first hall tick at or after `t` that lies at least FREQ_LEAD from every scheduled change, or is one's tick where
`shared` says that this will do (R249, R264). -/
def freeTick (lead : Nat) (shared : Bool) (sched : List Change) : Nat → Nat → Nat
  | 0, t => ceilTick t
  | n + 1, t =>
    let t := ceilTick t
    match sched.find? (fun c => decide (t < c.tick + lead) && decide (c.tick < t + lead)) with
    | none => t
    | some c => if shared && decide (t ≤ c.tick) then c.tick else freeTick lead shared sched n (c.tick + lead)

/-- The return to BASE_OP: at the first hall tick at least FREQ_LEAD ahead (R251). -/
def State.toBaseOp (s : State) : State :=
  let b := s.get R.LK_CS_CFG_BASE_OP
  s.schedule { tick := ceilTick (s.now .lotik + s.freqLead), idx := some b, ceil := none }

/-- The index a change applies: the smaller of the requested index and the ceiling (R242, R264). -/
def State.changeIdx (s : State) (c : Change) : Nat :=
  min (c.idx.getD s.lk.cs.requested) (c.ceil.getD (s.get R.LK_CS_STAT_OP_CEIL))

/-- Request the core voltage of an index at the regulator (R243, R348). -/
def State.requestVolt (s : State) (i : Nat) : State :=
  ((s.setCs { s.lk.cs with volt := i }).emit (.pin "VID" (s.get (R.LK_OPTi_VOLT_MV i)))).emit (.pin "VID_STROBE" 1)

/-- Count the nominal cycles up to now (R246). -/
def State.countNominal (s : State) : State :=
  let c := s.lk.cs
  let now := s.now .lotik
  let f := s.get (R.LK_OPTi_FREQ_MHZ (s.get R.LK_CS_STAT_CUR_OP))
  s.setCs { c with nominal := c.nominal + f * (now - c.nominalAt), nominalAt := now }

/-- Count lost cycles of a region (R245). -/
def State.lose (s : State) (r n : Nat) : State :=
  let x := s.region r
  s.setRegion r { x with lost := x.lost + BitVec.ofNat 48 n, stepLost := min (x.stepLost + n) (2 ^ 32 - 1) }

/-- The first scheduled change is prepared (R243): its standby point, and the voltage of a raise. -/
def State.prepare (s : State) (c : Change) (cs : List Change) : State :=
  let n := s.changeIdx c
  let s := s.setCs { s.lk.cs with sched := { c with prepared := true } :: cs, standby := some n }
  let s := s.showSched
  if s.get R.LK_CS_STAT_CUR_OP < n then s.requestVolt n else s

/-- OP_SWITCH_PREPARE (R243): the voltage is raised where the new index is higher, and the standby PLL starts at its frequency. -/
def execOpSwitchPrepare (s : State) : Res :=
  .next (
    match s.lk.cs.sched with
    | c :: cs =>
      if c.prepared ∨ s.now .lotik + s.freqLead < c.tick then s else
      s.prepare c cs
    | [] => s)

/-- The first scheduled change is dropped (R244): VID_FAULT. -/
def State.dropChange (s : State) (cs : List Change) : State :=
  let s := s.setCs { s.lk.cs with sched := cs, standby := none }
  let s := if s.get R.LK_BOOT_STAGE = 5 ∧ s.getB R.LK_CS_STAT_READY then s.put R.LK_BOOT_STAGE 6 else s
  let s := ((s.showSched.put R.LK_CS_IRQ_VID_FAULT 1).bumpSat R.LK_CS_CNT_VID_FAULTS)
  s.logChange .lotik 7 R.LK_CS_CNT_VID_FAULTS

/-- OP_SWITCH_CHECK (R243, R244): a change without power-good or the standby lock is cancelled with VID_FAULT. Power-good
counts where the index rises; a request for the index in force changes nothing (R242). -/
def execOpSwitchCheck (pgood lock : Bool) (s : State) : Res :=
  .next (
    match s.lk.cs.sched with
    | c :: cs =>
      if !c.prepared ∨ s.now .lotik + usSub 1 < c.tick ∨ s.changeIdx c = s.get R.LK_CS_STAT_CUR_OP then s
      else if lock ∧ (pgood ∨ s.changeIdx c ≤ s.get R.LK_CS_STAT_CUR_OP) then
        s.setCs { s.lk.cs with sched := { c with checked := true } :: cs }
      else
        s.dropChange cs
    | [] => s)

/-- The change takes effect on its tick (R243). -/
def State.opSwitchTo (s : State) (c : Change) (cs : List Change) : State :=
  let n := s.changeIdx c
  let s := match c.ceil with
    | none => s
    | some k => (((s.put R.LK_CS_STAT_OP_CEIL k).putB R.LK_PG_STAT_CAPPING (s.get R.LK_PG_STAT_MAX_DENSITY != 0 || decide (k < 15))).put R.LK_PG_IRQ_CEIL 1).logChange .lotik 8 R.LK_CS_STAT_OP_CEIL
  let s := s.countNominal
  let s := s.setCs { s.lk.cs with sched := cs, requested := c.idx.getD s.lk.cs.requested }
  let s := s.showSched
  -- The start-up stage CLOCKS ends with the move to BASE_OP (R362).
  let s := if s.get R.LK_BOOT_STAGE = 5 ∧ s.getB R.LK_CS_STAT_READY then s.put R.LK_BOOT_STAGE 6 else s
  if n = s.get R.LK_CS_STAT_CUR_OP then s else
  let s := s.regionNos.foldl (fun s r =>
    if s.regState r ≤ 1 then (s.put (R.LK_CS_REGr_STAT_OP r) n).lose r 1 else s) s
  let s := s.setCs { s.lk.cs with liveB := !s.lk.cs.liveB, standby := none, finishAt := some (c.tick + usSub 1),
                                  lowered := decide (n < s.get R.LK_CS_STAT_CUR_OP) }
  s.put R.LK_CS_STAT_CUR_OP n

/-- OP_SWITCH (R243): every region in NORMAL or STRETCHED goes to the standby grid, which costs one cycle each. A request for
the index in force changes nothing and is not counted (R242). A change of index for which nothing has found power-good and the standby
lock is cancelled (R244; notes/assumptions/129). -/
def execOpSwitch (s : State) : Res :=
  .next (
    match s.lk.cs.sched with
    | c :: cs =>
      if s.now .lotik < c.tick then s
      else if s.changeIdx c ≠ s.get R.LK_CS_STAT_CUR_OP ∧ !c.checked then s.dropChange cs
      else s.opSwitchTo c cs
    | [] => s)

/-- The next change is a raise whose voltage has been requested (R243). -/
def State.raiseReady (s : State) : Bool :=
  match s.lk.cs.sched with
  | c :: _ => c.prepared && decide (s.get R.LK_CS_STAT_CUR_OP < s.changeIdx c)
  | [] => false

/-- 1 µs after a change (R243): the voltage of a step down, unless the next change is a raise that already has its own, for frequency
is never raised without its voltage (R244; notes/assumptions/129); and the count. -/
def State.opSwitchEnd (s : State) : State :=
  let s := if s.lk.cs.lowered && !s.raiseReady then s.requestVolt (s.get R.LK_CS_STAT_CUR_OP) else s
  let s := s.setCs { s.lk.cs with finishAt := none, lowered := false }
  (s.put R.LK_CS_IRQ_SWITCH_DONE 1).bump R.LK_CS_CNT_CHANGES

/-- OP_SWITCH_FINISH (R243): the voltage falls where the index did, and the change is complete. -/
def execOpSwitchFinish (s : State) : Res :=
  .next (
    match s.lk.cs.finishAt with
    | none => s
    | some t =>
      if s.now .lotik < t then s else
      s.opSwitchEnd)

/-- A droop at a region (R239): one in NORMAL enters STRETCHED; one in MARGIN_SAFE stretches where it is (R247). -/
def State.droop (s : State) (r : Nat) : State :=
  let x := s.region r
  match s.regState r with
  | 0 => (s.setRegion r { x with stretching := true, periods := 0, recovered := false, events := min (x.events + 1) 65535, stretches := x.stretches + 1 }).regGo r 1
  | 3 => s.setRegion r { x with stretching := true, periods := 0, recovered := false, events := min (x.events + 1) 65535 }
  | _ => s

/-- A region's supply crosses the droop threshold (R239): it passes every second edge. In MARGIN_SAFE it stretches likewise (R247). One
that stretches already begins its stretched periods anew. -/
def execRegionDroop (r : Fin 64) (s : State) : Res :=
  .next (
    let x := s.region r
    if s.nr ≤ r.val then s
    else if x.stretching then s.setRegion r { x with periods := 0, recovered := false }
    else s.droop r)

/-- REGION_STRETCH_RECOVER (R239): the supply has stayed above the threshold plus HYST_MV; after 8 stretched periods at the least the
AO is back at every edge from the next grid edge on. -/
def execRegionStretchRecover (r : Fin 64) (s : State) : Res :=
  .next (
    let x := s.region r
    if x.stretching ∧ 8 ≤ x.periods then s.setRegion r { x with recovered := true } else s)

/-- A crossing's key, sender and receiver. -/
def crossKey (a b : Nat) : Nat := a * 64 + b

/-- A landing buffer. -/
def State.crossing (s : State) (a b : Nat) : Crossing := smGet {} s.lk.cs.crossings (crossKey a b)

/-- Replace a landing buffer. -/
def State.setCrossing (s : State) (a b : Nat) (x : Crossing) : State :=
  s.setCs { s.lk.cs with crossings := smPut {} s.lk.cs.crossings (crossKey a b) x }

/-- Whether a region's crossings are DECOUPLED (R241, R249). -/
def State.decoupled (s : State) (r : Nat) : Bool :=
  s.regState r == 2 || s.regState r == 3 || (s.region r).rejoinEdges != 0

/-- The cycles an entry or credit waits beyond the first edge (R241). -/
def State.crossWait (s : State) (a b : Nat) : Nat := if s.decoupled a || s.decoupled b then 3 else 0

/-- The sender's edge at a crossing: credits read before this edge come back (R240, R241). -/
def Crossing.senderEdge (x : Crossing) (t : Nat) : Crossing :=
  let ready := x.back.filter (fun b => decide (b.1 < t) && b.2 == 0)
  let rest := (x.back.filter (fun b => !(decide (b.1 < t) && b.2 == 0))).map
    (fun b => (b.1, if b.1 < t then b.2 - 1 else b.2))
  { x with credits := x.credits + ready.length, back := rest }

/-- Whether the buffers into a region are sinks (R250): it is fenced, or asked to be and past its first edge; or all its cores are. -/
def State.sinks (s : State) (r : Nat) : Bool :=
  s.regState r == 4 || (s.region r).fence == 2 || (List.range 4).all (fun k => (s.region r).cores.any (fun c => c.1 == k && decide (2 ≤ c.2)))

/-- Write one entry at a sender's edge, where a credit is held (R240); into a region that sinks it is discarded (R250). -/
def State.crossWrite (s : State) (t a b : Nat) (v : BitVec 64) : State :=
  let x := s.crossing a b
  if x.credits = 0 then s
  else if s.sinks b then s.bumpSat R.LK_CS_FENCE_DROP_DROPS
  else s.setCrossing a b { x with credits := x.credits - 1, ents := x.ents ++ [{ data := some v, wrAt := t, wait := s.crossWait a b }] }

/-- Whether an entry was written before the receiver's edge at `t` (R240). A placeholder is written at the first grid edge at or after its
Mark (R285), which lies before `t` where `t` comes at least one grid period of `mhz` behind the Mark. -/
def LandEnt.before (e : LandEnt) (mhz t : Nat) : Bool :=
  if e.data.isNone then decide (65536000 ≤ (t + 1 - e.wrAt) * mhz) else decide (e.wrAt < t)

/-- Read at a receiver's edge (R240): the oldest entry, where it is readable; a placeholder is discarded. Waits count down. -/
def State.crossRead (s : State) (t a b : Nat) (take : Bool) : State :=
  let x := s.crossing a b
  let mhz := s.get (R.LK_OPTi_FREQ_MHZ (s.get R.LK_CS_STAT_CUR_OP))
  let tick (e : LandEnt) : LandEnt := if e.wrAt < t then { e with wait := e.wait - 1 } else e
  match x.ents with
  | [] => s
  | e :: es =>
    if (take || e.data.isNone) && e.before mhz t && e.wait == 0 then
      let s := s.setCrossing a b { x with ents := es.map tick, back := x.back ++ [(t, s.crossWait a b)] }
      match e.data with
      | none => s
      | some v => s.emit (.pin "REGION_DATA" v.toNat)
    else s.setCrossing a b { x with ents := x.ents.map tick }

/-- Whether a position of a frame is bubbled at density n: the first n of the bit-reversed order (R262). -/
def bubbled (n pos : Nat) : Bool :=
  let p := pos % 64
  let rev := bits p 0 1 * 32 + bits p 1 1 * 16 + bits p 2 1 * 8 + bits p 3 1 * 4 + bits p 4 1 * 2 + bits p 5 1
  decide (rev < n)

/-- The smallest of eight monitor codes (R248). -/
def minCode (codes : Nat) : Nat := (List.range 8).foldl (fun m k => min m (bits codes (4 * k) 4)) 15

/-- Stop a region's AO (R250). One that was NORMAL or STRETCHED has an inexact ledger from here (R246). -/
def State.fenceStop (s : State) (r : Nat) : State :=
  let s := if s.regState r ≤ 1 then s.put (R.LK_CS_REGr_STAT_INEXACT r) 1 else s
  (s.setRegion r { s.region r with fence := 0, stretching := false, toSafe := false }).regGo r 4

/-- Cores enter the fenced-core bitmap (R250). -/
def State.markFenced (s : State) (cores : List Nat) : State :=
  cores.foldl (fun s c => s.put (R.LK_CS_FENCEDk_FENCED (c / 32)) (s.get (R.LK_CS_FENCEDk_FENCED (c / 32)) ||| 2 ^ (c % 32))) s

/-- A fence is announced (R250): the event to the host's scheduler with the core numbers, the interrupt and the Log entry. -/
def State.tellFence (s : State) (cores : List Nat) : State :=
  let s := s.emit (.pin "SCHED_EVT_FENCE" (cores.foldl (fun m c => m + 2 ^ c) 0))
  (s.put R.LK_CS_IRQ_FENCE 1).logChange .lotik 7 (R.LK_CS_FENCEDk_FENCED (cores.headD 0 / 32))

/-- Whether a core is fenced, or a fence of it was asked for. -/
def State.coreFenced (s : State) (c : Nat) : Bool := (s.get (R.LK_CS_FENCEDk_FENCED (c / 32))).testBit (c % 32)

/-- A fence of cores is asked for (R250): its buffers sink from the region's next edge, and its clock branch stops at the edge after
(notes/assumptions/130). -/
def State.fenceCores (s : State) (cores : List Nat) : State :=
  let new := cores.filter (fun c => !s.coreFenced c)
  if new = [] then s else
  let s := new.foldl (fun s c =>
    s.setRegion (c / 4) { s.region (c / 4) with cores := (s.region (c / 4)).cores ++ [(c % 4, 1)] }) s
  (s.markFenced new).tellFence new

/-- A fence of a region (R250): its buffers sink from its next edge, and its clock stops at the edge after. -/
def State.fenceRegion (s : State) (r : Nat) : State :=
  if s.regState r = 4 ∨ (s.region r).fence ≠ 0 then s
  else
    let cores := (List.range 4).map (fun k => 4 * r + k)
    ((s.setRegion r { s.region r with fence := 1 }).markFenced cores).tellFence cores

/-- A region enters LOR (R249). -/
def State.enterLor (s : State) (r : Nat) : State :=
  let now := s.now .lotik
  let x := s.region r
  let recent := (now :: x.lorAt).filter (fun t => decide (now < t + secSub 1))
  let s := s.setRegion r { x with lorAt := recent, lorStuck := x.lorStuck || decide (3 ≤ recent.length), rejoinAt := none,
                                  stretching := false, rejoinEdges := 0 }
  let s := (s.bumpSat (R.LK_CS_REGr_STAT_LOR_COUNT r)).put (R.LK_CS_REGr_STAT_INEXACT r) 1
  let s := (s.put (R.LK_CS_REGr_STAT_OP r) (s.get R.LK_CS_CFG_SAFE_OP)).put R.LK_CS_IRQ_LOR 1
  s.regGo r 2

/-- A margin fault (R248): MARGIN_SAFE, or a fence of a region already off the grid. -/
def State.marginFault (s : State) (r : Nat) : State :=
  let s := s.put R.LK_CS_IRQ_MARGIN_FAULT 1
  if 2 ≤ s.regState r then s.fenceRegion r else s.setRegion r { s.region r with toSafe := true }

/-- The buffers into a region become sinks (R250): what they hold is discarded. -/
def State.sinkInto (s : State) (r : Nat) : State :=
  s.regionNos.foldl (fun s a =>
    let s := (List.range (s.crossing a r).ents.length).foldl (fun s _ => s.bumpSat R.LK_CS_FENCE_DROP_DROPS) s
    s.setCrossing a r {}) s

/-- The fenced cores of a region at one of its edges (R250): first the buffers into them sink, at the next their clock branches stop. -/
def State.coreStage (s : State) (r : Nat) : State :=
  let x := s.region r
  if x.cores.all (fun c => c.2 == 3) then s else
  let was := s.sinks r
  let stop := x.cores.filter (fun c => c.2 == 2)
  let s := s.setRegion r { x with cores := x.cores.map (fun c => (c.1, min 3 (c.2 + 1))) }
  let s := s.emitIf (!stop.isEmpty) (.pin "CORE_CLOCK_STOP" (stop.map (fun c => 2 ^ (4 * r + c.1))).sum)
  if s.sinks r && !was then s.sinkInto r else s

/-- What a region's edge does to a requested change of its state: a recovered supply ends its stretch, a margin fault moves it to the
safe grid, or fences it where it has lost the reference since (notes/assumptions/128), and a fence sinks the buffers into it at the
first edge and stops it at the next (R239, R248, R250). -/
def State.edgeStage (s : State) (r : Nat) : State :=
  let x := s.region r
  if x.fence = 2 then s.fenceStop r
  else
    let s := if x.fence = 1 then (s.setRegion r { x with fence := 2 }).sinkInto r else s.coreStage r
    let s := if x.stretching ∧ x.recovered then
        let s := s.setRegion r { s.region r with stretching := false, recovered := false }
        if s.regState r = 1 then s.regGo r 0 else s
      else s
    if x.toSafe ∧ s.regState r = 2 then (s.setRegion r { s.region r with toSafe := false }).fenceRegion r
    else if x.toSafe ∧ s.regState r ≤ 1 then
      let s := s.setRegion r { s.region r with toSafe := false, stretching := false }
      let s := (s.put (R.LK_CS_REGr_STAT_INEXACT r) 1).put (R.LK_CS_REGr_STAT_OP r) (s.get R.LK_CS_CFG_SAFE_OP)
      s.regGo r 3
    else s

/-- An edge that reaches a live region (R239 to R241, R248, R263): counted, its margin code taken, and its crossings moved. -/
def State.edgeCount (s : State) (r : Nat) (t : Nat) (codes : Word) (writes : List (Fin 64 × BitVec 64)) (reads : List (Fin 64)) : State :=
  let x := s.region r
  let b := bubbled x.applied x.frame
  let m := minCode codes.toNat
  let low := decide (m ≤ s.get R.LK_CS_CFG_MARGIN_WARN)
  let s := s.setRegion r
    { x with cyc := x.cyc + 1, codes := codes, frame := x.frame + 1, rejoinEdges := x.rejoinEdges - 1,
             periods := if x.stretching then x.periods + 1 else 0,
             stepBubbles := min (x.stepBubbles + b2n b) (2 ^ 32 - 1),
             lowSince := if low then some (x.lowSince.getD (s.now .lotik)) else none }
  let s := if x.stretching then s.lose r 1 else s
  let s := s.put (R.LK_CS_REGr_STAT_MARGIN_MIN r) m
  let s := if low then s else s.put (R.LK_CS_REGr_STAT_MARGIN_LOW r) 0
  let s := s.regionNos.foldl (fun s a => s.crossRead t a r (reads.any (fun x => x.val == a))) s
  let s := s.regionNos.foldl (fun s c =>
    if (s.crossing r c).back = [] then s else s.setCrossing r c ((s.crossing r c).senderEdge t)) s
  writes.foldl (fun s w => if w.1.val < s.nr then s.crossWrite t r w.1 w.2 else s) s

/-- REGION_CLOCK_EDGE (R240, R245, R248, R262): at instant `t` in the region's own clock, with the monitors' codes, the entries
the region sends and the regions it reads from. -/
def execRegionClockEdge (r : Fin 64) (t : Nat) (codes : Word) (writes : List (Fin 64 × BitVec 64)) (reads : List (Fin 64)) (s : State) : Res :=
  .next (
    if s.nr ≤ r.val ∨ s.regState r = 4 ∨ s.getB R.LK_PG_STAT_TRIPPED then s else
    let s := s.edgeStage r
    if s.regState r = 4 then s else
    s.edgeCount r t codes writes reads)

/-- A margin error (R248): the edge is lost and counted; too many within 1 ms fault the region. -/
def State.marginErr (s : State) (r : Nat) : State :=
  let now := s.now .lotik
  let s := (s.lose r 1).bumpSat (R.LK_CS_REGr_STAT_MARGIN_ERR r)
  let x := s.region r
  let near := (now :: x.errAt).filter (fun t => decide (now < t + msSub 1))
  let x := { x with marginErrs := x.marginErrs + 1 }
  if s.get R.LK_CS_CFG2_MARGIN_ERR_LIMIT < near.length then (s.setRegion r { x with errAt := [] }).marginFault r
  else s.setRegion r { x with errAt := near }

/-- MARGIN_ERROR_EDGE (R248): the next grid edge is dropped, which costs a cycle; too many in 1 ms are a margin fault. -/
def execMarginErrorEdge (r : Fin 64) (s : State) : Res :=
  .next (
    if s.nr ≤ r.val ∨ s.regState r = 4 then s else
    s.marginErr r)

/-- MARGIN_LOW_SET (R248): MARGIN_MIN has stayed at or below MARGIN_WARN for 1 ms. -/
def execMarginLowSet (r : Fin 64) (s : State) : Res :=
  .next (
    match (s.region r).lowSince with
    | none => s
    | some t => if t + msSub 1 ≤ s.now .lotik then s.put (R.LK_CS_REGr_STAT_MARGIN_LOW r) 1 else s)

/-- REGION_LOR (R247, R249): a region on the live grid goes to its local oscillator; one on the safe grid is fenced. -/
def execRegionLor (r : Fin 64) (s : State) : Res :=
  .next (
    if s.nr ≤ r.val then s
    else if s.regState r ≤ 1 then s.enterLor r
    else if s.regState r = 3 then s.fenceRegion r
    else s)

/-- GRID_PLL_LOCK_LOSS (R249): every region not FENCED enters LOR and the PLL relocks at SAFE_OP; a region on the safe grid,
which another PLL clocks whatever this one does, stays there (R247; notes/assumptions/16), and one in LOR needs a new valid reference. -/
def execGridPllLockLoss (s : State) : Res :=
  .next (
    let s := s.countNominal
    let s := s.regionNos.foldl (fun s r =>
      if s.regState r ≤ 1 then s.enterLor r
      else if s.regState r = 2 then s.setRegion r { s.region r with rejoinAt := none }
      else s) s
    let safe := s.get R.LK_CS_CFG_SAFE_OP
    (s.setCs { s.lk.cs with requested := safe }).put R.LK_CS_STAT_CUR_OP safe)

/-- LOR_REFERENCE_VALID (R249): the steward chooses the region's rejoin tick, unless it stays in LOR until restart. -/
def execLorReferenceValid (r : Fin 64) (s : State) : Res :=
  .next (
    let x := s.region r
    if s.regState r = 2 ∧ !x.lorStuck ∧ x.rejoinAt = none then
      s.setRegion r { x with rejoinAt := some (freeTick s.freqLead false s.lk.cs.sched s.lk.cs.sched.length (s.now .lotik + s.freqLead)) }
    else s)

/-- REGION_REJOIN_TICK (R249): the region switches back to the live grid. -/
def execRegionRejoinTick (r : Fin 64) (s : State) : Res :=
  .next (
    let x := s.region r
    match x.rejoinAt with
    | none => s
    | some t =>
      if s.regState r ≠ 2 ∨ s.now .lotik < t then s
      else ((s.setRegion r { x with rejoinAt := none, rejoinEdges := 4 }).put (R.LK_CS_REGr_STAT_OP r) (s.get R.LK_CS_STAT_CUR_OP)).regGo r 0)

/-- FENCE_CORE (R250): a write of LK_CS_FENCE_CTRL with FENCE_CORE names the core. -/
def State.fenceCoreWrite (s : State) (core : Nat) : State :=
  let s := s.put R.LK_CS_FENCE_CTRL_CORE core
  if core < 4 * s.nr then s.fenceCores [core] else s

/-- FENCE_REGION (R250): it acts on region CORE div 4. -/
def State.fenceRegionWrite (s : State) (core : Nat) : State :=
  let s := s.put R.LK_CS_FENCE_CTRL_CORE core
  if core < 4 * s.nr then s.fenceRegion (core / 4) else s

/-- FENCE_CORE. -/
def execFenceCore (core : Byte) (s : State) : Res :=
  .next (s.viaBus 0 0x3080 (fun s => (s.fenceCoreWrite core.toNat)))

/-- FENCE_REGION. -/
def execFenceRegion (core : Byte) (s : State) : Res :=
  .next (s.viaBus 0 0x3080 (fun s => (s.fenceRegionWrite core.toNat)))

/-- Capture a region's block (R252): CYC_LO and the words after it. -/
def State.captureRegion (s : State) (r : Nat) : State :=
  let x := s.region r
  let s := (s.put (R.LK_CS_REGr_CYC_LO_CYC_LO r) x.cyc.toNat).put (R.LK_CS_REGr_CYC_HI_CYC_HI r) (x.cyc.toNat / 2 ^ 32)
  let s := (s.put (R.LK_CS_REGr_LOST_LO_LOST_LO r) x.lost.toNat).put (R.LK_CS_REGr_LOST_HI_LOST_HI r) (x.lost.toNat / 2 ^ 32)
  let s := (s.put (R.LK_CS_REGr_LOST_HI_EVENTS r) x.events).put (R.LK_CS_REGr_STEP_LOST_STEP_LOST r) x.stepLost
  (s.put (R.LK_CS_REGr_LAST_LOST_LAST_LOST r) x.lastLost).put (R.LK_CS_REGr_MARGIN_CODES r) x.codes.toNat

/-- CS_REGION_CAPTURE (R252): the read of LK_CS_REGr_CYC_LO. -/
def execCsRegionCapture (r : Fin 64) (s : State) : Res :=
  .next (s.viaRead 0 (0x3804 + r.val * 0x20) 4 (fun s =>
    if s.nr ≤ r.val then (s, 0) else (s.captureRegion r, (s.captureRegion r).get (R.LK_CS_REGr_CYC_LO_CYC_LO r))))

/-- The ledger's rollover at a Mark (R245, R246); Mark 0 also clears CYC and LOST. One Log entry names every region above the
warning level: its ARG carries their bitmap after the register's offset and value (notes/assumptions/15). -/
def State.ledgerMark (s : State) (zero : Bool) : State :=
  let s := s.countNominal
  let nom := s.lk.cs.nominal
  let ppm := s.get R.LK_CS_CFG2_STR_WARN_PPM
  let warned := s.regionNos.filter (fun r => decide (ppm * nom < (s.region r).stepLost * 1000000 * 65536000))
  let s := s.regionNos.foldl (fun s r =>
    let x := s.region r
    let s := s.setRegion r { x with lastLost := x.stepLost, stepLost := 0, events := 0, lastBubbles := x.stepBubbles, stepBubbles := 0,
                                    cyc := if zero then 0 else x.cyc, lost := if zero then 0 else x.lost }
    let s := s.put (R.LK_CS_REGr_STAT_INEXACT r) (b2n (decide (2 ≤ s.regState r)))
    if warned.contains r then s.put (R.LK_CS_REGr_STAT_STR_WARN r) 1 else s) s
  let s := s.setCs { s.lk.cs with nominal := 0 }
  if warned = [] then s else
  let s := s.put R.LK_CS_IRQ_STR_WARN 1
  s.logKind .lotik 0x0700 2 (leBytes 4 R.LK_CS_IRQ_STR_WARN.off ++ leBytes 4 (s.word 0 R.LK_CS_IRQ_STR_WARN.off) ++
    leBytes 8 (warned.foldl (fun m r => m + 2 ^ r) 0))

/-- CS_STATUS (R253). -/
def execCsStatus (c : CmdCtx) (s : State) : Res :=
  done (if c.dev = .verard then s.answer c 0x50 0x10
    else s.answer c 0x50 0 (s.regBytes 0 [0x3008, 0x300C, 0x3010, 0x3014, 0x3018, 0x301C, 0x3020]))

/-- CS_LEDGER (R252, R253, R428). -/
def State.csLedger (s : State) (c : CmdCtx) (first regions : Byte) : State :=
  let rs := (List.range regions.toNat).map (· + first.toNat)
  let t := rs.foldl (fun s r => s.captureRegion r) s
  s.answer c 0x51 0 (rs.flatMap (fun r => t.regBytes 0 ((List.range 8).map (fun k => 0x3800 + r * 0x20 + 4 * k))))

/-- CS_LEDGER (R253): each region's block, captured. -/
def execCsLedger (c : CmdCtx) (first regions : Byte) (s : State) : Res :=
  done (
    if c.dev = .verard then s.answer c 0x51 0x10
    else if regions.toNat = 0 ∨ 64 < regions.toNat ∨ s.nr < first.toNat + regions.toNat then s.answer c 0x51 0x11
    else
      s.csLedger c first regions)

/-- CS_FENCE (R250, R253). -/
def State.csFence (s : State) (c : CmdCtx) (kind number : Byte) : State :=
  let n := number.toNat
  let s := if kind = 0 then s.fenceCores [n] else s.fenceRegion n
  let s := s.answer c 0x52 0 (s.regBytes 0 ((List.range 8).map (fun k => 0x3084 + 4 * k)))
  s.logCommand c 0x52 0

/-- CS_FENCE (R250, R253). -/
def execCsFence (c : CmdCtx) (kind number : Byte) (s : State) : Res :=
  done (
    let n := number.toNat
    if c.dev = .verard then s.answer c 0x52 0x10
    else if 1 < kind.toNat ∨ (kind = 0 ∧ 4 * s.nr ≤ n) ∨ (kind = 1 ∧ s.nr ≤ n) then s.answer c 0x52 0x11
    else
      s.csFence c kind number)

/-- CS_OPT (R253). -/
def execCsOpt (c : CmdCtx) (s : State) : Res :=
  done (if c.dev = .verard then s.answer c 0x53 0x10
    else s.answer c 0x53 0 (s.regBytes 0 ((List.range 16).map (fun k => 0x3040 + 4 * k))))

end Sys2Proof.Machine
end

