-- ==== Sys2Proof/Machine/Power.lean ====
section
/-! DEFINITION. The power governor (R254 to R278): activity, the energy estimate, caps and windows, bubbles, the ceiling, boost,
the floor, harmonisation and thermal protection. A power is held as its energy over one sample of 2 µs, in pJ. -/

namespace Sys2Proof.Machine

open Sys2Proof

/-- Replace the governor. -/
def State.setPg (s : State) (x : Power) : State := { s with lk := { s.lk with pg := x } }

/-- One sample, 2 µs, as a duration (R254). -/
def sampleSub : Nat := usSub 2

/-- 1/8 W over one sample, pJ. -/
def eighthW : Nat := 250000

/-- 1/64 W over one sample, pJ. -/
def w64 : Nat := 31250

/-- Leakage of one region, mW, by linear interpolation (R255); a remainder is dropped (notes/assumptions/18). -/
def leakMw (op : Nat) (temp : Int) : Nat :=
  let t := (clampInt 30 135 temp).toNat - 30
  let k := t / 15
  let lo := (Config.leakage op k).toNat
  if k = 7 then lo
  else
    let hi := (Config.leakage op (k + 1)).toNat
    (((lo : Int) * 15 + ((hi : Int) - lo) * (t % 15 : Nat)) / 15).toNat

/-- Dynamic energy of a sample, pJ (R255). -/
def State.dynEnergy (s : State) (r : Nat) : Nat :=
  let x := s.region r
  let v := s.get (R.LK_OPTi_VOLT_MV (s.get (R.LK_CS_REGr_STAT_OP r)))
  let vr := s.get R.LK_PG_MODEL_V_REF_MV
  let sum := (x.counts.map (fun e => e.2 * s.get (R.LK_PG_WEIGHTk_WEIGHT e.1))).sum
  v * v * sum / (16 * vr * vr)

/-- The fixed share of a region (R260). -/
def State.share (s : State) (r : Nat) : Nat := bits (s.get (R.LK_PG_SHAREk_SHARES (r / 4))) (8 * (r % 4)) 8

/-- Σ SHARE over the regions. -/
def State.shareSum (s : State) : Nat := (s.regionNos.map (fun r => s.share r)).sum

/-- Close the bins that have ended by now: the current one, and empty ones for a gap (R258). -/
def rollBins (bins : List Int) (cur : Int) (old new : Nat) : List Int × Int :=
  if new ≤ old then (bins, cur)
  else ((List.replicate (min 1000 (new - old - 1)) 0 ++ cur :: bins).take 1000, 0)

/-- The budget limit of a window, per sample (R258): `n` samples in the window, `left` in the current bin. -/
def windowLimit (cap n left : Nat) (cur : Int) (bins : List Int) : Int :=
  ((cap * eighthW * n : Nat) - ((bins.take 999).sum + cur) : Int) / (max 1 left : Nat)

/-- The smaller of two limits, none being unbounded. -/
def minLim (a b : Option Int) : Option Int :=
  match a, b with
  | none, b => b
  | a, none => a
  | some x, some y => some (if x ≤ y then x else y)

/-- The die limit of a sample (R258). -/
def State.dieLimit (s : State) : Option Int :=
  let p := s.lk.pg
  let c1 := s.get R.LK_PG_CAP_CAP_1S
  let c10 := s.get R.LK_PG_CAP_CAP_10S
  let m := if s.getB R.LK_PG_STAT_BOOST_OPEN then s.get R.LK_PG_CFG_BOOST_PCT else 100
  let l1 : Option Int := if c1 = 0 then none else some (c1 * eighthW * m / 100 : Nat)
  let w1 : Option Int := if c1 = 0 then none else some (windowLimit c1 500000 (500 - p.sampleNo % 500) p.cur1 p.bins1)
  let w10 : Option Int := if c10 = 0 then none else some (windowLimit c10 5000000 (5000 - p.sampleNo % 5000) p.cur10 p.bins10)
  minLim l1 (minLim w1 w10)

/-- Demanded density of R261: none of the limit's bound where it is unbounded. -/
def demandOf (eDyn n : Nat) (lim : Option Int) (leak : Nat) : Nat :=
  match lim with
  | none => 0
  | some lim =>
    if eDyn = 0 then 0
    else
      let num : Int := (eDyn * 64 : Nat) - (lim - leak) * (64 - n : Nat)
      ((num + eDyn - 1) / eDyn).toNat

/-- A region not FENCED. -/
def State.live (s : State) (r : Nat) : Bool := s.regState r != 4

/-- One region's part of a sample (R255, R260, R261, R265): its energy, its limit and its demand. -/
def State.sampleRegion (s : State) (lim : Option Int) (r : Nat) (temp : Int) : State :=
  let x := s.region r
  let leak := leakMw (s.get (R.LK_CS_REGr_STAT_OP r)) temp * 2000
  let eDyn := if s.live r then s.dynEnergy r else 0
  let sum := s.shareSum
  let lr : Option Int := lim.map (fun l => l * s.share r / (max 1 sum : Nat))
  let slope : Int := (eDyn + leak + s.get R.LK_PG_CFG_SLOPE_QW * 1000000 * s.share r / max 1 sum : Nat)
  let byslope := match lr with | none => true | some l => decide (slope < l)
  let demand := demandOf eDyn x.applied (minLim lr (some slope)) leak
  let now := s.now .lotik
  let s := s.setRegion r
    { x with counts := [], eFull := eDyn * 64 / (64 - x.applied), eLast := eDyn + leak, temp := temp,
             highSince := if s.get R.LK_PG_CFG_OPDOWN_DENSITY ≤ demand then some (x.highSince.getD now) else none,
             overSince := if 60 < demand then some (x.overSince.getD now) else none }
  let s := (s.putSat (R.LK_PG_REGr_STAT_DEMAND r) demand).putB (R.LK_PG_REGr_STAT_SLOPE r) byslope
  s.putSat (R.LK_PG_REGr_STAT_LIMIT r) (match lr with | none => 65535 | some l => l.toNat / w64)

/-- The density of a region after a sample (R261): at most 60; every region's is 60 while the die holds the floor (R268;
notes/assumptions/37). Under DETMODE it comes into force at a slot boundary (R263). -/
def State.setDensity (s : State) (r : Nat) : State :=
  let x := s.region r
  let dens := if s.getB R.LK_PG_STAT_CAP_UNREACHABLE then 60 else min (s.get (R.LK_PG_REGr_STAT_DEMAND r)) 60
  let s := s.setRegion r { x with nMax := max x.nMax dens, applied := if s.getB R.LK_DET_STAT_DETMODE then x.applied else dens }
  s.put (R.LK_PG_REGr_STAT_DENSITY r) dens

/-- Decide a new ceiling (R264): it takes effect at a hall tick at least FREQ_LEAD ahead. While one is scheduled nothing more is decided. -/
def State.decideCeil (s : State) (n : Nat) : State :=
  if s.lk.cs.sched.any (fun c => c.ceil.isSome) then s else
  let t := freeTick s.freqLead true s.lk.cs.sched s.lk.cs.sched.length (s.now .lotik + s.freqLead)
  s.schedule { tick := t, idx := none, ceil := some n }

/-- The ceiling one step lower (R264). -/
def State.lowerCeil (s : State) : State :=
  let c := min (s.get R.LK_CS_STAT_OP_CEIL) (s.get R.LK_CS_STAT_CUR_OP)
  if s.get R.LK_CS_STAT_OP_CEIL = 0 then s else s.decideCeil (c - 1)

/-- The die's unbubbled demand of the sample that ends, pJ (R266). -/
def State.unbubbled (s : State) (temp : Nat → Int) : Nat :=
  (s.regionNos.map (fun r =>
    (if s.live r then s.dynEnergy r else 0) * 64 / (64 - (s.region r).applied) +
    leakMw (s.get (R.LK_CS_REGr_STAT_OP r)) (temp r) * 2000)).sum

/-- The boost window opens or closes (R266), at a sample whose unbubbled demand is `d`; with BOOST_MS 0 it closes as it opens. -/
def State.boost (s : State) (d : Nat) : State :=
  let p := s.lk.pg
  let now := s.now .lotik
  let cap := s.get R.LK_PG_CAP_CAP_1S * eighthW
  let ms := s.get R.LK_PG_CFG_BOOST_MS
  if s.getB R.LK_PG_STAT_BOOST_OPEN then
    match p.boostAt with
    | none => s
    | some b => if b + msSub ms ≤ now ∨ d ≤ cap then s.put R.LK_PG_STAT_BOOST_OPEN 0 else s
  else
    let budget : Int := (cap * 500000 : Nat) - (p.bins1.take 999).sum
    let need : Int := (cap * (s.get R.LK_PG_CFG_BOOST_PCT - 100) / 100 * (ms * 500) : Nat)
    if cap ≠ 0 ∧ s.getB R.LK_PG_STAT_BOOST_ARMED ∧ !s.getB R.LK_PG_STAT_HINT_PENDING ∧ cap < d ∧ need ≤ budget then
      (((s.setPg { p with boostAt := some now }).putB R.LK_PG_STAT_BOOST_OPEN (ms != 0)).put R.LK_PG_STAT_BOOST_ARMED 0).put R.LK_PG_IRQ_BOOST 1
    else s

/-- The floor estimate, pJ a sample (R268): index 0 and density 60/64 in every region; the dynamic part scales with the
frequency and the square of the voltage (notes/assumptions/18). -/
def State.floorEst (s : State) : Nat :=
  (s.regionNos.map (fun r =>
    let x := s.region r
    let op := s.get (R.LK_CS_REGr_STAT_OP r)
    let v := s.get (R.LK_OPTi_VOLT_MV op)
    let v0 := s.get (R.LK_OPTi_VOLT_MV 0)
    let f := s.get (R.LK_OPTi_FREQ_MHZ op)
    let f0 := s.get (R.LK_OPTi_FREQ_MHZ 0)
    leakMw 0 x.temp * 2000 + x.eFull * f0 * v0 * v0 / (max 1 (f * v * v)) * 4 / 64)).sum

/-- The floor's entry and exit (R268). -/
def State.floorTest (s : State) (lim : Option Int) : State :=
  let p := s.lk.pg
  let now := s.now .lotik
  let fl := s.floorEst
  let short := match lim with | none => 0 | some l => ((fl : Int) - l).toNat
  let isOver := s.regionNos.any (fun r => (s.region r).overSince.isSome)
  let s := s.putSat R.LK_PG_FLOOR_FLOOR (fl / eighthW)
  if s.getB R.LK_PG_STAT_CAP_UNREACHABLE then
    let p := { p with maxShort := max p.maxShort short, calmSince := if isOver then now else p.calmSince }
    if p.calmSince + msSub 1 ≤ now then
      let s := (s.setPg { p with unreachAt := none, maxShort := 0 }).put R.LK_PG_STAT_CAP_UNREACHABLE 0
      let s := s.put R.LK_PG_FLOOR_SHORT 0
      s.logKind .lotik 0x0802 3 (leBytes 4 (min ((now - p.unreachAt.getD now) / msSub 1) (2 ^ 32 - 1)) ++
        leBytes 2 (min (p.maxShort / eighthW) 65535))
    else (s.setPg p).putSat R.LK_PG_FLOOR_SHORT (short / eighthW)
  else if s.get R.LK_CS_STAT_OP_CEIL = 0 ∧ !s.getB R.LK_CS_STAT_NEXT_VALID ∧
      s.regionNos.any (fun r => match (s.region r).overSince with | none => false | some t => decide (t + msSub 1 ≤ now)) then
    let s := s.setPg { p with unreachAt := some now, maxShort := short, calmSince := now }
    let s := ((s.put R.LK_PG_STAT_CAP_UNREACHABLE 1).put R.LK_PG_IRQ_CAP_UNREACHABLE 1).putSat R.LK_PG_FLOOR_SHORT (short / eighthW)
    s.logKind .lotik 0x0802 3 (leBytes 4 0 ++ leBytes 2 (min (short / eighthW) 65535))
  else s

/-- The ceiling's own decisions at a sample (R264). -/
def State.ceilTest (s : State) (lim : Option Int) (total : Nat) : State :=
  let now := s.now .lotik
  let p := s.lk.pg
  let allZero := s.regionNos.all (fun r => s.get (R.LK_PG_REGr_STAT_DEMAND r) == 0)
  let z : Option Nat := if allZero then some (p.zeroSince.getD now) else none
  let s := s.setPg { p with zeroSince := z, warnClear := if s.getB R.LK_PG_STAT_TWARN then now else p.warnClear }
  let down := s.regionNos.any (fun r => match (s.region r).highSince with
    | none => false
    | some t => decide (t + msSub (s.get R.LK_PG_CFG2_OPDOWN_MS) ≤ now))
  let up := msSub (s.get R.LK_PG_CFG2_OPUP_MS)
  let c := s.get R.LK_CS_STAT_OP_CEIL
  if down then s.lowerCeil
  else match z with
    | none => s
    | some t =>
      let a := s.get R.LK_CS_STAT_CUR_OP
      let f (i : Nat) := s.get (R.LK_OPTi_FREQ_MHZ i)
      let v (i : Nat) := s.get (R.LK_OPTi_VOLT_MV i)
      let fits : Bool := match lim with
        | none => true
        | some l => decide ((total * f (a + 1) * v (a + 1) * v (a + 1) * 100 : Nat) ≤ l * 90 * (f a * v a * v a : Nat))
      if c < 15 ∧ t + up ≤ now ∧ s.lk.pg.warnClear + up ≤ now ∧ !s.getB R.LK_PG_STAT_TWARN ∧ fits then s.decideCeil (c + 1) else s

/-- Ask the job root to defer the Mark of a step by `d` hall ticks in all, where this adds enough to what was asked (R270, R271). -/
def State.askDefer (s : State) (i step m d : Nat) : State :=
  let p := s.lk.pg
  let req := (p.reqs.lookup step).getD 0
  let least := s.get R.LK_PG_DEFER_CFG_DEFER_MIN
  if least ≤ d ∧ s.now .lotik + usSub 70 ≤ m ∧ req + least ≤ d then
    let r := min d (s.get R.LK_PG_DEFER_CFG_DEFER_MAX_US * 100)
    let s := s.setPg { p with reqs := (step, r) :: p.reqs.filter (fun e => e.1 != step && decide (s.lk.jobs.step.toNat < e.1)) }
    let s := (s.put R.LK_PG_IRQ_DEFER_SENT 1).bumpSat R.LK_PG_DEFER_CNT_REQUESTS
    s.sendJobUp { s.jobMsg i jkDeferReq 0 with instant := packInstant (s.wrap .lotik) m,
                                               bitmap := BitVec.ofNat 64 (r + step % 2 ^ 32 * 2 ^ 32) }
  else s

/-- Whether the slot's job is RUNNING under HARMONISE (R267, R270). -/
def State.harmonises (s : State) (i : Nat) : Bool := s.slotState i == 4 && s.getB R.LK_PG_CFG_HARMONISE

/-- The test of a sample for the next Mark (R270). -/
def State.deferRequest (s : State) : State :=
  match s.activeSlot with
  | none => s
  | some i =>
    match s.harmonises i, s.nextSched i with
    | true, some m =>
      let fp := s.get (R.LK_OPTi_FREQ_MHZ (s.run i).lastFreq)
      let fn := max 1 (s.get (R.LK_OPTi_FREQ_MHZ (s.get R.LK_CS_STAT_CUR_OP)))
      let worst := (s.regionNos.filter (fun r => s.live r)).foldl (fun n r => max n (s.get (R.LK_PG_REGr_STAT_DENSITY r))) 0
      -- sigma = fp * 64 / (fn * (64 - worst))
      let num := fp * 64
      let den := fn * (64 - worst)
      s.askDefer i (s.lk.jobs.step.toNat + 1) m (((m - s.now .lotik) * (num - den) + den * tickSub - 1) / (den * tickSub))
    | _, _ => s

/-- The lateness that a hint predicts for a step of the scheduled length `len`, in hall ticks (R267). -/
def hintLate (level len : Nat) : Nat :=
  let n := (64 * (level - 128) + level - 1) / level
  (len * n + (64 - n) * tickSub - 1) / ((64 - n) * tickSub)

/-- The hints above the cap, from the Mark that begins the step before the one hinted, once the Mark that ends that one is known (R267). -/
def State.hintRequests (s : State) : State :=
  match s.activeSlot with
  | none => s
  | some i =>
    let step := s.lk.jobs.step.toNat
    if !s.harmonises i then s else
    (s.run i).hints.foldl (fun s h =>
      if h.2 ≤ 128 ∨ h.1 < step ∨ step + 1 < h.1 then s else
      let begun := if h.1 = step then some s.lk.jobs.mark else s.schedMark i 0
      match begun, s.schedMark i (h.1 - step) with
      | some a, some m => s.askDefer i (h.1 + 1) m (hintLate h.2 (m - a))
      | _, _ => s) s

/-- The hottest sensor (R276). -/
def State.showTemp (s : State) : State :=
  let h := s.regionNos.foldl (fun h r => if (s.region h).temp < (s.region r).temp then r else h) 0
  let t := (s.region h).temp
  let s := (s.putS R.LK_PG_TEMP_TEMP_C t).put R.LK_PG_TEMP_HOT_REGION h
  if s.getS R.LK_PG_TEMP_TMAX_C < t then s.putS R.LK_PG_TEMP_TMAX_C t else s

/-- A POWER_HINT waypoint executes (R267): at most four are pending; one for a hinted step replaces the earlier, a fifth discards the oldest. -/
def State.powerHint (s : State) (i level ahead : Nat) : State :=
  let at_ := s.lk.jobs.step.toNat + ahead
  if s.get R.LK_PG_CAP_CAP_1S = 0 then s.logKind .lotik 0x0800 2 (leBytes 4 R.LK_PG_CAP_CAP_1S.off ++ leBytes 4 level)
  else
    let hs := (s.run i).hints.filter (fun h => h.1 != at_)
    let s := if 4 ≤ hs.length then s.logChange .lotik 8 R.LK_PG_STAT_HINT_PENDING else s
    let hs := (if 4 ≤ hs.length then hs.drop 1 else hs) ++ [(at_, level)]
    let s := s.setRun i { s.run i with hints := hs }
    s.putB R.LK_PG_STAT_HINT_PENDING (hs.any (fun h => decide (128 < h.2) && decide (s.lk.jobs.step.toNat < h.1)))

/-- A Mark has begun a step: hints for steps gone by end, and HINT_PENDING follows (R267). -/
def State.hintMark (s : State) (i : Nat) : State :=
  let step := s.lk.jobs.step.toNat
  let hs := (s.run i).hints.filter (fun h => decide (step ≤ h.1))
  let s := s.setRun i { s.run i with hints := hs }
  s.putB R.LK_PG_STAT_HINT_PENDING (hs.any (fun h => decide (128 < h.2) && decide (step < h.1)))

/-- Whether caps are refused: a non-zero 10 s cap above a non-zero 1 s cap (R257). -/
def capBad (c1 c10 : Nat) : Bool := c1 != 0 && c10 != 0 && decide (c1 < c10)

/-- Whether a new cap is lower; 0 is no cap (R257, R259). -/
def capLower (old new : Nat) : Bool := new != 0 && (old == 0 || decide (new < old))

/-- Clip a bin of `n` samples to a cap times its length (R259). -/
def clipBin (cap n : Nat) (e : Int) : Int := min e (cap * eighthW * n : Nat)

/-- New caps (R257, R259): a lowered cap clips the stored bins of its window, and what the bin in progress holds to the cap times
the part that has gone by, so that the past never forces the die below the new cap (DEDUCED, notes/assumptions/131). -/
def State.setCaps (s : State) (c1 c10 : Nat) : State :=
  let p := s.lk.pg
  let p := if capLower (s.get R.LK_PG_CAP_CAP_1S) c1 then
      { p with bins1 := p.bins1.map (clipBin c1 500), cur1 := clipBin c1 (p.sampleNo % 500) p.cur1 }
    else p
  let p := if capLower (s.get R.LK_PG_CAP_CAP_10S) c10 then
      { p with bins10 := p.bins10.map (clipBin c10 5000), cur10 := clipBin c10 (p.sampleNo % 5000) p.cur10 }
    else p
  ((s.setPg p).put R.LK_PG_CAP_CAP_1S c1).put R.LK_PG_CAP_CAP_10S c10

/-- A write of LK_PG_CAP (R257). -/
def State.pgCapWrite (s : State) (v : Nat) : State :=
  if capBad (bits v 0 16) (bits v 16 16) then s.put R.LK_PG_IRQ_CAP_ERR 1 else s.setCaps (bits v 0 16) (bits v 16 16)

/-- Capture a 64-bit energy counter, µJ: its _LO read takes _HI with it (R275, R276). -/
def State.capturePg (s : State) (total : Bool) : State :=
  let v := (if total then s.lk.pg.totalPj else s.lk.pg.jobPj) / 1000000
  if total then (s.put R.LK_PG_TOTAL_UJ_LO_LO v).put R.LK_PG_TOTAL_UJ_HI_HI (v / 2 ^ 32)
  else (s.put R.LK_PG_JOB_UJ_LO_LO v).put R.LK_PG_JOB_UJ_HI_HI (v / 2 ^ 32)

/-- Capture a power region block (R277). -/
def State.capturePgRegion (s : State) (r : Nat) : State :=
  let x := s.region r
  let s := (s.putSat (R.LK_PG_REGr_POWER_P_EST r) (x.eLast / w64)).putS (R.LK_PG_REGr_POWER_TEMP_C r) x.temp
  (s.put (R.LK_PG_REGr_STEP_BUBBLES_BUBBLES r) x.stepBubbles).put (R.LK_PG_REGr_LAST_BUBBLES_BUBBLES r) x.lastBubbles

end Sys2Proof.Machine
end

