-- ==== Sys2Proof/Machine/Det.lean ====
section
/-! DEFINITION. Determinism (R279 to R292, R300): Fold-128 digests, seeds, step-derived time, reset alignment. -/

namespace Sys2Proof.Machine

open Sys2Proof

/-- Replace the determinism unit. -/
def State.setDet (s : State) (x : Det) : State := { s with lk := { s.lk with det := x } }

/-- The constants of R288. -/
def k1 : BitVec 64 := 0x9E3779B97F4A7C15
def k2 : BitVec 64 := 0x8F3A61C52D97B40B
def k3 : BitVec 64 := 0x5B1DE96F0C83A427

/-- mix64 (R288). -/
def mix64 (x : BitVec 64) : BitVec 64 :=
  let x := x ^^^ (x >>> 31)
  let x := x * k2
  let x := x ^^^ (x >>> 29)
  let x := x * k3
  x ^^^ (x >>> 32)

/-- fold (R288). -/
def DigTag.fold (d : DigTag) (tag index word : BitVec 64) : DigTag :=
  let a := mix64 (word + index * k1 + tag)
  let b := mix64 (a ^^^ ((word <<< 32) ||| (word >>> 32)) ^^^ (tag * 0x10000000000#64 + index))
  { lo := d.lo + a, hi := d.hi + b, count := d.count + 1 }

/-- finish (R288): f_hi and f_lo. -/
def digFinish (tag lo hi count : BitVec 64) : BitVec 64 × BitVec 64 :=
  let flo := mix64 (lo ^^^ count)
  (mix64 (hi + flo + tag), flo)

/-- The Fold-128 digest of a tag; 0 where nothing was fed (R288). -/
def DigTag.digest (d : DigTag) (tag : Nat) : Nat :=
  if d.count = 0 then 0
  else
    let f := digFinish (BitVec.ofNat 64 tag) d.lo d.hi (d.count.zeroExtend 64)
    f.1.toNat * 2 ^ 64 + f.2.toNat

/-- One round of the seed generator (R291). -/
def seedRound (x : BitVec 64 × BitVec 64 × BitVec 64 × BitVec 64) : BitVec 64 × BitVec 64 × BitVec 64 × BitVec 64 :=
  let (x0, x1, a, b) := x
  let x0 := mix64 (x0 ^^^ a) + x1
  let x1 := mix64 (x1 + b) ^^^ x0
  (x0, x1, a + b, b + k1)

/-- The seed of a job seed, step, rank and stream (R291). -/
def seedOf (k : BitVec 128) (step : BitVec 64) (r q : BitVec 32) : BitVec 128 :=
  let start : BitVec 64 × BitVec 64 × BitVec 64 × BitVec 64 := (step, r ++ q, k.truncate 64, (k >>> 64).truncate 64)
  let x := (List.range 10).foldl (fun x _ => seedRound x) start
  x.2.1 ++ x.1

/-- A tag of an open step. -/
def DigStep.tag (x : DigStep) (t : Nat) : DigTag := smGet {} x.tags t

/-- A step closes (R289): a DIGEST entry for each tag that was fed, and the closed-step records name this step. -/
def State.closeStep (s : State) (x : DigStep) : State :=
  let s := (List.range 16).foldl (fun s t =>
    let d := x.tag t
    if d.count = 0 then s else
    s.report .lotik { kind := 0x0901, sev := 1, ua := s.ua .lotik, step := s.stepCount .lotik,
                      arg := leBytes 8 x.step.toNat ++ [BitVec.ofNat 8 t] ++ leBytes 5 d.count.toNat,
                      cont := padTo 56 (leBytes 16 (d.digest t)) }) s
  s.setDet { s.lk.det with closed := x }

/-- A new step opens at its Mark, and the step two before it closes (R289). -/
def State.openStep (s : State) (step : BitVec 64) : State :=
  let x := s.lk.det
  let s := (x.steps.drop 1).reverse.foldl (fun s d => s.closeStep d) s
  s.setDet { s.lk.det with steps := { step := step } :: x.steps.take 1 }

/-- Close every open step, the older first: at the drain (R289, R150). -/
def State.closeAll (s : State) : State :=
  let s := s.lk.det.steps.reverse.foldl (fun s d => s.closeStep d) s
  s.setDet { s.lk.det with steps := [] }

/-- Capture a closed-step record (R300). -/
def State.captureDigest (s : State) (t : Nat) : State :=
  let c := s.lk.det.closed
  let d := c.tag t
  let v := d.digest t
  let s := (List.range 4).foldl (fun s k => s.put (R.LK_DET_DIGt_Dk_D t k) (bits v (32 * k) 32)) s
  let s := (s.put (R.LK_DET_DIGt_CNT_LO_LO t) d.count.toNat).put (R.LK_DET_DIGt_CNT_HI_HI t) (d.count.toNat / 2 ^ 32)
  (s.put (R.LK_DET_DIGt_STEP_LO_LO t) c.step.toNat).put (R.LK_DET_DIGt_STEP_HI_HI t) (c.step.toNat / 2 ^ 32)

/-- A request of R290 begins: its submissions go to DIG_QUEUE. -/
def State.digStart (s : State) (tag kind : Nat) : State :=
  let s := s.setDet { s.lk.det with reqTag := tag, first := [], second := [], failed := false, left := if kind = 1 then 2 else 1 }
  let s := ((s.put R.LK_DET_DIG_REQ_TAG tag).put R.LK_DET_DIG_REQ_KIND kind).put R.LK_DET_DIG_REQ_BUSY 1
  if kind = 1 then (s.mailTo (.digest 0)).mailTo (.digest 1) else s.mailTo (.digest 2)

/-- A write of LK_DET_DIG_REQ (R290, R300): TAG and KIND are written, DONE is cleared by a 1, and GO starts unless BUSY. -/
def State.digReqWrite (s : State) (v : Nat) : State :=
  let s := if bits v 7 1 = 1 then s.put R.LK_DET_DIG_REQ_DONE 0 else s
  let s := (s.put R.LK_DET_DIG_REQ_TAG (bits v 0 4)).put R.LK_DET_DIG_REQ_KIND (bits v 4 1)
  if bits v 5 1 = 1 ∧ !s.getB R.LK_DET_DIG_REQ_BUSY then s.digStart (bits v 0 4) (bits v 4 1) else s

/-- A request of R290 ends with a RESULT code; the command that waits for it completes. -/
def State.digDone (s : State) (result : Nat) : State :=
  let s := ((s.put R.LK_DET_DIG_REQ_RESULT result).put R.LK_DET_DIG_REQ_BUSY 0).put R.LK_DET_DIG_REQ_DONE 1
  s.complete .lotik 0x62 0 0 ([BitVec.ofNat 8 result] ++ s.regBytes 0 [0x5024, 0x5028, 0x502C, 0x5030, 0x5034, 0x5038]) true

/-- A COMPARE's two results stand (R290). -/
def State.digCompare (s : State) (a body : List Byte) : State :=
    let hiEq := leAt a 8 8 == leAt body 8 8
    let loEq := leAt a 16 8 == leAt body 16 8
    if hiEq && loEq then s.digDone 2
    else
      let k := if hiEq then 4 else 0
      let s := (s.put (R.LK_DET_DIG_RESk_RES 0) (leAt a (24 + k) 4)).put (R.LK_DET_DIG_RESk_RES 1) (leAt body (24 + k) 4)
      s.digDone 3

/-- A COMBINE's sum stands (R290). -/
def State.digCombine (s : State) (body : List Byte) : State :=
    let n := leAt body 24 8
    let f := digFinish (BitVec.ofNat 64 s.lk.det.reqTag) (BitVec.ofNat 64 (leAt body 8 8)) (BitVec.ofNat 64 (leAt body 16 8)) (BitVec.ofNat 64 n)
    let v := if n = 0 then 0 else f.1.toNat * 2 ^ 64 + f.2.toNat
    let s := (List.range 4).foldl (fun s k => s.put (R.LK_DET_DIG_RESk_RES k) (bits v (32 * k) 32)) s
    let s := (s.put R.LK_DET_DIG_RES_CNT_LO_LO n).put R.LK_DET_DIG_RES_CNT_HI_HI (n / 2 ^ 32)
    s.digDone 1

/-- An operation of a request has ended (R290): stage 0 MINLOC, 1 MAXLOC, 2 SUM; `body` is the RESULT body of R231. The request ends with
its last operation. -/
def State.digEnd (s : State) (stage status : Nat) (body : List Byte) : State :=
  if !s.getB R.LK_DET_DIG_REQ_BUSY then s else
  let x := s.lk.det
  let x := { x with left := x.left - 1, failed := x.failed || status != 0,
                    first := if stage = 0 then body else x.first, second := if stage = 0 then x.second else body }
  let s := s.setDet x
  if x.left ≠ 0 then s
  else if x.failed then s.digDone 4
  else if stage = 2 then s.digCombine x.second
  else s.digCompare x.first x.second

/-- The seed a request gets, or none with NO_JOB (R292). -/
def State.seedFor (s : State) (r q : BitVec 32) (step : Option (BitVec 64)) : Option (BitVec 128) :=
  s.activeSlot.map (fun i => seedOf (s.slot i).seed (step.getD s.lk.jobs.step) r q)

/-- A GO write of LK_DET_SEED_CTRL (R292, R300). -/
def State.seedWrite (s : State) (v : Nat) : State :=
  let s := s.put R.LK_DET_SEED_CTRL_PRESENT (bits v 1 1)
  if bits v 0 1 = 0 then s else
  let step := BitVec.ofNat 64 (s.get R.LK_DET_SEED_STEP_LO_LO + s.get R.LK_DET_SEED_STEP_HI_HI * 2 ^ 32)
  let r := s.seedFor (BitVec.ofNat 32 (s.get R.LK_DET_SEED_RANK_RANK)) (BitVec.ofNat 32 (s.get R.LK_DET_SEED_STREAM_STREAM))
    (if bits v 1 1 = 1 then none else some step)
  let n := (r.getD 0).toNat
  let s := (List.range 4).foldl (fun s k => s.put (R.LK_DET_SEEDk_SEED k) (bits n (32 * k) 32)) s
  (s.put R.LK_DET_SEED_CTRL_DONE 1).putB R.LK_DET_SEED_CTRL_NO_JOB r.isNone

/-- DIG_REQ_GO (R290): a GO write of LK_DET_DIG_REQ. -/
def State.digGo (s : State) (v : Word) : State := s.digReqWrite (v.toNat ||| 32)

/-- DET_CANON as the host sees it (R284, R299): 0 without DETMODE, under it 1, or 2 where CANON_RECOVERY asks for the canonical recovery. -/
def State.showCanon (s : State) (det : Bool) : State :=
  let v := if det then (if s.getB R.LK_DET_CFG_CANON_RECOVERY then 2 else 1) else 0
  ((s.putB R.LK_DET_STAT_DETMODE det).put R.LK_DET_STAT_CANON v).emit (.pin "DET_CANON" v)

/-- DETMODE begins at the Mark that starts a job armed with it (R281): bubbles go to step-aligned slots (R263). -/
def State.detBegin (s : State) (i : Nat) : State :=
  if !(s.slot i).detmode then s else
  let s := (s.showCanon true).put R.LK_PG_STAT_DET_SLOTS 1
  s

/-- DETMODE ends with the drain (R281). -/
def State.detEnd (s : State) : State := if s.getB R.LK_DET_STAT_DETMODE then (s.showCanon false).put R.LK_PG_STAT_DET_SLOTS 0 else s

/-- Under DETMODE, frames and slots count from the region's first edge at or after the Mark; the first slot keeps the last slot's
density (R263). -/
def State.detMark (s : State) : State :=
  if !s.getB R.LK_DET_STAT_DETMODE then s
  else s.regionNos.foldl (fun s r => s.setRegion r { s.region r with frame := 0, slots := 0, nMax := 0 }) s

/-- The landing buffers there are (R240): between neighbours, as the integration fixes them (notes/assumptions/38), and those in use. -/
def State.crossingKeys (s : State) : List Nat :=
  (List.range 4096).filter (fun k => decide (k / 64 < s.nr) && decide (k % 64 < s.nr) && k / 64 != k % 64 &&
    (s.lk.cs.crossings.any (fun e => e.1 == k) || Config.adjacent (k / 64) (k % 64)))

/-- Flag the alignment missed in the active slot (R286). -/
def State.missRun (s : State) : State :=
  match s.activeSlot with
  | none => s
  | some i => s.setRun i { s.run i with alignMiss := true }

/-- The alignment is missed: flagged, counted and logged (R286). -/
def State.alignMissed (s : State) : State :=
  (((s.put R.LK_DET_STAT_ALIGN_MISS 1).bumpSat R.LK_DET_ALIGN_MISSES).missRun).logChange .lotik 9 R.LK_DET_STAT_ALIGN_MISS

/-- The alignment at the Mark (R285, R286): without ALIGN_READY there is none, and a miss not yet counted is; else the landing
buffers between regions in NORMAL or STRETCHED take two placeholders; buffers that are DECOUPLED or touch a FENCED region are skipped. -/
def State.alignMark (s : State) : State :=
  let s' := s.emit (.pin "ALIGN_REQ" 0)
  if !s.lk.det.ready then
    let s := (s'.setDet { s.lk.det with alignFor := none, missed := false }).put R.LK_DET_STAT_ALIGNED 0
    s.doIf (!s'.lk.det.missed) State.alignMissed
  else
    let now := s.now .lotik
    let known := s.crossingKeys
    let bad (k : Nat) : Bool := s.decoupled (k / 64) || s.decoupled (k % 64) || s.regState (k / 64) == 4 || s.regState (k % 64) == 4
    let ph : LandEnt := { data := none, wrAt := now, wait := 0 }
    let s := known.foldl (fun s k => if bad k then s else s.setCrossing (k / 64) (k % 64) { ents := [ph, ph], credits := 2 }) s'
    let s := s.setDet { s.lk.det with alignFor := none, ready := false }
    (s.put R.LK_DET_STAT_ALIGNED 1).put R.LK_DET_ALIGN_SKIPPED (known.filter bad).length

end Sys2Proof.Machine
end

