-- ==== Sys2Proof/Machine/SyncOps.lean ====
section
/-! DEFINITION. Sync objects (R155 to R185): operations, release passes, rounds, remote signals, save and restore, the debugger view. -/

namespace Sys2Proof.Machine

open Sys2Proof

/-- Replace the sync unit. -/
def State.setSync (s : State) (x : Sync) : State := { s with lk := { s.lk with sync := x } }

/-- A sync object. -/
def State.obj (s : State) (n : Nat) : SyncObj := smGet {} s.lk.sync.objs n

/-- Replace a sync object. -/
def State.setObj (s : State) (n : Nat) (x : SyncObj) : State :=
  s.setSync { s.lk.sync with objs := smPut {} s.lk.sync.objs n x }

/-- A flow. -/
def State.flow (s : State) (f : Nat) : Flow := smGet {} s.lk.sync.flows f

/-- Replace a flow. -/
def State.setFlow (s : State) (f : Nat) (x : Flow) : State :=
  s.setSync { s.lk.sync with flows := smPut {} s.lk.sync.flows f x }

/-- The fields of a remote-signal record (R173). -/
def recObj (r : BitVec 128) : Nat := bits r.toNat 0 14
def recArrive (r : BitVec 128) : Bool := bits r.toNat 14 1 == 1
def recAmount (r : BitVec 128) : Nat := bits r.toNat 16 16
def recFlow (r : BitVec 128) : Nat := bits r.toNat 32 12
def recSseq (r : BitVec 128) : BitVec 16 := BitVec.ofNat 16 (bits r.toNat 44 16)
def recCount (r : BitVec 128) : Nat := bits r.toNat 64 16
def recUa (r : BitVec 128) : Nat := bits r.toNat 80 20

/-- Whether a record is well formed (R173). -/
def recOk (r : BitVec 128) : Bool :=
  bits r.toNat 15 1 == 0 && bits r.toNat 60 4 == 0 && bits r.toNat 100 28 == 0 && recAmount r != 0 && recCount r != 0

/-- The words of an object's block (R182). -/
def SyncObj.cfgWord (x : SyncObj) : Nat := b2n x.enable + 2 * b2n x.sat + 4 * b2n x.link + 8 * x.queue + 2 ^ 16 * x.reload

/-- SYNC_STAT (R182). -/
def State.objStat (s : State) (n : Nat) : Nat :=
  let x := s.obj n
  x.round.toNat + 2 ^ 16 * b2n x.linkPending + 2 ^ 17 * b2n x.held + 2 ^ 18 * b2n x.satHit + 2 ^ 19 * b2n x.faulted +
  2 ^ 20 * x.lastFault + 2 ^ 24 * b2n (s.lk.sync.waiters.any (fun w => w.obj == n)) +
  2 ^ 25 * b2n (s.lk.sync.pend.any (fun p => recObj p.sig == n))

/-- Show the use of records and slots (R184). PEND_FULL stands while a refused record waits at the port
(notes/assumptions/123). -/
def State.showSync (s : State) : State :=
  let x := s.lk.sync
  let s := (s.put R.LK_SYNC_STAT_WAITERS_USED x.waiters.length).put R.LK_SYNC_STAT_PEND_USED x.pend.length
  s.put R.LK_SYNC_STAT_PEND_FULL (b2n (!x.refused.isEmpty))

/-- Whether a plain waiter's condition holds (R159). -/
def holds (w : Waiter) (x : SyncObj) : Bool :=
  match w.cmp with
  | 0 => decide (w.arg ≤ x.v)
  | 1 => decide (x.v ≤ w.arg)
  | _ =>
    let d := (x.round - BitVec.ofNat 16 w.arg).toNat
    decide (1 ≤ d) && decide (d ≤ 32767)

/-- Put a waiter into ascending CTX order. -/
def insertCtx (w : Waiter) : List Waiter → List Waiter
  | [] => [w]
  | x :: xs => if w.ctx.toNat < x.ctx.toNat then w :: x :: xs else x :: insertCtx w xs

/-- Waiters in release order (R167): registration order, or ascending CTX under DETMODE. -/
def State.releaseOrder (s : State) (ws : List Waiter) : List Waiter :=
  if s.getB R.LK_DET_STAT_DETMODE then ws.foldr insertCtx [] else ws

/-- Release a waiter (R166): its record is freed and a wake is owed. -/
def State.release (s : State) (w : Waiter) (status : Nat) : State :=
  let x := s.lk.sync
  let o := s.obj w.obj
  let due := s.now .lotik + nsSub (12 + x.wakes.length)
  s.setSync { x with waiters := x.waiters.erase w,
                     wakes := x.wakes ++ [{ due := due, status := status, obj := w.obj, round := o.round, v := o.v, ctx := w.ctx, core := w.core }] }

/-- Release every plain waiter whose condition holds, in order (R167). -/
def State.releasePlain (s : State) (n : Nat) : State :=
  (s.releaseOrder (s.lk.sync.waiters.filter (fun w => w.obj == n && !w.consume))).foldl
    (fun s w => if holds w (s.obj n) then s.release w 0 else s) s

/-- Serve consume waiters in order until one is not covered (R167); each is the object's last signaller (R180), of source `src`:
1 the sync port, or 6 a restore (R184). -/
def State.releaseConsume (s : State) (n src : Nat) : List Waiter → State
  | [] => s
  | w :: ws =>
    let x := s.obj n
    if w.arg ≤ x.v then
      let ls : LastSig := { ctx := if src = 1 then w.ctx else 0, src := src, op := 5, step := s.lk.jobs.step,
                            ticks := (s.clk .lotik).ticks }
      ((s.setObj n { x with v := x.v - w.arg, ls := ls }).release w 0).releaseConsume n src ws
    else s

/-- The release pass (R167). -/
def State.releasePass (s : State) (n : Nat) (src : Nat := 1) : State :=
  let s := s.releasePlain n
  let s := s.releaseConsume n src (s.releaseOrder (s.lk.sync.waiters.filter (fun w => w.obj == n && w.consume)))
  (s.releasePlain n).showSync

/-- A wake on the scheduler interface (R158). -/
def Wake.word (w : Wake) : Nat :=
  w.status + 2 ^ 4 * w.obj + 2 ^ 18 * w.round.toNat + 2 ^ 34 * w.v + 2 ^ 65 * w.ctx.toNat + 2 ^ 81 * w.core.toNat

/-- Deliver the wakes that are due (R161, R166). -/
def State.deliverWakes (s : State) : State :=
  let x := s.lk.sync
  if x.wakes = [] then s else
  let now := s.now .lotik
  let due := x.wakes.filter (fun w => decide (w.due ≤ now))
  let s := s.doIf (due != []) State.logicWork
  (s.setSync { x with wakes := x.wakes.filter (fun w => !decide (w.due ≤ now)) }).emits (due.map (fun w => .pin "SCHED_EVT_WAKE" w.word))

/-- The Log ARG of an operation (R162). -/
def SyncOp.arg16 (o : SyncOp) (v : Nat) : List Byte :=
  leBytes 2 o.obj ++ [BitVec.ofNat 8 o.src, BitVec.ofNat 8 o.op] ++
  leBytes 2 (if o.src = 1 then o.ctx.toNat else if o.src = 3 then o.flow else 0) ++ leBytes 4 o.arg ++ leBytes 4 v ++ [0, 0]

/-- A sync Log entry (R162). -/
def State.logSync (s : State) (o : SyncOp) (kind sev v : Nat) : State :=
  s.report .lotik { kind := kind, sev := sev, ua := if o.src = 3 ∨ o.src = 4 then o.ua else s.ua .lotik,
                    step := s.stepCount .lotik, arg := o.arg16 v }

/-- A strict operation is rejected (R162). -/
def State.syncFault (s : State) (o : SyncOp) (code kind : Nat) (irq : Field) : State :=
  let x := s.obj o.obj
  let s := s.setObj o.obj { x with faulted := true, lastFault := code }
  let s := ((s.put R.LK_SYNC_FAULT_OBJECT o.obj).put R.LK_SYNC_FAULT_CODE code).put irq 1
  s.logSync o kind 4 x.v

/-- Record the last signaller (R180). -/
def State.signedBy (s : State) (o : SyncOp) : State :=
  let x := s.obj o.obj
  s.setObj o.obj { x with ls := { ctx := if o.src = 1 then o.ctx else 0, src := o.src, op := o.op,
                                  ua := if o.src = 3 ∨ o.src = 4 then o.ua else 0, flow := if o.src = 3 then o.flow else 0,
                                  step := s.lk.jobs.step, ticks := (s.clk .lotik).ticks } }

/-- The greatest value an object holds (R156). -/
def vMax : Nat := 2 ^ 31 - 1

/-- A round ends at an object whose V has come to 0 (R170, R171). -/
def State.roundEnd (s : State) (n : Nat) : State :=
  let x := s.obj n
  if !x.link then s.setObj n { x with v := x.reload, round := x.round + 1 }
  else if x.linkPending then s.setObj n { x with v := 0, held := true }
  else (s.setObj n { x with v := x.reload, linkPending := true }).mailTo (.link n x.queue)

/-- SIGNAL (R159, R162, R163). -/
def State.doSignal (s : State) (o : SyncOp) : State × Nat :=
  let x := s.obj o.obj
  let v := x.v + o.arg
  if v ≤ vMax then (((s.setObj o.obj { x with v := v }).signedBy o).releasePass o.obj, 0)
  else if x.sat then
    let s := ((s.setObj o.obj { x with v := vMax, satHit := true }).signedBy o).put R.LK_SYNC_IRQ_SATURATED 1
    ((s.logSync o 0x0503 3 x.v).releasePass o.obj, 4)
  else (s.syncFault o 3 0x0502 R.LK_SYNC_IRQ_OVERFLOW, 3)

/-- ARRIVE (R159, R162, R163, R169 to R172). -/
def State.doArrive (s : State) (o : SyncOp) : State × Nat :=
  let x := s.obj o.obj
  if x.held then ((s.put R.LK_SYNC_IRQ_AHEAD 1).logSync o 0x0504 4 x.v, 6)
  else if x.v < o.arg ∧ !x.sat then (s.syncFault o 2 0x0501 R.LK_SYNC_IRQ_UNDERFLOW, 2)
  else
    let clamp := decide (x.v < o.arg)
    let v := x.v - o.arg
    let s := (s.setObj o.obj { x with v := v, satHit := x.satHit || clamp }).signedBy o
    let s := if clamp then (s.put R.LK_SYNC_IRQ_SATURATED 1).logSync o 0x0503 3 x.v else s
    let s := if v = 0 ∧ x.reload ≠ 0 then s.roundEnd o.obj else s
    (s.releasePass o.obj, if clamp then 4 else 0)

/-- RESET (R159). -/
def State.doReset (s : State) (o : SyncOp) : State × Nat :=
  let x := s.obj o.obj
  if x.linkPending then (s, 9) else (((s.setObj o.obj { x with v := o.arg }).signedBy o).releasePass o.obj, 0)

/-- Register a waiter, where a record is free (R164). -/
def State.registerWait (s : State) (o : SyncOp) (consume : Bool) : State × Nat :=
  if 4096 ≤ s.lk.sync.waiters.length then (s.put R.LK_SYNC_IRQ_WAITER_FULL 1, 7)
  else
    let w : Waiter := { obj := o.obj, ctx := o.ctx, core := o.core, consume := consume, cmp := o.cmp, arg := o.arg }
    ((s.setSync { s.lk.sync with waiters := s.lk.sync.waiters ++ [w] }).showSync, 1)

/-- WAIT (R159, R164, R165). -/
def State.doWait (s : State) (o : SyncOp) : State × Nat :=
  let w : Waiter := { obj := o.obj, ctx := o.ctx, core := o.core, consume := false, cmp := o.cmp, arg := o.arg }
  if holds w (s.obj o.obj) then (s, 0) else s.registerWait o false

/-- WAIT_CONSUME (R160). -/
def State.doConsume (s : State) (o : SyncOp) : State × Nat :=
  let x := s.obj o.obj
  if o.arg ≤ x.v ∧ !s.lk.sync.waiters.any (fun w => w.obj == o.obj && w.consume) then
    (((s.setObj o.obj { x with v := x.v - o.arg }).signedBy o).releasePass o.obj, 0)
  else s.registerWait o true

/-- CANCEL (R159, R166). -/
def State.doCancel (s : State) (o : SyncOp) : State × Nat :=
  match s.lk.sync.waiters.find? (fun w => w.obj == o.obj && w.ctx == o.ctx) with
  | some w => ((s.release w 10).showSync, 10)
  | none => (s, if s.lk.sync.wakes.any (fun w => w.obj == o.obj && w.ctx == o.ctx && w.status != 10) then 11 else 8)

/-- Whether an operation's code and argument are in their ranges (R158, R159). -/
def SyncOp.ok (o : SyncOp) : Bool :=
  match o.op with
  | 0 | 1 => decide (1 ≤ o.arg) && decide (o.arg ≤ 65535)
  | 2 => decide (o.arg ≤ vMax)
  | 3 | 6 => o.arg == 0
  | 4 => decide (o.cmp ≤ 2) && decide (o.arg ≤ if o.cmp = 2 then 65535 else vMax)
  | 5 => decide (1 ≤ o.arg) && decide (o.arg ≤ vMax)
  | _ => false

/-- Apply an operation to its object: the new state and the operation status (R158, R159). -/
def State.applyOp (s : State) (o : SyncOp) : State × Nat :=
  if !o.ok then (s, 8)
  else if o.op = 3 then (s, 0)
  else if !(s.obj o.obj).enable then (s, 5)
  else if (o.op = 4 ∨ o.op = 5) ∧ s.lk.sync.waiters.any (fun w => w.ctx == o.ctx) then (s, 8)
  else match o.op with
    | 0 => s.doSignal o
    | 1 => s.doArrive o
    | 2 => s.doReset o
    | 4 => s.doWait o
    | 5 => s.doConsume o
    | _ => s.doCancel o

/-- Answer an operation at its source (R158, R183, R185). -/
def State.syncReply (s : State) (o : SyncOp) (st : Nat) : State :=
  let x := s.obj o.obj
  match o.src with
  | 1 => s.emit (.pin "SYNC_RSP" (st + 2 ^ 4 * o.obj + 2 ^ 18 * x.round.toNat + 2 ^ 34 * x.v + 2 ^ 65 * o.ctx.toNat + 2 ^ 81 * o.core.toNat))
  | 2 => ((s.put R.LK_SYNC_OPRES_STATUS st).put R.LK_SYNC_OPRES_OBJECT o.obj).put R.LK_SYNC_OPVAL_VALUE x.v
  | 4 => match o.cmd with
    | none => s
    | some c => (s.answer c 0x31 0 ([BitVec.ofNat 8 st] ++ leBytes 4 x.v ++ leBytes 2 x.round.toNat)).logCommand c 0x31 0
  | _ => s

/-- Whether a save holds an object or flow (R177). -/
def State.objHeld (s : State) (n : Nat) : Bool :=
  let r := s.lk.sync.saveRange
  s.lk.sync.saving.isSome && decide (r.1 ≤ n) && decide (n < r.1 + r.2.1)

/-- Whether a save holds a flow. -/
def State.flowHeld (s : State) (f : Nat) : Bool :=
  let r := s.lk.sync.saveRange
  s.lk.sync.saving.isSome && decide (r.2.2.1 ≤ f) && decide (f < r.2.2.1 + r.2.2.2)

/-- Hold a request back until the save or restore has ended. -/
def State.holdReq (s : State) (h : SyncHeld) : State := s.setSync { s.lk.sync with heldOps := s.lk.sync.heldOps ++ [h] }

/-- An operation reaches its object, or is held by a save (R177). -/
def State.syncOp (s : State) (o : SyncOp) : State :=
  let s := s.deliverWakes
  if s.objHeld o.obj then s.holdReq (.op o)
  else
    let q := s.applyOp o
    let s := q.1
    let st := q.2
    s.syncReply o st

/-- An operation from the host's sync port (R158). -/
def State.portOp (s : State) (o : SyncOp) : State := s.atPort (·.syncOp o)

/-- A write of SYNC_OP (R182): codes 3 to 7 give BAD_OP. -/
def State.syncOpWrite (s : State) (n v : Nat) : State :=
  s.syncOp { src := 2, op := if bits v 0 3 ≤ 2 then bits v 0 3 else 7, obj := n, arg := bits v 16 16 }

/-- A write of SYNC_CFG (R183): it takes effect only on an object that nothing uses. -/
def State.syncCfgWrite (s : State) (n v : Nat) : State :=
  let x := s.obj n
  let busy := x.linkPending || s.lk.sync.waiters.any (fun w => w.obj == n) || s.lk.sync.pend.any (fun p => recObj p.sig == n)
  let s := if busy then s else
    s.setObj n { x with enable := bits v 0 1 == 1, sat := bits v 1 1 == 1, link := bits v 2 1 == 1, queue := bits v 3 12, reload := bits v 16 16 }
  ((s.put R.LK_SYNC_OPRES_STATUS (if busy then 9 else 0)).put R.LK_SYNC_OPRES_OBJECT n).put R.LK_SYNC_OPVAL_VALUE x.v

/-- A write of SYNC_STAT clears SAT_HIT and FAULTED where it holds 1 (R182). -/
def State.syncStatWrite (s : State) (n v : Nat) : State :=
  let x := s.obj n
  s.setObj n { x with satHit := x.satHit && bits v 18 1 == 0, faulted := x.faulted && bits v 19 1 == 0 }

-- Linked rounds (R171, R172).

/-- A linked object's group barrier has ended. -/
def State.linkEnd (s : State) (n status : Nat) : State :=
  let x := s.obj n
  if !x.linkPending then s
  else if status = 0 then
    let ls : LastSig := { src := 5, op := 1, step := s.lk.jobs.step, ticks := (s.clk .lotik).ticks }
    let s := (s.setObj n { x with round := x.round + 1, linkPending := false, ls := ls }).releasePass n
    if x.held then
      let y := s.obj n
      (s.setObj n { y with v := y.reload, linkPending := true, held := false }).mailTo (.link n y.queue)
    else s
  else
    let s := s.setObj n { x with linkPending := false, held := false, v := x.reload, lastFault := 12 }
    let ws := s.releaseOrder (s.lk.sync.waiters.filter (fun w => w.obj == n && !w.consume && w.cmp == 2))
    let s := (ws.foldl (fun s w => s.release w 12) s).showSync
    let s := ((s.put R.LK_SYNC_FAULT_OBJECT n).put R.LK_SYNC_FAULT_CODE 12).put R.LK_SYNC_IRQ_LINK_FAULT 1
    s.report .lotik { kind := 0x0500, sev := 4, ua := s.ua .lotik, step := s.stepCount .lotik,
                      arg := leBytes 4 (0x40008 + n * 0x10) ++ leBytes 4 (s.objStat n) }

-- Remote signals (R173 to R176).

/-- An entry that carries a record (R173). -/
def State.logRec (s : State) (kind sev : Nat) (r : BitVec 128) : State :=
  s.report .lotik { kind := kind, sev := sev, ua := recUa r, step := s.stepCount .lotik, arg := leBytes 16 r.toNat }

/-- The operation a record asks for (R175). -/
def recOp (r : BitVec 128) : SyncOp :=
  { src := 3, op := b2n (recArrive r), obj := recObj r, arg := recAmount r, ua := recUa r, flow := recFlow r }

/-- Whether a sequenced signal's data has landed (R175). -/
def landed (f : Flow) (cover : BitVec 32) : Bool := decide ((f.landed - cover).toNat < 2 ^ 31)

/-- The earliest sequenced signal of a flow that waits. -/
def firstPend (f : Nat) : List PendSlot → Option PendSlot
  | [] => none
  | p :: ps =>
    match firstPend f ps with
    | none => if recFlow p.sig = f ∧ p.order ≠ 0 then some p else none
    | some q => if recFlow p.sig = f ∧ p.order ≠ 0 ∧ p.order < q.order then some p else some q

/-- Apply a flow's signals in order, while their data has landed (R175); at most one for each slot. -/
def State.applyFlow (s : State) (f : Nat) : Nat → State
  | 0 => s
  | n + 1 =>
    match firstPend f s.lk.sync.pend with
    | none => s
    | some p =>
      if landed (s.flow f) p.cover && !s.objHeld (recObj p.sig) then
        let s := s.setSync { s.lk.sync with pend := s.lk.sync.pend.erase p }
        (s.applyOp (recOp p.sig)).1.applyFlow f n
      else s

/-- Sequence the signals of a flow that have become next, in SSEQ order (R175). -/
def State.sequence (s : State) (f : Nat) : Nat → State
  | 0 => s
  | n + 1 =>
    let x := s.flow f
    match s.lk.sync.pend.find? (fun p => recFlow p.sig == f && p.order == 0 && recSseq p.sig == x.next) with
    | none => s
    | some p =>
      let cover := x.signalled + BitVec.ofNat 32 (recCount p.sig)
      let s := s.setFlow f { x with signalled := cover, next := x.next + 1, seqd := x.seqd + 1 }
      let ps := s.lk.sync.pend.map (fun q => if q = p then { q with cover := cover, order := x.seqd + 1 } else q)
      (s.setSync { s.lk.sync with pend := ps }).sequence f n

/-- A record is refused for want of a slot (R176): the host network interface holds it and offers it again as soon as it may enter
(notes/assumptions/123). -/
def State.refuseRec (s : State) (r : BitVec 128) : State :=
  s.setSync { s.lk.sync with refused := s.lk.sync.refused ++ [r] }

/-- The lowest free pending slot among the first `n` (R176). -/
def State.freePend (s : State) (n : Nat) : Option Nat :=
  (List.range n).find? (fun k => !s.lk.sync.pend.any (fun p => p.place == k))

/-- How far a record's SSEQ lies past its flow's NEXT (R175). -/
def State.recAhead (s : State) (r : BitVec 128) : Nat := (recSseq r - (s.flow (recFlow r)).next).toNat

/-- Whether an in-order record is applied at once: its data has landed and nothing of its flow waits before it (R175). -/
def State.appliesNow (s : State) (r : BitVec 128) : Bool :=
  let x := s.flow (recFlow r)
  landed x (x.signalled + BitVec.ofNat 32 (recCount r)) && (firstPend (recFlow r) s.lk.sync.pend).isNone && !s.objHeld (recObj r)

/-- Whether a signal of the record's flow and SSEQ already waits to be sequenced (R175). -/
def State.recWaits (s : State) (r : BitVec 128) : Bool :=
  s.lk.sync.pend.any (fun p => recFlow p.sig == recFlow r && p.order == 0 && recSseq p.sig == recSseq r)

/-- Whether the port refuses a record: it needs a slot, and none that it may use is free (R176). -/
def State.noSlot (s : State) (r : BitVec 128) : Bool :=
  recOk r &&
  if s.recAhead r = 0 then !s.appliesNow r && (s.freePend 1024).isNone
  else decide (s.recAhead r ≤ 1023) && !s.recWaits r && (s.freePend 1008).isNone

/-- A record that is not refused enters (R175, R176). -/
def State.enterRecord (s : State) (r : BitVec 128) : State :=
  if !recOk r then s.logRec 0x0505 4 r
  else
    let f := recFlow r
    let x := s.flow f
    let d := s.recAhead r
    let slot : PendSlot := { sig := r, ticks := (s.clk .lotik).ticks, since := s.now .lotik }
    if d = 0 then
      let cover := x.signalled + BitVec.ofNat 32 (recCount r)
      let now := s.appliesNow r
      let place := (s.freePend 1024).getD 0
      let s := s.setFlow f { x with signalled := cover, next := x.next + 1, seqd := x.seqd + 1 }
      let s := if now then (s.applyOp (recOp r)).1
        else s.setSync { s.lk.sync with pend := s.lk.sync.pend ++ [{ slot with place := place, cover := cover, order := x.seqd + 1 }] }
      (s.sequence f 1024).applyFlow f 1024
    else if d ≤ 1023 then
      if s.recWaits r then s.logRec 0x0506 3 r
      else s.setSync { s.lk.sync with pend := s.lk.sync.pend ++ [{ slot with place := (s.freePend 1008).getD 0 }] }
    else if 32768 ≤ d then s.logRec 0x0506 3 r
    else s.logRec 0x0507 4 r

/-- The records that the network interface holds enter as soon as they may, oldest first (R176). -/
def State.reoffer (s : State) : Nat → State
  | 0 => s
  | n + 1 =>
    if s.lk.hostDown then s else
    match s.lk.sync.refused.find? (fun r => !s.noSlot r && !s.flowHeld (recFlow r)) with
    | none => s
    | some r => ((s.setSync { s.lk.sync with refused := s.lk.sync.refused.erase r }).enterRecord r).reoffer n

/-- After slots may have come free: the refused records are offered again, and the use of the slots is shown. -/
def State.slotsMoved (s : State) : State := (s.reoffer s.lk.sync.refused.length).showSync

/-- A record is offered at the port (R175, R176). -/
def State.takeRecord (s : State) (r : BitVec 128) : State :=
  (if s.noSlot r then s.refuseRec r else s.enterRecord r).slotsMoved

/-- A feed beat (R174, R175). -/
def State.takeFeed (s : State) (f n : Nat) : State :=
  let x := s.flow f
  ((s.setFlow f { x with landed := x.landed + BitVec.ofNat 32 n }).applyFlow f 1024).slotsMoved

/-- Reset a flow (R176): the count of its slots discarded stands in the second component. -/
def State.flowReset (s : State) (f : Nat) : State × Nat :=
  let gone := s.lk.sync.pend.filter (fun p => recFlow p.sig == f)
  let s := (s.setFlow f {}).setSync { (s.setFlow f {}).lk.sync with pend := s.lk.sync.pend.filter (fun p => recFlow p.sig != f) }
  ((gone.foldl (fun s p => s.logRec 0x050A 2 p.sig) s).slotsMoved, gone.length)

/-- A write of LK_SYNC_FLOW (R176, R184). -/
def State.flowWrite (s : State) (v : Nat) : State :=
  let s := s.put R.LK_SYNC_FLOW_FLOW (bits v 0 12)
  if bits v 12 1 = 1 then (s.flowReset (bits v 0 12)).1 else s

-- Save and restore (R177 to R179).

/-- A last-signaller record's words (R179, R184). -/
def LastSig.who (l : LastSig) : Nat := l.ctx.toNat + 2 ^ 16 * l.src + 2 ^ 19 * l.op
def LastSig.uaWord (l : LastSig) : Nat := l.ua + 2 ^ 20 * l.flow

/-- An object record (R179). -/
def State.objRecord (s : State) (n : Nat) : List Byte :=
  let x := s.obj n
  padTo 48 (leBytes 4 x.v ++ leBytes 4 x.cfgWord ++ leBytes 4 (s.objStat n) ++ leBytes 4 x.ls.who ++ leBytes 4 x.ls.uaWord ++
    leBytes 8 x.ls.step.toNat ++ leBytes 8 x.ls.ticks.toNat)

/-- A waiter record (R179). -/
def Waiter.bytes (w : Waiter) (rank : Nat) : List Byte :=
  leBytes 2 w.obj ++ leBytes 2 w.ctx.toNat ++ [w.core, BitVec.ofNat 8 (b2n w.consume + 2 * w.cmp)] ++ leBytes 2 rank ++ leBytes 4 w.arg ++ leBytes 4 0

/-- The waiter records of an object, in registration order. -/
def State.objWaiters (s : State) (n : Nat) : List Byte :=
  (s.lk.sync.waiters.filter (fun w => w.obj == n)).zipIdx.flatMap (fun x => x.1.bytes x.2)

/-- A pending record (R179). -/
def PendSlot.bytes (p : PendSlot) : List Byte :=
  leBytes 16 p.sig.toNat ++ leBytes 4 (if p.order = 0 then 0 else p.cover.toNat) ++
  [BitVec.ofNat 8 (b2n (p.order != 0) + 2 * b2n p.stale), 0, 0, 0] ++ leBytes 8 p.ticks.toNat

/-- A flow record (R179). -/
def State.flowRecord (s : State) (f : Nat) : List Byte :=
  let x := s.flow f
  leBytes 2 f ++ leBytes 2 x.next.toNat ++ leBytes 4 x.landed.toNat ++ leBytes 4 x.signalled.toNat ++ leBytes 4 0

/-- The save image (R179). -/
def State.saveImage (s : State) (first count ff fc : Nat) : List Byte :=
  let objs := (List.range count).map (· + first)
  let inR (n : Nat) : Bool := decide (first ≤ n) && decide (n < first + count)
  let ws := objs.flatMap (fun n => s.objWaiters n)
  let ps := (s.lk.sync.pend.filter (fun p => inR (recObj p.sig))).flatMap (·.bytes)
  let body := objs.flatMap (fun n => s.objRecord n) ++ ws ++ ps ++ ((List.range fc).map (· + ff)).flatMap (fun f => s.flowRecord f)
  let hdr := leBytes 2 1 ++ leBytes 2 first ++ leBytes 2 count ++ leBytes 2 (ws.length / 16) ++ leBytes 2 (ps.length / 32) ++
    leBytes 2 ff ++ leBytes 2 fc ++ leBytes 2 (s.get R.LK_DET_STAT_DETMODE) ++ leBytes 8 s.lk.jobs.step.toNat ++
    packedBytes (s.wrap .lotik) (s.now .lotik) ++ leBytes 4 (64 + body.length)
  let hdr := padTo 60 hdr
  hdr ++ leBytes 4 (crc32 (hdr ++ body)) ++ body

/-- The image address (R184). -/
def State.saveBase (s : State) : Nat := s.get R.LK_SYNC_SAVE_LO_BASE_LO * 64 + s.get R.LK_SYNC_SAVE_HI_BASE_HI * 2 ^ 32

/-- A save or restore ends with a RESULT (R184, R185); SAVE_LEN changes only where an image was written or read
(notes/assumptions/124). -/
def State.saveEnd (s : State) (restore : Bool) (result : Nat) (len : Option Nat) : State :=
  let s := ((s.put R.LK_SYNC_SAVE_CTRL_BUSY 0).put R.LK_SYNC_SAVE_CTRL_DONE 1).put R.LK_SYNC_SAVE_CTRL_RESULT result
  let s := s.put R.LK_SYNC_IRQ_SAVE_DONE 1
  let s := match len with
    | some n => s.put R.LK_SYNC_SAVE_LEN_BYTES n
    | none => s
  s.complete .lotik (if restore then 0x34 else 0x33) 0 0 ([BitVec.ofNat 8 result] ++ leBytes 4 (len.getD 0)) true

/-- Whether a range is bad (R184). -/
def rangeBad (first count ff fc : Nat) : Bool :=
  count == 0 || decide (16384 < first + count) || decide (4096 < ff + fc)

/-- A save of a range to an address begins (R177). -/
def State.saveStart (s : State) (base first count ff fc : Nat) : State :=
  if rangeBad first count ff fc then s.saveEnd false 6 none
  else if ((List.range count).map (· + first)).any (fun n => (s.obj n).linkPending || (s.obj n).held) then s.saveEnd false 2 none
  else
    let img := s.saveImage first count ff fc
    let s := s.setSync { s.lk.sync with saving := some false, saveRange := (first, count, ff, fc), saveAt := base, saveLen := img.length }
    (s.put R.LK_SYNC_SAVE_CTRL_BUSY 1).emit (.hostWrite .lotik base img)

/-- A restore from an address begins (R178): the image's header is read, whose LEN says how much follows it. -/
def State.restoreStart (s : State) (base : Nat) : State :=
  let s := s.setSync { s.lk.sync with saving := some true, saveRange := (0, 0, 0, 0), saveAt := base }
  (s.put R.LK_SYNC_SAVE_CTRL_BUSY 1).emit (.hostRead .lotik base 64)

/-- The part of the image after its header is read (R178). -/
def State.restoreBody (s : State) (img : List Byte) : State :=
  if 64 < leAt img 36 4 then s.emit (.hostRead .lotik (s.lk.sync.saveAt + 64) (leAt img 36 4 - 64)) else s

/-- The save that the registers name (R184). -/
def State.saveByRegs (s : State) : State :=
  s.saveStart s.saveBase (s.get R.LK_SYNC_SAVE_RANGE_FIRST) (s.get R.LK_SYNC_SAVE_RANGE_COUNT)
    (s.get R.LK_SYNC_SAVE_FLOWS_FLOW_FIRST) (s.get R.LK_SYNC_SAVE_FLOWS_FLOW_COUNT)

/-- A write of LK_SYNC_SAVE_CTRL (R177, R178, R184). -/
def State.saveCtrl (s : State) (v : Nat) : State :=
  let s := if bits v 3 1 = 1 then s.put R.LK_SYNC_SAVE_CTRL_DONE 0 else s
  if s.getB R.LK_SYNC_SAVE_CTRL_BUSY then s
  else if bits v 0 1 = 1 then s.saveByRegs
  else if bits v 1 1 = 1 then s.restoreStart s.saveBase
  else s

/-- Apply what a save or restore has held, in order (R177). -/
def State.applyHeld (s : State) : State :=
  let hs := s.lk.sync.heldOps
  let s := s.logicWork.setSync { s.lk.sync with heldOps := [], saving := none, saveRange := (0, 0, 0, 0) }
  let s := hs.foldl (fun s h => match h with
    | .op o => s.syncOp o
    | .feed f n => s.takeFeed f n
    | .record r => s.takeRecord r) s
  ((s.lk.sync.flows.map (·.1)).foldl (fun s f => s.applyFlow f 1024) s).slotsMoved

/-- Load one object record (R178, R179). -/
def State.loadObj (s : State) (n : Nat) (r : List Byte) : State :=
  let cfg := leAt r 4 4
  let st := leAt r 8 4
  let who := leAt r 12 4
  let ua := leAt r 16 4
  s.setObj n
    { v := leAt r 0 4 % 2 ^ 31, enable := bits cfg 0 1 == 1, sat := bits cfg 1 1 == 1, link := bits cfg 2 1 == 1, queue := bits cfg 3 12,
      reload := bits cfg 16 16, round := BitVec.ofNat 16 (bits st 0 16), linkPending := bits st 16 1 == 1, held := bits st 17 1 == 1,
      satHit := bits st 18 1 == 1, faulted := bits st 19 1 == 1, lastFault := bits st 20 4,
      ls := { ctx := BitVec.ofNat 16 (bits who 0 16), src := bits who 16 3, op := bits who 19 3, ua := bits ua 0 20, flow := bits ua 20 12,
              step := BitVec.ofNat 64 (leAt r 20 8), ticks := BitVec.ofNat 64 (leAt r 28 8) } }

/-- A waiter record read back. -/
def readWaiter (r : List Byte) : Waiter :=
  let k := leAt r 5 1
  { obj := leAt r 0 2, ctx := BitVec.ofNat 16 (leAt r 2 2), core := BitVec.ofNat 8 (leAt r 4 1), consume := bits k 0 1 == 1,
    cmp := bits k 1 2, arg := leAt r 8 4 }

/-- Put a waiter record into the order of the saved ranks (R178, R179). -/
def insertRank (r : List Byte) : List (List Byte) → List (List Byte)
  | [] => [r]
  | x :: xs => if leAt r 6 2 < leAt x 6 2 then r :: x :: xs else x :: insertRank r xs

/-- A pending record read back; `renumber` gives a sequenced signal its place in its flow's order. -/
def readPend (now : Nat) (r : List Byte) : PendSlot :=
  let k := leAt r 20 1
  { sig := BitVec.ofNat 128 (leAt r 0 16), cover := BitVec.ofNat 32 (leAt r 16 4), order := if bits k 0 1 = 1 then 1 else 0,
    stale := bits k 1 1 == 1, ticks := BitVec.ofNat 64 (leAt r 24 8), since := now }

/-- Sequenced signals take their places by SSEQ: the further behind NEXT, the earlier (R175, R178). -/
def State.renumber (s : State) : State :=
  let place (p : PendSlot) : PendSlot :=
    if p.order = 0 then p else { p with order := 65536 - ((s.flow (recFlow p.sig)).next - recSseq p.sig).toNat }
  let ps := s.lk.sync.pend.map place
  (s.setSync { s.lk.sync with pend := ps, flows := s.lk.sync.flows.map (fun x => (x.1, { x.2 with seqd := 65536 })) })

/-- The free pending slots among the first `n`, lowest first. -/
def State.freeSlots (s : State) (n : Nat) : List Nat :=
  (List.range n).filter (fun k => !s.lk.sync.pend.any (fun p => p.place == k))

/-- Give restored signals their slots (R176): those not yet sequenced from `early`, the others from `rest`. -/
def placeSlots : List Nat → List Nat → List PendSlot → List PendSlot
  | _, _, [] => []
  | early, rest, p :: ps =>
    if p.order = 0 then { p with place := early.headD 0 } :: placeSlots early.tail rest ps
    else { p with place := rest.headD 0 } :: placeSlots early rest.tail ps

/-- Place restored signals into free slots, lowest first, those that only the first 1,008 may hold before the others (R176). -/
def State.placePend (s : State) (ps : List PendSlot) : State :=
  let early := (s.freeSlots 1008).take (ps.filter (fun p => p.order == 0)).length
  let rest := (s.freeSlots 1024).filter (fun k => !early.contains k)
  s.setSync { s.lk.sync with pend := s.lk.sync.pend ++ placeSlots early rest ps }

/-- Load a checked image (R178): objects, waiters, pending slots and flows, then a release pass on each object. -/
def State.loadImage (s : State) (img : List Byte) : State :=
  let first := leAt img 2 2
  let count := leAt img 4 2
  let nw := leAt img 6 2
  let np := leAt img 8 2
  let fc := leAt img 12 2
  let wAt := 64 + 48 * count
  let pAt := wAt + 16 * nw
  let fAt := pAt + 32 * np
  let s := (List.range count).foldl (fun s k => s.loadObj (first + k) ((img.drop (64 + 48 * k)).take 48)) s
  let ws := ((List.range nw).map (fun k => (img.drop (wAt + 16 * k)).take 16)).reverse.foldr insertRank []
  let ps := (List.range np).map (fun k => readPend (s.now .lotik) ((img.drop (pAt + 32 * k)).take 32))
  let s := (s.setSync { s.lk.sync with waiters := s.lk.sync.waiters ++ ws.map readWaiter }).placePend ps
  let s := (List.range fc).foldl (fun s k =>
    let r := (img.drop (fAt + 16 * k)).take 16
    s.setFlow (leAt r 0 2) { next := BitVec.ofNat 16 (leAt r 2 2), landed := BitVec.ofNat 32 (leAt r 4 4),
                             signalled := BitVec.ofNat 32 (leAt r 8 4) }) s
  ((List.range count).foldl (fun s k => s.releasePass (first + k) 6) s.renumber).showSync

/-- How many of an image's pending signals are not yet sequenced: these fit in the first 1,008 slots alone (R176, R178). -/
def State.imageEarly (s : State) (img : List Byte) : Nat :=
  let pAt := 64 + 48 * leAt img 4 2 + 16 * leAt img 6 2
  (((List.range (leAt img 8 2)).map (fun k => readPend (s.now .lotik) ((img.drop (pAt + 32 * k)).take 32))).filter (fun p => p.order == 0)).length

/-- Why an image is refused (R178): 0 where it is not. -/
def State.imageResult (s : State) (img : List Byte) : Nat :=
  let first := leAt img 2 2
  let count := leAt img 4 2
  let nw := leAt img 6 2
  let np := leAt img 8 2
  let ff := leAt img 10 2
  let fc := leAt img 12 2
  let objs := (List.range count).map (· + first)
  if leAt img 0 2 ≠ 1 ∨ img.length ≠ leAt img 36 4 ∨ img.length ≠ 64 + 48 * count + 16 * nw + 32 * np + 16 * fc ∨
      leAt img 60 4 ≠ crc32 (img.take 60 ++ img.drop 64) then 3
  else if rangeBad first count ff fc then 6
  else if objs.any (fun n => (s.obj n).enable || s.lk.sync.waiters.any (fun w => w.obj == n) || s.lk.sync.pend.any (fun p => recObj p.sig == n)) ||
      s.lk.sync.pend.any (fun p => decide (ff ≤ recFlow p.sig) && decide (recFlow p.sig < ff + fc)) then 2
  else if 4096 < s.lk.sync.waiters.length + nw ∨ 1024 < s.lk.sync.pend.length + np ∨ (s.freeSlots 1008).length < s.imageEarly img then 4
  else 0

-- The debugger view (R180, R184).

/-- Capture an object's view. -/
def State.dbgCapture (s : State) (n : Nat) : State :=
  let x := s.obj n
  let ws := s.lk.sync.waiters.filter (fun w => w.obj == n)
  let ps := s.lk.sync.pend.filter (fun p => recObj p.sig == n)
  let s := s.put R.LK_SYNC_DBG_SEL_OBJECT n
  let s := ((s.put R.LK_SYNC_DBG_VALUE_VALUE x.v).put R.LK_SYNC_DBG_CFG_CFG x.cfgWord).put R.LK_SYNC_DBG_STAT_STAT (s.objStat n)
  let s := (s.put R.LK_SYNC_DBG_COUNTS_WAITERS ws.length).put R.LK_SYNC_DBG_COUNTS_PENDING ps.length
  let s := (List.range 8).foldl (fun s k =>
    s.put (R.LK_SYNC_DBG_CORESk_CORES k)
      (((List.range 32).filter (fun b => ws.any (fun w => w.core.toNat == 32 * k + b))).map (fun b => 2 ^ b)).sum) s
  let s := ((s.put R.LK_SYNC_DBG_LS_WHO_CTX x.ls.ctx.toNat).put R.LK_SYNC_DBG_LS_WHO_SRC x.ls.src).put R.LK_SYNC_DBG_LS_WHO_OP x.ls.op
  let s := (s.put R.LK_SYNC_DBG_LS_UA_UA x.ls.ua).put R.LK_SYNC_DBG_LS_UA_FLOW x.ls.flow
  let s := (s.put R.LK_SYNC_DBG_LS_STEP_LO_STEP_LO x.ls.step.toNat).put R.LK_SYNC_DBG_LS_STEP_HI_STEP_HI (x.ls.step.toNat / 2 ^ 32)
  (s.put R.LK_SYNC_DBG_LS_TICK_LO_TICK_LO x.ls.ticks.toNat).put R.LK_SYNC_DBG_LS_TICK_HI_TICK_HI (x.ls.ticks.toNat / 2 ^ 32)

-- Commands (R185).

end Sys2Proof.Machine
end

