-- ==== Sys2Proof/Machine/JobRun.lean ====
section
/-! DEFINITION. A member's run of a job (R122 to R136, R140 to R150, R293 to R296): the fetcher, waypoints, Marks, gates, pauses. -/

namespace Sys2Proof.Machine

open Sys2Proof

-- The fetcher (R124, R125, R127, R129).

/-- Whether a waypoint is BAD_WAYPOINT as it is read (R126, R127, R130, R131). CAPTURE's ARG bits [15:5] have no field and count
as reserved (notes/assumptions/20). -/
def wpBad (w : BitVec 128) : Bool :=
  let v := w.toNat
  let g := wpArg w
  let a := wpAction w
  bits v 6 10 != 0 || (a != 1 && bits v 5 1 == 1) ||
  (match a with
    | 0 => g != 0
    | 1 =>
      bits g 0 2 == 3 || bits g 14 18 != 0 || bits g 48 16 != 0 || (bits g 0 2 == 0 && bits g 2 12 != 0) ||
      (bits g 32 16 != 0 && decide (bits g 32 16 < 20)) || (bits g 0 2 != 1 && wpAnchor w)
    | 2 => decide (16 ≤ g)
    | 3 => bits g 24 40 != 0 || bits g 8 16 == 0
    | 4 => bits g 32 32 != 0 || bits g 0 32 == 0
    | 5 => bits g 0 2 == 3 || bits g 5 11 != 0 || bits g 48 16 != 0
    | 6 => decide (16 ≤ g)
    | 7 => bits g 53 11 != 0 || bits v 16 48 != 0
    | 8 => g != 0
    | _ => true)

/-- at_jump (R129): the loop stack, its top first, and the next index; nothing where a fifth loop would be entered. -/
def atJump (stack : List LoopEnt) (i target count : Nat) : Option (List LoopEnt × Nat) :=
  if count = 0 then some (stack, target) else
  let top := match stack with
    | e :: _ => if e.index = i then some stack else none
    | [] => none
  match top.or (if stack.length = 4 then none else some ({ index := i, left := count } :: stack)) with
  | some (e :: es) => if 0 < e.left then some ({ e with left := e.left - 1 } :: es, target) else some (es, i + 1)
  | _ => none

/-- Give the waypoint its place in the buffer, with the fault that takes effect in its turn. -/
def Slot.hold (x : Slot) (w : BitVec 128) (fault : Nat) : Slot :=
  { x with buf := x.buf ++ [{ pc := x.fetchPc, wp := w, stack := x.fetchStack, fault := fault }],
           fetchEnd := x.fetchEnd || fault != 0, fetchPc := x.fetchPc + 1 }

/-- The fetcher takes the waypoints of one burst in execution order (R125, R129); `len` is the program's length. A JUMP out of
the burst, or back in it, ends the burst. -/
def takeBurst (len first : Nat) (wps : List (BitVec 128)) : Nat → Slot → Slot
  | 0, x => x
  | n + 1, x =>
    if x.fetchEnd || decide (4096 ≤ x.ahead) then x
    else if len ≤ x.fetchPc then x.hold 0 10
    else if x.fetchPc < first then x
    else match wps[x.fetchPc - first]? with
      | none => x
      | some w =>
        if wpBad w then x.hold w 10
        else if wpAction w = 1 then takeBurst len first wps n ({ x with spin := none }.hold w 0)
        else
          let spin := x.spin.map (· + 1)
          if spin = some 4096 then x.hold w 10
          else if wpAction w = 7 then
            let target := bits (wpArg w) 0 21
            let count := bits (wpArg w) 21 32
            if len ≤ target then x.hold w 10
            else match atJump x.fetchStack x.fetchPc target count with
              | none => x.hold w 10
              | some (st, pc) =>
                let back := decide (pc ≤ x.fetchPc)
                let x := { x with fetchStack := st, fetchPc := pc, spin := if count = 0 then some (spin.getD 0) else spin }
                if back then x else takeBurst len first wps n x
          else
            let x := { x with spin := spin }.hold w 0
            if wpAction w = 8 then { x with fetchEnd := true } else takeBurst len first wps n x

/-- The length of a slot's program. -/
def State.progLen (s : State) (i : Nat) : Nat := s.get (R.LK_PROGn_LEN_LEN (s.slot i).prog)

/-- Places that are neither taken nor promised to a burst that is outstanding. -/
def Slot.room (x : Slot) : Nat := 4096 - (x.ahead + 64 * x.bursts.length)

/-- Where the next burst begins: behind the bursts that still hold what comes next in execution order, else at the fetcher's own index. -/
def Slot.nextBurst (x : Slot) : Nat :=
  match (x.bursts.dropWhile (fun b => decide (x.fetchPc < b ∨ b + 64 ≤ x.fetchPc))).getLast? with
  | some b => b + 64
  | none => x.fetchPc

/-- The fetcher asks for a burst whenever 64 places are free (R125), none while the host is in reset (R350), and for the last places of a prefetch; past the program's end it finds
no waypoint (R128). `n` bounds the bursts asked for at once. -/
def State.fetchMany (s : State) (i : Nat) : Nat → State
  | 0 => s
  | n + 1 =>
    let x := s.slot i
    let at_ := x.nextBurst
    if x.fetchEnd ∨ s.lk.hostDown then s
    else if s.progLen i ≤ x.fetchPc then s.setSlot i (x.hold 0 10)
    else if s.progLen i ≤ at_ ∨ x.room < (if x.prefetching then 1 else 64) then s
    else
      let base := s.get (R.LK_PROGn_BASE_LO_BASE_LO x.prog) * 4096 + s.get (R.LK_PROGn_BASE_HI_BASE_HI x.prog) * 2 ^ 32
      ((s.setSlot i { x with bursts := x.bursts ++ [at_] }).emit (.hostRead .lotik (base + 16 * at_) 1024)).fetchMany i n

/-- The fetcher asks for what it has room for (R125). -/
def State.fetchMore (s : State) (i : Nat) : State := s.fetchMany i 64

/-- The prefetch of R125 is complete: the first 4,096 waypoints to be executed, or the whole program. -/
def State.prefetched (s : State) (i : Nat) : Bool := (s.slot i).fetchEnd || decide (4096 ≤ (s.slot i).ahead)

/-- A waypoint held when its instant has just become fixed may lie too near (R125, R244): it faults in its turn. -/
def markNear (now freqLead : Nat) (b : BufWp) (t : Nat) : BufWp :=
  let near := b.fault == 0 && wpAction b.wp != 1 && (decide (t < now + usSub 10) || (wpAction b.wp == 2 && decide (t < now + freqLead)))
  if near then { b with fault := 7 } else b

/-- Instants of a slot's buffer have become fixed (R125, R244) that were not in `old`: by a gate's completion, by CONFIRM of T0 or of
T_R (DEDUCED, notes/assumptions/156). -/
def State.fixInstants (s : State) (i : Nat) (old : List (Option Nat)) : State :=
  let buf := ((s.slotInstants i).zip old).map (fun x => match x.1.2, x.2 with
    | some t, none => markNear (s.now .lotik) s.freqLead x.1.1 t
    | _, _ => x.1.1)
  s.setSlot i { s.slot i with buf := buf }

/-- The instants of a slot's buffer. -/
def State.instantsOf (s : State) (i : Nat) : List (Option Nat) := (s.slotInstants i).map (·.2)

/-- CONFIRM fixes every instant of a slot (R142, R296). -/
def State.fixAll (s : State) (i : Nat) : State := s.fixInstants i ((s.slot i).buf.map (fun _ => none))

-- What a waypoint needs ahead of its instant.

/-- Tell the pod Verard of a quiet window (R127, R313): a head whose T-link is in SERVICE. -/
def State.sendQuiet (s : State) (i t window : Nat) : State :=
  if s.get R.LK_TOPO_ROLE = 0 ∨ !s.inService .tlink then s else
  let x := s.slot i
  let m : GroupMsg := { kind := 0x2B, gid := x.gid, gen := x.gen, src := BitVec.ofNat 20 (s.ua .lotik),
                        stamp := packInstant (s.wrap .lotik) t, body := .quiet (packInstant (s.wrap .lotik) t) (BitVec.ofNat 32 window) }
  s.transmit .lotik PortId.tlink.idx 1 (treeCells (.grp m)) (.tree (.port .tlink) (.grp m))

/-- Make one waypoint ready, whose instant is fixed: a FREQ's change is scheduled, a window is told, an output is armed 10 µs
ahead (R128, R242, R313). False where its time has not come. -/
def State.planOne (s : State) (i : Nat) (w : BitVec 128) (t : Nat) : State × Bool :=
  let g := wpArg w
  match wpAction w with
  | 2 => (s.schedule { tick := t, idx := some (bits g 0 4), ceil := none }, true)
  | 4 => (s.sendQuiet i t (bits g 0 32), true)
  | 5 =>
    if bits g 0 2 = 1 ∧ t ≤ s.now .lotik + usSub 10 then
      let o := bits g 2 1
      ((s.put (R.LK_TRIGo_CTRL_ROUTE o) (bits g 3 2)).armTrain o t (bits g 16 16) (bits g 32 16) true, true)
    else (s, false)
  | _ => (s, true)

/-- Make ready what a slot's buffer holds, once CONFIRMED or RUNNING, and in a pause once T_R is confirmed. -/
def State.plan (s : State) (i : Nat) : State :=
  if s.slotState i ≠ 3 ∧ s.slotState i ≠ 4 ∧ (s.resuming i).isNone then s else
  let td := (s.run i).td
  let r := (s.slotInstants i).foldl (fun (p : State × List BufWp) x =>
    match x.2 with
    | some t =>
      let stopped := match td with | some d => decide (d ≤ t) | none => false
      if x.1.planned || x.1.fault != 0 || stopped then (p.1, x.1 :: p.2)
      else
        let q := p.1.planOne i x.1.wp t
        let s := q.1
        let ok := q.2
        (s, { x.1 with planned := ok } :: p.2)
    | none => (p.1, x.1 :: p.2)) (s, [])
  let s := r.1
  let buf := r.2
  s.setSlot i { s.slot i with buf := buf.reverse }

/-- The instants of a slot's waypoints have moved from those of `old`: what was made ready for them is made ready anew. -/
def State.replan (s : State) (i : Nat) (old : List (BufWp × Option Nat)) : State :=
  let moved := (s.slotInstants i).zip (old.map (·.2))
  let gone := (moved.filter (fun x => x.1.1.planned && x.1.2 != x.2 && wpAction x.1.1.wp == 2)).filterMap (·.2)
  let sched := (s.lk.cs.sched.map (fun c => if gone.contains c.tick then c.dropIdx else c)).filter
    (fun c => c.idx.isSome || c.ceil.isSome)
  let buf := moved.map (fun x => if x.1.2 == x.2 then x.1.1 else { x.1.1 with planned := false })
  (((s.setCs { s.lk.cs with sched := sched }).showSched).setSlot i { s.slot i with buf := buf }).plan i

-- Waypoints and Marks.

/-- Submit the gate's arrival, once the step is done (R131). -/
def State.gateTry (s : State) (i : Nat) : State :=
  let x := s.slot i
  match x.buf with
  | b :: _ =>
    if x.stepDone ∧ !x.gateSent ∧ wpAction b.wp = 1 ∧ markKind b.wp ≠ 0 ∧ b.fault = 0 then
      let s := s.setSlot i { x with gateSent := true, gateAt := s.now .lotik }
      (s.put R.LK_STEP_STAT_GATE_PENDING 1).mailTo (.gate i (markQueue b.wp))
    else s
  | [] => s

/-- The next waypoint has come to its turn (R128, R131, R148, R244). An instant has passed once a whole hall tick lies behind it
(notes/assumptions/21); one that lies before the last waypoint's breaks R128 even where it also came too late
(notes/assumptions/107). -/
def State.advance (s : State) (i : Nat) : State :=
  if s.slotState i ≠ 4 ∨ (s.run i).ended then s else
  let x := s.slot i
  let r := s.run i
  match x.buf with
  | [] => (s.setSlot i { x with pc := x.fetchPc, stack := x.fetchStack }).showJob
  | b :: _ =>
    let s := (s.setSlot i { x with pc := b.pc, stack := b.stack }).showJob
    if b.fault ≠ 0 ∧ ¬(b.fault = 7 ∧ s.wpAt i s.lk.jobs.mark b.wp < r.prevAt) then s.slotFault i b.fault
    else
      let a := wpAction b.wp
      let k := markKind b.wp
      let t := s.wpAt i s.lk.jobs.mark b.wp
      if a = 1 ∧ k = 1 then s.gateTry i
      else if a = 1 ∧ k = 2 then s.gateTry i
      else if t < r.prevAt ∨ (a = 1 ∧ (t < r.winAny ∨ t < s.lk.jobs.mark + usSub 5)) then s.slotFault i 10
      else if t + tickSub ≤ s.now .lotik then s.slotFault i 7
      else match a, r.freqAt with
        | 2, some f => if t < f + s.freqLead then s.slotFault i 7 else s
        | _, _ => s

/-- The waypoint with this ACTION that is due now in the active slot: its slot, bits and instant (R128, R149). -/
def State.dueWp (s : State) (action : Nat) : Option (Nat × BitVec 128 × Nat) :=
  match s.activeSlot with
  | none => none
  | some i =>
    match (s.slot i).buf with
    | b :: _ =>
      let t := s.wpAt i s.lk.jobs.mark b.wp
      let stopped := match (s.run i).td with
        | some td => decide (td ≤ t)
        | none => false
      if s.slotState i = 4 ∧ !(s.run i).ended ∧ wpAction b.wp = action ∧ b.fault = 0 ∧ t ≤ s.now .lotik ∧ !stopped then some (i, b.wp, t)
      else none
    | [] => none

/-- A waypoint has executed at its instant: its place is free, and the next one's turn comes (R125, R128). -/
def State.wpDone (s : State) (i t : Nat) : State :=
  let s := s.setSlot i { s.slot i with buf := (s.slot i).buf.drop 1 }
  let s := s.wakeAll.setRun i { s.run i with lastWp := t, prevAt := t }
  ((s.fetchMore i).showJob).advance i

/-- What every Mark that is raised does (R122, R134, R143, R245, R267, R281, R289): the boundary gets it with the step count. -/
def State.afterMark (s : State) (i m : Nat) (zero : Bool) : State :=
  let s := s.wakeAll.setRun i { s.run i with lastWp := 0, winEnd := 0, prevAt := m, marks := m :: (s.run i).marks }
  let s := s.setSlot i { s.slot i with stepDone := false, gateSent := false, gateDone := none, overrunTested := false }
  let s := s.setJobs { s.lk.jobs with mark := m, next := none }
  let s := s.emit (.pin "MARK" s.lk.jobs.step.toNat)
  let s := (((s.ledgerMark zero).openStep s.lk.jobs.step).hintMark i).detMark
  let st := s.get (R.TIME_STAT_STATE .lotik)
  let s := if st = 4 ∧ s.slotState i = 4 then
      s.logKind .lotik 0x0405 3 (packedBytes (s.wrap .lotik) m ++ leBytes 3 (min (s.errPs .lotik) 0xFFFFFF))
    else s
  ((s.showJob.fetchMore i).plan i).advance i

/-- A pause is taken at a Mark of instant `m` (R294): it is held, not raised, and reported. -/
def State.pauseTake (s : State) (i m : Nat) : State :=
  let p := s.lk.jobs.step.toNat + 1
  let x := s.slot i
  let rest := (x.buf.drop 1).map (fun b => { b with planned := false })
  let s := s.unschedule.setSlot i { x with buf := rest, pc := (rest.head?.map (·.pc)).getD x.fetchPc, stack := (rest.head?.map (·.stack)).getD x.fetchStack }
  let s := s.setRun i { s.run i with pauseA := none, held := some (m, p) }
  let s := s.put R.LK_DET_STAT_PAUSE_ARMED 0
  let s := if s.lk.queues.any (fun q => q.2.ops != []) then s.put R.LK_DET_STAT_INFLIGHT_AT_PAUSE 1 else s
  let s := [0, 1].foldl (fun s o => if (s.train o).byJob && decide (m ≤ (s.train o).start) then s.cancelTrain o else s) s
  let s := (s.fetchMore i).slotGo i 5 0
  s.sendJobUp { s.jobMsg i jkPaused 0 with bitmap := BitVec.ofNat 64 p, instant := packInstant (s.wrap .lotik) m }

/-- The Mark that is next to execute, where its instant is fixed and reached: its slot and instant (R130 to R134). -/
def State.dueMark (s : State) : Option (Nat × BitVec 128 × Nat) :=
  match s.activeSlot with
  | none => none
  | some i =>
    match (s.slot i).buf with
    | b :: _ =>
      let m := if markKind b.wp = 0 then some (s.wpAt i s.lk.jobs.mark b.wp) else s.lk.jobs.next
      match m with
      | none => none
      | some m =>
        let stopped := match (s.run i).td with
          | some td => decide (td ≤ m)
          | none => false
        if s.slotState i = 4 ∧ !(s.run i).ended ∧ wpAction b.wp = 1 ∧ b.fault = 0 ∧ m ≤ s.now .lotik ∧ !stopped then some (i, b.wp, m)
        else none
    | [] => none

/-- The Mark is raised, or held by a pause (R134, R294): a pause goes by M of R131, which lateness does not move (R132). -/
def State.raiseMark (s : State) (i m : Nat) : State :=
  let m0 := ((s.slot i).gateDone.map (·.1)).getD m
  let held := match (s.run i).pauseA with
    | some a => decide (a ≤ m0)
    | none => false
  if held then s.pauseTake i m0
  else
    let s := s.setSlot i { s.slot i with buf := (s.slot i).buf.drop 1 }
    (s.setJobs { s.lk.jobs with step := s.lk.jobs.step + 1 }).afterMark i m false

/-- Count a LATE Mark (R132, R338): the Mark's instant before lateness, and the lateness in hall ticks; the entry names its step. -/
def State.markLate (s : State) (m placed : Nat) : State :=
  let s := (s.bumpSat R.LK_MARK_CNT_LATE).put R.LK_STEP_IRQ_LATE 1
  s.report .lotik { kind := 0x0404, sev := 3, ua := s.ua .lotik, step := s.lk.jobs.step.toNat + 1,
                    arg := packedBytes (s.wrap .lotik) m ++ leBytes 4 ((placed - m) / tickSub) }

/-- The gate's barrier has ended (R131, R132): with its t_c and the instant at which it arrived at the die, or as a fault. -/
def State.gateEnd (s : State) (i : Nat) (ok : Bool) (tc arrival : Nat) : State :=
  let x := s.slot i
  match x.buf with
  | b :: _ =>
    if s.slotState i ≠ 4 ∨ !x.gateSent ∨ x.gateDone.isSome then s else
    let s := s.wakeAll.put R.LK_STEP_STAT_GATE_PENDING 0
    if !ok then s.slotFault i 4 else
    let r := s.run i
    let sched := if markKind b.wp = 2 then s.wpAt i s.lk.jobs.mark b.wp else 0
    let last := if r.lastWp = 0 then 0 else r.lastWp + tickSub
    let m := ceilTick (max (max (tc + s.markGuard b.wp * tickSub) sched) (max last r.winEnd))
    if m < s.lk.jobs.mark + usSub 5 then s.slotFault i 10 else
    let late := decide (m < arrival + nsSub 100)
    let placed := if late then ceilTick (arrival + nsSub 100) else m
    let s := if late then s.markLate m placed else s
    if late ∧ wpStrict b.wp then s.slotFault i 6 else
    let old := s.instantsOf i
    let s := (s.setSlot i { x with gateDone := some (m, arrival) }).setJobs { s.lk.jobs with next := some placed }
    (s.fixInstants i old).plan i
  | [] => s

/-- The host reports the present step done (R131, R133). -/
def State.stepDone (s : State) : State :=
  match s.activeSlot with
  | none => s
  | some i => if s.slotState i = 4 then (s.setSlot i { s.slot i with stepDone := true }).gateTry i else s

-- Control messages at a member (R139 to R151, R293 to R296).

/-- The job word (R138). -/
def jobWord (gid : BitVec 18) (gen : BitVec 14) : Nat := gid.toNat + gen.toNat * 2 ^ 18

/-- Whether a member acts on a control message: it is the first copy (R139). -/
def State.freshMsg (s : State) (m : JobMsg) : Bool := !s.lk.jobs.seen.contains (jobWord m.gid m.gen, m.cseq.toNat, m.kind.toNat)

/-- Keep that a control message has been acted on. -/
def State.sawMsg (s : State) (m : JobMsg) : State :=
  let s := s.setJobs { s.lk.jobs with seen := (jobWord m.gid m.gen, m.cseq.toNat, m.kind.toNat) :: s.lk.jobs.seen }
  match s.slotOf m.gid m.gen with
  | some i => s.setSlot i { s.slot i with cseq := m.cseq.toNat }
  | none => s

/-- A group as a part holds it. -/
def State.group (s : State) (d : Dev) (gid : Nat) : GroupRec := smGet {} (s.part d).tree.groups gid

/-- Replace a group at a part. -/
def State.setGroup (s : State) (d : Dev) (gid : Nat) (g : GroupRec) : State :=
  s.setTree d { (s.part d).tree with groups := smPut {} (s.part d).tree.groups gid g }

/-- The UA of this die's package: its UA with die field 0. -/
def State.pkgUa (s : State) : Nat := s.ua .lotik / 32 * 32

/-- The die mask of a member package. -/
def GroupRec.mask (g : GroupRec) (pkg : Nat) : Nat := ((g.members.find? (fun m => m.1 == pkg)).map (·.2)).getD 0

/-- Whether this die is a member of a group it holds. -/
def State.isMember (s : State) (g : GroupRec) : Bool := s.uaValid .lotik && (g.mask s.pkgUa).testBit (uaDie (s.ua .lotik))

/-- An answer that no slot gives (R139): status and UA. -/
def State.bareAnswer (s : State) (m : JobMsg) (kind status : Nat) : State :=
  s.sendJobUp { kind := BitVec.ofNat 8 kind, status := BitVec.ofNat 8 status, gid := m.gid, gen := m.gen, cseq := m.cseq,
                src := BitVec.ofNat 20 (s.ua .lotik), bitmap := BitVec.ofNat 64 (2 ^ uaDie (s.ua .lotik)) }

/-- ARM at a member (R140, R332). -/
def State.memberArm (s : State) (m : JobMsg) : State :=
  let free := if s.slotState 0 = 0 then some 0 else if s.slotState 1 = 0 then some 1 else none
  let expelled := s.get R.LK_HM_STAT_HSTATE = 4 ∧ s.slotState 0 = 0 ∧ s.slotState 1 = 0
  match free with
  | none => s.bareAnswer m jkArmAck 0x30
  | some i =>
    let n := m.prog.toNat
    if expelled then s.bareAnswer m jkArmAck 0x31
    else if 8 ≤ n ∨ !s.getB (R.LK_PROGn_LEN_VALID n) ∨ m.gateLimit = 0 then s.bareAnswer m jkArmAck 0x11
    else
      let s := s.setSlot i
        { gid := m.gid, gen := m.gen, prog := n, detmode := m.flags.toNat.testBit 0, oosFault := m.flags.toNat.testBit 1,
          gateLimit := m.gateLimit.toNat, seed := m.seed, armedAt := s.now .lotik, armCseq := m.cseq.toNat, cseq := m.cseq.toNat,
          prefetching := true, arming := true }
      let s := s.setRun i { period := s.get R.LK_DET_PERIOD_PERIOD_NS, lastFreq := s.get R.LK_CS_CFG_BASE_OP }
      (s.slotGo i 1 0).fetchMore i

/-- Whether a job's group lies in one package (R143). -/
def GroupRec.onePackage (g : GroupRec) : Bool := g.members.length == 1

/-- Whether a part's time state permits a commit (R143). -/
def State.commitLocked (s : State) (d : Dev) (one : Bool) : Bool :=
  match s.get (R.TIME_STAT_STATE d) with
  | 0 => one
  | 2 => one || !s.getB (R.TIME_STAT_UNCAL d)
  | 3 => true
  | 4 => one
  | _ => false

/-- Whether an instant lies outside the window of R36 in WRAP mode. -/
def State.outOfWindow (s : State) (d : Dev) (t : Nat) : Bool :=
  s.wrap d && (decide (s.now d + nsSub (2 ^ 31) ≤ t) || decide (t + nsSub (2 ^ 31) < s.now d))

/-- The status a member answers to a COMMIT's or RESUME's instant (R141, R143). -/
def State.commitStatus (s : State) (m : JobMsg) (t : Nat) : Nat :=
  let g := s.group .lotik m.gid.toNat
  if !s.commitLocked .lotik g.onePackage then 0x40
  else if t < s.now .lotik + usSub 15 ∨ s.outOfWindow .lotik t then 0x11
  else 0

/-- BASE of a loaded job at T0 (R298): it moves by T0 − M, and may lie before the hall's own beginning. In WRAP mode the image holds it
modulo the wrap: it is the one from which the first ANCHOR = 0 waypoint at or after M lies next behind M (DEDUCED, notes/assumptions/157). -/
def State.loadBase (s : State) (i m t : Nat) : Int :=
  let x := s.slot i
  let wrap : Int := 2 ^ 48
  match s.wrap .lotik, x.buf.find? (fun b => !wpAnchor b.wp) with
  | true, some b => x.base - (x.base + wpOffset b.wp - m) / wrap * wrap + t - m
  | _, _ => x.base + t - m

/-- COMMIT at a member (R141). -/
def State.memberCommit (s : State) (m : JobMsg) : State :=
  match s.slotOf m.gid m.gen with
  | none => s
  | some i =>
    if s.slotState i ≠ 1 ∨ (s.slot i).prefetching then s else
    let t := unpackInstant (s.wrap .lotik) (s.now .lotik) m.instant
    let st := s.commitStatus m t
    if st ≠ 0 then s.jobAnswer i jkCommitAck st m.cseq.toNat
    else
      let x := s.slot i
      -- A loaded job's BASE moves by T0 − M (R298).
      let base := match (s.run i).held with
        | some (m0, _) => if (s.run i).loaded then s.loadBase i m0 t else t
        | none => t
      let s := (s.setSlot i { x with t0 := t, base := base }).setRun i { s.run i with commitCseq := m.cseq }
      if 3 ≤ s.slotState (1 - i) then s.setRun i { s.run i with commitHeld := some m } else s.commitOk i

/-- CONFIRM at a member (R142, R296): before the last-abort time. While the other slot is active this one stays COMMITTED (R136), and
aborts itself by R142. -/
def State.memberConfirm (s : State) (m : JobMsg) : State :=
  match s.slotOf m.gid m.gen with
  | none => s
  | some i =>
    if s.slotState i = 2 ∧ s.activeSlot.isNone ∧ s.now .lotik + usSub 10 < (s.slot i).t0 then ((s.slotGo i 3 0).fixAll i).plan i
    else if s.slotState i = 5 then
      match (s.run i).resumeAt with
      | some t => if s.now .lotik + usSub 10 < t then ((s.setRun i { s.run i with confirm := true }).fixAll i).plan i else s
      | none => s
    else s

/-- ABORT at a member (R136, R296): a round of RESUME leaves it PAUSED. -/
def State.memberAbort (s : State) (m : JobMsg) : State :=
  match s.slotOf m.gid m.gen with
  | none => s
  | some i =>
    if s.slotState i = 1 ∨ s.slotState i = 2 then s.slotIdle i 2
    else if s.slotState i = 5 then
      let old := s.slotInstants i
      (s.setRun i { s.run i with resumeAt := none, confirm := false }).replan i old
    else s

/-- Record each Mark raised at or after TD (R149, R338). -/
def State.marksAfter (s : State) (i td : Nat) : State :=
  let x := s.slot i
  let late := ((s.run i).marks.zipIdx.filter (fun p => decide (td ≤ p.1))).reverse
  late.foldl (fun s p =>
    s.report .lotik { kind := 0x0406, sev := 3, ua := s.ua .lotik, step := s.lk.jobs.step.toNat - p.2,
                      arg := packedBytes (s.wrap .lotik) p.1 ++ leBytes 4 (jobWord x.gid x.gen) }) s

/-- The cause a TEARDOWN names: a root that tears a job down for a fault puts it in BITMAP (notes/assumptions/19). -/
def tdCause (m : JobMsg) : Nat := if m.bitmap = 0 then 1 else m.bitmap.toNat % 256

/-- TEARDOWN at a member (R136, R149): at once where TD is 0 or has passed, or where the job is CONFIRMED. -/
def State.memberTeardown (s : State) (m : JobMsg) : State :=
  match s.slotOf m.gid m.gen with
  | none => s
  | some i =>
    let td := unpackInstant (s.wrap .lotik) (s.now .lotik) m.instant
    if s.slotState i = 3 ∨ ((s.slotState i = 4 ∨ s.slotState i = 5) ∧ (m.instant = 0 ∨ td ≤ s.now .lotik)) then
      (if m.instant = 0 then s else s.marksAfter i td).startDrain i (tdCause m)
    else if s.slotState i = 4 ∨ s.slotState i = 5 then s.setRun i { s.run i with td := some td, drainCause := tdCause m }
    else s

/-- DEFER at a member (R135): less than 10 µs before A it comes too late. -/
def State.memberDefer (s : State) (m : JobMsg) : State :=
  match s.slotOf m.gid m.gen with
  | none => s
  | some i =>
    if s.slotState i < 3 ∨ 5 < s.slotState i then s else
    let a := unpackInstant (s.wrap .lotik) (s.now .lotik) m.instant
    let d := bits m.bitmap.toNat 0 32
    if a < s.now .lotik + usSub 10 then s.slotFault i 7
    else
      let old := s.slotInstants i
      (((s.bumpSat R.LK_PG_DEFER_CNT_APPLIED).setRun i
        { s.run i with defers := (s.run i).defers ++ [(a, d)], deferTotal := (s.run i).deferTotal + d }).replan i old).showJob

/-- PAUSE at a member (R293): less than 10 µs before A it comes too late. -/
def State.memberPause (s : State) (m : JobMsg) : State :=
  match s.slotOf m.gid m.gen with
  | none => s
  | some i =>
    if s.slotState i ≠ 4 then s else
    let a := unpackInstant (s.wrap .lotik) (s.now .lotik) m.instant
    if a < s.now .lotik + usSub 10 then s.slotFault i 7
    else (s.setRun i { s.run i with pauseA := some a }).put R.LK_DET_STAT_PAUSE_ARMED 1

/-- RESUME at a member (R296): acknowledged only while PAUSED, with the checks of R141. -/
def State.memberResume (s : State) (m : JobMsg) : State :=
  match s.slotOf m.gid m.gen with
  | none => s
  | some i =>
    if s.slotState i ≠ 5 then s else
    let t := unpackInstant (s.wrap .lotik) (s.now .lotik) m.instant
    let st := s.commitStatus m t
    let s := if st = 0 then s.setRun i { s.run i with resumeAt := some t, confirm := false } else s
    s.jobAnswer i jkCommitAck st m.cseq.toNat

/-- Send the start or resume check (R144, R296): the step count in INSTANT's first 8 bytes, the die's bit in BITMAP. -/
def State.sendCheck (s : State) (i : Nat) : State :=
  let b := (leBytes 8 s.lk.jobs.step.toNat ++ leBytes 4 0)
  s.sendJobUp { s.jobMsg i jkCheck 0 with instant := BitVec.ofNat 96 (ofLe b), bitmap := BitVec.ofNat 64 (2 ^ uaDie (s.ua .lotik)) }

/-- Mark 0, or Mark P of a loaded job, is raised at T0 (R122, R142, R275, R281, R285, R298). -/
def State.startJob (s : State) (i : Nat) : State :=
  let x := s.slot i
  let r := s.run i
  let p := if r.loaded then (r.held.map (·.2)).getD 0 else 0
  let s := s.setJobs { s.lk.jobs with step := BitVec.ofNat 64 p }
  let s := (s.slotGo i 4 0).put R.LK_STEP_STAT_ENDED 0
  let s := s.setPg { s.lk.pg with jobPj := 0, reqs := [] }
  let s := s.put R.LK_DET_STAT_LOADED 0
  let s := if r.loaded then s.setDet { s.lk.det with steps := r.digSteps } else s
  let s := s.setRun i { r with held := none, loaded := false, marks := [], digSteps := [] }
  let s := s.alignMark.detBegin i
  let s := s.sendCheck i
  (s.afterMark i x.t0 (!r.loaded)).jobTimeState

/-- The held Mark is raised at T_R, and every instant at or after it moves (R296). -/
def State.resumeJob (s : State) (i t : Nat) : State :=
  match (s.run i).held with
  | none => s
  | some (m, p) =>
    let s := s.moveJob i m t
    let s := s.setRun i { s.run i with held := none, resumeAt := none, confirm := false }
    let total := s.get R.LK_DET_PAUSE_TOTAL_LO_LO + 2 ^ 32 * s.get R.LK_DET_PAUSE_TOTAL_HI_HI + (t - m) / tickSub
    let s := (s.put R.LK_DET_PAUSE_TOTAL_LO_LO total).put R.LK_DET_PAUSE_TOTAL_HI_HI (total / 2 ^ 32)
    let s := s.setJobs { s.lk.jobs with step := BitVec.ofNat 64 p }
    let s := ((s.slotGo i 4 0).alignMark).detBegin i
    let s := s.sendCheck i
    (s.afterMark i t false).jobTimeState

end Sys2Proof.Machine
end

