-- ==== Sys2Proof/Machine/Queues.lean ====
section
/-! DEFINITION. A die's local group queues (R193 to R197, R199, R209 to R212). -/

namespace Sys2Proof.Machine

open Sys2Proof

/-- A queue. -/
def State.queue (s : State) (n : Nat) : Queue := smGet {} s.lk.queues n

/-- Show BOUND (R212). -/
def State.showBound (s : State) : State := s.put R.LK_GQ_STAT_BOUND (s.lk.queues.filter (fun q => q.2.enable)).length

/-- Replace a queue. -/
def State.setQueue (s : State) (n : Nat) (q : Queue) : State :=
  ({ s with lk := { s.lk with queues := smPut {} s.lk.queues n q } }).showBound

/-- The enabled queue that holds a GID (R193). -/
def State.queueOf (s : State) (gid : Nat) : Option Nat := (s.lk.queues.find? (fun q => q.2.enable && q.2.gid == gid)).map (·.1)

/-- Record a queue error (R212). -/
def State.queueErr (s : State) (n cause : Nat) : State :=
  ((s.put R.LK_GQ_ERR_QUEUE n).put R.LK_GQ_ERR_CAUSE cause).put R.LK_GQ_IRQ_ERR 1

/-- A group message of this die's member (R202): it counts for one die. -/
def State.memberMsg (s : State) (q : Queue) (kind oseq : Nat) (cause : Nat := 0) : GroupMsg :=
  { kind := BitVec.ofNat 8 kind, gid := BitVec.ofNat 18 q.gid, gen := BitVec.ofNat 14 q.gen, oseq := BitVec.ofNat 16 oseq,
    cause := BitVec.ofNat 8 cause, src := BitVec.ofNat 20 (s.ua .lotik), cover := 1,
    stamp := packInstant (s.wrap .lotik) (s.now .lotik) }

/-- Whether the die reaches a head on the ring, or is one (R26). -/
def State.reachHead (s : State) : Bool := s.get R.LK_TOPO_ROLE != 0 || s.ringUp .e || s.ringUp .w

/-- The broadcast of R199: to every die, in both directions, with no credits. -/
def State.ringAll (s : State) (m : GroupMsg) : State :=
  [RingPort.e, .w].foldl (fun s r => s.doIf (s.ringUp r) (fun s => s.ringFrame r 0x3F (.tree (.ring r) (.grp m)))) s

/-- FAULT from a member (R208, R209): to every die for a PACKAGE barrier, which has no counting node, and to the heads otherwise. -/
def State.memberFault (s : State) (q : Queue) (o : QOp) (cause : Nat) : State :=
  let m := s.memberMsg q 0x24 o.oseq.toNat cause
  let m := { m with op := BitVec.ofNat 8 o.op }
  if (s.group .lotik q.gid).scope = 0 ∧ o.op = 0 then s.ringAll m else s.sendUp (.grp m)

-- Completions (R195 to R197).

/-- Count a completion, and raise its interrupts (R211, R212). -/
def State.countDone (s : State) (n st cause ua : Nat) : State :=
  let q := s.queue n
  let q := { q with completed := min (q.completed + 1) 65535, faulted := min (q.faulted + b2n (st == 0x50 || st == 0x51)) 65535 }
  let q := if st = 0x51 then { q with faultCause := cause, faultUa := ua } else q
  let s := s.setQueue n q
  let s := if st = 0x51 then s.put R.LK_GQ_IRQ_FAULT 1 else s
  if q.irqEn then (s.put R.LK_GQ_IRQ_COMPLETE 1).put R.LK_GQ_LAST_QUEUE n else s

/-- Write a completion entry (R195, R196): before CQ_TAIL advances. -/
def State.writeEntry (s : State) (n st cause oseq tag tc ua : Nat) (area : List Byte) : State :=
  let q := s.queue n
  let size := 2 ^ q.cqLog2
  let bytes := [BitVec.ofNat 8 st, BitVec.ofNat 8 cause] ++ leBytes 2 oseq ++ leBytes 4 tag ++
    (if tc = 0 then List.replicate 12 0 else packedBytes (s.wrap .lotik) tc) ++ leBytes 3 ua ++ [BitVec.ofNat 8 (b2n q.cqPhase)] ++ padTo 232 area
  let s := s.emit (.hostWrite .lotik (q.cq + 256 * q.cqTail) bytes)
  let t := (q.cqTail + 1) % size
  (s.setQueue n { q with cqTail := t, cqPhase := if t = 0 then !q.cqPhase else q.cqPhase, cqUsed := q.cqUsed + 1 }).countDone n st cause ua

/-- Tell whom an ended operation answers (R194): a completion entry, the Mark engine, a linked object, the digest unit. -/
def State.deliver (s : State) (n : Nat) (o : QOp) (st cause ua tc : Nat) (body : List Byte) : State :=
  match o.src with
  | 0 => s.writeEntry n st cause o.oseq.toNat o.ref tc ua (if o.op ≠ 0 ∧ st = 0 then resultArea o.op o.ty o.sh body else [])
  | 1 => (s.countDone n st cause ua).mailTo (.gateEnd o.ref (st == 0) tc (s.now .lotik))
  | 2 => (s.countDone n st cause ua).mailTo (.linkEnd o.ref st)
  | _ => (s.countDone n st cause ua).mailTo (.digestEnd o.ref st body)

/-- Write the completions that are due, in OSEQ order (R196). -/
def State.flushQueue (s : State) (n : Nat) : Nat → State
  | 0 => s
  | k + 1 =>
    let q := s.queue n
    match q.ops with
    | o :: os =>
      match o.res with
      | some (st, cause, ua, tc, body) =>
        ((s.setQueue n { q with ops := os, done := q.done + 1 }).deliver n o st cause ua tc body).flushQueue n k
      | none => s
    | [] => s

/-- An end reaches a queue for an OSEQ (R189, R197): the first copy acts; one that comes before its submission is kept where it is
a fault inside the window, and is otherwise discarded and counted. -/
def State.endOp (s : State) (n : Nat) (oseq : BitVec 16) (st cause ua tc : Nat) (body : List Byte) : State :=
  let q := s.queue n
  match q.ops.find? (fun o => o.oseq == oseq) with
  | some o =>
    if o.res.isSome then s else
    let q := { q with ops := q.ops.map (fun p => if p.oseq == oseq then { p with res := some (st, cause, ua, tc, body) } else p),
                      counts := q.counts.filter (fun c => c.oseq != oseq) }
    (s.setQueue n q).flushQueue n 8
  | none =>
    let d := (oseq - q.done).toNat
    if 0x8000 ≤ d then s
    else if d < q.depth ∧ (st = 0x50 ∨ st = 0x51) then
      if q.early.any (fun e => e.1 == oseq) then s else s.setQueue n { q with early := q.early ++ [(oseq, st, cause, ua)] }
    else (s.bumpSat R.LK_GQ_DROP_EARLY).put R.LK_GQ_IRQ_DROP 1

-- Submission (R194 to R200).

/-- Count one die's arrival of a PACKAGE barrier in the member's own queue (R199). -/
def State.pkgCount (s : State) (n : Nat) (oseq : BitVec 16) (die stamp : Nat) : State :=
  let q := s.queue n
  let ended := q.ops.any (fun o => o.oseq == oseq && o.res.isSome)
  if ended || decide (0x8000 ≤ (oseq - q.done).toNat) then s else
  let c := (q.counts.find? (fun c => c.oseq == oseq)).getD { oseq := oseq, firstAt := s.now .lotik }
  let c := { c with dies := c.dies ||| 2 ^ die, latest := max c.latest stamp }
  let s := s.setQueue n { q with counts := c :: q.counts.filter (fun c => c.oseq != oseq) }
  let mask := (s.group .lotik q.gid).mask s.pkgUa
  if mask ≠ 0 ∧ c.dies &&& mask = mask then s.endOp n oseq 0 0 0 (c.latest + nsSub 160) [] else s

/-- A limb list's PARTIALs (R200, R223): in fragments where it is long. -/
def partials (m : GroupMsg) (bodies : List (List Byte)) : List GroupMsg :=
  bodies.zipIdx.map (fun b =>
    { m with kind := 0x21, fragIx := BitVec.ofNat 8 b.2, fragTotal := if bodies.length = 1 then 0 else BitVec.ofNat 8 bodies.length, body := .limbs b.1 })

/-- An accepted operation leaves the member (R197 to R200, R208). -/
def State.sendOp (s : State) (n : Nat) (o : QOp) (es : List Elem) : State :=
  let q := s.queue n
  match q.early.find? (fun e => e.1 == o.oseq) with
  | some (_, st, cause, ua) =>
    (s.setQueue n { q with early := q.early.filter (fun e => e.1 != o.oseq) }).endOp n o.oseq st cause ua 0 []
  | none =>
    if !s.reachHead then s.endOp n o.oseq 0x51 4 (s.ua .lotik) 0 []
    else
      let m := s.memberMsg q 0x20 o.oseq.toNat
      let m := { m with op := BitVec.ofNat 8 o.op, ty := BitVec.ofNat 8 o.ty, shape := BitVec.ofNat 8 o.sh }
      if o.op = 0 then
        if (s.group .lotik q.gid).scope = 0 then
          (s.ringAll m).pkgCount n o.oseq (uaDie (s.ua .lotik)) (s.now .lotik)
        else s.sendUp (.grp m)
      else (partials m (limbLists o.op o.ty es)).foldl (fun s m => s.sendUp (.grp m)) s

/-- A submission takes the queue's next OSEQ (R194). -/
def State.acceptOp (s : State) (n : Nat) (o : QOp) (es : List Elem) : State :=
  let q := s.queue n
  let o := { o with oseq := q.next }
  (s.setQueue n { q with next := q.next + 1, ops := q.ops ++ [o] }).sendOp n o es

/-- Ask for the next host submission where the window and the completion ring have room (R193, R196, R210); a die whose UA is not
valid submits nothing (R23). -/
def State.pumpQueue (s : State) (n : Nat) : State :=
  let q := s.queue n
  if !q.enable ∨ q.fetching ∨ q.state = 1 ∨ (q.state = 2 ∧ !s.uaValid .lotik) ∨ s.lk.hostDown then s
  else if q.sqTail % 2 ^ q.sqLog2 = q.sqHead then s.setQueue n { q with cqWait := false }
  else
    let host := (q.ops.filter (fun o => o.src == 0)).length
    let room := q.state == 3 || decide (q.ops.length < q.depth)
    let cqOk := decide (host + 1 + q.cqUsed ≤ 2 ^ q.cqLog2)
    let s := s.setQueue n { q with cqWait := !cqOk, fetching := room && cqOk }
    s.emitIf (room && cqOk) (.hostRead .lotik (q.sq + 256 * q.sqHead) 256)

/-- Admit waiting internal arrivals in order, then the host's next submission (R193, R196). -/
def State.admitQueue (s : State) (n : Nat) : Nat → State
  | 0 => s.pumpQueue n
  | k + 1 =>
    let q := s.queue n
    match q.waiting with
    | (src, ref, e) :: ws =>
      if q.state = 2 ∧ q.ops.length < q.depth ∧ s.uaValid .lotik then
        let s := s.setQueue n { q with waiting := ws }
        let g := s.group .lotik q.gid
        let s := match readSubmission g.acc g.maxElems e with
          | some (op, ty, sh, es) => s.acceptOp n { oseq := 0, src := src, ref := ref, op := op, ty := ty, sh := sh } es
          | none => s
        s.admitQueue n k
      else s.pumpQueue n
    | [] => s.pumpQueue n

/-- The end of an internal arrival that no queue takes (R194, R172). -/
def State.bounce (s : State) (src ref : Nat) : State :=
  match src with
  | 1 => s.mailTo (.gateEnd ref false 0 (s.now .lotik))
  | 2 => s.mailTo (.linkEnd ref 0x50)
  | _ => s.mailTo (.digestEnd ref 0x50 [])

/-- An internal arrival names a queue (R194): an UNBOUND or STALE one ends it at once with GROUP_STALE. -/
def State.internalOp (s : State) (n src ref : Nat) (entry : List Byte) : State :=
  let q := s.queue n
  if !q.enable ∨ q.state = 3 ∨ q.state = 0 then s.bounce src ref
  else (s.setQueue n { q with waiting := q.waiting ++ [(src, ref, entry)] }).admitQueue n 8

/-- A completed or failed operation frees the window (R196). -/
def State.finishOp (s : State) (n : Nat) (oseq : BitVec 16) (st cause ua tc : Nat) (body : List Byte) : State :=
  (s.endOp n oseq st cause ua tc body).admitQueue n 8

/-- The submission entry of a barrier. -/
def barrierEntry : List Byte := List.replicate 256 0

/-- The submission entry of one operation of the digest unit (R290): stage 0 MINLOC, 1 MAXLOC, 2 SUM, all UINT64. -/
def State.digestEntry (s : State) (stage : Nat) : List Byte :=
  let t := s.lk.det.reqTag
  let d := s.lk.det.closed.tag t
  let v := d.digest t
  let vals := if stage = 2 then [d.lo.toNat, d.hi.toNat, d.count.toNat] else [v / 2 ^ 64, v % 2 ^ 64]
  let rank := s.get R.LK_DET_RANK_RANK_BASE
  let head := padTo 40 [if stage = 0 then 8 else if stage = 1 then 9 else 1, 9, BitVec.ofNat 8 vals.length]
  let area := padTo 128 (vals.flatMap (fun v => leBytes 8 v))
  padTo 256 (head ++ area ++ (if stage = 2 then [] else leBytes 4 rank ++ leBytes 4 rank))

/-- An operation of the digest unit goes to DIG_QUEUE, where its group can carry it (R290). -/
def State.digestOp (s : State) (stage : Nat) : State :=
  if !s.getB R.LK_DET_DIG_REQ_BUSY then s else
  let n := s.get R.LK_DET_CFG_DIG_QUEUE
  let q := s.queue n
  let g := s.group .lotik q.gid
  if !q.enable ∨ g.acc ≠ 0 ∨ g.maxElems < 3 ∨ q.depth < 2 then s.digDone 5
  else s.internalOp n 3 stage (s.digestEntry stage)

-- Binding, disabling, a new generation (R192, R193, R209).

/-- End what a queue has in flight with GROUP_STALE (R150, R192, R209); with `fault`, FAULT with cause MEMBER goes out for each. -/
def State.endAll (s : State) (n : Nat) (fault : Bool) : State :=
  let q := s.queue n
  let live := q.ops.filter (fun o => o.res.isNone)
  let s := if fault then live.foldl (fun s o => s.memberFault q o 5) s else s
  let s := s.setQueue n { q with ops := q.ops.map (fun o => if o.res.isNone then { o with res := some (0x50, 0, 0, 0, []) } else o),
                                 waiting := [], early := [], counts := [], fetching := false }
  let s := q.waiting.foldl (fun s w => s.bounce w.1 w.2.1) s
  s.flushQueue n 8

/-- Enable a queue (R193): 0 where done, else BUSY or BAD_PARAM, recorded in LK_GQ_ERR. -/
def State.enableQueue (s : State) (n : Nat) : State × Nat :=
  let q := s.queue n
  if q.sqLog2 < 1 ∨ 12 < q.sqLog2 ∨ q.cqLog2 < 1 ∨ 12 < q.cqLog2 then (s.queueErr n 2, 0x11)
  else if (s.queueOf q.gid).isSome then (s.queueErr n 1, 0x30)
  else
    let g := s.group .lotik q.gid
    let ready := g.state == 3 && g.gen == q.gen && s.isMember g
    -- The die holds the group in another generation: the queue's is not current (R210).
    let stale := g.state == 3 && g.gen != q.gen
    let q := { q with enable := true, sqTail := 0, sqHead := 0, cqTail := 0, cqPhase := true, cqHead := 0, cqUsed := 0, next := 0,
                      done := 0, state := if ready then 2 else if stale then 3 else 1, depth := if ready then g.depth else 0, cqWait := false }
    (s.setQueue n q, 0)

/-- Disable a queue (R209, R211). -/
def State.disableQueue (s : State) (n : Nat) : State :=
  let s := s.endAll n true
  s.setQueue n { s.queue n with enable := false, state := 0, depth := 0, cqWait := false }

/-- A write of LK_GQq_CFG (R193, R211). -/
def State.queueCfg (s : State) (n v : Nat) : State :=
  let q := s.queue n
  if q.enable then (if bits v 0 1 = 0 then s.disableQueue n else s)
  else
    let s := s.setQueue n { q with irqEn := bits v 1 1 == 1, sqLog2 := bits v 2 4, cqLog2 := bits v 6 4 }
    if bits v 0 1 = 1 then (s.enableQueue n).1 else s

/-- A submission entry has been read, or its read has failed (R195, R210). -/
def State.fetched (s : State) (n : Nat) (ok : Bool) (e : List Byte) : State :=
  let q := s.queue n
  if !q.enable ∨ !q.fetching then s else
  let s := s.logicWork.setQueue n { q with fetching := false }
  if q.state = 2 ∧ q.depth ≤ q.ops.length then s.pumpQueue n else
  let q := { q with fetching := false, sqHead := (q.sqHead + 1) % 2 ^ q.sqLog2 }
  let s := s.setQueue n q
  let tag := leAt e 4 4
  let g := s.group .lotik q.gid
  let s :=
    if !ok then (s.queueErr n 3).writeEntry n 0x11 0 0xFFFF 0 0 0 []
    else if q.state ≠ 2 then s.writeEntry n 0x50 0 0xFFFF tag 0 0 []
    else match readSubmission g.acc g.maxElems e with
      | none => s.writeEntry n 0x11 0 0xFFFF tag 0 0 []
      | some (op, ty, sh, es) => s.acceptOp n { oseq := 0, src := 0, ref := tag, op := op, ty := ty, sh := sh } es
  s.admitQueue n 8

/-- The host frees completion entries (R196). -/
def State.cqHeadWrite (s : State) (n v : Nat) : State :=
  let q := s.queue n
  let size := 2 ^ q.cqLog2
  let h := v % 4096 % size
  (s.setQueue n { q with cqHead := v % 4096, cqUsed := q.cqUsed - (h + size - q.cqHead % size) % size }).pumpQueue n

/-- Every queue bound to a GID adopts its new generation (R192). -/
def State.renewQueue (s : State) (gid gen : Nat) : State :=
  match s.queueOf gid with
  | none => s
  | some n =>
    let st := (s.queue n).state
    let s := s.endGroupSessions gid gen
    let s := s.setQueue n { s.queue n with state := 3 }
    let s := s.endAll n false
    (s.setQueue n { s.queue n with gen := gen, next := 0, done := 0, state := if st = 3 then 2 else st,
                                   depth := if st = 3 then (s.group .lotik gid).depth else (s.queue n).depth }).pumpQueue n

/-- A queue's group is no longer sealed here (R191, R192): it waits for a BIND again (notes/assumptions/22). -/
def State.unsealQueue (s : State) (gid : Nat) : State :=
  match s.queueOf gid with
  | none => s
  | some n =>
    let s := s.setQueue n { s.queue n with state := 3 }
    let s := s.endAll n false
    s.setQueue n { s.queue n with state := 1, depth := 0, next := 0, done := 0 }

/-- BIND has reached the die (R190, R193): its queue becomes READY, or there is none. What a PACKAGE barrier's early arrivals
counted stands (R199). -/
def State.bindQueue (s : State) (gid gen depth : Nat) : State × Bool :=
  match s.queueOf gid with
  | none => (s, false)
  | some n =>
    let q := s.queue n
    let q := if (s.group .lotik gid).scope = 0 then q else { q with counts := [] }
    if q.gen ≠ gen then (s, false)
    else ((s.setQueue n { q with state := if q.state = 1 then 2 else q.state, depth := depth }).admitQueue n 8, true)

end Sys2Proof.Machine
end

