-- ==== Sys2Proof/Machine/Windows.lean ====
section
/-! DEFINITION. Quiet windows that a Verard holds (R313, R314), what they mean for the circuit-switch outputs (R319), and the ports that are
SWITCHING (R320). -/

namespace Sys2Proof.Machine

open Sys2Proof

/-- Replace the quiet windows held. -/
def State.setWindows (s : State) (ws : List Window) : State := { s with vd := { s.vd with windows := ws } }

/-- The windows of a port not yet ended, the earliest first. -/
def State.portWindows (s : State) (n : Nat) : List Window :=
  let ws := s.vd.windows.filter (fun w => w.port == n && decide (s.now .verard < w.stop))
  ws.foldr (fun w acc => (acc.takeWhile (fun x => decide (x.start < w.start))) ++ w :: acc.dropWhile (fun x => decide (x.start < w.start))) []

/-- Whether a quiet window of a port covers an instant and lasts this much longer. -/
def State.inWindow (s : State) (n t rest : Nat) : Bool :=
  s.vd.windows.any (fun w => w.port == n && decide (w.start ≤ t) && decide (t + rest ≤ w.stop) && decide (t < w.stop))

/-- Show the next window of a port and whether one covers the present instant (R321). -/
def State.showWindows (s : State) (p : PortId) : State :=
  let now := s.now .verard
  let s := s.putB (R.PORT_OPT_STAT_QUIET p) (s.inWindow p.idx now 0)
  match (s.portWindows p.idx).find? (fun w => decide (now < w.start)) with
  | none => (((s.put (R.PORT_QUIET_NS_NS p) 0).put (R.PORT_QUIET_SEC_LO_SEC_LO p) 0).put (R.PORT_QUIET_SEC_HI_SEC_HI p) 0).put (R.PORT_QUIET_LEN_WINDOW p) 0
  | some w =>
    let i := (packInstant (s.wrap .verard) w.start).toNat
    (((s.put (R.PORT_QUIET_NS_NS p) (bits i 16 32)).put (R.PORT_QUIET_SEC_LO_SEC_LO p) (bits i 48 32)).put
      (R.PORT_QUIET_SEC_HI_SEC_HI p) (bits i 80 16)).put (R.PORT_QUIET_LEN_WINDOW p) ((w.stop - w.start) / tickSub)

/-- A circuit-switch output. -/
def State.ocs (s : State) (o : Nat) : Ocs := smGet {} s.vd.ocs o

/-- Replace a circuit-switch output. -/
def State.setOcs (s : State) (o : Nat) (x : Ocs) : State := { s with vd := { s.vd with ocs := smPut {} s.vd.ocs o x } }

/-- The ports in an output's mask, by index (R322). -/
def State.ocsMask (s : State) (o : Nat) : List Nat :=
  let lo := s.get (R.VD_OCSo_PORTS_LO_PORTS o)
  let hi := s.get (R.VD_OCSo_PORTS_HI_PORTS o)
  let up := s.get (R.VD_OCSo_CTRL_UP_MASK o)
  (List.range 64).filter (fun n => (lo + hi * 2 ^ 32).testBit n) ++ (List.range 2).filterMap (fun n => if up.testBit n then some (64 + n) else none)

/-- The start of the first interval in which the windows of every port overlap for so long (R319), not yet past its pulse. -/
def State.firstOverlap (s : State) (mask : List Nat) (need : Nat) : Option Nat :=
  let now := s.now .verard
  let fits (t : Nat) : Bool := mask.all (fun n => s.inWindow n t need) && decide (now ≤ t + usSub 10)
  ((s.vd.windows.filter (fun w => mask.contains w.port)).map (·.start)).foldl (fun best t =>
    if fits t then (match best with | none => some t | some b => some (min b t)) else best) none

/-- An output in WINDOW mode awaits its interval (R319): its pulse falls 10 µs after the interval's start. -/
def State.ocsAwait (s : State) (o : Nat) : State :=
  if !s.getB (R.VD_OCSo_STAT_ARMED o) || s.get (R.VD_OCSo_CTRL_MODE o) = 0 then s else
  match s.firstOverlap (s.ocs o).mask (msSub (s.get (R.VD_OCSo_TIMING_SETTLE_MS o) + 100)) with
  | none => (s.setOcs o { s.ocs o with at_ := none }).put (R.VD_OCSo_STAT_WAITING o) 1
  | some t => (s.setOcs o { s.ocs o with at_ := some (t + usSub 10) }).put (R.VD_OCSo_STAT_WAITING o) 0

/-- The windows held have changed. -/
def State.windowsMoved (s : State) (ports : List Nat) : State :=
  let s := ports.foldl (fun s n => s.showWindows (portOfIdx n)) s
  (List.range 4).foldl (fun s o => s.ocsAwait o) s

/-- RETIRE of a job passes this Verard (R314): its windows are discarded. -/
def State.dropWindows (s : State) (word : Nat) : State :=
  let gone := s.vd.windows.filter (fun w => w.word == word)
  if gone = [] then s else
  (s.setWindows (s.vd.windows.filter (fun w => w.word != word))).windowsMoved ((gone.map (·.port)).eraseDups)

/-- Keep a window of a port (R314): of three, the two that start earliest. -/
def State.keepWindow (s : State) (w : Window) : State :=
  let mine := s.portWindows w.port
  let all := (mine.takeWhile (fun x => decide (x.start ≤ w.start))) ++ w :: mine.dropWhile (fun x => decide (x.start ≤ w.start))
  (s.setWindows (s.vd.windows.filter (fun x => x.port != w.port) ++ all.take 2)).windowsMoved [w.port]

/-- Whether a port is SWITCHING (R320). -/
def State.switching (s : State) (p : PortId) : Bool := p.dev == .verard && s.vd.ocs.any (fun x => x.2.live.contains p.idx)

/-- Show a port that is SWITCHING, or is so no more, where its rings are locked; another state of its rings stands (R320, R321). -/
def State.showSwitching (s : State) (p : PortId) : State :=
  let st := s.get (R.PORT_OPT_STAT_OSTATE p)
  if st = 2 ∧ s.switching p then s.put (R.PORT_OPT_STAT_OSTATE p) 5
  else if st = 5 ∧ !s.switching p then s.put (R.PORT_OPT_STAT_OSTATE p) 2
  else s

/-- A port back in SERVICE is SWITCHING no more (R320). -/
def State.switchBack (s : State) (p : PortId) : State :=
  if !s.switching p then s else
  { s with vd := { s.vd with ocs := s.vd.ocs.map (fun (x : Nat × Ocs) => (x.1, { x.2 with live := x.2.live.filter (fun n => n != p.idx) })) } }.showSwitching p

/-- A port loses its light while SWITCHING (R320): one OCS_SWITCH entry for each trigger. -/
def State.switchLoss (s : State) (p : PortId) : State :=
  (List.range 4).foldl (fun s o =>
    let x := s.ocs o
    if x.firedAt.isSome && x.mask.contains p.idx && !x.lossLogged then
      (s.setOcs o { x with lossLogged := true }).logKind .verard 0x0A01 2 [BitVec.ofNat 8 o]
    else s) s

/-- Whether a port may run its state machine: on Verard its engine is READY or DEGRADED and its rings are locked (R307), in stage
LINKS or READY (R363); on Lotik not in FAULT (R362). SCRAPPED holds every port OFF (R404). -/
def State.portLit (s : State) (p : PortId) : Bool :=
  (s.part p.dev).sec.lc != 4 &&
  match p with
  | .tlink => s.get R.LK_BOOT_STAGE != 7
  | _ =>
    let stage := s.get R.VD_BOOT_STAGE
    let e := match p with | .down n => n.val / 8 | _ => 8
    let st := s.get (R.VD_OE_STAT_STATE e)
    let o := s.get (R.PORT_OPT_STAT_OSTATE p)
    (stage == 4 || stage == 5) && (st == 3 || st == 4) && (o == 2 || o == 4 || o == 5)

end Sys2Proof.Machine
end

