-- ==== Sys2Proof/Machine/Tree.lean ====
section
/-! DEFINITION. The nodes of a group's tree (R186 to R191, R198 to R204, R208, R225): slots, contributions, completions, faults. -/

namespace Sys2Proof.Machine

open Sys2Proof

-- Which way (R26, R187, R188).

/-- Whether this die is its package's group path head (R26). -/
def State.isGph (s : State) : Bool := s.get R.LK_TOPO_ROLE != 0 && s.get R.LK_TOPO_ROLE == s.lk.ring.gph.toNat

/-- Whether the group path head has a path upward (R26). -/
def State.upPath (s : State) : Bool := s.isGph && s.inService .tlink

/-- The pod of a group's first member. -/
def GroupRec.pod (g : GroupRec) : Nat := match g.members with
  | m :: _ => uaPod m.1
  | [] => 0

/-- The UA of a POD or HALL group's top node (R187), as a Verard sees it. -/
def State.topUa (s : State) (g : GroupRec) : Nat :=
  if s.vdRole = 2 then 0x40000 + uaPod (s.ua .verard) * 2048
  else if g.scope = 2 then 0x40000 else 0x20000 + g.pod * 2048

/-- Whether this Verard is the top node for a scope (R187). -/
def State.vdTop (s : State) (scope : Nat) : Bool :=
  s.get R.VD_TOPO_SIDE == 0 && ((scope == 1 && s.vdRole != 0) || (scope == 2 && s.vdRole != 1))

/-- Whether a part is the top node of a group it holds (R187, R188). -/
def State.isTop (s : State) (d : Dev) (g : GroupRec) : Bool :=
  match d with
  | .lotik => g.scope == 0 && s.isGph
  | .verard => (g.state != 0 || g.round.isSome) && g.role == 0

/-- A root's downstream ports to one pod (R18): both sides of it where HOMING is set. -/
def State.podPorts (s : State) (pod : Nat) : List Nat :=
  if s.getB R.VD_TOPO_HOMING then [pod, pod + 32] else [pod]

/-- The member packages of a group that hang on this pod Verard (R188). -/
def State.ownPkgs (s : State) (g : GroupRec) : List (Nat × Nat) := g.members.filter (fun m => uaPod m.1 == uaPod (s.ua .verard))

/-- The member ports of a group at this Verard (R214). -/
def State.memberPorts (s : State) (g : GroupRec) : List Nat :=
  if s.vdRole = 0 then (g.members.map (fun m => uaPod m.1)).eraseDups.flatMap s.podPorts
  else (s.ownPkgs g).map (fun m => uaPort m.1)

/-- The downstream port with a number. -/
def downPort (n : Nat) : PortId := .down (Fin.ofNat 64 n)

/-- Whether a port is group-active (R188). -/
def State.groupActive (s : State) (n : Nat) : Bool := s.inService (downPort n) && s.getB (R.PORT_GROUP_GROUP_ACTIVE (downPort n))

/-- Send a tree message on a port, under its credits (R204). -/
def State.sendPort (s : State) (d : Dev) (p : PortId) (m : TreeMsg) : State :=
  s.transmit d p.idx (treeCls m) (treeCells m) (.tree (.port p) m)

/-- The ports by which a Verard passes a downward message on (R188, R189): its member ports; the tie of a root or COMBINED Verard
unless it came by it; from the top of a POD group, and for such a group at a root, toward the pod's other Verard. -/
def State.downPorts (s : State) (g : GroupRec) (arrived : Option Path) : List PortId :=
  let tie : List PortId := [s.tiePort]
  let other : List PortId := match s.routeUni .verard (0x20000 + g.pod * 2048 + 1) arrived with
    | some (.port p) => [p]
    | _ => []
  let ps : List PortId :=
    if s.vdRole = 0 then (if g.scope = 2 then (s.memberPorts g).map downPort ++ tie else other)
    else (s.memberPorts g).map downPort ++
      (if s.vdRole = 2 then tie else if g.scope = 1 ∧ s.get R.VD_TOPO_SIDE = 0 then other else [])
  ps.filter (fun p => s.inService p && arrived != some (.port p))

/-- Pass a downward message on from a Verard. -/
def State.sendDown (s : State) (g : GroupRec) (arrived : Option Path) (m : TreeMsg) : State :=
  (s.downPorts g arrived).foldl (fun s p => s.sendPort .verard p m) s

/-- The dies to which a head sends a downward message on the ring (R189): the members, and the other head. -/
def State.ringDies (s : State) (mask : Nat) : List Nat :=
  (List.range 32).filter (fun x => x != uaDie (s.ua .lotik) && (mask.testBit x || s.otherHeads.contains x))

/-- A head puts a downward message on the ring (R139, R189). -/
def State.ringDown (s : State) (mask : Nat) (m : TreeMsg) : State := (s.ringDies mask).foldl (fun s x => s.ringTree x m) s

/-- A link beside a Verard carries an operation from now on (R208): a contribution came by it, was sent on it, or waits to be. -/
def GroupRec.carry (g : GroupRec) (oseq : BitVec 16) (op link : Nat) : GroupRec :=
  let x : OpSlot := smGet {} g.slots (oseq.toNat % 4)
  let old (o : BitVec 16) : Bool := decide (0x8000 ≤ (o - g.done).toNat)
  if old oseq || (x.ended && x.oseq == oseq) then g
  else
    let links := ((g.carried.find? (fun c => c.1 == oseq)).map (·.2.2)).getD []
    { g with carried := (oseq, op, (link :: links).eraseDups) :: g.carried.filter (fun c => c.1 != oseq && !old c.1) }

/-- A contribution crosses, or waits to cross, a port of a Verard (R208). -/
def State.carries (s : State) (p : PortId) (m : TreeMsg) : State :=
  match m with
  | .grp m =>
    if m.kind = 0x20 ∨ m.kind = 0x21 then
      s.setGroup .verard m.gid.toNat ((s.group .verard m.gid.toNat).carry m.oseq m.op.toNat p.idx)
    else s
  | .job _ => s

/-- Send a message from a part toward a group's top node (R188, R427); whether there was a way. -/
def State.sendTop (s : State) (d : Dev) (g : GroupRec) (arrived : Option Path) (m : TreeMsg) : State × Bool :=
  match d with
  | .lotik => if s.upPath then (s.sendPort .lotik .tlink m, true) else (s, false)
  | .verard =>
    match s.routeUni .verard (s.topUa g) arrived with
    | some (.port p) => if s.inService p then ((s.carries p m).sendPort .verard p m, true) else (s, false)
    | _ => (s, false)

/-- Return the credits of an absorbed frame (R204). -/
def State.returnCredit (s : State) (path : Path) (die cls cells : Nat) : State :=
  match path with
  | .port p =>
    let n (c : Nat) : BitVec 16 := BitVec.ofNat 16 (if c = cls then cells else 0)
    s.emitFrame (.tree path (.grp { kind := 0x28, gid := 0, gen := 0, src := BitVec.ofNat 20 (s.ua p.dev),
                                    body := .credit (n 1) (n 2) (n 3) (n 4) }))
  | .ring _ =>
    let r := s.ringToward die
    s.emit (ringOut r { ccw := r == .w, src := s.lk.ring.die, dst := BitVec.ofNat 6 die, body := .credit (BitVec.ofNat 96 (cls + 8 * cells)) })
  | .host _ => s

-- Fences (R210).

/-- A message of another generation is discarded and counted (R210). -/
def State.staleMsg (s : State) (d : Dev) (path : Option Path) (gid : Nat) : State :=
  match d with
  | .lotik => (s.bumpSat R.LK_GQ_DROP_STALE).put R.LK_GQ_IRQ_DROP 1
  | .verard =>
    let g := s.group .verard gid
    let s := s.setGroup .verard gid { g with stale := min (g.stale + 1) 65535 }
    let s := s.bumpSat R.VD_ENG_STALE_STALE
    match path with
    | some (.port p) => if p.dev = .verard then s.bumpSat (R.PORT_MSG_CNT_STALE p) else s
    | _ => s

-- Slots (R198, R214, R223 to R225).

/-- What a contribution came to: nothing, part of a sequence, counted, or a fault of R208. -/
inductive Take where
  | drop
  | wait
  | counted
  | bad (cause : Nat)
  deriving DecidableEq, Repr

/-- The slot of an OSEQ. -/
def GroupRec.slot (g : GroupRec) (oseq : BitVec 16) : OpSlot := smGet {} g.slots (oseq.toNat % 4)

/-- Replace the slot of an OSEQ. -/
def GroupRec.setSlot (g : GroupRec) (oseq : BitVec 16) (x : OpSlot) : GroupRec := { g with slots := smPut {} g.slots (oseq.toNat % 4) x }

/-- Whether an OSEQ lies behind the operations the node still keeps. -/
def GroupRec.isOld (g : GroupRec) (oseq : BitVec 16) : Bool := decide (0x8000 ≤ (oseq - g.done).toNat)

/-- The Basin entry for a new operation (R233): its slot's number modulo DEPTH, or the first that no operation in flight holds
(notes/assumptions/126). -/
def GroupRec.freeEntry (g : GroupRec) (oseq : BitVec 16) : Nat :=
  let held := (g.slots.filter (fun x => x.2.busy && !g.isOld x.2.oseq)).map (fun x => x.2.entry)
  let first := oseq.toNat % 4 % max 1 g.depth
  ((first :: List.range g.depth).find? (fun e => !held.contains e)).getD first

/-- A contribution that opens a slot, or none where the slot holds the operation or a later one. -/
def GroupRec.open_ (g : GroupRec) (now : Nat) (m : GroupMsg) : Option (GroupRec × OpSlot) :=
  let x := g.slot m.oseq
  let used := x.busy || x.ended
  if g.isOld m.oseq then none
  else if used ∧ x.oseq = m.oseq then (if x.ended then none else some (g, x))
  else if used ∧ 0x8000 ≤ (m.oseq - x.oseq).toNat then none
  else
    -- Every member's window has passed the operations DEPTH behind (R196).
    let ahead := (m.oseq - g.done).toNat
    let g := if g.depth ≤ ahead ∧ g.depth ≠ 0 then { g with done := m.oseq + 1 - BitVec.ofNat 16 g.depth } else g
    some (g, { oseq := m.oseq, busy := true, op := m.op.toNat, ty := m.ty.toNat, sh := m.shape.toNat, firstAt := now,
               entry := g.freeEntry m.oseq })

/-- Add a whole contribution to a slot. -/
def OpSlot.add (x : OpSlot) (src cover : Nat) (es : List Elem) : OpSlot :=
  { x with cover := x.cover + cover, from_ := x.from_ ++ [src],
           frags := x.frags.filter (fun f => f.from_ != src),
           elems := if x.elems = [] then es else x.elems.zipWith (fun a b => a.combine x.op b) es }

/-- The elements of a whole contribution, where they cover every element exactly once (R224). -/
def wholeElems (count : Nat) (es : List (Nat × Elem)) : Option (List Elem) :=
  if es.length = count then (List.range count).mapM (fun i => (es.find? (fun e => e.1 == i)).map (·.2)) else none

/-- One contribution or fragment reaches a node's slot (R198, R223 to R225). -/
def GroupRec.take (g : GroupRec) (now : Nat) (m : GroupMsg) : GroupRec × Take :=
  match g.open_ now m with
  | none => (g, .drop)
  | some (g, x) =>
    let src := m.src.toNat
    if x.faulted ∨ (uaClass src = 0 ∧ x.from_.contains src) then (g, .drop)
    else if m.op.toNat ≠ x.op ∨ m.ty.toNat ≠ x.ty ∨ m.shape.toNat ≠ x.sh then (g.setSlot m.oseq x, .bad 1)
    else if m.kind = 0x20 then (g.setSlot m.oseq (x.add src m.cover.toNat []), .counted)
    else
      let count := shapeCount x.sh
      let bytes := match m.body with | .limbs b => b | _ => []
      let total := max 1 m.fragTotal.toNat
      let ix := m.fragIx.toNat
      let f := (x.frags.find? (fun f => f.from_ == src)).getD { from_ := src, next := 0, total := total, elems := [] }
      match readFrag x.op x.ty count bytes with
      | none => (g.setSlot m.oseq x, .bad 6)
      | some es =>
        if ix ≠ f.next ∨ total ≠ f.total then (g.setSlot m.oseq x, .bad 6)
        else
          let f := { f with next := ix + 1, elems := f.elems ++ es }
          if ix + 1 < total then
            (g.setSlot m.oseq { x with frags := f :: x.frags.filter (fun h => h.from_ != src) }, .wait)
          else match wholeElems count f.elems with
            | none => (g.setSlot m.oseq x, .bad 6)
            | some es => (g.setSlot m.oseq (x.add src m.cover.toNat es), .counted)

/-- DONE moves past the operations that have ended. -/
def GroupRec.advance (g : GroupRec) : Nat → GroupRec
  | 0 => g
  | n + 1 => if (g.slot g.done).ended ∧ (g.slot g.done).oseq = g.done then GroupRec.advance { g with done := g.done + 1 } n else g

/-- An operation has ended at a node (R198, R208, R214); nothing where it had ended before. -/
def GroupRec.finish (g : GroupRec) (oseq : BitVec 16) (cause ua : Nat) : Option GroupRec :=
  let x := g.slot oseq
  if g.isOld oseq ∨ (x.ended ∧ x.oseq = oseq) then none
  else
    let x := if x.busy ∧ x.oseq = oseq then x else { oseq := oseq }
    let g := g.setSlot oseq { x with busy := false, ended := true, faulted := cause != 0, elems := [], frags := [] }
    let g := { g with completed := (g.completed + 1) % 2 ^ 64, carried := g.carried.filter (fun x => x.1 != oseq) }
    let g := if cause = 0 then g
      else { g with faults := (g.faults + 1) % 2 ^ 64, lastCause := cause, lastUa := ua, lastOseq := oseq.toNat }
    some (g.advance 4)

-- Completions (R189, R198, R200, R208).

/-- A completion or result as a message. -/
def State.endMsg (s : State) (d : Dev) (gid : Nat) (g : GroupRec) (oseq : BitVec 16) (x : Nat × Nat × Nat) (cause ua tc : Nat)
    (body : GroupBody) : GroupMsg :=
  { kind := if x.1 = 0 then 0x22 else 0x23, status := if cause = 0 then 0 else 0x51, gid := BitVec.ofNat 18 gid,
    gen := BitVec.ofNat 14 g.gen, oseq := oseq, op := BitVec.ofNat 8 x.1, ty := BitVec.ofNat 8 x.2.1, shape := BitVec.ofNat 8 x.2.2,
    cause := BitVec.ofNat 8 cause, src := BitVec.ofNat 20 ua, stamp := if cause = 0 then packInstant (s.wrap d) tc else 0, body := body }

/-- A node ends an operation and sends its completion into its own subtree: from the top node, to every member. Its t_c is the node's fine
hall time as it ends (R198, R200), and SRC the node that originates it (R202). -/
def State.endHere (s : State) (d : Dev) (gid : Nat) (oseq : BitVec 16) (x : Nat × Nat × Nat) (cause ua : Nat) (body : GroupBody) : State :=
  let g := s.group d gid
  match g.finish oseq cause ua with
  | none => s
  | some g' =>
    let m := TreeMsg.grp (s.endMsg d gid g oseq x cause ua (s.fineNow d) body)
    let s := s.drawn.setGroup d gid g'
    match d with
    | .lotik => (s.ringDown (g.mask s.pkgUa) m).mailTo (.toMember m)
    | .verard => s.sendDown g none m

/-- FAULT reaches a node, or is found at it (R208): the top ends the operation, another node sends it up, and where it has no way up
ends the operation in its own subtree with TOP_LOST. A head that is not the group path head sends nothing. -/
def State.nodeFault (s : State) (d : Dev) (gid : Nat) (oseq : BitVec 16) (op cause ua : Nat) (arrived : Option Path) : State :=
  let g := s.group d gid
  let x := g.slot oseq
  let held := x.busy && x.oseq == oseq
  let t := if held then (x.op, x.ty, x.sh) else (op, 0, 0)
  if g.isOld oseq ∨ (x.ended ∧ x.oseq = oseq) then s
  else if s.isTop d g then s.endHere d gid oseq t cause ua .none
  else
    let s := if held then s.setGroup d gid (g.setSlot oseq { x with faulted := true }) else s
    if d = .lotik ∧ !s.isGph then s
    else
      let m : GroupMsg :=
        { kind := 0x24, gid := BitVec.ofNat 18 gid, gen := BitVec.ofNat 14 g.gen, oseq := oseq, op := BitVec.ofNat 8 t.1,
          cause := BitVec.ofNat 8 cause, src := BitVec.ofNat 20 ua, stamp := packInstant (s.wrap d) (s.now d) }
      let q := s.sendTop d g arrived (.grp m)
      let s' := q.1
      let ok := q.2
      if ok then s' else s.endHere d gid oseq t 4 (s.ua d) .none

/-- Send a node's contribution upward (R188, R198, R200): COVER and the combined elements. -/
def State.sendContribution (s : State) (d : Dev) (gid : Nat) (oseq : BitVec 16) : State :=
  let g := s.group d gid
  let x := g.slot oseq
  let m : GroupMsg :=
    { kind := 0x20, gid := BitVec.ofNat 18 gid, gen := BitVec.ofNat 14 g.gen, oseq := oseq, op := BitVec.ofNat 8 x.op,
      ty := BitVec.ofNat 8 x.ty, shape := BitVec.ofNat 8 x.sh, src := BitVec.ofNat 20 (s.ua d),
      sideB := (match d with | .verard => s.get R.VD_TOPO_SIDE == 1 | .lotik => s.get R.LK_TOPO_ROLE == 2), cover := BitVec.ofNat 16 (if d = .lotik then 1 else x.cover) }
  let ms := if x.op = 0 then [m] else partials m (limbLists x.op x.ty x.elems)
  let s := s.setGroup d gid (g.setSlot oseq { x with sent := true })
  let r := ms.foldl (fun (r : State × Bool) m =>
    let q := r.1.sendTop d g none (.grp m)
    let s := q.1
    let ok := q.2
    (s, r.2 && ok)) (s, true)
  let s := r.1
  let ok := r.2
  if ok then s else s.nodeFault d gid oseq x.op 4 (s.ua d) none

/-- The top node's count is complete: it completes the operation, with the result rounded (R198, R200, R226). -/
def State.topDone (s : State) (d : Dev) (gid : Nat) (oseq : BitVec 16) : State :=
  let x := (s.group d gid).slot oseq
  s.endHere d gid oseq (x.op, x.ty, x.sh) 0 (s.ua d) (if x.op = 0 then .none else .result (resultBody x.op x.ty x.sh x.elems))

/-- The member packages of a COMBINING Verard's group-active ports have all contributed (R188). -/
def State.combined (s : State) (g : GroupRec) (x : OpSlot) : Bool :=
  x.from_ != [] && ((s.ownPkgs g).filter (fun m => s.groupActive (uaPort m.1))).all (fun m => x.from_.any (fun u => u / 32 * 32 == m.1))

/-- A slot's count may now be complete. -/
def State.trySlot (s : State) (d : Dev) (gid : Nat) (oseq : BitVec 16) : State :=
  let g := s.group d gid
  let x := g.slot oseq
  if !x.busy ∨ x.oseq ≠ oseq ∨ x.faulted ∨ x.sent then s else
  match d with
  | .lotik =>
    let mask := g.mask s.pkgUa
    if mask ≠ 0 ∧ (List.range 32).all (fun b => !mask.testBit b || x.from_.any (fun u => uaDie u == b)) then
      if !s.isGph then s
      else if g.scope = 0 then s.topDone .lotik gid oseq
      else s.sendContribution .lotik gid oseq
    else s
  | .verard =>
    if g.role = 0 then (if g.members.length ≤ x.cover then s.topDone .verard gid oseq else s)
    else if s.combined g x then s.sendContribution .verard gid oseq
    else s

/-- A contribution passes through a Verard uncounted (R188). -/
def State.relayUp (s : State) (gid : Nat) (m : GroupMsg) (arrived : Option Path) : State :=
  let g := s.group .verard gid
  let q := s.sendTop .verard g arrived (.grp { m with relayed := true })
  let s' := q.1
  let ok := q.2
  if ok then s' else s.nodeFault .verard gid m.oseq m.op.toNat 4 (s.ua .verard) arrived

/-- Whether a part counts for a group: it is SEALED here, or SEALING at its top, whose members may already have submitted (R193). -/
def GroupRec.counts (g : GroupRec) : Bool := g.state == 2 || g.state == 3

/-- ARRIVE or PARTIAL at a node (R198, R200, R225). -/
def State.contribution (s : State) (d : Dev) (m : GroupMsg) (arrived : Option Path) : State :=
  let gid := m.gid.toNat
  let g := s.group d gid
  if !g.counts then s else
  let s := match arrived with
    | some (.port p) => s.carries p (.grp m)
    | _ => s
  let g := s.group d gid
  let x := g.slot m.oseq
  if d = .verard ∧ (g.role = 2 ∨ (g.role = 1 ∧ x.busy ∧ x.oseq = m.oseq ∧ x.sent ∧ !x.faulted)) then s.relayUp gid m arrived
  else
    let (g', r) := g.take (s.now d) m
    match r with
    | .drop => s
    | .wait => s.setGroup d gid g'
    | .counted => (s.setGroup d gid g').trySlot d gid m.oseq
    | .bad cause => (s.setGroup d gid g').nodeFault d gid m.oseq m.op.toNat cause (s.ua d) none

/-- COMPLETE or RESULT at a node that is not the top (R189): its slot ends, and it passes the message on. -/
def State.passEnd (s : State) (d : Dev) (m : GroupMsg) (arrived : Option Path) : State :=
  let gid := m.gid.toNat
  let g := s.group d gid
  match g.finish m.oseq (if m.status = 0 then 0 else m.cause.toNat) m.src.toNat with
  | none => s
  | some g' =>
    let s := s.setGroup d gid g'
    match d with
    | .lotik => s
    | .verard => s.sendDown g arrived (.grp m)

/-- COMPLETE or RESULT at a member (R189, R195 to R197). -/
def State.memberEnd (s : State) (m : GroupMsg) : State :=
  match s.queueOf m.gid.toNat with
  | none => s
  | some n =>
    if m.status = 0 then
      s.finishOp n m.oseq 0 0 0 (unpackInstant (s.wrap .lotik) (s.now .lotik) m.stamp) (match m.body with | .result b => b | _ => [])
    else s.finishOp n m.oseq m.status.toNat m.cause.toNat m.src.toNat 0 []

-- A port or path leaves group service (R188, R208).

/-- The operations of a part's groups that are in flight, with what a test of group and slot picks. -/
def State.liveOps (s : State) (d : Dev) (f : GroupRec → OpSlot → Bool) : List (Nat × OpSlot) :=
  (s.tree d).groups.flatMap (fun g => (g.2.slots.filter (fun x => x.2.busy && !x.2.faulted && f g.2 x.2)).map (fun x => (g.1, x.2)))

/-- Fault operations with cause PATH (R208). -/
def State.faultPath (s : State) (d : Dev) (ops : List (Nat × OpSlot)) : State :=
  ops.foldl (fun s o => s.nodeFault d o.1 o.2.oseq o.2.op 2 (s.ua d) none) s

/-- Look again at every slot of a Verard: fewer ports may now be group-active. -/
def State.retryAll (s : State) : State :=
  (s.liveOps .verard (fun _ _ => true)).foldl (fun s o => s.trySlot .verard o.1 o.2.oseq) s

/-- Show whether a port is group-active, and with it whether this Verard decides for the dies of its package (R213, R329). -/
def State.setActive (s : State) (p : PortId) (b : Bool) : State :=
  let s := s.putB (R.PORT_GROUP_GROUP_ACTIVE p) b
  match p with
  | .down n => if s.vdRole = 0 then s else (List.range 32).foldl (fun s d => s.putB (R.VD_HM_DIEn_DECIDER (n.val * 32 + d)) b) s
  | _ => s

/-- The operations that a Verard's port carries (R208): counted here or passed on, until they have ended. -/
def State.carriedBy (s : State) (p : PortId) : List (Nat × OpSlot) :=
  (s.tree .verard).groups.flatMap (fun g =>
    (g.2.carried.filter (fun c => c.2.2.contains p.idx && !g.2.isOld c.1)).map (fun c => (g.1, { oseq := c.1, op := c.2.1 })))

/-- A Verard port has left SERVICE (R188, R208): it is not group-active, and what it carried ends. -/
def State.vdPortDown (s : State) (p : PortId) : State :=
  let ops := s.carriedBy p
  (((s.setActive p false).resetCredit .verard p.idx).faultPath .verard ops).retryAll

-- A round's answers are gathered (R139).

/-- The kinds of answer that are aggregated: ARM_ACK, COMMIT_ACK, DRAINED, CHECK and BIND_ACK. -/
def gathered (kind : Nat) : Bool := kind == 0x02 || kind == 0x04 || kind == 0x08 || kind == 0x10 || kind == 0x27

/-- A gathered answer of a part as a message. -/
def State.aggMsg (s : State) (d : Dev) (a : AckAgg) (bitmap : Nat) : TreeMsg :=
  let gid := BitVec.ofNat 18 (a.word % 2 ^ 18)
  let gen := BitVec.ofNat 14 (a.word / 2 ^ 18)
  if a.kind = 0x27 then
    .grp { kind := 0x27, gid := gid, gen := gen, src := BitVec.ofNat 20 (s.ua d), body := .ack (BitVec.ofNat 64 bitmap) [] }
  else
    .job { kind := BitVec.ofNat 8 a.kind, gid := gid, gen := gen, cseq := BitVec.ofNat 16 a.cseq, src := BitVec.ofNat 20 (s.ua d),
           instant := BitVec.ofNat 96 a.step, bitmap := BitVec.ofNat 64 bitmap }

/-- The bitmap a part has gathered (R139): a head's dies; a pod Verard's packages, by port. -/
def State.aggBits (s : State) (d : Dev) (g : GroupRec) (a : AckAgg) : Nat :=
  match d with
  | .lotik => smGet 0 a.got 0
  | .verard => ((s.ownPkgs g).filter (fun m => smGet 0 a.got (uaPort m.1) &&& m.2 == m.2)).foldl (fun n m => n ||| 2 ^ uaPort m.1) 0

/-- Whether every member that a part gathers for has answered (R139). -/
def State.aggFull (s : State) (d : Dev) (g : GroupRec) (bitmap : Nat) : Bool :=
  match d with
  | .lotik => g.mask s.pkgUa != 0 && bitmap &&& g.mask s.pkgUa == g.mask s.pkgUa
  | .verard => ((s.ownPkgs g).filter (fun m => s.groupActive (uaPort m.1))).all (fun m => bitmap.testBit (uaPort m.1))

/-- Replace one gathered answer. -/
def State.putAgg (s : State) (d : Dev) (a : AckAgg) : State :=
  s.setTree d { s.tree d with aggs := a :: (s.tree d).aggs.filter (fun b => !(b.kind == a.kind && b.word == a.word)) }

/-- Send a gathered answer where it is due (R139): when full, and after 5 µs at every change. Only the group path head sends. -/
def State.aggSend (s : State) (d : Dev) (a : AckAgg) (again : Bool) : State :=
  let g := s.group d (a.word % 2 ^ 18)
  let bits := s.aggBits d g a
  let due := again || ((s.aggFull d g bits || a.timed) && bits != a.sent)
  let s := s.putAgg d a
  if !due ∨ s.isTop d g ∨ (d = .lotik ∧ !s.isGph) then s
  else
    let q := s.sendTop d g none (s.aggMsg d a bits)
    let s' := q.1
    let ok := q.2
    if ok then s'.putAgg d { a with sent := bits } else s

/-- An answer is gathered (R139): the answering dies of one port; whether it could be: a CHECK of another step count is not. -/
def State.gather (s : State) (d : Dev) (kind word cseq step port dies : Nat) : State × Bool :=
  match (s.tree d).aggs.find? (fun a => a.kind == kind && a.word == word && (a.cseq == cseq || kind == 0x08 || kind == 0x10)) with
  | some a =>
    if a.step ≠ step then (s, false)
    else (s.aggSend d { a with got := smPut 0 a.got port (smGet 0 a.got port ||| dies) } false, true)
  | none =>
    (s.aggSend d { kind := kind, word := word, cseq := cseq, step := step, got := smPut 0 [] port dies, firstAt := s.now d } false, true)

/-- Forget the answers gathered for a job or group, of some kinds. -/
def State.dropAggs (s : State) (d : Dev) (word : Nat) (kinds : Nat → Bool) : State :=
  s.setTree d { s.tree d with aggs := (s.tree d).aggs.filter (fun a => !(a.word == word && kinds a.kind)) }

/-- 5 µs after the first answer (R139). -/
def State.aggTimer (s : State) (d : Dev) : State :=
  let due := (s.tree d).aggs.filter (fun a => !a.timed && decide (a.firstAt + usSub 5 ≤ s.now d))
  due.foldl (fun s a => s.aggSend d { a with timed := true } false) s

/-- Send the answers of every open round again (R139, R145). -/
def State.resendAggs (s : State) (d : Dev) : State := (s.tree d).aggs.foldl (fun s a => s.aggSend d a true) s

-- A new generation, a release (R151, R191, R192).

/-- A node clears what a group has in flight and adopts a generation (R151, R192). -/
def State.renewNode (s : State) (d : Dev) (gid gen : Nat) : State :=
  let g := s.group d gid
  let word := gid + g.gen * 2 ^ 18
  let s := s.dropAggs d word (fun _ => true)
  let mine (w : TxWait) : Bool := match w.out with
    | .tree _ (.grp m) => m.gid.toNat == gid && treeCls (.grp m) != 1
    | _ => false
  let s := s.setTree d { s.tree d with waits := (s.tree d).waits.filter (fun w => !mine w) }
  let s := if d = .verard then s.showResv else s
  let s := s.doIf (d == .lotik) (fun s => s.endGroupSessions gid gen)
  s.setGroup d gid { g with slots := [], carried := [], done := 0, gen := gen }

/-- Basin units reserved at a part (R233). -/
def State.basinUsed (s : State) (d : Dev) : Nat := ((s.tree d).groups.map (fun g => g.2.basin)).sum

/-- Show what a part's groups take (R212, R214). -/
def State.showGroups (s : State) (d : Dev) : State :=
  let gs := (s.tree d).groups.map (·.2)
  match d with
  | .lotik => (s.put R.LK_GQ_BASIN_USED (s.basinUsed d)).put R.LK_GQ_STAT_HEAD_USED (gs.filter (fun g => g.basin != 0)).length
  | .verard =>
    let open_ := (gs.filter (fun g => g.role == 0 && (g.state == 1 || g.state == 2))).length
    (s.put R.VD_BASIN_USE_RESERVED (s.basinUsed d)).put R.VD_BUILDS_OPEN open_

/-- A node releases a group's reservations and holds it FREE (R191, R192); the counts of its operations end with the group, and
that of the GID's fenced messages stays (notes/assumptions/125). -/
def State.freeNode (s : State) (d : Dev) (gid : Nat) : State :=
  (s.setGroup d gid { s.group d gid with state := 0, basin := 0, basinAt := 0, slots := [], carried := [], done := 0, completed := 0, faults := 0,
                                         lastCause := 0, lastUa := 0, lastOseq := 0 }).showGroups d

/-- Where a node reserves Basin units (R191, R233): the lowest run that is free (notes/assumptions/24), or nowhere. A head takes one of
its 4,096 head-table entries with it. -/
def State.basinFit (s : State) (d : Dev) (units : Nat) : Option Nat :=
  let held := ((s.tree d).groups.map (·.2)).filter (fun g => g.basin != 0)
  let size := match d with | .lotik => 1024 | .verard => 131072
  let fits (u : Nat) : Bool := decide (u + units ≤ size) && held.all (fun g => decide (u + units ≤ g.basinAt) || decide (g.basinAt + g.basin ≤ u))
  let starts := (0 :: held.map (fun g => g.basinAt + g.basin)).filter fits
  if d = .lotik ∧ 4096 ≤ held.length then none
  else match starts with
    | [] => none
    | u :: us => some (us.foldl min u)

end Sys2Proof.Machine
end

