-- ==== Sys2Proof/Machine/JobRoot.lean ====
section
/-! DEFINITION. The job root (R137, R140 to R151, R272, R293, R294, R296): its records, rounds, faults, teardown and retirement. -/

namespace Sys2Proof.Machine

open Sys2Proof

/-- The dies of a list of packages and masks. -/
def dieCount (ms : List (Nat × Nat)) : Nat := (ms.map (fun m => ((List.range 32).filter (fun b => m.2.testBit b)).length)).sum

/-- The members not yet in a list of answers. -/
def missing (ms got : List (Nat × Nat)) : List (Nat × Nat) :=
  ms.map (fun m => (m.1, m.2 &&& (0xFFFFFFFF ^^^ smGet 0 got m.1)))

/-- Add answers to a list (R139). -/
def mergeAcks (got new : List (Nat × Nat)) : List (Nat × Nat) :=
  new.foldl (fun g n => smPut 0 g n.1 (smGet 0 g n.1 ||| n.2)) got

/-- What an answer covers (R139): dies of its package, or whole packages of its pod. -/
def covers (g : GroupRec) (src : Nat) (bitmap : BitVec 64) : List (Nat × Nat) :=
  if uaClass src = 0 then [(src / 32 * 32, bitmap.toNat % 2 ^ 32)]
  else g.members.filter (fun m => uaPod m.1 == uaPod src && bitmap.toNat.testBit (uaPort m.1))

/-- The record of a job at its root, live or ended. -/
def State.job (s : State) (d : Dev) (gid : Nat) : Option JobRec := (s.tree d).jobs.find? (fun r => r.gid == gid)

/-- Whether a job's record is live (R140, R192). -/
def State.jobLive (s : State) (d : Dev) (gid : Nat) : Bool := (s.tree d).jobs.any (fun r => r.gid == gid && r.state != 0)

/-- Replace the record of a job. -/
def State.setJob (s : State) (d : Dev) (r : JobRec) : State :=
  s.setTree d { s.tree d with jobs := r :: (s.tree d).jobs.filter (fun x => x.gid != r.gid) }

/-- How many job records a part holds (R137). -/
def jobCap : Dev → Nat
  | .lotik => 1
  | .verard => 4096

/-- START_MARGIN of a part (R141). -/
def State.startMargin (s : State) : Dev → Nat
  | .lotik => usSub s.lk.prof.startMarginUs
  | .verard => usSub s.vd.prof.startMarginUs

/-- Send a job's downward message from its root (R139). -/
def State.jobDown (s : State) (d : Dev) (m : JobMsg) : State :=
  let g := s.group d m.gid.toNat
  match d with
  | .lotik => (s.ringDown (g.mask s.pkgUa) (.job m)).mailTo (.toMember (.job m))
  | .verard => s.sendDown g none (.job m)

/-- A downward message of a record. -/
def JobRec.msg (r : JobRec) (kind : Nat) : JobMsg :=
  { kind := BitVec.ofNat 8 kind, gid := BitVec.ofNat 18 r.gid, gen := BitVec.ofNat 14 r.gen, cseq := BitVec.ofNat 16 r.cseq }

/-- The record's next control round. -/
def JobRec.next (r : JobRec) : JobRec := { r with cseq := (r.cseq + 1) % 65536 }

/-- The dies of a list of 3-byte UA and count fields that job completions carry (R154). -/
def roundFields (ms : List (Nat × Nat)) (r : JobRec) (ua : Nat) : List Byte :=
  leBytes 4 (if r.round = 1 then dieCount ms else dieCount (missing ms r.acked)) ++ leBytes 3 ua

/-- The opcode whose work a round answers (R154, R301). -/
def roundOpcode (round : Nat) : Byte := if round = 1 then 0x20 else if round = 2 then 0x21 else 0x65

/-- A round fails (R140, R142, R147, R296): ABORT, and the command completes; a RESUME leaves the job PAUSED. -/
def State.roundFail (s : State) (d : Dev) (r : JobRec) (status ua : Nat) : State :=
  let ms := (s.group d r.gid).members
  let s := s.jobDown d (r.msg jkAbort)
  let s := s.setJob d { r with round := 0, state := if r.round = 3 then r.state else 0 }
  s.complete d (roundOpcode r.round) r.gid status (roundFields ms r ua) true

/-- Retire a job (R151): silent members are recorded, RETIRE is sent, the group's generation advances, JOB_TEARDOWN completes. RETIRE
carries TD, in hall ticks, in BITMAP (notes/assumptions/19). -/
def State.retire (s : State) (d : Dev) (r : JobRec) : State :=
  let ms := (s.group d r.gid).members
  let silent := missing ms r.drained
  let word := r.gid + r.gen * 2 ^ 18
  let s := silent.foldl (fun s m => ((List.range 32).filter (fun b => m.2.testBit b)).foldl (fun s b =>
    s.report d { kind := 0x0407, sev := 3, ua := m.1 + b, step := s.stepCount d, arg := leBytes 4 word }) s) s
  let r := r.next
  let s := s.jobDown d { r.msg jkRetire with bitmap := BitVec.ofNat 64 (r.td / tickSub) }
  let s := s.renewNode d r.gid ((r.gen + 1) % 16384)
  let s := if d = .verard then s.dropWindows word else s
  let s := s.setJob d { r with state := 0, round := 0 }
  s.complete d 0x23 r.gid 0 (leBytes 4 (dieCount silent)) true

/-- Tear a job down (R144, R147, R149, R294): at TD, or at once where it is 0; a pause or resume under way completes. The cause other
than TEARDOWN travels in BITMAP (notes/assumptions/19). -/
def State.tear (s : State) (d : Dev) (r : JobRec) (td cause : Nat) : State :=
  let ms := (s.group d r.gid).members
  let r' := { r.next with state := 6, round := 0, td := if td = 0 then s.now d else td, gathers := [] }
  let s := s.jobDown d { r'.msg jkTeardown with
    bitmap := BitVec.ofNat 64 (if cause = 1 then 0 else cause), instant := if td = 0 then 0 else packInstant (s.wrap d) td }
  let s := s.setJob d r'
  let s := s.complete d 0x64 r.gid 0x51 (List.replicate 20 0 ++ leBytes 4 (dieCount (missing ms r.paused))) true
  if r.round = 3 then s.complete d 0x65 r.gid 0x51 (roundFields ms r 0) true else s

/-- Every member has answered a round (R140, R142, R296). -/
def State.roundOk (s : State) (d : Dev) (r : JobRec) : State :=
  let ms := (s.group d r.gid).members
  let done (s : State) : State := s.complete d (roundOpcode r.round) r.gid 0 (roundFields ms r 0) true
  if r.round = 1 then done (s.setJob d { r with round := 0 })
  else
    let s := s.jobDown d (r.msg jkConfirm)
    done (s.setJob d { r with round := if r.round = 3 then 4 else 0, state := if r.round = 3 then 5 else 3,
                              checkStep := none, checked := [], checkOpen := true })

/-- ARM_ACK or COMMIT_ACK at the root (R139 to R142). -/
def State.rootAck (s : State) (d : Dev) (r : JobRec) (m : JobMsg) : State :=
  let g := s.group d r.gid
  let mine := if m.kind.toNat = jkArmAck then r.round = 1 else r.round = 2 ∨ r.round = 3
  if ¬mine ∨ m.cseq.toNat ≠ r.cseq then s
  else if m.status ≠ 0 then s.roundFail d r m.status.toNat m.src.toNat
  else
    let r := { r with acked := mergeAcks r.acked (covers g m.src.toNat m.bitmap) }
    if dieCount (missing g.members r.acked) = 0 then s.roundOk d r else s.setJob d r

/-- CHECK at the root (R144). -/
def State.rootCheck (s : State) (d : Dev) (r : JobRec) (m : JobMsg) : State :=
  let g := s.group d r.gid
  let step := m.instant.toNat % 2 ^ 64
  if r.state < 3 ∨ 6 ≤ r.state ∨ !r.checkOpen then s
  else if (r.checkStep.getD step) ≠ step then s.tear d r 0 3
  else
    let r := { r with checkStep := some step, checked := mergeAcks r.checked (covers g m.src.toNat m.bitmap) }
    s.setJob d { r with checkOpen := dieCount (missing g.members r.checked) != 0 }

/-- DRAINED at the root (R151). -/
def State.rootDrained (s : State) (d : Dev) (r : JobRec) (m : JobMsg) : State :=
  let g := s.group d r.gid
  let r := { r with drained := mergeAcks r.drained (covers g m.src.toNat m.bitmap) }
  if r.state = 6 ∧ dieCount (missing g.members r.drained) = 0 then s.retire d r else s.setJob d r

/-- JOB_FAULT at the root (R147): the first is logged, without LK_FAULT_PC, which the message does not carry (R338), and kept; it fails
the open round or tears the job down. -/
def State.rootFault (s : State) (d : Dev) (r : JobRec) (m : JobMsg) : State :=
  let cause := m.status.toNat
  let s := s.doIf r.firstFault.isNone (fun s =>
    s.report d { kind := 0x0401, sev := 4, ua := m.src.toNat, step := m.bitmap.toNat,
                 arg := leBytes 4 cause ++ leBytes 4 (r.gid + r.gen * 2 ^ 18) })
  let r := { r with firstFault := r.firstFault.or (some (cause, m.src.toNat, m.bitmap.toNat)) }
  let s := s.setJob d r
  if r.state < 3 ∧ r.round ≠ 0 then s.roundFail d r 0x51 m.src.toNat
  else if (3 ≤ r.state ∧ r.state < 6) ∨ (r.state = 6 ∧ s.now d < r.td) then s.tear d r 0 15
  else s

/-- DEFER_REQ at the root (R272): gathered by step for 10 µs. -/
def State.rootDeferReq (s : State) (d : Dev) (r : JobRec) (m : JobMsg) : State :=
  if r.state ≠ 4 ∨ r.pauseAt.isSome then s else
  let n := m.bitmap.toNat % 2 ^ 32
  let step := m.bitmap.toNat / 2 ^ 32
  let at_ := unpackInstant (s.wrap d) (s.now d) m.instant
  match r.gathers.find? (fun x => x.1 == step) with
  | some (_, since, most, at0) =>
    s.setJob d { r with gathers := (step, since, max most n, at0) :: r.gathers.filter (fun x => x.1 != step) }
  | none => s.setJob d { r with gathers := (step, s.now d, n, at_) :: r.gathers }

/-- An instant as a deferral of `n` ticks at `a` leaves it (R135). -/
def deferMark (a n m : Nat) : Nat := if a ≤ m then m + n * tickSub else m

/-- A deferral sent moves the Marks the root keeps for its grants, so that each stands as moved by all those sent (R272). -/
def JobRec.sendDefer (r : JobRec) (a n : Nat) : JobRec :=
  { r.next with defers := r.defers ++ [(a, n)]
                granted := r.granted.map (fun y => (y.1, y.2.1, deferMark a n y.2.2))
                gathers := r.gathers.map (fun y => (y.1, y.2.1, y.2.2.1, deferMark a n y.2.2.2)) }

/-- Grant what was gathered for a step (R272). -/
def State.grant (s : State) (d : Dev) (r : JobRec) (x : Nat × Nat × Nat × Nat) : State :=
  let r := { r with gathers := r.gathers.filter (fun y => y.1 != x.1) }
  let (was, a) := ((r.granted.find? (fun y => y.1 == x.1)).map (·.2)).getD (0, x.2.2.2)
  if x.2.2.1 ≤ was then s.setJob d r
  else if a < s.now d + usSub 50 then (s.setJob d r).logKind d 0x0402 3 (leBytes 4 (r.gid + r.gen * 2 ^ 18))
  else
    let n := x.2.2.1 - was
    let r := { r with granted := (x.1, x.2.2.1, a) :: r.granted.filter (fun y => y.1 != x.1) }.sendDefer a n
    (s.setJob d r).jobDown d { r.msg jkDefer with instant := packInstant (s.wrap d) a, bitmap := BitVec.ofNat 64 n }

/-- DEFER_GATHER_TIMER (R272). -/
def State.deferTimer (s : State) (d : Dev) : State :=
  let due := (s.tree d).jobs.flatMap (fun r => (r.gathers.filter (fun x => decide (x.2.1 + usSub 10 ≤ s.now d))).map (fun x => (r.gid, x)))
  due.foldl (fun s x =>
    match s.job d x.1 with
    | some r =>
      match r.gathers.find? (fun y => y.1 == x.2.1) with
      | some y => if r.state = 4 ∧ r.pauseAt.isNone then s.grant d r y else s
      | none => s
    | none => s) s

/-- PAUSED at the root (R294): every report must name the same P and M. -/
def State.rootPaused (s : State) (d : Dev) (r : JobRec) (m : JobMsg) : State :=
  let g := s.group d r.gid
  if r.state ≠ 4 ∨ r.pauseAt.isNone then s else
  let p := m.bitmap.toNat
  let at_ := unpackInstant (s.wrap d) (s.now d) m.instant
  let (p0, m0, t0) := r.pauseP.getD (p, at_, s.now d)
  let src := m.src.toNat
  let r := { r with pauseP := some (p0, m0, t0), paused := mergeAcks r.paused [(src / 32 * 32, 2 ^ uaDie src)] }
  if p ≠ p0 ∨ at_ ≠ m0 then s.tear d r 0 1
  else
    if dieCount (missing g.members r.paused) = 0 then
      (s.setJob d { r with state := 5 }).complete d 0x64 r.gid 0
        (leBytes 8 p0 ++ packedBytes (s.wrap d) m0 ++ leBytes 4 0) true
    else s.setJob d r

/-- An upward message reaches the job root; messages of another generation or of no job fall. -/
def State.rootRx (s : State) (d : Dev) (m : JobMsg) : State :=
  match s.job d m.gid.toNat with
  | none => s
  | some r =>
    if r.state = 0 ∨ r.gen ≠ m.gen.toNat then s else
    let k := m.kind.toNat
    if k = jkArmAck ∨ k = jkCommitAck then s.rootAck d r m
    else if k = jkCheck then s.rootCheck d r m
    else if k = jkDrained then s.rootDrained d r m
    else if k = jkFault then s.rootFault d r m
    else if k = jkDeferReq then s.rootDeferReq d r m
    else if k = jkPaused then s.rootPaused d r m
    else s

/-- A head that is not the group path head keeps the record of a job confined to its package (R427): from the downward messages it
hears, and from the answers it gathers, it holds what the root holds. -/
def State.shadowJob (s : State) (m : JobMsg) : State :=
  let gid := m.gid.toNat
  let k := m.kind.toNat
  let fresh : JobRec := { gid := gid, gen := m.gen.toNat, cseq := m.cseq.toNat }
  let upd (f : JobRec → JobRec) : State := match s.job .lotik gid with
    | some r => if r.gen = m.gen.toNat then s.setJob .lotik (f { r with cseq := m.cseq.toNat }) else s
    | none => s
  let t := unpackInstant (s.wrap .lotik) (s.now .lotik) m.instant
  if k = jkArm then s.setJob .lotik fresh
  else if k = jkCommit then upd (fun r => { r with state := 2, round := 2, acked := [], t0 := t })
  else if k = jkConfirm then upd (fun r => { r with state := if r.round = 3 then 5 else 3, round := if r.round = 3 then 4 else 0, checkOpen := true, checked := [], checkStep := none })
  else if k = jkAbort then upd (fun r => { r with state := if r.round = 3 then 5 else 0, round := 0 })
  else if k = jkTeardown then upd (fun r => { r with state := 6, round := 0, td := if m.instant = 0 then s.now .lotik else t })
  else if k = jkRetire then upd (fun r => { r with state := 0, round := 0 })
  else if k = jkDefer then upd (fun r => { r with defers := r.defers ++ [(t, m.bitmap.toNat % 2 ^ 32)] })
  else if k = jkPause then upd (fun r => { r with pauseAt := some t, pauseP := none, paused := [] })
  else if k = jkResume then upd (fun r => { r with round := 3, acked := [], t0 := t })
  else s

/-- The answers such a head hears (R427). -/
def State.shadowAck (s : State) (m : JobMsg) : State :=
  let g := s.group .lotik m.gid.toNat
  match s.job .lotik m.gid.toNat with
  | none => s
  | some r =>
    if r.gen ≠ m.gen.toNat ∨ m.status ≠ 0 then s else
    let new := covers g m.src.toNat m.bitmap
    let k := m.kind.toNat
    if k = jkArmAck ∨ k = jkCommitAck then
      if m.cseq.toNat ≠ r.cseq then s else
      let r := { r with acked := mergeAcks r.acked new }
      s.setJob .lotik (if k = jkArmAck ∧ dieCount (missing g.members r.acked) = 0 then { r with round := 0 } else r)
    else if k = jkCheck then s.setJob .lotik { r with checked := mergeAcks r.checked new }
    else if k = jkDrained then s.setJob .lotik { r with drained := mergeAcks r.drained new }
    else s

-- The root's timers.

/-- COMMIT_DEADLINE (R142, R296): T0 − 20 µs with answers missing. -/
def State.commitDeadline (s : State) (d : Dev) : State :=
  let due := (s.tree d).jobs.filter (fun r => (r.round == 2 || r.round == 3) && decide (r.t0 ≤ s.now d + usSub 20))
  due.foldl (fun s r => if s.isTop d (s.group d r.gid) then s.roundFail d r 0x51 0 else s) s

/-- T0 or T_R at the root: the job runs. -/
def State.rootStart (s : State) (d : Dev) : State :=
  let go (r : JobRec) : Bool := (r.state == 3 || (r.state == 5 && r.round == 4)) && decide (r.t0 ≤ s.now d)
  s.setTree d { s.tree d with jobs := (s.tree d).jobs.map (fun r =>
    if go r then { r with state := 4, round := 0, pauseAt := none, pauseP := none, paused := [] } else r) }

/-- START_CHECK_TIMEOUT (R144): 100 µs after T0 or T_R. -/
def State.checkTimeout (s : State) (d : Dev) : State :=
  let due := (s.tree d).jobs.filter (fun r => r.state == 4 && r.checkOpen && decide (r.t0 + usSub 100 ≤ s.now d))
  due.foldl (fun s r => if s.isTop d (s.group d r.gid) then s.tear d r 0 3 else s) s

/-- RETIRE_TIMEOUT (R151): 1 ms after TD. -/
def State.retireTimeout (s : State) (d : Dev) : State :=
  let due := (s.tree d).jobs.filter (fun r => r.state == 6 && decide (r.td + msSub 1 ≤ s.now d))
  due.foldl (fun s r => if s.isTop d (s.group d r.gid) then s.retire d r else s) s

/-- PAUSE_REPORT_TIMEOUT (R294): 1 ms after the first report. -/
def State.pauseTimeout (s : State) (d : Dev) : State :=
  let late (r : JobRec) : Bool := match r.pauseP with
    | some (_, _, t) => r.state == 4 && decide (t + msSub 1 ≤ s.now d)
    | none => false
  ((s.tree d).jobs.filter late).foldl (fun s r => if s.isTop d (s.group d r.gid) then s.tear d r 0 1 else s) s

-- Commands (R154, R301).

/-- The group of a job, where this part is its root (R137). -/
def State.rootOf (s : State) (d : Dev) (gid : Nat) : Option GroupRec :=
  let g := s.group d gid
  -- A group that a DELETE is taking down carries no new job.
  let deleting := match g.round with | some r => r.kind == 3 | none => false
  if g.state = 3 ∧ !deleting ∧ s.isTop d g then some g else none

/-- The live record a command names, at its root. -/
def State.rootJob (s : State) (d : Dev) (gid gen : Nat) : Option (GroupRec × JobRec) :=
  match s.rootOf d gid, s.job d gid with
  | some g, some r => if r.state ≠ 0 ∧ r.gen = gen then some (g, r) else none
  | _, _ => none

/-- Whether T0 or T_R is acceptable at the root (R141, R143). -/
def State.startStatus (s : State) (d : Dev) (g : GroupRec) (t : Nat) : Nat :=
  if !onTick t ∨ t < s.now d + s.startMargin d then 0x11
  else if !s.commitLocked d g.onePackage then 0x40 else 0

/-- JOB_ARM at a part (R140, R154). -/
def State.jobArm (s : State) (c : CmdCtx) (gid gen prog flags limit : Nat) (seed : BitVec 128) : State :=
  let d := c.dev
  match s.rootOf d gid with
  | none => s.answer c 0x20 0x11
  | some g =>
    if 7 < prog ∨ 4 ≤ flags ∨ limit = 0 ∨ 16384 ≤ gen then s.answer c 0x20 0x11
    else if gen ≠ g.gen then s.answer c 0x20 0x50
    else if s.jobLive d gid then s.answer c 0x20 0x30
    else if jobCap d ≤ ((s.tree d).jobs.filter (fun r => r.state != 0)).length then s.answer c 0x20 0x31
    else
      let r : JobRec := { gid := gid, gen := gen, cseq := (((s.job d gid).map (·.cseq)).getD 0 + 1) % 65536 }
      let s := (s.accept c 0x20 gid).setJob d r
      s.jobDown d { r.msg jkArm with prog := BitVec.ofNat 8 prog, flags := BitVec.ofNat 8 flags, gateLimit := BitVec.ofNat 32 limit, seed := seed }

/-- JOB_COMMIT at a part (R141). -/
def State.jobCommit (s : State) (c : CmdCtx) (gid gen : Nat) (at_ : Packed) : State :=
  let d := c.dev
  match s.rootJob d gid gen with
  | none => s.answer c 0x21 0x11
  | some (g, r) =>
    let t := unpackInstant (s.wrap d) (s.now d) at_
    let st := if r.state ≠ 1 ∨ r.round ≠ 0 then 0x11 else s.startStatus d g t
    if st ≠ 0 then s.answer c 0x21 st
    else
      let r := { r.next with state := 2, round := 2, acked := [], t0 := t }
      ((s.accept c 0x21 gid).setJob d r).jobDown d { r.msg jkCommit with instant := packInstant (s.wrap d) t }

/-- JOB_ABORT at a part (R149, R154): the round it cuts completes with GROUP_FAULT. -/
def State.jobAbort (s : State) (c : CmdCtx) (gid gen : Nat) : State :=
  let d := c.dev
  match s.rootJob d gid gen with
  | none => s.answer c 0x22 0x11
  | some (_, r) =>
    if 3 ≤ r.state then s.answer c 0x22 0x30
    else
      let s := if r.round = 0 then (s.jobDown d (r.msg jkAbort)).setJob d { r with state := 0 } else s.roundFail d r 0x51 0
      (s.answer c 0x22 0).logCommand c 0x22 0

/-- JOB_TEARDOWN at a part (R149, R154). -/
def State.jobTeardown (s : State) (c : CmdCtx) (gid gen : Nat) (at_ : Packed) : State :=
  let d := c.dev
  match s.rootOf d gid with
  | none => s.answer c 0x23 0x11
  | some g =>
    match s.rootJob d gid gen with
    | none => s.answer c 0x23 (if gen ≠ g.gen then 0x50 else 0x11)
    | some (_, r) =>
      let td := if at_ = 0 then 0 else unpackInstant (s.wrap d) (s.now d) at_
      let second := (s.cmd d).works.any (fun w => w.opcode == 0x23 && w.tag == gid)
      if r.state < 3 ∨ second ∨ (at_ ≠ 0 ∧ (!onTick td ∨ td < s.now d + usSub 20)) then s.answer c 0x23 0x11
      else
        let s := s.accept c 0x23 gid
        if r.state = 6 ∧ (td = 0 ∨ r.td ≤ td) then s else s.tear d r td 1

/-- JOB_STATUS at a part (R154). -/
def State.jobStatus (s : State) (c : CmdCtx) (gid : Nat) : State :=
  let d := c.dev
  match s.rootOf d gid with
  | none => s.answer c 0x24 0x11
  | some g =>
    let r := (s.job d gid).getD { gid := gid, gen := g.gen, state := 0, round := 0 }
    let got := if r.round ≠ 0 ∧ r.round ≠ 4 then r.acked else if r.state = 6 then r.drained else if 3 ≤ r.state then r.checked else []
    let f := r.firstFault.getD (0, 0, 0)
    (s.answer c 0x24 0 (leBytes 1 r.state ++ leBytes 2 r.gen ++ leBytes 4 (dieCount g.members) ++ leBytes 4 (dieCount got) ++
      leBytes 1 f.1 ++ leBytes 3 f.2.1 ++ leBytes 8 f.2.2 ++ (if r.t0 = 0 then List.replicate 12 0 else packedBytes (s.wrap d) r.t0))).logCommand c 0x24 0

/-- JOB_PAUSE at a part (R293): A is raised to the latest instant of any DEFER sent. A second one while the job still runs names a new A,
and one report answers both. -/
def State.jobPause (s : State) (c : CmdCtx) (gid gen : Nat) (at_ : Packed) : State :=
  let d := c.dev
  match s.rootJob d gid gen with
  | none => s.answer c 0x64 0x11
  | some (_, r) =>
    let a := unpackInstant (s.wrap d) (s.now d) at_
    if r.state ≠ 4 ∨ !onTick a ∨ a < s.now d + usSub 50 then s.answer c 0x64 0x11
    else
      let a := r.defers.foldl (fun a x => max a x.1) a
      let r := { r.next with pauseAt := some a, gathers := [] }
      ((s.accept c 0x64 gid).setJob d r).jobDown d { r.msg jkPause with instant := packInstant (s.wrap d) a }

/-- JOB_RESUME at a part (R296). -/
def State.jobResume (s : State) (c : CmdCtx) (gid gen : Nat) (at_ : Packed) : State :=
  let d := c.dev
  match s.rootJob d gid gen with
  | none => s.answer c 0x65 0x11
  | some (g, r) =>
    let t := unpackInstant (s.wrap d) (s.now d) at_
    let st := if r.state ≠ 5 ∨ r.round ≠ 0 then 0x11 else s.startStatus d g t
    if st ≠ 0 then s.answer c 0x65 st
    else
      let r := { r.next with round := 3, acked := [], t0 := t }
      ((s.accept c 0x65 gid).setJob d r).jobDown d { r.msg jkResume with instant := packInstant (s.wrap d) t }

end Sys2Proof.Machine
end

