-- ==== Sys2Proof/Machine/GroupRoot.lean ====
section
/-! DEFINITION. Building, renewing and deleting groups (R186, R187, R190 to R192, R215): the top node's rounds and what BIND, RENEW and
UNBIND do at a node. -/

namespace Sys2Proof.Machine

open Sys2Proof

/-- Units a group reserves at a counting node (R233). -/
def GroupRec.units (g : GroupRec) : Nat := basinUnits g.depth g.maxElems g.acc

/-- Whether a part is the top node for a scope (R187, R190); a device whose UA is not valid takes part in no group (R186). -/
def State.topFor (s : State) (d : Dev) (scope : Nat) : Bool :=
  match d with
  | .lotik => s.uaValid .lotik && scope == 0 && (s.isGph || s.get R.LK_TOPO_ROLE == 1)
  | .verard => s.uaValid .verard && s.vdTop scope

/-- Send a group's downward message from its top node (R190, R192). -/
def State.groupDown (s : State) (d : Dev) (g : GroupRec) (m : GroupMsg) : State :=
  match d with
  | .lotik => (s.ringDown (g.mask s.pkgUa) (.grp m)).mailTo (.toMember (.grp m))
  | .verard => s.sendDown g none (.grp m)

/-- A control message of a group. -/
def State.groupMsg (s : State) (d : Dev) (gid gen kind : Nat) (body : GroupBody) : GroupMsg :=
  { kind := BitVec.ofNat 8 kind, gid := BitVec.ofNat 18 gid, gen := BitVec.ofNat 14 gen, src := BitVec.ofNat 20 (s.ua d), body := body }

/-- The node configuration of a group (R190; notes/assumptions/17). -/
def GroupRec.config (g : GroupRec) (delete : Bool) : GroupBody :=
  .bind g.scope g.acc g.maxElems g.depth g.limitMs (g.members.map (fun m => (m.1, BitVec.ofNat 32 m.2))) delete

/-- The nodes expected to acknowledge a group's SEAL, beside the heads of a SEAL (R190, R192; notes/assumptions/23): for HALL, side A's pod Verards, and with
the root tie in SERVICE side B's and root B; for POD, the pod's other Verard where its path is in SERVICE; at a COMBINED Verard, the
other one. Later rounds wait for the nodes that BIND reached, which are those that have acknowledged it. -/
def State.expectVerards (s : State) (d : Dev) (g : GroupRec) : List Nat :=
  let tie := s.inService s.tiePort
  if d = .lotik then []
    else if s.vdRole = 2 then (if tie then [0x40000 + uaPod (s.ua .verard) * 2048 + 1] else [])
    else if g.scope = 2 then
      let pods := (g.members.map (fun m => uaPod m.1)).eraseDups
      pods.map (fun p => 0x20000 + p * 2048) ++ (if tie then pods.map (fun p => 0x20000 + p * 2048 + 1) ++ [0x40001] else [])
    else if (s.routeUni .verard (0x20000 + g.pod * 2048 + 1) none).isSome then [0x20000 + g.pod * 2048 + 1] else []

/-- How many of a package's two heads, HEAD and ALT_HEAD, are among the nodes that have acknowledged (R190, R191). -/
def headsOf (pkg : Nat) (nodes : List Nat) : Nat := (nodes.filter (fun u => uaClass u == 0 && u / 32 * 32 == pkg)).length

/-- The heads of a group's packages that have not acknowledged its BIND (R190, R191). -/
def GroupRec.headsMissing (g : GroupRec) (nodes : List Nat) : Nat := (g.members.map (fun m => 2 - headsOf m.1 nodes)).sum

/-- The heads of a group's packages that are silent and are not already counted as silent member dies (R191): HEAD is die 0, ALT_HEAD the
die given (notes/assumptions/146). -/
def GroupRec.headsSilent (g : GroupRec) (alt : Nat) (nodes : List Nat) (lost : List (Nat × Nat)) : Nat :=
  (g.members.map (fun m =>
    let gone := smGet 0 lost m.1
    let head := !nodes.contains m.1 && !gone.testBit 0
    let other := !nodes.any (fun u => uaClass u == 0 && u / 32 * 32 == m.1 && u != m.1) && !gone.testBit alt
    b2n head + b2n other)).sum

/-- The number of the ALT_HEAD die as a part knows it: a Lotik by its ring, a Verard by the layout of R68's example. -/
def State.altDieOf (s : State) : Dev → Nat
  | .lotik => s.lk.ring.altDie.toNat
  | .verard => 16

/-- A round ends (R191, R192): the command completes; a SEAL that failed is undone, a DELETE frees the GID. Where a
SEAL times out the count of silent nodes follows the completion's fields (notes/assumptions/25). -/
def State.groupEnd (s : State) (d : Dev) (gid status ua : Nat) : State :=
  let g := s.group d gid
  match g.round with
  | none => s
  | some r =>
    -- The count of R192 is of Verards and member dies; that of R191 of nodes, the heads too.
    let silent := dieCount (missing g.members r.dies) + (r.expect.filter (fun u => uaClass u != 0 && !r.verards.contains u)).length +
      (if r.kind = 1 then g.headsSilent (s.altDieOf d) r.verards (missing g.members r.dies) else 0)
    let g := { g with round := none, verards := (g.verards ++ r.verards).eraseDups }
    if r.kind = 1 then
      let fields := leBytes 4 (dieCount g.members) ++ leBytes 2 g.members.length ++ leBytes 3 ua
      if status = 0 then ((s.setGroup d gid { g with state := 3 }).showGroups d).complete d 0x42 gid 0 fields true
      else
        let s := s.setGroup d gid { g with state := 1, basin := 0, basinAt := 0, slots := [], carried := [], done := 0, verards := [] }
        let s := (s.dropAggs d (gid + g.gen * 2 ^ 18) (fun k => k == 0x27)).showGroups d
        (s.groupDown d g (s.groupMsg d gid g.gen 0x2A .none)).complete d 0x42 gid status
          (fields ++ (if status = 0x51 then leBytes 4 silent else [])) true
    else if r.kind = 2 then
      (s.setGroup d gid g).complete d 0x43 gid 0 (leBytes 2 g.gen ++ leBytes 4 silent) true
    else ((s.setGroup d gid { g with verards := [] }).freeNode d gid).complete d 0x44 gid 0 (leBytes 4 silent) true

/-- A BIND_ACK reaches the top node (R190 to R192). -/
def State.groupAck (s : State) (d : Dev) (m : GroupMsg) : State :=
  let gid := m.gid.toNat
  let g := s.group d gid
  let (bitmap, vs) : BitVec 64 × List Nat := match m.body with | .ack b vs => (b, vs) | _ => (0, [])
  if g.gen ≠ m.gen.toNat then s else
  match g.round with
  | none => if m.status = 0 ∧ g.state = 3 then s.setGroup d gid { g with verards := (g.verards ++ vs).eraseDups } else s
  | some r =>
    if m.status ≠ 0 then (if r.kind = 1 then s.groupEnd d gid m.status.toNat m.src.toNat else s)
    else
      let r := { r with dies := if bitmap = 0 then r.dies else mergeAcks r.dies (covers g m.src.toNat bitmap), verards := (r.verards ++ vs).eraseDups }
      let s := s.setGroup d gid { g with round := some r }
      if dieCount (missing g.members r.dies) = 0 ∧ r.expect.all (fun u => r.verards.contains u) ∧
          (r.kind ≠ 1 ∨ g.headsMissing r.verards = 0) then s.groupEnd d gid 0 0 else s

/-- 10 ms after a round began (R191, R192): a SEAL fails, a RENEW or DELETE completes with its silent count. -/
def State.roundTimeout (s : State) (d : Dev) (building : Bool) : State :=
  let due := (s.tree d).groups.filter (fun g => match g.2.round with
    | some r => (r.kind == 1) == building && decide (r.at_ + msSub 10 ≤ s.now d)
    | none => false)
  due.foldl (fun s g => s.groupEnd d g.1 (if building then 0x51 else 0) 0) s

-- BIND, RENEW and UNBIND at a Verard.

/-- The role a Verard takes for a group (R188). -/
def State.bindRole (s : State) (g : GroupRec) : Nat := if s.vdRole = 0 ∨ (s.ownPkgs g) = [] then 2 else 1

/-- A Verard's own BIND_ACK (R190, R192), or its refusal, sent toward the top of the group it concerns. -/
def State.vdAck (s : State) (gid : Nat) (g : GroupRec) (gen status : Nat) : State :=
  let m := { s.groupMsg .verard gid gen 0x27 (.ack 0 [s.ua .verard]) with status := BitVec.ofNat 8 status }
  (s.sendTop .verard g none (.grp m)).1

/-- The group record that a BIND brings. -/
def bindRec (m : GroupMsg) : GroupRec :=
  match m.body with
  | .bind scope acc maxElems depth limitMs members _ =>
    { state := 3, top := m.src.toNat, scope := scope, acc := acc, maxElems := maxElems, depth := depth, limitMs := limitMs, gen := m.gen.toNat,
      members := members.map (fun x => (x.1, x.2.toNat)) }
  | _ => {}

/-- Whether two records describe one binding. -/
def GroupRec.same (a b : GroupRec) : Bool := a.top == b.top && a.gen == b.gen && a.scope == b.scope && a.members == b.members && a.depth == b.depth

/-- BIND at a Verard (R190, R191). -/
def State.vdBind (s : State) (m : GroupMsg) (arrived : Option Path) : State :=
  let gid := m.gid.toNat
  let old := s.group .verard gid
  let g := bindRec m
  if old.state ≠ 0 then (if old.state = 3 ∧ old.same g then s else s.vdAck gid g g.gen 0x30)
  else
    let role := s.bindRole g
    let g := { g with role := role, stale := old.stale }
    let s := s.dropAggs .verard (gid + g.gen * 2 ^ 18) (fun k => k == 0x27)
    if role = 2 then ((s.setGroup .verard gid g).sendDown g arrived (.grp m)).vdAck gid g g.gen 0
    else match s.basinFit .verard g.units with
      | none => s.vdAck gid g g.gen 0x31
      | some u =>
        let s := (s.setGroup .verard gid { g with basin := g.units, basinAt := u }).showGroups .verard
        (s.sendDown g arrived (.grp m)).vdAck gid g g.gen 0

/-- Whether a message carries the generation just past: a later copy of the RENEW or RETIRE that advanced it (R139). -/
def lastGen (held gen : Nat) : Bool := (gen + 1) % 16384 == held

/-- Whether a RENEW deletes the group. -/
def deletes (m : GroupMsg) : Bool := match m.body with | .bind _ _ _ _ _ _ x => x | _ => false

/-- RENEW or DELETE at a Verard (R192). -/
def State.vdRenew (s : State) (m : GroupMsg) (arrived : Option Path) : State :=
  let gid := m.gid.toNat
  let g := s.group .verard gid
  if lastGen g.gen m.gen.toNat then s
  else if g.gen ≠ m.gen.toNat then s.staleMsg .verard arrived gid
  else if g.state ≠ 3 then s
  else
    let new := (g.gen + 1) % 16384
    let s := (s.sendDown g arrived (.grp m)).renewNode .verard gid new
    let s := if deletes m then s.freeNode .verard gid else s
    s.vdAck gid g new 0

/-- UNBIND at a Verard (R191): of the group that its sender has built; a group of another top keeps its reservations. -/
def State.vdUnbind (s : State) (m : GroupMsg) (arrived : Option Path) : State :=
  let gid := m.gid.toNat
  let g := s.group .verard gid
  if g.gen ≠ m.gen.toNat then s.staleMsg .verard arrived gid
  else if g.state ≠ 3 ∨ g.top ≠ m.src.toNat then s
  else
    let s := s.sendDown g arrived (.grp m)
    (s.dropAggs .verard (gid + g.gen * 2 ^ 18) (fun _ => true)).freeNode .verard gid

-- BIND, RENEW and UNBIND at a die.

/-- This die's BIND_ACK (R190). -/
def State.dieAck (s : State) (gid gen status : Nat) : State :=
  let b := if status = 0 then 2 ^ uaDie (s.ua .lotik) else 0
  s.sendUp (.grp { s.groupMsg .lotik gid gen 0x27 (.ack (BitVec.ofNat 64 b) []) with status := BitVec.ofNat 8 status })

/-- The BIND_ACK of a head as a node of the tree (R190, R192): it names itself, and is passed on as a Verard's own
(notes/assumptions/17). -/
def State.headAck (s : State) (gid gen : Nat) : State :=
  if s.get R.LK_TOPO_ROLE = 0 then s
  else s.sendUp (.grp (s.groupMsg .lotik gid gen 0x27 (.ack 0 [s.ua .lotik])))

/-- Whether a part holds a generation for a GID (R186, R210): a Verard and a head for every GID, another die for those it was bound to. -/
def State.holdsGid (s : State) (d : Dev) (gid : Nat) : Bool :=
  match d with
  | .verard => true
  | .lotik => s.get R.LK_TOPO_ROLE != 0 || (s.tree .lotik).groups.any (fun g => g.1 == gid)

/-- Whether an expulsion of this die has effect (R332). -/
def State.expelled (s : State) : Bool := s.get R.LK_HM_STAT_HSTATE == 4 && s.slotState 0 == 0 && s.slotState 1 == 0

/-- BIND at a die (R190, R191, R193): a head reserves, a member checks its queue. -/
def State.dieBind (s : State) (m : GroupMsg) : State :=
  let gid := m.gid.toNat
  let old := s.group .lotik gid
  let g := bindRec m
  let top := old.round.isSome && old.gen == g.gen
  let head := s.get R.LK_TOPO_ROLE != 0
  let member := s.isMember g
  if !head ∧ !member then s
  else if !top ∧ old.state ≠ 0 then (if old.state = 3 ∧ old.same g then s else s.dieAck gid g.gen 0x30)
  else
    let fit := if head && !top then s.basinFit .lotik g.units else some 0
    match fit with
    | none => s.dieAck gid g.gen 0x31
    | some u =>
      let s := if top then s
        else (s.setGroup .lotik gid { g with basin := if head then g.units else 0, basinAt := u, stale := old.stale }).showGroups .lotik
      let s := s.headAck gid g.gen
      if !member then s
      else if s.expelled then s.dieAck gid g.gen 0x31
      else
        let q := s.bindQueue gid g.gen g.depth
        let s := q.1
        let ok := q.2
        s.dieAck gid g.gen (if ok then 0 else 0x31)

/-- RENEW or DELETE at a die (R192). -/
def State.dieRenew (s : State) (m : GroupMsg) : State :=
  let gid := m.gid.toNat
  let g := s.group .lotik gid
  let new := (m.gen.toNat + 1) % 16384
  let top := g.round.isSome && g.gen == new
  if !top ∧ (!s.holdsGid .lotik gid ∨ lastGen g.gen m.gen.toNat) then s
  else if !top ∧ g.gen ≠ m.gen.toNat then s.staleMsg .lotik none gid
  else if !top ∧ g.state ≠ 3 then s
  else
    let s := if top then s else s.renewNode .lotik gid new
    let member := s.isMember g
    let s := if member then s.renewQueue gid new else s
    let s := if deletes m then (if top then s else s.freeNode .lotik gid) else s
    let s := if deletes m ∧ member then s.unsealQueue gid else s
    (if member then s.dieAck gid new 0 else s).headAck gid new

/-- UNBIND at a die (R191): of the group that its sender has built. -/
def State.dieUnbind (s : State) (m : GroupMsg) : State :=
  let gid := m.gid.toNat
  let g := s.group .lotik gid
  let top := g.state == 1
  if !s.holdsGid .lotik gid then s
  else if g.gen ≠ m.gen.toNat then s.staleMsg .lotik none gid
  else if (!top ∧ g.state ≠ 3) ∨ g.top ≠ m.src.toNat then s
  else
    let s := s.dropAggs .lotik (gid + g.gen * 2 ^ 18) (fun _ => true)
    let s := if top then s else s.freeNode .lotik gid
    if s.isMember g then s.unsealQueue gid else s

-- Commands (R190 to R192, R215).

/-- Whether a part is the top node of a GID's group, or of one of some scope where the GID is FREE. -/
def State.topOf (s : State) (d : Dev) (g : GroupRec) : Bool :=
  if g.state = 0 then [0, 1, 2].any (s.topFor d) else s.topFor d g.scope && (d == .lotik || g.role == 0)

/-- The group a command names at its top node, in its generation: the group, or the status that refuses. -/
def State.topGroup (s : State) (d : Dev) (gid gen : Nat) : GroupRec × Nat :=
  let g := s.group d gid
  if 2 ^ 18 ≤ gid ∨ !s.topOf d g then (g, 0x11)
  else if g.gen ≠ gen then (g, 0x50)
  else (g, 0)

/-- GROUP_CREATE at a part. -/
def State.groupCreate (s : State) (c : CmdCtx) (gid scope acc maxElems depth limit : Nat) : State :=
  let d := c.dev
  let g := s.group d gid
  if 2 ^ 18 ≤ gid ∨ !s.topFor d scope ∨ 1 < acc ∨ maxElems = 0 ∨ 16 < maxElems ∨ depth = 0 ∨ 4 < depth then s.answer c 0x40 0x11
  else if g.state ≠ 0 ∨ g.round.isSome then s.answer c 0x40 0x30
  else if 16 ≤ ((s.tree d).groups.filter (fun x => x.2.role == 0 && (x.2.state == 1 || x.2.state == 2))).length then s.answer c 0x40 0x31
  else
    let s := (s.setGroup d gid { state := 1, top := s.ua d, scope := scope, acc := acc, maxElems := maxElems, depth := depth, limitMs := limit,
                                   gen := g.gen, stale := g.stale }).showGroups d
    (s.answer c 0x40 0 (leBytes 2 g.gen)).logCommand c 0x40 0

/-- Whether a package lies inside a group's scope (R187, R190). -/
def State.inScope (s : State) (d : Dev) (scope ua : Nat) : Bool :=
  uaClass ua == 0 && uaDie ua == 0 &&
  (match d with
    | .lotik => ua == s.pkgUa
    | .verard => (scope == 2 && s.vdRole == 0) || uaPod ua == uaPod (s.ua .verard))

/-- GROUP_ADD at a part (R190): all entries or none. -/
def State.groupAdd (s : State) (c : CmdCtx) (gid gen : Nat) (entries : List DWord) : State :=
  let d := c.dev
  let (g, st) := s.topGroup d gid gen
  if st ≠ 0 then s.answer c 0x41 st
  else if g.state ≠ 1 then s.answer c 0x41 0x30
  else if 500 < entries.length ∨ !entries.all (fun e => bits e.toNat 20 12 == 0 && s.inScope d g.scope (bits e.toNat 0 20)) then s.answer c 0x41 0x11
  else
    let ms := mergeAcks g.members (entries.map (fun e => (bits e.toNat 0 20, bits e.toNat 32 32)))
    ((s.setGroup d gid { g with members := ms }).answer c 0x41 0 (leBytes 4 (dieCount ms))).logCommand c 0x41 0

/-- A group's sealing begins (R191): the top reserves first; it fails naming itself where it cannot. -/
def State.sealBegin (s : State) (c : CmdCtx) (gid : Nat) (g : GroupRec) : State :=
  let d := c.dev
  let s := s.accept c 0x42 gid
  let round : GroupRound := { kind := 1, at_ := s.now d, expect := s.expectVerards d g }
  match s.basinFit d g.units with
  | none => (s.setGroup d gid { g with round := some round }).groupEnd d gid 0x31 (s.ua d)
  | some u =>
    let s := s.setGroup d gid { g with state := 2, basin := g.units, basinAt := u, done := 0, slots := [], carried := [], round := some round }
    let s := s.dropAggs d (gid + g.gen * 2 ^ 18) (fun k => k == 0x27)
    (s.showGroups d).groupDown d g (s.groupMsg d gid g.gen 0x26 (g.config false))

/-- GROUP_SEAL at a part (R190, R191). -/
def State.groupSeal (s : State) (c : CmdCtx) (gid gen : Nat) : State :=
  let d := c.dev
  let (g, st) := s.topGroup d gid gen
  if st ≠ 0 then s.answer c 0x42 st
  else if g.state ≠ 1 then s.answer c 0x42 0x30
  else if dieCount g.members = 0 then s.answer c 0x42 0x11
  else s.sealBegin c gid g

/-- A group's renewal or deletion begins (R192); a group without a tree only changes its generation. -/
def State.renewBegin (s : State) (c : CmdCtx) (gid : Nat) (g : GroupRec) (delete : Bool) : State :=
  let d := c.dev
  let new := (g.gen + 1) % 16384
  let s := s.accept c (if delete then 0x44 else 0x43) gid
  let round : GroupRound := { kind := if delete then 3 else 2, at_ := s.now d, expect := g.verards }
  if g.state = 1 then
    (s.setGroup d gid { g with gen := new, round := some { round with expect := [], dies := g.members } }).groupEnd d gid 0 0
  else
    let s := s.renewNode d gid new
    let s := s.setGroup d gid { s.group d gid with round := some round }
    s.groupDown d g (s.groupMsg d gid g.gen 0x29 (g.config delete))

/-- GROUP_RENEW and GROUP_DELETE at a part (R192); a FREE GID gives BAD_PARAM (notes/assumptions/127). -/
def State.groupRenew (s : State) (c : CmdCtx) (gid gen : Nat) (delete : Bool) : State :=
  let d := c.dev
  let op : Byte := if delete then 0x44 else 0x43
  let (g, st) := s.topGroup d gid gen
  if st ≠ 0 then s.answer c op st
  else if g.state = 0 then s.answer c op 0x11
  else if s.jobLive d gid ∨ g.round.isSome then s.answer c op 0x30
  else s.renewBegin c gid g delete

/-- GROUP_STATUS at a part (R215). -/
def State.groupStatus (s : State) (c : CmdCtx) (gid : Nat) : State :=
  let d := c.dev
  let g := s.group d gid
  let free := g.state == 0
  if 2 ^ 18 ≤ gid ∨ (free ∧ d = .lotik ∧ !s.isGph) ∨ (!free ∧ (!s.topFor d g.scope ∨ (d = .verard ∧ g.role ≠ 0))) then s.answer c 0x45 0x11
  else
    let z (n : Nat) : Nat := if free then 0 else n
    (s.answer c 0x45 0 (leBytes 1 (z g.state) ++ leBytes 2 g.gen ++ leBytes 1 (z g.scope) ++ leBytes 4 (z (dieCount g.members)) ++
      leBytes 2 (z g.members.length) ++ leBytes 8 (z g.completed) ++ leBytes 8 (z g.faults) ++ leBytes 1 (z g.lastCause) ++
      leBytes 3 (z g.lastUa) ++ leBytes 2 (z g.lastOseq))).logCommand c 0x45 0

end Sys2Proof.Machine
end

