-- ==== Sys2Proof/Machine/PathOps.lean ====
section
/-! DEFINITION. Tree messages at each part (R139, R188, R189, R198 to R204, R210, R427), and what the loss or return of a path does (R26,
R142, R147, R208). -/

namespace Sys2Proof.Machine

open Sys2Proof

-- Job control (R138, R139).

/-- Whether a job control message travels upward (R138, R427). -/
def jobUpward (k : Nat) : Bool :=
  k == jkArmAck || k == jkCommitAck || k == jkDrained || k == jkFault || k == jkDeferReq || k == jkPaused || k == jkCheck

/-- The step count that a CHECK carries, which keeps its gathering apart (R144). -/
def gatherStep (m : JobMsg) : Nat := if m.kind.toNat = jkCheck then m.instant.toNat else 0

/-- Whether a DEFER_REQ exceeds all that this part has forwarded for the job and step (R271), and the record of it. -/
def State.deferPasses (s : State) (d : Dev) (m : JobMsg) : State × Bool :=
  if m.kind.toNat ≠ jkDeferReq then (s, true) else
  let t := s.tree d
  let word := jobWord m.gid m.gen
  let n := m.bitmap.toNat % 2 ^ 32
  let step := m.bitmap.toNat / 2 ^ 32
  let most := ((t.deferFwd.find? (fun x => x.1 == word && x.2.1 == step)).map (·.2.2)).getD 0
  if n ≤ most then (s, false)
  else (s.setTree d { t with deferFwd := (word, step, n) :: t.deferFwd.filter (fun x => !(x.1 == word && x.2.1 == step)) }, true)

/-- A downward message closes the gatherings it ends (R139, R144). -/
def State.closeAggs (s : State) (d : Dev) (m : JobMsg) : State :=
  let k := m.kind.toNat
  let word := jobWord m.gid m.gen
  if k = jkArm ∨ k = jkCommit ∨ k = jkResume then s.dropAggs d word (fun a => a == jkCheck)
  else if k = jkAbort ∨ k = jkConfirm then s.dropAggs d word (fun a => a == jkArmAck || a == jkCommitAck)
  else s

/-- A job control message at a Verard (R139, R147, R151, R271). -/
def State.vdJob (s : State) (m : JobMsg) (arrived : Option Path) : State :=
  let gid := m.gid.toNat
  let g := s.group .verard gid
  let k := m.kind.toNat
  if g.gen ≠ m.gen.toNat then
    (if k = jkRetire ∧ lastGen g.gen m.gen.toNat then s else s.staleMsg .verard arrived gid)
  else if g.state ≠ 3 then s
  else if jobUpward k then
    if g.role = 0 then s.rootRx .verard m
    else
      let direct := g.role = 1 ∧ gathered k ∧ m.status = 0 ∧ uaClass m.src.toNat = 0
      let q := if direct then s.gather .verard k (jobWord m.gid m.gen) m.cseq.toNat (gatherStep m) (uaPort m.src.toNat) m.bitmap.toNat
        else (s, false)
      let s := q.1
      let ok := q.2
      if ok then s
      else
        let q := s.deferPasses .verard m
        let s := q.1
        let pass := q.2
        if pass then (s.sendTop .verard g arrived (.job m)).1 else s
  else
    let s := (s.sendDown g arrived (.job m)).closeAggs .verard m
    if k = jkRetire then
      (s.renewNode .verard gid ((g.gen + 1) % 16384)).dropWindows (jobWord m.gid m.gen)
    else s

/-- An upward message at a head (R139, R427): gathered or recorded; the group path head sends it on or is its root. -/
def State.headJob (s : State) (m : JobMsg) : State :=
  let gid := m.gid.toNat
  let g := s.group .lotik gid
  let k := m.kind.toNat
  if s.get R.LK_TOPO_ROLE = 0 then s
  else if g.gen ≠ m.gen.toNat then s.staleMsg .lotik none gid
  else if g.state ≠ 3 then s
  else
    let q := if gathered k ∧ m.status = 0 then
        s.gather .lotik k (jobWord m.gid m.gen) m.cseq.toNat (gatherStep m) 0 m.bitmap.toNat
      else (s, false)
    let s := q.1
    let ok := q.2
    if s.isTop .lotik g then s.rootRx .lotik m
    else
      let s := if g.scope = 0 then s.shadowAck m else s
      if ok ∨ !s.isGph then s
      else
        let q := s.deferPasses .lotik m
        let s := q.1
        let pass := q.2
        if pass then (s.sendTop .lotik g none (.job m)).1 else s

/-- RETIRE at a die (R151): its slot, its queue and what it records of the group. -/
def State.dieRetire (s : State) (m : JobMsg) : State :=
  let gid := m.gid.toNat
  let new := (m.gen.toNat + 1) % 16384
  let s := match s.slotOf m.gid m.gen with
    | none => s
    | some i =>
      let st := s.slotState i
      if st = 1 ∨ st = 2 then s.slotIdle i 2
      else if 3 ≤ st ∧ st ≤ 5 then
        let td := m.bitmap.toNat * tickSub
        (s.marksAfter i td).startDrain i 1
      else s
  let s := s.setJobs { s.lk.jobs with seen := s.lk.jobs.seen.filter (fun x => x.1 != jobWord m.gid m.gen) }
  let s := match s.queueOf gid with
    | some n => if (s.queue n).gen = m.gen.toNat then s.renewQueue gid new else s
    | none => s
  if (s.group .lotik gid).gen = m.gen.toNat then s.renewNode .lotik gid new else s

/-- A downward message at a member (R139 to R151): the first copy acts; another generation is fenced, and a COMMIT or RESUME of one is
answered with GROUP_STALE (R141). -/
def State.memberJob (s : State) (m : JobMsg) : State :=
  let g := s.group .lotik m.gid.toNat
  let k := m.kind.toNat
  if k = jkRetire then s.dieRetire m
  else if !s.holdsGid .lotik m.gid.toNat then s
  else if g.gen ≠ m.gen.toNat then
    let s' := s.staleMsg .lotik none m.gid.toNat
    if g.state = 3 ∧ s.isMember g ∧ (k = jkCommit ∨ k = jkResume) ∧ s.freshMsg m then (s'.sawMsg m).bareAnswer m jkCommitAck 0x50 else s'
  else if g.state ≠ 3 ∨ !s.isMember g ∨ !s.freshMsg m then s
  else
    let s := s.sawMsg m
    if k = jkArm then s.memberArm m
    else if k = jkCommit then s.memberCommit m
    else if k = jkConfirm then s.memberConfirm m
    else if k = jkAbort then s.memberAbort m
    else if k = jkTeardown then s.memberTeardown m
    else if k = jkDefer then s.memberDefer m
    else if k = jkPause then s.memberPause m
    else if k = jkResume then s.memberResume m
    else s

/-- A downward message at a die: a head closes its gatherings and keeps the record of a job of its package; a member acts. -/
def State.dieJob (s : State) (m : JobMsg) : State :=
  let g := s.group .lotik m.gid.toNat
  let s := if s.get R.LK_TOPO_ROLE = 0 then s
    else
      let s := s.closeAggs .lotik m
      if g.scope = 0 ∧ !s.isGph then s.shadowJob m else s
  s.memberJob m

/-- A job control message reaches Lotik (R139): from its T-link a head puts it on the ring. -/
def State.lotikJob (s : State) (path : Path) (m : JobMsg) : State :=
  let g := s.group .lotik m.gid.toNat
  if jobUpward m.kind.toNat then s.headJob m
  -- The fence of R151 stands at a head too.
  else if s.get R.LK_TOPO_ROLE ≠ 0 ∧ g.gen ≠ m.gen.toNat then
    (if m.kind.toNat = jkRetire then (if lastGen g.gen m.gen.toNat then s else s.staleMsg .lotik none m.gid.toNat)
     else if s.isMember g then s.memberJob m else s.staleMsg .lotik none m.gid.toNat)
  else
    let s := match path with
      | .port _ => if s.get R.LK_TOPO_ROLE = 0 then s else s.ringDown (g.mask s.pkgUa) (.job m)
      | _ => s
    s.dieJob m

-- Group messages (R202).

/-- BIND_ACK at a node (R139, R190); one of another generation than the node holds is fenced (R210). -/
def State.nodeAck (s : State) (d : Dev) (m : GroupMsg) (arrived : Option Path) : State :=
  let gid := m.gid.toNat
  let g := s.group d gid
  let (bitmap, vs) : BitVec 64 × List Nat := match m.body with | .ack b vs => (b, vs) | _ => (0, [])
  if g.gen ≠ m.gen.toNat then s.staleMsg d arrived gid
  else if g.round.isSome ∨ s.isTop d g then s.groupAck d m
  else
    let direct := m.status = 0 ∧ vs = [] ∧ uaClass m.src.toNat = 0 ∧ (d = .lotik ∨ g.role = 1)
    let q := if direct then s.gather d 0x27 (jobWord m.gid m.gen) 0 0 (if d = .lotik then 0 else uaPort m.src.toNat) bitmap.toNat else (s, false)
    let s := q.1
    let ok := q.2
    if ok ∨ (d = .lotik ∧ !s.isGph) then s else (s.sendTop d g arrived (.grp m)).1

/-- PATH at a Verard (R188, R208): on a package's own port it makes the port group-active and goes on to the pod's other Verard; from
there it ends the other's. -/
def State.vdPath (s : State) (m : GroupMsg) (arrived : Option Path) : State :=
  let src := m.src.toNat
  let other (side : Nat) : Nat := if s.vdRole = 2 then 0x40000 + uaPod src * 2048 + side else 0x20000 + uaPod src * 2048 + side
  let pass (s : State) (side : Nat) (m : GroupMsg) : State :=
    match s.routeUni .verard (other side) arrived with
    | some (.port p) => if s.inService p then s.sendPort .verard p (.grp m) else s
    | _ => s
  let own := s.vdRole != 0 && uaPod src == uaPod (s.ua .verard)
  match arrived with
  | some (.port (.down n)) =>
    if own then
      let side := s.get R.VD_TOPO_SIDE
      pass (s.setActive (.down n) true) (1 - side) { m with sideB := side == 1, relayed := true }
    else pass s (if m.sideB then 0 else 1) m
  | _ =>
    if own then (s.setActive (downPort (uaPort src)) false).retryAll
    else pass s (if m.sideB then 0 else 1) m

/-- Whether a group message is of the generation a part holds; a part that holds no such group has nothing to fence. -/
def State.gens (s : State) (d : Dev) (m : GroupMsg) : Bool := (s.group d m.gid.toNat).gen == m.gen.toNat

/-- A group message at a Verard (R188 to R192, R198, R208, R210). -/
def State.vdGrp (s : State) (m : GroupMsg) (arrived : Option Path) : State :=
  let gid := m.gid.toNat
  let k := m.kind.toNat
  let g := s.group .verard gid
  if k = 0x25 then s.vdPath m arrived
  else if k = 0x26 then s.vdBind m arrived
  else if k = 0x27 then s.nodeAck .verard m arrived
  else if k = 0x29 then s.vdRenew m arrived
  else if k = 0x2A then s.vdUnbind m arrived
  else if !s.gens .verard m then s.staleMsg .verard arrived gid
  else if !g.counts then s
  else
    if k = 0x20 ∨ k = 0x21 then s.contribution .verard m arrived
    else if k = 0x24 then s.nodeFault .verard gid m.oseq m.op.toNat m.cause.toNat m.src.toNat arrived
    else if (k = 0x22 ∨ k = 0x23) ∧ g.role ≠ 0 then s.passEnd .verard m arrived
    else s

/-- An upward group message at a head (R198, R200, R208, R427). -/
def State.headGrp (s : State) (m : GroupMsg) : State :=
  let gid := m.gid.toNat
  let k := m.kind.toNat
  let g := s.group .lotik gid
  if s.get R.LK_TOPO_ROLE = 0 then s
  else if k = 0x27 then s.nodeAck .lotik m none
  else if !s.gens .lotik m then s.staleMsg .lotik none gid
  else if !g.counts ∨ (g.scope = 0 ∧ m.op = 0) then s
  else if k = 0x20 ∨ k = 0x21 then s.contribution .lotik m none
  else s.nodeFault .lotik gid m.oseq m.op.toNat m.cause.toNat m.src.toNat none

/-- The broadcasts of a PACKAGE barrier at a member (R199, R208). -/
def State.memberRing (s : State) (m : GroupMsg) : State :=
  let gid := m.gid.toNat
  let g := s.group .lotik gid
  if g.scope ≠ 0 ∨ m.op ≠ 0 then s else
  match s.queueOf gid with
  | none => s
  | some n =>
    if (s.queue n).gen ≠ m.gen.toNat then s.staleMsg .lotik none gid
    else if m.kind = 0x20 then
      (s.pkgCount n m.oseq (uaDie m.src.toNat) (unpackInstant (s.wrap .lotik) (s.now .lotik) m.stamp)).admitQueue n 8
    else s.finishOp n m.oseq 0x51 m.cause.toNat m.src.toNat 0 []

/-- A downward group message at a die (R189 to R192). -/
def State.dieGrp (s : State) (m : GroupMsg) : State :=
  let k := m.kind.toNat
  if k = 0x26 then s.dieBind m
  else if k = 0x29 then s.dieRenew m
  else if k = 0x2A then s.dieUnbind m
  else if k = 0x22 ∨ k = 0x23 then
    if !s.holdsGid .lotik m.gid.toNat then s
    else if !s.gens .lotik m then s.staleMsg .lotik none m.gid.toNat
    else if !(s.group .lotik m.gid.toNat).counts then s
    else
      let s := if s.get R.LK_TOPO_ROLE = 0 then s else s.passEnd .lotik m none
      s.memberEnd m
  else s

/-- Whether a group message travels upward (R202). -/
def grpUpward (k : Nat) : Bool := k == 0x20 || k == 0x21 || k == 0x24 || k == 0x27

/-- A group message reaches Lotik. -/
def State.lotikGrp (s : State) (path : Path) (m : GroupMsg) : State :=
  if grpUpward m.kind.toNat then
    -- A PACKAGE barrier's broadcast is its members' alone (R199): it is counted, or fenced, once.
    if (m.kind = 0x20 ∨ m.kind = 0x24) ∧ m.op = 0 ∧ (s.group .lotik m.gid.toNat).scope = 0 ∧ (s.queueOf m.gid.toNat).isSome then
      s.memberRing m
    else s.headGrp m
  else
    let mask := (if m.kind = 0x26 then bindRec m else s.group .lotik m.gid.toNat).mask s.pkgUa
    let s := match path with
      | .port _ => if s.get R.LK_TOPO_ROLE = 0 then s else s.ringDown mask (.grp m)
      | _ => s
    s.dieGrp m

/-- The part at whose end of a path a message arrives. -/
def pathDev : Path → Dev
  | .port p => p.dev
  | .ring _ => .lotik
  | .host d => d

/-- Return the credits of a tree message (R204): on the ring to the member it came from, or to the group path head; a PACKAGE
barrier's broadcasts took none. -/
def State.absorbed (s : State) (path : Path) (m : TreeMsg) : State :=
  let cls := treeCls m
  let (up, src, free) : Bool × Nat × Bool := match m with
    | .job j => (jobUpward j.kind.toNat, j.src.toNat, false)
    | .grp g => (grpUpward g.kind.toNat, g.src.toNat,
        g.kind == 0x28 || ((g.kind == 0x20 || g.kind == 0x24) && g.op == 0 && (s.group .lotik g.gid.toNat).scope == 0))
  match path with
  | .port _ => if cls = 0 then s else s.returnCredit path 0 cls (treeCells m)
  | .ring _ =>
    if free then s
    else s.returnCredit path (if up then uaDie src else if s.lk.ring.gph = 2 then s.lk.ring.altDie.toNat else 0) cls (treeCells m)
  | .host _ => s

/-- Whether frames arrive on a path: a port in SERVICE, a ring port that is UP (R60, R73). -/
def State.pathUp (s : State) : Path → Bool
  | .port p => s.inService p
  | .ring r => s.ringUp r
  | .host _ => false

/-- Whether a KIND of tree message is one of R138 or R202; the others are reserved. -/
def knownKind (k : Byte) : Bool := (decide (1 ≤ k.toNat) && decide (k.toNat ≤ 0x10)) || (decide (0x20 ≤ k.toNat) && decide (k.toNat ≤ 0x2B))

/-- A tree message's KIND, and how its frame arrived. -/
def treeKind : TreeMsg → Byte
  | .job m => m.kind
  | .grp m => m.kind
def treeWire : TreeMsg → Wire
  | .job m => m.wire
  | .grp m => m.wire

/-- A frame that is discarded whole (R51, R138, R202) is counted in CRC_ERR on its port. -/
def State.frameDrop (s : State) (path : Path) : State :=
  match path with
  | .port p => s.bumpSat (R.PORT_ERR_CRC_ERR p)
  | .ring _ => s.bumpSat R.LK_RING_CNT_CRC_ERR
  | .host _ => s

/-- A tree message arrives on a path (R23, R51, R202 to R204): a damaged frame, a reserved KIND and a reserved bit are discarded and
counted; a device whose UA is not valid takes no part. An incoming message wakes a die (R351). -/
def State.treeRx (s : State) (path : Path) (m : TreeMsg) : State :=
  if !s.pathUp path || !s.serves (pathDev path) then s
  else if treeWire m ≠ .good ∨ !knownKind (treeKind m) then s.frameDrop path
  else if !s.uaValid (pathDev path) then s
  else
  let s := s.absorbed path m
  match pathDev path with
  | .lotik =>
    let s := s.wakeAll
    match m with
    | .job j => s.lotikJob path j
    | .grp g => s.lotikGrp path g
  | .verard =>
    let s := s.engine (treeCells m)
    match m with
    | .job j => s.vdJob j (some path)
    | .grp g => s.vdGrp g (some path)

-- The group path head (R26).

/-- What this die knows of the heads' T-links (R26; notes/assumptions/26). The head that is ring time master has its own in SERVICE; the
rest is nowhere carried, and is a free value drawn afresh. -/
def State.drawLinks (s : State) : State :=
  let m := s.get R.LK_TOPO_MASTER
  let w := s.freeW
  (s.setRing { s.lk.ring with learntAt := BitVec.ofNat 2 m, headUp := m == 1 || w.testBit 0, altUp := m == 2 || w.testBit 1 }).drawn

/-- It is drawn when the ring time master changes. -/
def State.learnLinks (s : State) : State :=
  if s.get R.LK_TOPO_MASTER = s.lk.ring.learntAt.toNat then s else s.drawLinks

/-- The group path head (R26): HEAD by its link, else ALT_HEAD by its link, else HEAD; a head cut off from the ring is its own, and
another die cut off reaches none. -/
def State.pickGph (s : State) : Nat :=
  let role := s.get R.LK_TOPO_ROLE
  if !s.ringUp .e && !s.ringUp .w then (if role = 1 then 1 else if role = 2 then 2 else 0)
  else if s.headLink then 1 else if s.altLink then 2 else 1

/-- The group path head announces itself to its pod Verard (R188, R208). -/
def State.sendPath (s : State) : State :=
  if s.upPath then
    s.sendPort .lotik .tlink (.grp { kind := 0x25, gid := 0, gen := 0, src := BitVec.ofNat 20 (s.ua .lotik),
                                     sideB := s.get R.LK_TOPO_ROLE == 2, stamp := packInstant (s.wrap .lotik) (s.now .lotik) })
  else s

/-- A member that reaches no head ends what it has in flight (R208). -/
def State.cutOff (s : State) : State :=
  if s.reachHead then s else
  s.lk.queues.foldl (fun s q =>
    (q.2.ops.filter (fun o => o.res.isNone)).foldl (fun s o => s.finishOp q.1 o.oseq 0x51 4 (s.ua .lotik) 0 []) s) s

/-- A job whose root this die can no longer reach faults with PATH_LOST (R142, R147; notes/assumptions/27). -/
def State.pathLost (s : State) : State :=
  [0, 1].foldl (fun s i =>
    let g := s.group .lotik (s.slot i).gid.toNat
    let lost := !s.reachHead || (g.scope != 0 && !s.headLink && !s.altLink)
    if lost ∧ s.slotState i ≠ 0 ∧ s.slotState i ≠ 6 then s.slotFault i 13 else s) s

/-- The group path head may have changed, or have lost or gained its path (R26, R139, R208): a new one faults what is in flight, sends
the open rounds' answers again and then PATH; one without a path upward ends the operations of POD and HALL groups. -/
def State.pathUpdate (s : State) (linkUp linkDown : Bool) : State :=
  let s := s.learnLinks
  let was := s.lk.ring.gph.toNat
  let now := s.pickGph
  let s := s.setRing { s.lk.ring with gph := BitVec.ofNat 2 now }
  let s :=
    if !s.isGph then s
    else if was ≠ now then ((s.faultPath .lotik (s.liveOps .lotik (fun _ _ => true))).resendAggs .lotik).sendPath
    else if linkUp then (s.resendAggs .lotik).sendPath
    else if linkDown then s.faultPath .lotik (s.liveOps .lotik (fun g _ => g.scope != 0))
    else s
  s.cutOff.pathLost

/-- A port left SERVICE: what hangs on it ends. -/
def State.portDown (s : State) (p : PortId) : State :=
  match p with
  | .tlink => (s.resetCredit .lotik p.idx).pathUpdate false true
  | _ => (s.vdPortDown p).resendAggs .verard

/-- A port entered SERVICE: credits stand at the pool sizes (R204). -/
def State.portUp (s : State) (p : PortId) : State :=
  match p with
  | .tlink => (s.resetCredit .lotik p.idx).pathUpdate true false
  | _ => s.resetCredit .verard p.idx

/-- A ring hop opened or came up (R204, R208): the ring's credits start afresh, and what waits goes the way that is left; with none
left what waits is lost, and a head ends what its ring carried. The head in force may change. -/
def State.hopChanged (s : State) : State :=
  if !s.ringUp .e && !s.ringUp .w then
    let s := (List.range 32).foldl (fun s x => s.resetCredit .lotik (ringPeer x)) s
    let s := if s.get R.LK_TOPO_ROLE = 0 then s else s.faultPath .lotik (s.liveOps .lotik (fun _ _ => true))
    s.pathUpdate false false
  else ((List.range 32).foldl (fun s x => s.freshCredit .lotik (ringPeer x)) s).pathUpdate false false

-- Limits (R204, R208).

/-- OP_LIMIT_TIMEOUT (R208): at a counting node, and at a member that counts a PACKAGE barrier. -/
def State.opLimit (s : State) (d : Dev) : State :=
  let now := s.now d
  let late (g : GroupRec) (at_ : Nat) : Bool := g.limitMs != 0 && decide (at_ + msSub g.limitMs ≤ now)
  let s := (s.liveOps d (fun g x => !x.sent && late g x.firstAt)).foldl (fun s o => s.nodeFault d o.1 o.2.oseq o.2.op 3 (s.ua d) none) s
  match d with
  | .verard => s
  | .lotik =>
    s.lk.queues.foldl (fun s q =>
      let g := s.group .lotik q.2.gid
      (q.2.counts.filter (fun c => late g c.firstAt)).foldl (fun s c =>
        (s.memberFault q.2 { oseq := c.oseq, src := 0, ref := 0 } 3).finishOp q.1 c.oseq 0x51 3 (s.ua .lotik) 0 []) s) s

/-- CREDIT_STALL (R204): a class has waited more than 10 µs for credit. -/
def State.creditStall (s : State) (d : Dev) : State :=
  let t := s.tree d
  let old (w : TxWait) : Bool := !w.stalled && decide (w.since + usSub 10 < s.now d)
  let due := t.waits.filter old
  let s := s.setTree d { t with waits := t.waits.map (fun w => if old w then { w with stalled := true } else w) }
  due.foldl (fun s w =>
    match d with
    | .lotik => s.put R.LK_GQ_IRQ_STALL 1
    | .verard => (s.put (R.PORT_GROUP_STALL (portOfIdx w.peer)) 1).bumpSat (R.PORT_MSG_CNT_STALLS (portOfIdx w.peer))) s

end Sys2Proof.Machine
end

