-- ==== Sys2Proof/Machine/Mail.lean ====
section
/-! DEFINITION. The hand-overs between the units of a die, carried out in the command that made them. -/

namespace Sys2Proof.Machine

open Sys2Proof

/-- Carry out one hand-over. -/
def State.mailOne (s : State) (m : Mail) : State :=
  match m with
  | .toHead (.job j) => s.headJob j
  | .toHead (.grp g) => s.headGrp g
  | .toMember (.job j) => s.memberJob j
  | .toMember (.grp g) => s.dieGrp g
  | .gate i q => s.internalOp q 1 i barrierEntry
  | .gateEnd i ok tc arrival => s.gateEnd i ok tc arrival
  | .link obj q => s.internalOp q 2 obj barrierEntry
  | .linkEnd obj st => s.linkEnd obj st
  | .digest stage => s.digestOp stage
  | .digestEnd stage st res => s.digEnd stage st res

/-- Carry out the waiting hand-overs, oldest first; each makes a bounded number of others, and the bound lies above them. -/
def State.runMail (s : State) : Nat → State
  | 0 => s
  | n + 1 =>
    match s.lk.mail with
    | [] => s
    | m :: ms => (({ s with lk := { s.lk with mail := ms } }).mailOne m).runMail n

/-- A command's next state: its effect, the hand-overs it made, and the messages now due. -/
def finish (s : State) : Res := done (s.runMail 256)

end Sys2Proof.Machine
end

