-- ==== Sys2Proof/Machine/Health.lean ====
section
/-! DEFINITION. Lotik's soundings, margin map and known-answer tests (R324 to R328, R332). -/

namespace Sys2Proof.Machine

open Sys2Proof

/-- Replace Lotik's health unit. -/
def State.setHm (s : State) (x : Health) : State := { s with lk := { s.lk with hm := x } }

/-- The temperature bin of the margin map (R327). -/
def tempBin (t : Int) : Nat := if t < 40 then 0 else if 100 ≤ t then 7 else ((t - 30) / 10).toNat

/-- The cell of the margin map that applies now (R327). -/
def State.mapCell (s : State) : Nat :=
  4 * tempBin (s.getS R.LK_PG_TEMP_TEMP_C) + min 3 (4 * s.get R.LK_PG_POWER_P_EST / (8 * s.get R.LK_HM_CFG2_ACT_FULL_W))

/-- Assert KAT_REQ (R328): the test begins, and its cell is the one that applies now. -/
def State.katBegin (s : State) : State :=
  if s.lk.hm.kat.isSome then s else
  let s := s.setHm { s.lk.hm with kat := some { since := s.now .lotik, cell := s.mapCell } }
  (s.put R.LK_HM_STAT_KAT_PENDING 0).emit (.pin "KAT_REQ" 1)

/-- A KAT is asked for (R325, R328): merged into one that runs; inside a RUNNING job it waits for a Mark, else it begins at once. -/
def State.katAsk (s : State) : State :=
  if s.lk.hm.kat.isSome then s else
  match s.activeSlot with
  | some i => if s.slotState i = 4 then (s.setHm { s.lk.hm with asked := s.now .lotik }).put R.LK_HM_STAT_KAT_PENDING 1 else s.katBegin
  | none => s.katBegin

/-- What a sounding latches at its instant (R248, R326): every region's codes and margin errors, the smallest code over all regions, the
first region that shows it, and the counts since the last sounding. -/
def State.soundLatch (s : State) (mask : Nat) (auto : Bool) : Sounding :=
  let latched := s.regionNos.map (fun r => ((s.region r).codes, (s.region r).marginErrs))
  let m := latched.foldl (fun m x => min m (minCode x.1.toNat)) 15
  { mask := mask, auto := auto, at_ := s.now .lotik, margin := m, latched := latched,
    worst := latched.findIdx (fun x => minCode x.1.toNat == m),
    errs := (latched.map (·.2)).sum,
    stretches := (s.regionNos.map (fun r => (s.region r).stretches)).sum, cell := s.mapCell }

/-- A request for a sounding (R325): kinds 0 to 2 start one, or are merged into the one that runs; bit 3 asks for a KAT. -/
def State.soundStart (s : State) (mask : Nat) (auto : Bool) : State :=
  let s := if mask.testBit 3 then s.katAsk else s
  let m := mask % 8
  if m = 0 then s else
  match s.lk.hm.sounding with
  | some x => s.setHm { s.lk.hm with sounding := some { x with mask := x.mask ||| m, auto := x.auto && auto } }
  | none =>
    let x := s.soundLatch m auto
    let s := s.regionNos.foldl (fun s r => s.setRegion r { s.region r with marginErrs := 0, stretches := 0 }) s
    ((s.setHm { s.lk.hm with sounding := some x, lastAt := x.at_ }).put R.LK_HM_SOUND_BUSY 1).wakeTc

/-- STATE of a record (R326). -/
def State.recState (s : State) : Nat :=
  s.get R.LK_HM_STAT_HSTATE + 8 * s.get R.LK_TOPO_RING_CHAIN +
  16 * b2n ((List.range 8).any (fun k => s.get (R.LK_CS_FENCEDk_FENCED k) != 0)) + 32 * s.get R.LK_PG_STAT_TRIPPED +
  64 * b2n (s.regionNos.any (fun r => s.regState r == 2 || s.regState r == 3))

/-- The fields that every record carries: MASK, BINS, UA, STATE and AT. -/
def State.recHead (s : State) (mask cell t : Nat) : List Byte :=
  [BitVec.ofNat 8 mask, BitVec.ofNat 8 (cell / 4 + 8 * (cell % 4))] ++ leBytes 3 (s.ua .lotik) ++
  [BitVec.ofNat 8 s.recState] ++ packedBytes (s.wrap .lotik) t

/-- Send a record to both heads (R326, R341): its token taken, or counted as not forwarded. -/
def State.sendRecord (s : State) (rec : List Byte) : State :=
  if !s.healthPath then s.bumpSat R.LK_HM_NOFWD_SOUNDINGS else
  let tok := (s.log .lotik).takeToken (s.get R.LK_HM_CFG_FWD_RATE) (s.now .lotik)
  let l := tok.1
  let ok := tok.2
  if ok then (s.setLog .lotik l).sendHealth 1 rec
  else (s.setLog .lotik { l with noFwd := l.noFwd + 1 }).bumpSat R.LK_HM_NOFWD_SOUNDINGS

/-- A record is ready (R326): kept, sent, and given to the requests that wait for it. -/
def State.recordReady (s : State) (rec : List Byte) (kat : Bool) : State :=
  let s := (wordsOf 8 rec).zipIdx.foldl (fun s w => s.put (R.LK_HM_RECk_REC w.2) w.1) s
  let s := (s.put R.LK_HM_SOUND_DONE 1).sendRecord rec
  let mine (a : CmdCtx × Nat) : Bool := if kat then a.2 == 8 else a.2 % 8 != 0
  let ask := s.lk.hm.askers
  let s := s.setHm { s.lk.hm with first := false, askers := ask.filter (fun a => !mine a) }
  (ask.filter mine).foldl (fun s a => s.answer a.1 0x70 0 rec) s

/-- Count in a saturating cell of the margin map. -/
def State.mapBump (s : State) (f : Field) (n : Nat) : State := s.bumpSat f n

/-- A sounding completes (R324, R326, R327) with what the analogue side measured: the lowest supply margin in mV, the eye openings
and the received power. -/
def State.soundDone (s : State) (vm : Int) (eyeE eyeW : Nat) (rx : Nat) : State :=
  match s.lk.hm.sounding with
  | none => s
  | some x =>
    let volt := x.mask.testBit 0
    let timing := x.mask.testBit 1
    let opt := x.mask.testBit 2
    let v := (clampInt 0 255 vm).toNat
    let tl := if s.get R.LK_TOPO_ROLE = 0 then 0x8000 else rx
    let mask := x.mask + 16 * b2n x.auto + 32 * b2n s.lk.hm.first
    let z (b : Bool) (n : Nat) : Nat := if b then n else 0
    let rec_ := s.recHead mask x.cell x.at_ ++ leBytes 1 (s.get R.LK_PG_TEMP_TEMP_C) ++ leBytes 1 (z volt v) ++
      leBytes 2 (z volt (min x.stretches 65535)) ++ leBytes 1 (z timing x.margin) ++ leBytes 1 (z timing x.worst) ++
      leBytes 2 (z timing (min x.errs 65535)) ++ leBytes 1 (z opt (eyeE + 16 * eyeW)) ++ [0] ++ leBytes 2 (z opt tl) ++
      leBytes 2 (ofSigned 16 (clampInt (-32767) 32767 (s.getS R.LK_RING_MASTER_OFS_OFS_PS)))
    let s := (s.tcWork.setHm { s.lk.hm with sounding := none }).put R.LK_HM_SOUND_BUSY 0
    let s := s.put R.LK_HM_STAT_CELL x.cell
    let s := if volt || timing then s.mapBump (R.LK_HM_MAPc_SOUNDINGS x.cell) 1 else s
    let s := if timing then
        (s.put (R.LK_HM_MAPc_MIN x.cell) (min x.margin (s.get (R.LK_HM_MAPc_MIN x.cell)))).mapBump (R.LK_HM_MAPc_ERR x.cell) x.errs
      else s
    let low := (timing && decide (x.margin ≤ s.get R.LK_CS_CFG_MARGIN_WARN)) || (volt && v == 0)
    let s := if low then
        (s.put R.LK_HM_IRQ_MARGIN_LOW 1).logKind .lotik 0x0B01 3 [BitVec.ofNat 8 (z timing x.margin), BitVec.ofNat 8 (z volt v)]
      else s
    let s := s.recordReady rec_ false
    let want := s.get R.LK_HM_STAT_HSTATE == 2 || (s.getB R.LK_HM_CFG_KAT_AUTO && decide (s.get (R.LK_HM_MAPc_KAT_PASS x.cell) < 4))
    if timing && want then s.katAsk else s

/-- The expected signature (R328). -/
def State.katSig (s : State) : Nat := s.get R.LK_HM_KAT_SIG_LO_LO + s.get R.LK_HM_KAT_SIG_HI_HI * 2 ^ 32

/-- A KAT ends (R328): PASS, FAIL with the first region that differs, or TIMEOUT with the first region that is missing; a FAIL wins
over a TIMEOUT (notes/assumptions/28). -/
def State.katEnd (s : State) (k : Kat) : State :=
  let live := s.regionNos.filter (fun r => s.regState r != 4)
  let diff := live.find? (fun r => k.sigs.any (fun x => x.1 == r && x.2.toNat != s.katSig))
  let gone := live.find? (fun r => !k.sigs.any (fun x => x.1 == r))
  let res := if diff.isSome then 2 else if gone.isSome then 3 else 1
  let reg := ((diff.or gone).getD 0) % 64
  let s := s.setHm { s.lk.hm with kat := none }
  let s := ((s.emit (.pin "KAT_REQ" 0)).put R.LK_HM_STAT_KAT_LAST res).put R.LK_HM_STAT_KAT_REGION reg
  let s := if res = 1 then s.mapBump (R.LK_HM_MAPc_KAT_PASS k.cell) 1
    else if res = 2 then (s.mapBump (R.LK_HM_MAPc_KAT_FAIL k.cell) 1).put R.LK_HM_IRQ_KAT_FAIL 1
    else s.put R.LK_HM_IRQ_KAT_TIMEOUT 1
  let s := if res = 1 then s else s.logKind .lotik 0x0B02 4 [BitVec.ofNat 8 res, BitVec.ofNat 8 reg]
  let rec_ := s.recHead (8 + 32 * b2n s.lk.hm.first) k.cell k.since ++ leBytes 1 (s.get R.LK_PG_TEMP_TEMP_C) ++ List.replicate 8 0 ++
    [BitVec.ofNat 8 (res + 4 * reg), 0, 0] ++ leBytes 2 (ofSigned 16 (clampInt (-32767) 32767 (s.getS R.LK_RING_MASTER_OFS_OFS_PS)))
  s.recordReady rec_ true

/-- SOUND_NOW (R325): a write of LK_HM_SOUND. -/
def State.soundWrite (s : State) (v : Nat) : State :=
  let s := s.put R.LK_HM_SOUND_MASK (bits v 1 4)
  let s := if v.testBit 6 then s.put R.LK_HM_SOUND_DONE 0 else s
  if v.testBit 0 then s.soundStart (bits v 1 4) false else s

/-- SOUND_NOW (R325). -/
def execSoundNow (v : Word) (s : State) : Res :=
  finish (s.viaBus 0 0x6008 (fun s => (s.soundWrite (v.toNat ||| 1))))

/-- AUTO_SOUNDING (R325): 2 µs before the first Mark of a RUNNING job that falls SOUND_PERIOD_S or more after the last sounding, or
outside a RUNNING job when SOUND_PERIOD_S has passed. -/
def execAutoSounding (s : State) : Res :=
  finish (
    let due := s.lk.hm.lastAt + secSub (s.get R.LK_HM_CFG_SOUND_PERIOD_S)
    let now := s.now .lotik
    match s.activeSlot with
    | some i =>
      if s.slotState i = 4 then
        match s.nextMark i with
        | some m => if due ≤ m ∧ m ≤ now + usSub 2 then s.soundStart 7 true else s
        | none => s
      else if due ≤ now then s.soundStart 7 true else s
    | none => if due ≤ now then s.soundStart 7 true else s)

/-- SOUNDING_DONE (R324, R326): the lowest supply margin in mV, the eye openings in 1/16 UI, and the T-link's received power in
0.01 dBm as the analogue side measured them. -/
def execSoundingDone (vmarginMv : BitVec 16) (eyeE eyeW : BitVec 4) (rx : BitVec 16) (s : State) : Res :=
  finish (s.soundDone vmarginMv.toInt eyeE.toNat eyeW.toNat rx.toNat)

/-- KAT_START (R328): a KAT that waits begins at a Mark at or after its request, or at once outside a RUNNING job. -/
def execKatStart (s : State) : Res :=
  finish (
    if !s.getB R.LK_HM_STAT_KAT_PENDING then s else
    let running := match s.activeSlot with | some i => s.slotState i == 4 | none => false
    let m := s.lk.jobs.mark
    let now := s.now .lotik
    if running && !(decide (s.lk.hm.asked ≤ m) && decide (m ≤ now) && decide (now < m + tickSub)) then s else s.katBegin)

/-- KAT_SIGNATURE (R328): once every region that is not FENCED has answered, the test ends. -/
def execKatSignature (r : BitVec 6) (sig : BitVec 64) (s : State) : Res :=
  finish (s.atPort (fun s =>
    match s.lk.hm.kat with
    | none => s
    | some k =>
      if k.sigs.any (fun x => x.1 == r.toNat) then s else
      let k := { k with sigs := k.sigs ++ [(r.toNat, sig)] }
      let all := s.regionNos.all (fun r => s.regState r == 4 || k.sigs.any (fun x => x.1 == r))
      if all then s.katEnd k else s.setHm { s.lk.hm with kat := some k }))

/-- KAT_TIMEOUT (R328): KAT_LIMIT_US after the request a signature is still missing. -/
def execKatTimeout (s : State) : Res :=
  finish (
    match s.lk.hm.kat with
    | none => s
    | some k => if k.since + usSub (s.get R.LK_HM_CFG2_KAT_LIMIT_US) ≤ s.now .lotik then s.katEnd k else s)

/-- HM_SOUND (R347): the record is the reply. -/
def execHmSound (c : CmdCtx) (mask : Byte) (s : State) : Res :=
  finish (
    if c.dev = .verard then s.answer c 0x70 0x10
    else if mask = 0 ∨ 16 ≤ mask.toNat then s.answer c 0x70 0x11
    else (s.setHm { s.lk.hm with askers := s.lk.hm.askers ++ [(c, mask.toNat)] }).soundStart mask.toNat false)

/-- HM_STATUS (R347). -/
def execHmStatus (c : CmdCtx) (s : State) : Res :=
  finish (
    if c.dev = .verard then s.answer c 0x71 0x10
    else s.answer c 0x71 0 (s.regBytes 0 [0x600C, 0x6010, 0x6020, 0x6204, 0x6208, 0x620C, 0x6210]))

/-- HM_MAP (R347): the 32 cells. -/
def execHmMap (c : CmdCtx) (s : State) : Res :=
  finish (
    if c.dev = .verard then s.answer c 0x72 0x10
    else s.answer c 0x72 0 (s.regBytes 0 ((List.range 32).map (fun k => 0x6100 + 4 * k))))

/-- Whether a source is a POD or COMBINED Verard (R347): a UA of class 1, or of class 2 and a pod other than 0, which no ROOT has (R22);
class 2 and pod 0 is a COMBINED Verard's to a die of pod 0 whose T-link shows no POD Verard above it (notes/assumptions/29). -/
def State.fromPodVerard (s : State) (src : Nat) : Bool :=
  decide (src < 2 ^ 20) && (uaClass src == 1 || (uaClass src == 2 &&
    (uaPod src != 0 || (uaPod (s.ua .lotik) == 0 && uaClass (s.get (R.PORT_PEER_PEER_UA .tlink)) != 1))))

/-- HM_SET_STATE (R331, R336, R347): from a POD or COMBINED Verard. -/
def execHmSetState (c : CmdCtx) (st : Byte) (s : State) : Res :=
  finish (
    if c.dev = .verard then s.answer c 0x75 0x10 else
    let old := s.get R.LK_HM_STAT_HSTATE
    if !s.fromPodVerard c.src.toNat ∨ 5 ≤ st.toNat ∨ (old = 4 ∧ st.toNat ≠ 4) then s.answer c 0x75 0x11
    else
      let s := if st.toNat = old then s else (s.put R.LK_HM_STAT_HSTATE st.toNat).put R.LK_HM_IRQ_HSTATE 1
      (s.answer c 0x75 0 [BitVec.ofNat 8 old]).logCommand c 0x75 0)

end Sys2Proof.Machine
end

