-- ==== Sys2Proof/Machine/HealthVd.lean ====
section
/-! DEFINITION. Verard's health manager: scores, states, expulsion (R329 to R336, R341). -/

namespace Sys2Proof.Machine

open Sys2Proof

/-- Replace Verard's health manager. -/
def State.setHu (s : State) (x : HmUnit) : State := { s with vd := { s.vd with hm := x } }

/-- A die, by its die table word. -/
def State.die (s : State) (n : Nat) : HmDie := smGet {} s.vd.hm.dies n

/-- Replace a die's record. -/
def State.setDie (s : State) (n : Nat) (x : HmDie) : State := s.setHu { s.vd.hm with dies := smPut {} s.vd.hm.dies n x }

/-- The UA of the die at a place of the die table. -/
def State.dieUa (s : State) (n : Nat) : Nat := uaPod (s.ua .verard) * 2048 + n

/-- Whether this Verard decides for a die (R329). -/
def State.decides (s : State) (n : Nat) : Bool := s.getB (R.VD_HM_DIEn_DECIDER n)

/-- One hour of hall time. -/
def hourSub : Nat := secSub 3600

/-- Show the counts of R346: dies on PROBATION and pending, the rate and the spares. -/
def State.showHm (s : State) : State :=
  let known := s.vd.hm.dies.map (·.1)
  let count (st : Nat) : Nat := (known.filter (fun n => s.get (R.VD_HM_DIEn_HSTATE n) == st)).length
  let s := (s.put R.VD_HM_STAT_PROBATION (count 2)).put R.VD_HM_STAT_PENDING (count 3)
  let near := s.vd.hm.expels.filter (fun t => decide (s.now .verard < t + hourSub))
  let s := (s.setHu { s.vd.hm with expels := near }).putSat R.VD_HM_EXPEL_CNT_LAST_HOUR near.length
  let s := s.putB R.VD_HM_STAT_RATE_LIMITED (decide (s.get R.VD_HM_CFG_EXPEL_RATE ≤ near.length))
  s.putB R.VD_HM_STAT_SPARE_LOW (decide (s.get R.VD_HM_SPARES_AVAIL < s.get R.VD_HM_SPARES_FLOOR + 1))

/-- Send HM_SET_STATE to a die (R331), as a request of session 0 (notes/assumptions/30). -/
def State.sendSetState (s : State) (n : Nat) : State :=
  let st := s.get (R.VD_HM_DIEn_HSTATE n)
  s.sendPacket .verard
    { hdr := { version := 1, type := 0, opcode := 0x75, flags := 0, seq := (s.cmd .verard).pktId.zeroExtend 32, session := 0,
               target := BitVec.ofNat 21 (s.dieUa n), source := BitVec.ofNat 21 (s.ua .verard), length := 1, salt := 0, counter := 0 },
      payload := [BitVec.ofNat 8 st], tag := [] }

/-- A die enters PROBATION or lower (R334): more than COMMON_DIES dies in an hour set HOLD. -/
def State.commonCause (s : State) (n : Nat) : State :=
  let now := s.now .verard
  let lows := (n, now) :: s.vd.hm.lows.filter (fun x => x.1 != n && decide (now < x.2 + hourSub))
  let s := s.setHu { s.vd.hm with lows := lows }
  if s.get R.VD_HM_CFG2_COMMON_DIES < lows.length ∧ ¬s.getB R.VD_HM_STAT_HOLD then
    (((s.put R.VD_HM_STAT_HOLD 1).put R.VD_HM_IRQ_COMMON_CAUSE 1).logKind .verard 0x0B04 4 (leBytes 2 lows.length))
  else s

/-- A die's state changes (R331): the Log entry, the interrupt, and, where this Verard decides, HM_SET_STATE. -/
def State.hmGo (s : State) (n st : Nat) : State :=
  let old := s.get (R.VD_HM_DIEn_HSTATE n)
  let s := s.put (R.VD_HM_DIEn_HSTATE n) st
  let s := if st = 2 then s.setDie n { s.die n with probSince := s.now .verard } else s
  let s := s.report .verard { kind := 0x0B03, sev := 2, ua := s.dieUa n, arg := [BitVec.ofNat 8 st] }
  let s := if st = 4 then s.put R.VD_HM_IRQ_EXPELLED 1 else if st = 3 then s.put R.VD_HM_IRQ_PENDING 1 else s
  let s := if old = 1 ∧ 2 ≤ st then s.commonCause n else s
  let s := if s.decides n then s.sendSetState n else s
  s.showHm

/-- Expel a die (R333, R335); `counted` toward EXPEL_RATE, `spare` taken from AVAIL. -/
def State.expel (s : State) (n : Nat) (counted spare : Bool) : State :=
  let s := if counted then s.setHu { s.vd.hm with expels := s.now .verard :: s.vd.hm.expels } else s
  let s := if spare then s.put R.VD_HM_SPARES_AVAIL (s.get R.VD_HM_SPARES_AVAIL - 1) else s
  (s.bump R.VD_HM_EXPEL_CNT_TOTAL).hmGo n 4

/-- Whether R333 lets an expulsion be decided now. -/
def State.mayExpel (s : State) : Bool :=
  decide ((s.vd.hm.expels.filter (fun t => decide (s.now .verard < t + hourSub))).length < s.get R.VD_HM_CFG_EXPEL_RATE) &&
  decide (s.get R.VD_HM_SPARES_FLOOR + 1 ≤ s.get R.VD_HM_SPARES_AVAIL) && !s.getB R.VD_HM_STAT_HOLD

/-- Expel the pending dies one by one, lowest score first, as the conditions allow (R333). -/
def State.expelPending (s : State) : Nat → State
  | 0 => s.showHm
  | k + 1 =>
    let pend := (s.vd.hm.dies.map (·.1)).filter (fun n => s.get (R.VD_HM_DIEn_HSTATE n) == 3 && s.decides n)
    match pend with
    | [] => s.showHm
    | p :: ps =>
      if !s.mayExpel then s.showHm
      else
        let low := ps.foldl (fun a b => if s.get (R.VD_HM_DIEn_SCORE b) < s.get (R.VD_HM_DIEn_SCORE a) then b else a) p
        (s.expel low true true).expelPending k

/-- A candidate for expulsion (R333): expelled at once where the conditions hold, else it goes to EXPEL_PENDING. -/
def State.candidate (s : State) (n : Nat) : State := if s.mayExpel then s.expel n true true else s.hmGo n 3

/-- Decide a die's changes of state from its score (R331, R335). -/
def State.hmJudge (s : State) (n : Nat) : Nat → State
  | 0 => s
  | k + 1 =>
    let st := s.get (R.VD_HM_DIEn_HSTATE n)
    let sc := s.get (R.VD_HM_DIEn_SCORE n)
    let prob := s.get R.VD_HM_CFG_PROBATION
    let low := s.get R.VD_HM_CFG_EXPEL
    if !s.decides n || st == 0 || st == 4 then s
    else if s.getB (R.VD_HM_DIEn_TRIPPED n) then s.expel n false false
    else if st = 1 then (if sc < prob then (s.hmGo n 2).hmJudge n k else s)
    else if st = 2 then
      if prob + 16 ≤ sc then s.hmGo n 1 else if sc < low then s.candidate n else s
    else if low + 16 ≤ sc then (s.hmGo n 2).hmJudge n k
    else s

/-- A penalty falls on a die (R330): the code, and the change of its score. -/
def State.penalty (s : State) (n code : Nat) (by_ : Nat) : State :=
  let s := (s.put (R.VD_HM_DIEn_SCORE n) (s.get (R.VD_HM_DIEn_SCORE n) - by_)).put (R.VD_HM_DIEn_CAUSE n) code
  s.setDie n { s.die n with cleanSince := s.now .verard }

/-- A mark of a package's state changes (R330): the die table, and the Log. -/
def State.hmMark (s : State) (n : Nat) (f : Field) (b : Bool) : State :=
  if s.getB f = b then s else
  let s := s.putB f b
  s.report .verard { kind := 0x0B00, sev := 2, ua := s.dieUa n, arg := leBytes 4 f.off ++ leBytes 4 (s.word f.sp f.off) }

/-- The dies of a package begin or end to hold over (R330): DEGRADED, which the die word has no bit for, is kept beside it and recorded in
the Log with the word (notes/assumptions/71). -/
def State.hmDegraded (s : State) (port : Nat) (held : Bool) : State :=
  ((List.range 32).map (port * 32 + ·)).foldl (fun s m =>
    if !(s.die m).known || (s.die m).degraded == held then s else
    let f := R.VD_HM_DIEn_SCORE m
    (s.setDie m { s.die m with degraded := held }).report .verard
      { kind := 0x0B00, sev := 2, ua := s.dieUa m, arg := leBytes 4 f.off ++ leBytes 4 (s.word f.sp f.off) }) s

/-- The KAT events of a record (R330, events 7 to 9). -/
def State.katEvents (s : State) (n cell kat : Nat) : State :=
  if kat % 4 = 3 then s.penalty n 7 32
  else if kat % 4 = 2 then
    let now := s.now .verard
    let d := s.die n
    let again := d.katFails.any (fun x => x.1 == cell && decide (now < x.2 + 24 * hourSub))
    let s := s.setDie n { d with katFails := (cell, now) :: d.katFails.filter (fun x => x.1 != cell) }
    let s := (s.bumpSat (R.VD_HM_DIEn_KAT_FAILS n)).put R.VD_HM_IRQ_KAT_FAIL 1
    if again then s.penalty n 9 255 else s.penalty n 8 128
  else s

/-- The score with which a die enters the table in a state (R329). -/
def State.entryScore (s : State) (st : Nat) : Nat := if st = 2 then s.get R.VD_HM_CFG_REJOIN else if st = 3 ∨ st = 4 then 0 else 255

/-- A record shows a die EXPELLED by the other Verard: it counts toward EXPEL_RATE, unless the die is TRIPPED (R333, R335). -/
def State.countTold (s : State) (told : Nat) (tripped : Bool) : State :=
  s.doIf (told == 4 && !tripped) (fun s => s.setHu { s.vd.hm with expels := s.now .verard :: s.vd.hm.expels })

/-- A sounding record of a die (R326, R329 to R336): a first record takes the state the die tells; an EXPELLED die that has restarted
rejoins; an expulsion by the other Verard is taken over; a Verard that does not decide mirrors the die's state, but a restart keeps it. -/
def State.applyRecord (s : State) (n : Nat) (r : List Byte) : State :=
  let now := s.now .verard
  let mask := leAt r 0 1
  let b := leAt r 5 1
  let told := if b % 8 = 0 then 1 else b % 8
  let first := mask.testBit 5
  let tripped := b.testBit 5
  let st := s.get (R.VD_HM_DIEn_HSTATE n)
  let d := s.die n
  let s := s.setDie n { d with known := true, lastRec := now, cleanSince := if d.known then d.cleanSince else now }
  let s := (s.put (R.VD_HM_DIEn_SILENT n) 0).putB (R.VD_HM_DIEn_FENCED n) (b.testBit 4)
  let s := (s.putB (R.VD_HM_DIEn_TRIPPED n) tripped).hmMark n (R.VD_HM_DIEn_CHAIN n) (b.testBit 3)
  let s :=
    if st = 0 then ((s.put (R.VD_HM_DIEn_SCORE n) (s.entryScore told)).countTold told tripped).hmGo n told
    else if st = 4 ∧ first then (s.put (R.VD_HM_DIEn_SCORE n) (s.get R.VD_HM_CFG_REJOIN)).hmGo n 2
    else if told = 4 ∧ st ≠ 4 then (s.countTold told tripped).hmGo n told
    else if !s.decides n ∧ told ≠ st ∧ st ≠ 4 ∧ !first then s.hmGo n told
    else s
  let s := if mask.testBit 1 ∧ leAt r 22 1 % 16 ≤ s.get R.LK_CS_CFG_MARGIN_WARN then s.penalty n 1 4 else s
  let s := if mask.testBit 0 ∧ leAt r 19 1 = 0 then s.penalty n 2 2 else s
  let bins := leAt r 1 1
  let s := if mask.testBit 3 then s.katEvents n (4 * bits bins 0 3 + bits bins 3 2) (leAt r 27 1) else s
  let s := s.hmJudge n 4
  let after := s.get (R.VD_HM_DIEn_HSTATE n)
  let s := if after = st ∧ after ≠ told ∧ (s.decides n ∨ after = 4) then s.sendSetState n else s
  s.expelPending 2048

/-- Do something k times. -/
def repeatN {α : Type} (f : α → α) : Nat → α → α
  | 0, x => x
  | k + 1, x => repeatN f k (f x)

/-- What a forwarded entry of a die does to its score (R330, events 3 to 6, 10 and 12) and to its package's marks. -/
def State.entryEvents (s : State) (n kind : Nat) (off val times : Nat) : State :=
  if kind = 0x0801 then (s.put (R.VD_HM_DIEn_TRIPPED n) 1).penalty n 10 255
  else if kind = 0x0700 then
    if 0x3800 ≤ off ∧ off < 0x4000 then
      let st := val % 8
      if st = 2 then repeatN (fun s => s.penalty n 3 16) times s
      else if st = 3 then repeatN (fun s => s.penalty n 4 64) times s else s
    else if 0x3084 ≤ off ∧ off < 0x30A4 then repeatN (fun s => s.penalty n 5 64) times s
    else if off = R.LK_CS_CNT_VID_FAULTS.off then repeatN (fun s => s.penalty n 6 16) times s
    else s
  else if kind = 0x0100 then
    if off = R.LK_RING_STAT_E_STATE.off then
      let now_ := b2n (bits val 0 2 == 3) + 2 * b2n (bits val 2 2 == 3)
      let old := (s.die n).open_
      let s := s.setDie n { s.die n with open_ := now_ }
      let s := if now_.testBit 0 ∧ ¬old.testBit 0 then s.penalty n 12 8 else s
      if now_.testBit 1 ∧ ¬old.testBit 1 then s.penalty n 12 8 else s
    else if off = (R.PORT_STAT_STATE .tlink).off then
      let f := R.PORT_STAT_STATE .tlink
      let s := s.setDie n { s.die n with tlinkDown := bits val f.lsb f.width != 6 }
      let dies := (List.range 32).map (n / 32 * 32 + ·)
      let single := dies.any (fun m => (s.die m).tlinkDown)
      dies.foldl (fun s m => s.doIf (s.die m).known (fun s => s.hmMark m (R.VD_HM_DIEn_SINGLE m) single)) s
    else s
  else s

/-- A forwarded Log entry of a die (R330, R341): recorded in Verard's own Log under the die's UA with its COUNT, or coalesced there, and
scored; one forwarded again brings the occurrences after the first. -/
def State.applyEntry (s : State) (n : Nat) (e : List Byte) : State :=
  let kind := leAt e 0 2
  let b2 := leAt e 2 1
  let cont := if 64 < e.length then (e.drop 72).take 56 else []
  let s := s.report .verard
    { kind := kind, sev := b2 % 8, ua := leAt e 36 3, step := leAt e 40 8, arg := (e.drop 48).take 16, cont := cont,
      depth := bits b2 4 2, forwarded := true, count := leAt e 32 4, again := b2.testBit 3 }
  if s.get (R.VD_HM_DIEn_HSTATE n) = 0 then s else
  let times := if b2.testBit 3 then leAt e 32 4 - 1 else 1
  ((s.entryEvents n kind (leAt e 48 4) (leAt e 52 4) times).hmJudge n 4).expelPending 2048

/-- A HEALTH frame reaches a Verard port (R341): counted, and taken where it is within 64,000 of the second. -/
def State.takeHealth (s : State) (p : Nat) (kind : Byte) (body : List Byte) : State :=
  let sec := s.now .verard / secSub 1
  let n := match s.vd.hm.rates.find? (fun x => x.1 == p) with
    | some x => if x.2.1 = sec then x.2.2 + 1 else 1
    | none => 1
  let s := s.setHu { s.vd.hm with rates := (p, sec, n) :: s.vd.hm.rates.filter (fun x => x.1 != p) }
  if 64000 < n then
    (s.setLog .verard { s.log .verard with noFwd := (s.log .verard).noFwd + 1 }).bumpSat R.VD_HM_RATE_DROP_REPORTS
  else s.setHu { s.vd.hm with inbox := s.vd.hm.inbox ++ [(p, kind, body)] }

/-- HEALTH_FRAME_RX (R326, R341): a head passes on what its ring brings, by its T-link where that is in SERVICE; a pod or COMBINED
Verard takes it from a downstream port. -/
def execHealthFrameRx (path : Path) (kind : Byte) (body : Framed (List Byte)) (s : State) : Res :=
  finish (
    if !s.pathUp path then s
    else if !body.crcOk then s.frameDrop path else
    match path with
    | .ring _ =>
      let s := s.wakeAll
      if s.get R.LK_TOPO_ROLE ≠ 0 ∧ s.inService .tlink then
        s.transmit .lotik PortId.tlink.idx 4 (cellsFor (4 + body.body.length)) (.health (.port .tlink) kind body.body)
      else s
    | .port (.down n) => if s.vdRole = 0 then s else s.takeHealth n.val kind body.body
    | _ => s)

/-- SOUNDING_RECORD_RX (R330): the health manager applies the oldest frame it has taken. -/
def execSoundingRecordRx (s : State) : Res :=
  finish (
    match s.vd.hm.inbox with
    | [] => s
    | (p, kind, body) :: rest =>
      let s := s.setHu { s.vd.hm with inbox := rest }
      if kind = 1 then s.applyRecord (p * 32 + leAt body 2 3 % 32) body
      else if kind = 2 then s.applyEntry (p * 32 + leAt body 36 3 % 32) body
      else s)

/-- HEALTH_SILENCE (R330, event 11): once for each silence. The period is the die's SOUND_PERIOD_S (notes/assumptions/31). -/
def execHealthSilence (n : BitVec 11) (s : State) : Res :=
  finish (
    let n := n.toNat
    let due := (s.die n).lastRec + secSub (3 * s.get R.LK_HM_CFG_SOUND_PERIOD_S)
    if s.get (R.VD_HM_DIEn_HSTATE n) = 0 ∨ s.getB (R.VD_HM_DIEn_SILENT n) ∨ ¬s.inService (downPort (n / 32)) ∨ s.now .verard < due then s
    else
      let s := ((s.put (R.VD_HM_DIEn_SILENT n) 1).put R.VD_HM_IRQ_SILENT 1).penalty n 11 16
      (s.hmJudge n 4).expelPending 2048)

/-- HEALTH_RECOVER_TICK (R330, event 13): a whole RECOVER_MIN without a penalty. -/
def execHealthRecoverTick (n : BitVec 11) (s : State) : Res :=
  finish (
    let n := n.toNat
    let now := s.now .verard
    if s.get (R.VD_HM_DIEn_HSTATE n) = 0 ∨ now < (s.die n).cleanSince + secSub (60 * s.get R.VD_HM_CFG2_RECOVER_MIN) then s
    else
      let s := (s.setDie n { s.die n with cleanSince := now }).bumpSat (R.VD_HM_DIEn_SCORE n)
      (s.hmJudge n 4).expelPending 2048)

/-- PROBATION_EXPIRY (R331): PROB_H hours in PROBATION make the die a candidate. -/
def execProbationExpiry (n : BitVec 11) (s : State) : Res :=
  finish (
    let n := n.toNat
    if s.get (R.VD_HM_DIEn_HSTATE n) ≠ 2 ∨ ¬s.decides n ∨ s.now .verard < (s.die n).probSince + s.get R.VD_HM_CFG2_PROB_H * hourSub then s
    else s.candidate n)

/-- EXPEL_RATE_WINDOW (R333): an expulsion has left the hour. -/
def execExpelRateWindow (s : State) : Res := finish (s.showHm.expelPending 2048)

/-- HM_SCORE (R347): die words. -/
def execHmScore (c : CmdCtx) (first count : BitVec 16) (s : State) : Res :=
  finish (
    if c.dev = .lotik then s.answer c 0x76 0x10
    else if count = 0 ∨ 1000 < count.toNat ∨ 2048 < first.toNat + count.toNat then s.answer c 0x76 0x11
    else s.answer c 0x76 0 (s.regBytes 1 ((List.range count.toNat).map (fun k => 0x71000 + 4 * (first.toNat + k)))))

/-- HM_SPARES (R333, R347). -/
def execHmSpares (c : CmdCtx) (delta : BitVec 16) (s : State) : Res :=
  finish (
    if c.dev = .lotik then s.answer c 0x77 0x10 else
    let v := (s.get R.VD_HM_SPARES_AVAIL : Int) + delta.toInt
    if v < 0 ∨ 65535 < v then s.answer c 0x77 0x11
    else
      let s := (s.put R.VD_HM_SPARES_AVAIL v.toNat).showHm
      ((s.answer c 0x77 0 (leBytes 2 v.toNat)).logCommand c 0x77 0).expelPending 2048)

/-- HM_EXPEL (R335, R347): the named die is expelled at once, and AVAIL falls. -/
def execHmExpel (c : CmdCtx) (ua : BitVec 24) (s : State) : Res :=
  finish (
    if c.dev = .lotik then s.answer c 0x78 0x10 else
    let u := ua.toNat
    let n := u % 2048
    if 2 ^ 20 ≤ u ∨ uaClass u ≠ 0 ∨ uaPod u ≠ uaPod (s.ua .verard) ∨ s.vdRole = 0 ∨ s.get (R.VD_HM_DIEn_HSTATE n) = 0 then
      s.answer c 0x78 0x11
    else
      let s := if s.get (R.VD_HM_DIEn_HSTATE n) = 4 then s else s.expel n true true
      -- It is this Verard that expels, whether or not it decides the package's other changes.
      let s := if s.decides n then s else s.sendSetState n
      (s.answer c 0x78 0 [4]).logCommand c 0x78 0)

/-- HM_HOLD_RELEASE (R334, R347). -/
def execHmHoldRelease (c : CmdCtx) (s : State) : Res :=
  finish (
    if c.dev = .lotik then s.answer c 0x79 0x10
    else (((s.put R.VD_HM_STAT_HOLD 0).answer c 0x79 0).logCommand c 0x79 0).expelPending 2048)

end Sys2Proof.Machine
end

