-- ==== Sys2Proof/Machine/Links.lean ====
section
/-! DEFINITION. T-links (R50 to R62, R70 to R75): the state machine of a port, the time exchange, calibration, authentication,
numbering, and whom a device follows (R19, R426). -/

namespace Sys2Proof.Machine

open Sys2Proof

/-- Insert into a sorted list. -/
def insertInt (x : Int) : List Int → List Int
  | [] => [x]
  | y :: ys => if x ≤ y then x :: y :: ys else y :: insertInt x ys

/-- The median of a list: of an even count, the lower of the two middle values (notes/assumptions/11). -/
def median (l : List Int) : Int :=
  let t := l.foldl (fun acc x => insertInt x acc) []
  t.getD ((t.length - 1) / 2) 0

/-- Whether a port may serve as time parent (R19, R57, R61). -/
def State.portQualifies (s : State) (p : PortId) : Bool :=
  s.inService p && (s.port p).peerState != 5 && !s.getB (R.PORT_STAT_MODE_MISMATCH p) &&
  !s.getB (R.PORT_STAT_UNCAL p) && !(s.port p).feedStop

/-- Whether the selector of a ROOT or COMBINED Verard has an input (R82). -/
def State.hasInput (s : State) : Bool := s.get R.VD_REF_STAT_SELECTED != 7

/-- Whether the other root's state is known (R426): the tie is in SERVICE and a TIME frame has come over it since. -/
def State.tieUp (s : State) : Bool := s.inService s.tiePort && (s.port s.tiePort).heard

/-- Whether a root's own state beats the peer's (R19 item 1, R82); equal states leave root A master. No frame carries the other root's
REF_STATE. What stands for it is the STATE of its TIME frames while they do not show it following this root: a root that follows shows
this root's state, not its selector's, so a hall master whose peer does not claim HALL_MASTER stays master, and a peer whose own selector
gives it the better state claims (DESIGN CHOICE, notes/assumptions/142). -/
def State.rootWins (s : State) : Bool :=
  let own := stateRank (s.get R.VD_REF_STAT_REF_STATE)
  let peer := stateRank (s.port s.tiePort).peerState.toNat
  ((s.clk .verard).hallMaster && !(s.port s.tiePort).peerMaster) ||
    decide (own < peer) || (own == peer && s.get R.VD_TOPO_SIDE == 0)

/-- The TIME_PARENT code and whether this Verard is hall master (R19, R25, R92, R426). A root alone stays hall master when it loses its
last input and holds over; one that had followed the other holds over on the time it last followed. -/
def State.chooseParent (s : State) : Nat × Bool :=
  let follow : Nat := if s.portQualifies s.tiePort then (if s.tiePort = .upA then 1 else 2) else 0
  let refs : Nat := if s.hasInput then 3 else 0
  if s.vdRole = 1 then
    (if s.portQualifies .upA then 1 else if s.portQualifies .upB then 2 else 0, false)
  else if (s.clk .verard).own = 5 then (follow, false)
  else if s.tieUp then
    if (s.port s.tiePort).peerState = 5 ∨ s.rootWins then (refs, true) else (follow, false)
  else (refs, s.hasInput || (s.clk .verard).hallMaster)

/-- Which port's offsets feed the loop: TIME_USE (R74). -/
def State.showUse (s : State) : State :=
  [PortId.upA, .upB].foldl (fun s p => s.putB (R.PORT_STAT_TIME_USE p) (s.parentPort == some p && s.portQualifies p)) s

/-- DEGRADED (R25): a pod Verard holds over because no upstream port qualifies. -/
def State.showDegraded (s : State) : State :=
  let own := (s.clk .verard).own
  s.putB R.VD_TOPO_DEGRADED (s.vdRole == 1 && s.parentPort == none && (own == 3 || own == 4))

/-- Verard applies the order of R19. A root that becomes hall master absorbs its input's bearing at the next update (R87, R426); one that
loses that place when the tie returns holds over, and rejoins by R48. A follower in ACQUIRING whose parent is lost goes through FREE_RUN,
and acquires anew where another parent is there (R91). -/
def State.retimeVerard (s : State) : State :=
  let (code, master) := s.chooseParent
  let old := s.get R.VD_TOPO_TIME_PARENT
  let c := s.clk .verard
  let tie := s.vdRole != 1 && s.tieUp
  let demoted := tie && c.lone && c.own == 2 && (code == 1 || code == 2)
  let path := if c.own = 2 then s.pathPs .verard else c.holdPath
  let s := s.put R.VD_TOPO_TIME_PARENT code
  let s := s.setClk .verard { c with holdPath := path, lone := (if tie then false else master || c.lone) }
  let s := if code = 0 ∧ old ≠ 0 ∧ c.own ≠ 5 then s.loseParent .verard
    else if demoted then s.enterHoldover .verard
    else if c.own = 1 ∧ old ≠ 0 ∧ code ≠ old ∧ (code = 1 ∨ code = 2) then (s.setOwn .verard 0).setOwn .verard 1
    else if (code = 1 ∨ code = 2) ∧ c.own = 0 then s.setOwn .verard 1
    else s
  let s := s.setClk .verard { s.clk .verard with hallMaster := master }
  let s := if master ∧ ¬c.hallMaster then s.setRefs { s.vd.refs with absorb := true } else s
  let s := ((s.showUse).showUncal .verard).showDegraded
  if code = old then s else (s.logChange .verard 0 R.VD_TOPO_TIME_PARENT).showState .verard

/-- The next effective tick of a handover: a multiple of 100 at least 16 ticks ahead (R66). -/
def handoverTick (ticks : Nat) : Nat := (ticks + 16 + 99) / 100 * 100

/-- LK_TOPO.MASTER (R19, R24): the head that is ring time master, or 0 while the ring holds over on it or runs free. A die that
follows the ring tells a master's own holdover by its estimate (R94). -/
def State.showMaster (s : State) (head : Nat) : State :=
  let r := s.lk.ring
  let held := (r.masterState == 3 || r.masterState == 4) && r.masterHold != 0
  let v := if r.masterState = 0 ∨ r.masterState = 5 ∨ held then 0 else head
  s.put R.LK_TOPO_MASTER v

/-- Show whether a device receives time frames of the other mode (R32, R42), with a Log entry when it begins to. -/
def State.showMode (s : State) (d : Dev) : State :=
  let bad := match d with
    | .lotik => (s.port .tlink).otherMode || s.lk.ring.otherMode
    | .verard => vdPorts.any (fun q => (s.port q).otherMode)
  let was := s.getB (R.TIME_STAT_MODE_MISMATCH d)
  let s := s.putB (R.TIME_STAT_MODE_MISMATCH d) bad
  s.doIf (bad && !was) (fun s => s.logChange d 0 (R.TIME_STAT_MODE_MISMATCH d))

/-- Ring time of the other mode is seen here, or no more (R32, R42). -/
def State.ringMode (s : State) (bad : Bool) : State := (s.setRing { s.lk.ring with otherMode := bad }).showMode .lotik

/-- This die becomes ring time master (R66): it sources the clock and steers by its own T-link. -/
def State.becomeMaster (s : State) : State :=
  let s := (s.setRing { s.lk.ring with sources := true, master := s.lk.ring.die, handover := none }).ringMode false
  let s := (s.put R.LK_TOPO_MASTER (s.get R.LK_TOPO_ROLE)).put R.LK_RING_STAT_FOLLOW 3
  let s := ((s.put R.LK_RING_STAT_HOPS 0).put R.LK_RING_MASTER_OFS_OFS_PS 0).putB (R.PORT_STAT_TIME_USE .tlink) (s.portQualifies .tlink)
  ((s.showUncal .lotik).showState .lotik).logChange .lotik 0 R.LK_TOPO_MASTER

/-- Name the other head ring time master by HANDOVER (R66). -/
def State.handOver (s : State) : State :=
  let t := handoverTick (s.clk .lotik).ticks.toNat
  let heir : BitVec 5 := if s.get R.LK_TOPO_ROLE = 1 then s.lk.ring.altDie else 0
  (s.setRing { s.lk.ring with handover := some (t, heir) }).ringSend 0x3F (.handover (BitVec.ofNat 40 t) heir)

/-- The order of R19 item 3 is applied again at the next Spring tick. -/
def State.again (s : State) : State := s.setRing { s.lk.ring with again := true }

/-- The ring time master applies the order of R19 item 3: HEAD stays while it qualifies, ALT_HEAD while HEAD does not; else the other
head where that one qualifies; else the ring holds over, and the order is applied again at every Spring tick, so that a head that qualifies
later is named. -/
def State.orderMaster (s : State) (qual other : Bool) : State :=
  let head := s.get R.LK_TOPO_ROLE = 1
  if (head ∧ qual) ∨ (¬head ∧ qual ∧ !other) then
    let s := if s.get R.LK_TOPO_MASTER = 0 then s.becomeMaster else s
    s.doIf ((s.clk .lotik).own == 0) (fun s => s.setOwn .lotik 1)
  else if other then s.handOver
  else if s.get R.LK_TOPO_MASTER ≠ 0 then
    (((s.again.put R.LK_TOPO_MASTER 0).loseParent .lotik).logChange .lotik 0 R.LK_TOPO_MASTER 4).sendStatus
  else s.again

/-- Lotik applies the order of R19 to the ring. Whether the other head's T-link qualifies, and whether that changed in this Spring tick,
is nowhere carried to this die, so they are free values (notes/assumptions/13). Where both changed in one tick the order waits for the
next (item 4). While a HANDOVER is out nothing more is decided. -/
def State.retimeLotik (s : State) : State :=
  let r := s.lk.ring
  let s := s.setRing { r with again := false }
  if s.get R.LK_TOPO_ROLE = 0 then s else
  let qual := s.portQualifies .tlink && !(s.port .tlink).peerDegraded
  let s := (s.putB (R.PORT_STAT_TIME_USE .tlink) (s.isRingMaster && qual)).showUncal .lotik
  let tick := (s.clk .lotik).ticks.toNat
  let s := if qual = r.qual then s else s.setRing { s.lk.ring with qual := qual, qualAt := tick }
  if r.handover.isSome then s
  else if s.isRingMaster then
    let w := s.freeW
    let s := s.drawn
    if qual ≠ r.qual ∧ w.testBit 1 then s.again
    else s.orderMaster qual (w.testBit 0)
  else if qual ∧ (s.get R.LK_RING_STAT_FOLLOW = 0 ∨ r.masterState = 0) then
    let s := s.becomeMaster
    if (s.clk .lotik).own = 0 then s.setOwn .lotik 1 else s
  else s

/-- The order of R19 at the device that carries a port. -/
def State.retime (s : State) (p : PortId) : State :=
  match p.dev with
  | .lotik => s.retimeLotik
  | .verard => s.retimeVerard

/-- Show for what ports are held out (R24, R25): R15 and R16 on a Lotik, R23 on a Verard's upstream ports. -/
def State.showHolds (s : State) (p : PortId) : State :=
  match p with
  | .tlink =>
    (s.putB R.LK_TOPO_SIDE_MISMATCH ((s.port .tlink).heldFor == 1)).putB R.LK_TOPO_HOMING_MISMATCH ((s.port .tlink).heldFor == 2)
  | .down _ => s
  | _ => s.putB R.VD_TOPO_SIDE_MISMATCH ((s.port .upA).heldFor == 1 || (s.port .upB).heldFor == 1)

/-- The mode of a frame received on a port, held against this device's (R32, R61). -/
def State.sawMode (s : State) (p : PortId) (wrap : Bool) : State :=
  let bad := wrap != s.wrap p.dev
  let s := (s.setPort p { s.port p with otherMode := bad }).putB (R.PORT_STAT_MODE_MISMATCH p) bad
  s.showMode p.dev

/-- Start a fold calibration (R56). -/
def State.foldStart (s : State) (p : PortId) : State :=
  (s.setPort p { s.port p with folding := true, foldOwn := none }).emit (.pin "FOLD_START" p.idx)

/-- A port moves to a state of R60, with its Log entry; leaving SERVICE ends what ran over it, and entering CALIBRATE starts a fold. -/
def State.portGo (s : State) (p : PortId) (st : Nat) : State :=
  let was := s.get (R.PORT_STAT_STATE p)
  if was = st then s else
  let t := s.port p
  let s := s.setPort p { t with since := s.now p.dev, txGroup := [], rxGroup := [], rxGroupNo := none, meas := [], rxStamps := [],
                                txStamps := [], tagFails := 0, groupBad := true, otherMode := false, heard := false,
                                gap := [], heldFor := if st = 7 then t.heldFor else 0,
                                folding := false, foldOwn := none, foldPeer := if st = 4 then t.foldPeer else none }
  -- The timing core wakes for a T-link that leaves OFF, and is kept awake until it is OFF again (R351, R352).
  let s := (s.doIf (p == .tlink) (if st = 0 then State.tcWork else State.wakeTc)).put (R.PORT_STAT_STATE p) st
  let s := if st = 2 then s.bumpSat (R.PORT_ERR_TRAIN_COUNT p) else s
  let s := if st = 0 ∨ st = 1 then s.put (R.PORT_STAT_HOLD p) 0 else s
  let s := if st = 0 ∨ st = 1 ∨ st = 2 then s.put (R.PORT_STAT_UNCAL p) 1 else s
  let s := if st = 0 ∨ st = 1 ∨ st = 2 then s.put (R.PORT_STAT_FAULT p) 0 else s
  let s := (s.showHolds p).showMode p.dev
  let s := s.logChange p.dev 1 (R.PORT_STAT_STATE p) (if was = 6 ∨ st = 7 ∨ st = 8 then 4 else 2)
  let s := if was = 6 then (s.put (R.PORT_STAT_TIME_USE p) 0).portDown p else s
  let s := if st = 6 then s.portUp p else s
  let s := if st = 4 then s.foldStart p else s
  -- A port back in SERVICE is no longer SWITCHING (R320).
  let s := s.doIf (st == 6) (fun s => s.switchBack p)
  s.retime p

/-- A port is held out of service (R60): 1 for its side, 2 for its homing, 3 for authentication, 4 for a role. PORT_STAT.HOLD names no
role conflict and shows 1 for it (DESIGN CHOICE, notes/assumptions/113). -/
def State.portHold (s : State) (p : PortId) (why : Nat) : State :=
  let s := s.setPort p { s.port p with heldFor := why }
  ((s.portGo p 7).put (R.PORT_STAT_HOLD p) (if why = 4 then 1 else why)).showHolds p

/-- A port stops on a pin or fibre fault (R60, R70). -/
def State.portFault (s : State) (p : PortId) (code : Nat) : State :=
  let s := (s.portGo p 8).put (R.PORT_STAT_FAULT p) code
  s.logChange p.dev 1 (R.PORT_STAT_STATE p) 4

/-- Whether this end of a port is the child (R18, R55). -/
def State.isChild (s : State) (p : PortId) : Bool :=
  match p with
  | .tlink => true
  | .down _ => false
  | .upA => true
  | .upB => s.vdRole == 1

/-- The offset of the exchange, own end's view turned to child minus parent (R18, R55), ps, from four stamps in 2⁻¹⁶ ns. Each difference
is turned into ps and then halved, both rounded down (DESIGN CHOICE, notes/assumptions/111). -/
def exchange (t1 t2 t3 t4 asymPs : Int) : Int × Int :=
  let a : Int := t2 - t1
  let b : Int := t4 - t3
  (subToPs (a + b), subToPs (a - b) / 2 - asymPs)

/-- The stamp with a sequence number, if kept. -/
def stampOf (l : List (Nat × Nat)) (seq : Nat) : Option Nat := (l.find? (fun x => x.1 == seq)).map (·.2)

/-- Pair the stamps of a TIME frame (R55): rtt and offset, where all four are known and the two ticks are within 4.096 µs. -/
def State.pairStamps (s : State) (p : PortId) (f : TimeFrame) : Option (Int × Int) :=
  let t := s.port p
  let w := s.wrap p.dev
  let now := s.now p.dev
  let asym := s.getS (R.PORT_ASYM_ASYM_PS p)
  let prev := (f.seq.toNat + 65535) % 65536
  match stampOf t.rxStamps prev, stampOf t.txStamps f.peerSeq.toNat with
  | some rx, some tx =>
    let peerTx := peerInstant w now f.prevTx
    let peerRx := peerInstant w now f.peerRx
    if ((rx : Int) - tx).natAbs ≤ nsSub 4096 then
      if s.isChild p then some (exchange peerTx rx tx peerRx asym) else some (exchange tx peerRx peerTx rx asym)
    else none
  | _, _ => none

/-- The IV of an AUTH frame (R58). -/
def authIv (prefix32 : BitVec 32) (group : BitVec 64) : List Byte := leBytes 4 prefix32.toNat ++ leBytes 8 group.toNat

/-- A direction goes over to the new link key with the first tick seen at or after SWITCH_SEQ, and its groups count from 0 (R400). -/
def TPort.keySwitch (t : TPort) (rx : Bool) (seq : BitVec 16) : TPort :=
  match t.nextKey with
  | none => t
  | some (k, own, peer, at_, tx, r) =>
    if 2 ^ 15 ≤ (seq - at_).toNat ∨ (if rx then r else tx) then t
    else
      let t := if rx then { t with rxKey := k, rxPrefix := peer } else { t with linkKey := k, noncePrefix := own, txGroupNo := 0 }
      if (if rx then tx else r) then { t with nextKey := none } else { t with nextKey := some (k, own, peer, at_, tx || !rx, r || rx) }

/-- TICK_SEND (R53, R54, R58): a port in SERVICE sends its TICK and TIME frame, and after the 64th an AUTH frame. Before any earlier tick
has departed PREV_TX names the instant 0 (DESIGN CHOICE, notes/assumptions/111). -/
def State.tickSend (s : State) (p : PortId) (bins : Nat) : State :=
  if !s.inService p then s else
  let d := p.dev
  let t := (s.port p).keySwitch false (s.port p).txSeq
  let w := s.wrap d
  let now := fineStamp (s.clk d) (s.now d) bins
  let prev := (stampOf t.txStamps ((t.txSeq.toNat + 65535) % 65536)).getD 0
  let valid := match d with | .lotik => s.getB R.LK_TOPO_UA_VALID | .verard => s.getB R.VD_TOPO_UA_VALID
  let s := s.emit (.tick p (tickContent { seq := t.txSeq, senderUa := if valid then BitVec.ofNat 20 (s.ua d) else 0, wrap := w }))
  let f : TimeFrame :=
    { seq := t.txSeq, peerSeq := t.rxSeq, prevTx := packInstant w prev, peerRx := packInstant w t.rxAt,
      errPs := BitVec.ofNat 24 (s.errPs d), state := BitVec.ofNat 3 (s.shownState d), wrap := w,
      degraded := d = .verard && s.getB R.VD_TOPO_DEGRADED, hallMaster := d = .verard && (s.clk d).hallMaster,
      utcOffset := BitVec.ofNat 16 (s.get (R.TIME_UTC_UTC_OFFSET d)), utcValid := s.getB (R.TIME_UTC_UTC_VALID d) }
  let s := s.emitFrame (.time p f)
  let group := (if t.txSeq.toNat % 64 = 0 then [] else t.txGroup) ++ [timePayload f]
  let last := t.txSeq.toNat % 64 = 63
  let s := s.emitFrameIf last (.auth p t.txGroupNo (Config.gcmTag t.linkKey (authIv t.noncePrefix t.txGroupNo) group.flatten []))
  let s := s.setPort p { t with
    fseq := (s.port p).fseq, txSeq := t.txSeq + 1, txStamps := pushN 8 (t.txSeq.toNat, now) t.txStamps,
    txGroup := group, txGroupNo := if last then t.txGroupNo + 1 else t.txGroupNo }
  if s.isTie p then s.retime p else s

/-- TICK_BLOCK_RX (R50, R53, R32, R61): a TICK block is stamped and its mode held against this device's; a block of an unknown type is
discarded and counted in every state in which the port receives. -/
def State.tickRx (s : State) (p : PortId) (type : Byte) (content : BitVec 56) (bins : Nat) : State :=
  let st := s.get (R.PORT_STAT_STATE p)
  if st < 2 ∨ st = 8 then s
  else if !knownBlock type then s.bumpSat (R.PORT_ERR_CRC_ERR p)
  else if type ≠ btTick ∨ (st ≠ 5 ∧ st ≠ 6) then s
  else
    let d := p.dev
    let b := tickOf content
    let now := fineStamp (s.clk d) (s.now d) bins
    let t := s.port p
    let s := s.setPort p { t with rxSeq := b.seq, rxAt := now, rxStamps := pushN 8 (b.seq.toNat, now) t.rxStamps, lastTick := s.now d }
    (s.sawMode p b.wrap).retime p

/-- A frame with a bad CRC is discarded whole and counted on its port (R51, R74). -/
def State.frameBad (s : State) (p : PortId) : State :=
  if s.get (R.PORT_STAT_STATE p) < 3 ∨ 6 < s.get (R.PORT_STAT_STATE p) then s else s.bumpSat (R.PORT_ERR_CRC_ERR p)

/-- A group is over (R59): counted where any of its 64 TIME frames is missing or bad. -/
def State.groupOver (s : State) (p : PortId) : State :=
  let t := s.port p
  if t.groupBad ∨ t.rxGroup.length ≠ 64 then s.bumpSat (R.PORT_AUTH_INCOMPLETE p) else s

/-- A TIME frame is buffered in its group with its rtt and offset (R55, R58). The first frame of another group ends one whose AUTH frame
was lost. A time parent's frame in LOST is not followed, and its error enters no path sum (R49, R92). -/
def State.timeRx (s : State) (p : PortId) (f : TimeFrame) (crcOk : Bool) : State :=
  if !s.inService p then s else
  if !crcOk then
    let t := s.port p
    (s.setPort p { t with groupBad := t.groupBad || t.rxGroup.length != 64 }).bumpSat (R.PORT_ERR_CRC_ERR p)
  else
  let d := p.dev
  let g := f.seq.toNat / 64
  let fresh := (s.port p).rxGroupNo != some g
  let s := s.doIf (fresh && (s.port p).rxGroupNo.isSome) (fun s => s.groupOver p)
  let m := s.pairStamps p f
  let t := (s.port p).keySwitch true f.seq
  let t := if fresh then { t with rxGroup := [], rxGroupNo := some g, meas := [], groupBad := f.seq.toNat % 64 != 0 } else t
  let t := { t with
    rxGroup := t.rxGroup ++ [(f.seq.toNat, timePayload f)],
    meas := match m with | some x => t.meas ++ [x] | none => t.meas,
    peerState := f.state, peerDegraded := f.degraded, peerMaster := f.hallMaster, heard := true,
    peerErr := if f.state = 5 then t.peerErr else f.errPs }
  let s := ((s.setPort p t).sawMode p f.wrap).retime p
  let s := match p with
    | .down n => s.doIf (s.vdRole != 0) (fun s => s.hmDegraded n.val (f.state == 3 || f.state == 4))
    | _ => s
  let takes := match d with
    | .lotik => s.isRingMaster && s.portQualifies p
    | .verard => s.parentPort == some p
  if takes then ((s.put (R.TIME_UTC_UTC_OFFSET d) f.utcOffset.toNat).putB (R.TIME_UTC_UTC_VALID d) f.utcValid).showState d else s

/-- The device's use of a verified offset, child minus parent (R18, R58, R66): fed to the loop of a follower, or reported by the
head that is not ring time master. -/
def State.useOffset (s : State) (p : PortId) (ofsPs : Int) : State :=
  match p with
  | .tlink =>
    if s.isRingMaster then (if s.getB (R.PORT_STAT_TIME_USE p) then s.feedLoop .lotik (psToSub ofsPs) else s)
    else if s.get R.LK_TOPO_ROLE ≠ 0 then s.putSSat R.LK_RING_MASTER_OFS_OFS_PS (-ofsPs)
    else s
  | .down _ => s
  | _ =>
    if s.getB (R.PORT_STAT_TIME_USE p) then s.feedLoop .verard (psToSub (if s.isChild p then ofsPs else -ofsPs)) else s

/-- AUTH_FRAME_RX (R57 to R59): the group is verified and used, or discarded. The loop takes the group's median offset, once; and the
median rtt of the first verified group after a calibration is the one later groups are held against (DESIGN CHOICE,
notes/assumptions/114). -/
def State.authRx (s : State) (p : PortId) (group : BitVec 64) (tag : List Byte) (crcOk : Bool) : State :=
  if !s.inService p then s else
  if !crcOk then s.frameBad p else
  let t := s.port p
  let clear (s : State) (fails : Nat) : State := s.setPort p { s.port p with rxGroup := [], rxGroupNo := none, meas := [], groupBad := true, tagFails := fails }
  if t.groupBad ∨ t.rxGroup.length ≠ 64 then (clear s t.tagFails).bumpSat (R.PORT_AUTH_INCOMPLETE p)
  else if Config.gcmTag t.rxKey (authIv t.rxPrefix group) (t.rxGroup.flatMap (·.2)) [] ≠ tag then
    let s := ((clear s (t.tagFails + 1)).bumpSat (R.PORT_AUTH_AUTH_FAIL p)).logChange p.dev 1 (R.PORT_AUTH_AUTH_FAIL p)
    if 3 ≤ t.tagFails + 1 then s.portHold p 3 else s
  else if t.meas = [] then clear s 0
  else
    let rtt := median (t.meas.map (·.1))
    let ofs := median (t.meas.map (·.2))
    let s := ((clear s 0).putSat (R.PORT_RTT_RTT_PS p) rtt.toNat).putSSat (R.PORT_OFFSET_OFFSET_PS p) ofs
    match t.calRtt with
    | none => (s.setPort p { s.port p with calRtt := some rtt.toNat }).useOffset p ofs
    | some r =>
      if 2000 < (rtt - r).natAbs then
        -- The path has changed: the port stops feeding and recalibrates at once (R57).
        let s := (s.setPort p { s.port p with feedStop := true }).put (R.PORT_STAT_RTT_STEP p) 1
        ((s.logChange p.dev 1 (R.PORT_STAT_RTT_STEP p) 4).foldStart p).retime p
      else s.useOffset p ofs

/-- Fold calibration computes asym from both medians and both ends' constants (R56), ps. Each halving of an odd difference is rounded
down: the rule gives no rounding (DESIGN CHOICE, notes/assumptions/111). -/
def asymOf (rDown rUp foldP foldC txP rxP txC rxC : Int) : Int :=
  let k := foldP + foldC
  let fDown := (rDown - k) / 2
  let fUp := (rUp - k) / 2
  ((txP + fDown + rxC) - (txC + fUp + rxP)) / 2

/-- Once both ends' medians are known, both compute asym (R56, R57, R60): a port in CALIBRATE goes on to ENUM, or, on the root tie,
which carries no ENUM (R62), to SERVICE. -/
def State.foldEnd (s : State) (p : PortId) : State :=
  let t := s.port p
  match t.peer, t.foldOwn, t.foldPeer with
  | some q, some own, some his =>
    let st := s.get (R.PORT_STAT_STATE p)
    let i := p.idx
    let tx := (Config.txDly i).toNat
    let rx := (Config.rxDly i).toNat
    let fo := (Config.foldDly i).toNat
    -- r_down is the parent's median, r_up the child's.
    let a := if s.isChild p then asymOf his own q.foldDly.toNat fo q.txDly.toNat q.rxDly.toNat tx rx
      else asymOf own his fo q.foldDly.toNat tx rx q.txDly.toNat q.rxDly.toNat
    let s := (s.putSSat (R.PORT_ASYM_ASYM_PS p) a).bump (R.PORT_ASYM_CAL_COUNT p)
    let s := s.put (R.PORT_STAT_UNCAL p) 0
    let s := s.setPort p { s.port p with calRtt := none, calAt := s.now p.dev, feedStop := false, folding := false, foldOwn := none,
                                         foldPeer := none }
    if st = 4 then s.portGo p (if s.isTie p then 6 else 5) else s.retime p
  | _, _, _ => s

/-- FOLD_CAL_DONE (R56): this end has the median of its 1,024 shots and sends it to the peer in a CAL frame. -/
def State.foldDone (s : State) (p : PortId) (own : Nat) : State :=
  let st := s.get (R.PORT_STAT_STATE p)
  if (st ≠ 4 ∧ st ≠ 6) ∨ !(s.port p).folding then s else
  ((s.setPort p { s.port p with foldOwn := some own }).emitFrame (.cal p (.fold (BitVec.ofNat 24 own)))).foldEnd p

/-- The peer's median arrives (R56); an end that is not folding begins to. -/
def State.foldHeard (s : State) (p : PortId) (m : Nat) : State :=
  let st := s.get (R.PORT_STAT_STATE p)
  if st ≠ 3 ∧ st ≠ 4 ∧ st ≠ 6 then s else
  let s := s.setPort p { s.port p with foldPeer := some m }
  if st = 3 then s else (s.doIf (!(s.port p).folding) (fun s => s.foldStart p)).foldEnd p

/-- The TIME_MODE, role and side a part sends in TRAIN (R60, R61). -/
def State.ownTrain (s : State) (p : PortId) : TrainPeer :=
  let i := p.idx
  match p.dev with
  | .lotik => { isVerard := false, role := BitVec.ofNat 2 (s.get R.LK_TOPO_ROLE), side := 0, wrap := s.wrap .lotik,
                txDly := Config.txDly i, rxDly := Config.rxDly i, foldDly := Config.foldDly i, lane := Config.tlinkLane }
  | .verard => { isVerard := true, role := BitVec.ofNat 2 (s.get R.VD_TOPO_ROLE), side := BitVec.ofNat 1 (s.get R.VD_TOPO_SIDE),
                 wrap := s.wrap .verard, txDly := Config.txDly i, rxDly := Config.rxDly i, foldDly := Config.foldDly i,
                 lane := BitVec.ofNat 3 (s.get (R.PORT_OPT_STAT_CHAN p)) }

/-- A part's security state. -/
def State.sec (s : State) (d : Dev) : Sec := (s.part d).sec

/-- The key bound in a slot, and its mask. -/
def Sec.slot (x : Sec) (n : Nat) : Nat × List Byte := smGet (0, []) x.slots n

/-- Begin an agreement (R400): round 1 carries the certificates, an ephemeral point, a nonce and the owner key, or zeros. -/
def State.keySend (s : State) (p : PortId) : State :=
  let d := p.dev
  let x := s.sec d
  let c := (s.part d).cmd
  let owner := (x.slot 1).2
  let r1 := padTo 512 x.certs ++ padTo 97 (Config.ephemeral c.draws) ++ padTo 32 (Config.freeBytes s.free) ++ padTo 97 owner
  let s := (s.drawn).setPort p { s.port p with keyTx := r1, keyDraw := c.draws, keyRx := [] }
  (s.setPart d { s.part d with cmd := { c with draws := c.draws + 1 } }).emitFrame (.cal p (.keyAgreement (0x4B :: r1)))

/-- TRAIN_DONE (R15, R60, R61): after the role and side checks a port goes to KEY. -/
def State.trainDone (s : State) (p : PortId) (q : TrainPeer) : State :=
  if s.get (R.PORT_STAT_STATE p) ≠ 2 then s else
  let s := s.setPort p { s.port p with peer := some q }
  let s := s.putB (R.PORT_STAT_MODE_MISMATCH p) (q.wrap != s.wrap p.dev)
  let side := match p with
    | .tlink => q.isVerard && ((s.get R.LK_TOPO_ROLE == 1 && q.side == 1) || (s.get R.LK_TOPO_ROLE == 2 && q.side == 0))
    | .down _ => !q.isVerard && ((q.role == 1 && s.get R.VD_TOPO_SIDE == 1) || (q.role == 2 && s.get R.VD_TOPO_SIDE == 0))
    | _ => false
  -- A role conflict: a device that may not stand at this end, or one in ROLE_CONFLICT (R13, R15).
  let role := match p with
    | .tlink => !q.isVerard || q.role == 0 || s.getB R.LK_TOPO_ROLE_CONFLICT
    | .down _ => if s.vdRole = 0 then !q.isVerard || q.role != 1 else q.isVerard || q.role == 0
    | _ => !q.isVerard || (if s.vdRole = 1 then q.role != 0 else q.role != BitVec.ofNat 2 s.vdRole)
  if side then s.portHold p 1
  else if role then s.portHold p 4
  else ((s.portGo p 3).emitFrame (.cal p (.constants (Config.txDly p.idx) (Config.rxDly p.idx) (Config.foldDly p.idx)))).keySend p

/-- A Lotik's UA once its die, pod and port numbers are assigned (R23, R69); numbers are kept until restart, and after
ENUM_COUNT or a role conflict the package does not enumerate, nor an ISOLATED die (R15, R68). -/
def State.formUa (s : State) : State :=
  let r := s.lk.ring
  if r.dieValid ∧ r.portValid ∧ s.get R.LK_RING_STAT_ENUM < 2 ∧ ¬s.getB R.LK_TOPO_ROLE_CONFLICT ∧ ¬s.getB R.LK_TOPO_UA_VALID then
    let s := s.put R.LK_TOPO_UA (r.pod.toNat * 2 ^ 11 + r.port.toNat * 2 ^ 5 + r.die.toNat)
    (s.put R.LK_TOPO_UA_VALID 1).logChange .lotik 1 R.LK_TOPO_UA
  else s

/-- A Verard's UA (R22), once its pod number is known. -/
def State.formVdUa (s : State) (pod : Nat) : State :=
  let cls := if s.vdRole = 1 then 1 else 2
  let s := s.put R.VD_TOPO_UA (cls * 2 ^ 17 + (if s.vdRole = 0 then 0 else pod) * 2 ^ 11 + s.get R.VD_TOPO_SIDE)
  s.put R.VD_TOPO_UA_VALID 1

/-- The side a pod Verard's attachment implies (R23). -/
def State.impliedSide (s : State) (f : EnumFrame) : Nat :=
  if s.getB R.VD_TOPO_HOMING then (if f.port.toNat < 32 then 0 else 1) else f.parentSide.toNat

/-- The ENUM frame a Verard sends on a downstream port (R62), once its own UA is valid. -/
def State.enumSend (s : State) (p : PortId) : State :=
  match p with
  | .down n =>
    if s.get (R.PORT_STAT_STATE p) = 5 ∧ s.getB R.VD_TOPO_UA_VALID then
      let pod := if s.vdRole = 0 then (if s.getB R.VD_TOPO_HOMING ∧ 32 ≤ n.val then n.val - 32 else n.val) else uaPod (s.ua .verard)
      s.emitFrame (.enum p { parentUa := BitVec.ofNat 20 (s.ua .verard), parentSide := BitVec.ofNat 1 (s.get R.VD_TOPO_SIDE),
                             pod := BitVec.ofNat 6 pod, port := BitVec.ofNat 6 n.val, wrap := s.wrap .verard })
    else s
  | _ => s

/-- Every port that waits in ENUM for this Verard's UA gets its frame (R60, R62). -/
def State.enumAll (s : State) : State := vdPorts.foldl (fun s p => s.enumSend p) s

/-- ENUM_FRAME_RX (R16, R23, R62, R69): the child takes or checks its numbers and answers. A Lotik has no SIDE and sends 0 in ENUM_ACK
(DESIGN CHOICE, notes/assumptions/113). -/
def State.enumRx (s : State) (p : PortId) (f : EnumFrame) : State :=
  if s.get (R.PORT_STAT_STATE p) ≠ 5 then s else
  let s := (s.put (R.PORT_PEER_PEER_UA p) f.parentUa.toNat).put (R.PORT_PEER_PEER_SIDE p) f.parentSide.toNat
  let s := s.put (R.PORT_PEER_PEER_VALID p) 1
  match p with
  | .tlink =>
    let r := s.lk.ring
    let head := s.get R.LK_TOPO_ROLE = 1
    -- After ENUM_COUNT the package does not enumerate: HEAD hands out no numbers (R68).
    let s := if head ∧ ¬r.portValid ∧ s.get R.LK_RING_STAT_ENUM ≠ 2 ∧ ¬s.getB R.LK_TOPO_ROLE_CONFLICT then
        ((s.setRing { r with pod := f.pod, port := f.port, portValid := true }).formUa).sendStatus
      else s
    let s := s.emitFrame (.enumAck p (if s.getB R.LK_TOPO_UA_VALID then BitVec.ofNat 20 (s.ua .lotik) else 0)
      (BitVec.ofNat 2 (s.get R.LK_TOPO_ROLE)) 0)
    let s := s.portGo p 6
    if ¬head ∧ r.portValid ∧ r.port ≠ f.port then
      s.portHold p 2
    else s.setRing { s.lk.ring with altPort := some f.port }
  | .down _ => s
  | _ =>
    if s.vdRole ≠ 1 then s
    else if s.impliedSide f ≠ s.get R.VD_TOPO_SIDE then s.portHold p 1
    else
      let s := if s.getB R.VD_TOPO_UA_VALID then s else (s.formVdUa f.pod.toNat).enumAll
      let s := s.emitFrame (.enumAck p (BitVec.ofNat 20 (s.ua .verard)) (BitVec.ofNat 2 s.vdRole) (BitVec.ofNat 1 (s.get R.VD_TOPO_SIDE)))
      s.portGo p 6

/-- No TICK for 4.096 µs (R60). -/
def State.tickTimeout (s : State) (p : PortId) : State :=
  if s.inService p ∧ (s.port p).lastTick + nsSub 4096 ≤ s.now p.dev then s.portGo p 1 else s

/-- TICK_SEND. -/
def execTickSend (p : PortId) (bins : BitVec 12) (s : State) : Res := finish (s.tickSend p bins.toNat)

/-- TIME_FRAME_RX. -/
def execTimeFrameRx (p : PortId) (f : TimeFrame) (crcOk : Bool) (s : State) : Res := finish (s.timeRx p f crcOk)

/-- AUTH_FRAME_RX. -/
def execAuthFrameRx (p : PortId) (group : BitVec 64) (tag : Framed (List Byte)) (s : State) : Res :=
  finish (s.authRx p group tag.body tag.crcOk)

/-- ENUM_FRAME_RX. -/
def execEnumFrameRx (p : PortId) (f : Framed EnumFrame) (s : State) : Res :=
  finish (if f.crcOk then s.enumRx p f.body else s.frameBad p)

/-- The peer is known and the port enters SERVICE (R62). -/
def State.enumAcked (s : State) (p : PortId) (ua : Ua) (role : BitVec 2) (side : BitVec 1) : State :=
  let s := (s.put (R.PORT_PEER_PEER_UA p) ua.toNat).put (R.PORT_PEER_PEER_SIDE p) side.toNat
  let s := s.put (R.PORT_PEER_PEER_VALID p) 1
  let s := s.setPort p { s.port p with peer := (s.port p).peer.map (fun q => { q with role := role }) }
  s.portGo p 6

/-- ENUM_ACK_RX (R62): the parent records the child and the port enters SERVICE. -/
def execEnumAckRx (p : PortId) (ua : Ua) (role : BitVec 2) (side : Framed (BitVec 1)) (s : State) : Res :=
  finish (
    if !side.crcOk then s.frameBad p
    else if s.get (R.PORT_STAT_STATE p) ≠ 5 ∨ s.isChild p then s else
    s.enumAcked p ua role side.body)

/-- The switch tick a parent names (R400): a multiple of 64 at least 256 ticks ahead. -/
def switchSeq (seq : BitVec 16) : BitVec 16 := BitVec.ofNat 16 ((seq.toNat + 256 + 63) / 64 * 64)

/-- Bytes of the peer's rounds arrive (R400): a re-key it began is answered, and once its round 1 is whole this end sends its signature
over both, parent first; the parent of a re-key adds SWITCH_SEQ. -/
def State.keyPayload (s : State) (p : PortId) (bytes : List Byte) : State :=
  let s := if s.inService p ∧ (s.port p).keyTx = [] then s.keySend p else s
  let t := s.port p
  let rx := t.keyRx ++ bytes
  let s := s.setPort p { t with keyRx := rx }
  if 738 ≤ rx.length ∧ t.keyRx.length < 738 ∧ t.keyTx ≠ [] then
    let own := t.keyTx.take 738
    let sw := leBytes 2 (switchSeq t.txSeq).toNat
    let sig := Config.ecdsaSign p.dev (if s.isChild p then rx.take 738 ++ own else own ++ rx.take 738)
    (s.setPort p { s.port p with keyTx := own ++ sw }).emitFrame
      (.cal p (.keyAgreement (0x4B :: padTo 96 sig ++ (if s.inService p ∧ !s.isChild p then sw else []))))
  else s

/-- CAL_FRAME_RX (R56, R400): the peer's fold median, constants or key agreement payload. -/
def execCalFrameRx (p : PortId) (b : Framed CalBody) (s : State) : Res :=
  finish (
    if !b.crcOk then s.frameBad p else
    match b.body with
    | .fold m => (s.foldHeard p m.toNat).enumSend p
    | .constants tx rx fo =>
      s.setPort p { s.port p with peer := (s.port p).peer.map (fun q => { q with txDly := tx, rxDly := rx, foldDly := fo }) }
    | .keyAgreement payload => if payload.headD 0 = 0x4B then s.keyPayload p (payload.drop 1) else s)

/-- PORT_ENABLE_WRITE (R60, R307): ENABLE = 0 makes a port OFF, ENABLE = 1 takes it from OFF to DETECT once its rings are locked. -/
def State.portEnable (s : State) (p : PortId) (on : Bool) : State :=
  if p = .tlink ∧ s.get R.LK_TOPO_ROLE = 0 then s else
  let s := s.putB (R.PORT_CTRL_ENABLE p) on
  if on then (if s.get (R.PORT_STAT_STATE p) = 0 ∧ s.portLit p then s.portGo p 1 else s) else s.portGo p 0

/-- PORT_ENABLE_WRITE. -/
def execPortEnableWrite (p : PortId) (on : Bool) (s : State) : Res :=
  finish (s.viaBus p.sp p.base (fun s => (s.portEnable p on)))

/-- A RETRY write (R60). -/
def State.portRetry (s : State) (p : PortId) : State :=
  if s.get (R.PORT_STAT_STATE p) = 7 then s.portGo p 1 else s

/-- PORT_RETRY. -/
def execPortRetry (p : PortId) (s : State) : Res :=
  finish (s.viaBus p.sp p.base (fun s => (s.portRetry p)))

/-- A CAL_NOW write (R57): a port in SERVICE recalibrates at once. -/
def State.portCalNow (s : State) (p : PortId) : State := if s.inService p then s.foldStart p else s

/-- PORT_CAL_NOW. -/
def execPortCalNow (p : PortId) (s : State) : Res :=
  finish (s.viaBus p.sp p.base (fun s => (s.portCalNow p)))

/-- DETECT_LIGHT_VALID (R60): light and signal valid for 1 ms. -/
def execDetectLightValid (p : PortId) (s : State) : Res :=
  finish (
    if s.get (R.PORT_STAT_STATE p) = 1 ∧ s.portLit p ∧ (s.port p).since + msSub 1 ≤ s.now p.dev then
      (s.portGo p 2).emit (.train p (s.ownTrain p))
    else s)

/-- TRAIN_TIMEOUT (R60, R72): light on the port's own transmit fibre, and none on the receive fibre, is FIBRE_REVERSED. -/
def execTrainTimeout (p : PortId) (reversed : Bool) (s : State) : Res :=
  finish (
    if s.get (R.PORT_STAT_STATE p) = 2 ∧ (s.port p).since + msSub 20 ≤ s.now p.dev then s.portFault p (if reversed then 7 else 8) else s)

/-- FOLD_CAL_DONE (R56): the median of the 1,024 shots, an even count, is the lower of the two in the middle (notes/assumptions/11). -/
def execFoldCalDone (p : PortId) (low high : BitVec 24) (s : State) : Res :=
  finish ((s.foldDone p (min low.toNat high.toNat)).enumSend p)

/-- TICK_TIMEOUT (R60): no TICK for 4.096 µs moves a SERVICE port to DETECT. -/
def execTickTimeout (p : PortId) (s : State) : Res := finish (s.tickTimeout p)

/-- PORT_FAULT_RETRY (R60): 100 ms in FAULT returns a port to DETECT. -/
def execPortFaultRetry (p : PortId) (s : State) : Res :=
  finish (if s.get (R.PORT_STAT_STATE p) = 8 ∧ (s.port p).since + msSub 100 ≤ s.now p.dev then s.portGo p 1 else s)

/-- ROUTINE_RECAL (R57): 60 s after the last calibration a SERVICE port recalibrates beside its traffic. -/
def execRoutineRecal (p : PortId) (s : State) : Res :=
  finish (if s.inService p ∧ (s.port p).calAt + secSub 60 ≤ s.now p.dev then s.foldStart p else s)

end Sys2Proof.Machine
end

