-- ==== Sys2Proof/Machine/Optics.lean ====
section
/-! DEFINITION. The optical engines, rings and laser lines of Verard (R302 to R312, R315 to R318): the state machine of an engine, the
search, rings on the wrong line, ageing and spares. -/

namespace Sys2Proof.Machine

open Sys2Proof

/-- A line of an engine. -/
def State.line (s : State) (e l : Nat) : OeLine := smGet {} (s.oe e).lines l

/-- Replace a line. -/
def State.setLine (s : State) (e l : Nat) (x : OeLine) : State := s.setOe e { s.oe e with lines := smPut {} (s.oe e).lines l x }

/-- A ring of an engine: modulators 0 to 7, drop rings 8 to 15. -/
def State.oring (s : State) (e r : Nat) : OeRing := smGet {} (s.oe e).rings r

/-- Replace a ring. -/
def State.setOring (s : State) (e r : Nat) (x : OeRing) : State := s.setOe e { s.oe e with rings := smPut {} (s.oe e).rings r x }

/-- The engine and place of a port (R302): downstream n on engine n div 8, the upstream ports on engine 8. -/
def oePlace : PortId → Nat × Nat
  | .down n => (n.val / 8, n.val % 8)
  | .upA => (8, 0)
  | _ => (8, 1)

/-- The ports of an engine, in the order of their places; TEST0 and TEST1, places 2 and 3 of engine 8, are no T-link ports (R302). -/
def oePorts (e : Nat) : List PortId :=
  if e < 8 then (List.range 8).map (fun k => PortId.down (Fin.ofNat 64 (8 * e + k))) else [.upA, .upB]

/-- The pilot tone of a channel, and of a parked line, in kHz (R303). -/
def chanTone (k : Nat) : Nat := 200 + 20 * k
def parkTone (l : Nat) : Nat := 360 + 20 * l

/-- One bit of CRC-8 with polynomial 0x07 (R355). -/
def crc8Bit (c : Nat) (b : Bool) : Nat :=
  let top := (c / 128 % 2 == 1) != b
  let c := c * 2 % 256
  if top then c ^^^ 7 else c

/-- CRC-8 of the low three bytes of a word, the lowest byte first (R355; notes/assumptions/35). -/
def crc8 (w : Nat) : Nat :=
  (leBytes 3 w).foldl (fun c b => (List.range 8).foldl (fun c i => crc8Bit c (b.toNat.testBit (7 - i))) c) 0

/-- Send a command to the laser source on an engine's LS_LINK (R355): the engine stands above the word. -/
def State.lsSend (s : State) (e l op v : Nat) : State :=
  let w := l % 16 + op % 16 * 16 + v % 65536 * 256
  s.emit (.pin "LS_LINK" (e * 2 ^ 32 + crc8 w * 2 ^ 24 + w))

/-- A line is lit on a slot with a tone (R303, R304). -/
def State.lightLine (s : State) (e l slot tone : Nat) : State :=
  let x := s.line e l
  let s := ((s.lsSend e l 4 slot).lsSend e l 3 tone).lsSend e l 1 0
  if x.lit then s else s.setLine e l { x with lit := true, litSince := s.now .verard }

/-- A line goes dark. -/
def State.darkLine (s : State) (e l : Nat) : State :=
  let x := s.line e l
  if x.lit then (s.lsSend e l 0 0).setLine e l { x with lit := false, litTotal := x.litTotal + (s.now .verard - x.litSince) } else s

/-- Whether a ring of an engine is being recovered from a wrong line (R311): a swap meanwhile is nested (R343). -/
def State.recovering (s : State) (e : Nat) : Bool := (oePorts e).any (fun p => s.get (R.PORT_OPT_STAT_OSTATE p) == 3)

/-- A line's state (R322), with a Log entry where it changes. -/
def State.lineGo (s : State) (e l st : Nat) : State :=
  let f := R.VD_OE_LINEl_STAT_LSTATE e l
  if s.get f = st then s else (s.put f st).logChange .verard 10 f (if st = 7 then 4 else 2) (b2n (s.recovering e))

/-- The line's state code. -/
def State.lineState (s : State) (e l : Nat) : Nat := s.get (R.VD_OE_LINEl_STAT_LSTATE e l)

/-- The line that serves a place, and the spares of its bus, in the order of R315. -/
def busSpares (e place : Nat) : List Nat := if e < 8 then [8, 9] else if place < 2 then [4 + place, 8 + place] else [4 + place]

/-- Whether the maker's test ports may be lit (R302). -/
def State.testLit (s : State) : Bool :=
  s.get (R.SEC_LC_STATE .verard) == 0 || (s.get (R.SEC_LC_STATE .verard) == 3 && s.getB (R.SEC_LC_TOKEN_OPEN .verard))

/-- The places of an engine that are in use. -/
def State.places (s : State) (e : Nat) : List Nat := if e < 8 then List.range 8 else if s.testLit then [0, 1, 2, 3] else [0, 1]

/-- The port at a place, where it has one. -/
def placePort (e k : Nat) : Option PortId := (oePorts e)[k]?

/-- The optical state of a place: its port's, or a test port's (R302, R321). -/
def State.pstate (s : State) (e k : Nat) : Nat :=
  match placePort e k with
  | some p => s.get (R.PORT_OPT_STAT_OSTATE p)
  | none => smGet 0 (s.oe e).tests k

/-- Put the optical state of a place. -/
def State.setPstate (s : State) (e k st : Nat) : State :=
  match placePort e k with
  | some p => s.put (R.PORT_OPT_STAT_OSTATE p) st
  | none => s.setOe e { s.oe e with tests := smPut 0 (s.oe e).tests k st }

/-- The modulator and the drop ring of a place: on engine 8 one pair per bus (R308). -/
def State.placeRings (s : State) (e k : Nat) : Nat × Nat :=
  match placePort e k with
  | some p => if e < 8 then (s.get (R.PORT_OPT_STAT_MOD_RING p), 8 + s.get (R.PORT_OPT_STAT_DROP_RING p)) else (k, 8 + k)
  | none => (k, 8 + k)

/-- The channel of a place: on engine 8 the one the port follows, and channel 0 for a test port. -/
def State.placeChan (s : State) (e place : Nat) : Nat :=
  if e < 8 then place else if place = 0 then s.get (R.PORT_OPT_STAT_CHAN .upA) else if place = 1 then s.get (R.PORT_OPT_STAT_CHAN .upB) else 0

/-- The working line of a place: its own line, or the spare in its place; on engine 8 a place's lines are those of its bus. -/
def State.workLine (s : State) (e place : Nat) : Option Nat :=
  (place :: busSpares e place).find? (fun l =>
    s.get (R.VD_OE_LINEl_STAT_CHAN e l) == s.placeChan e place && s.lineState e l != 4 && s.lineState e l != 7)

/-- Count the spares not used (R322). -/
def State.showSpares (s : State) (e : Nat) : State :=
  if e < 8 then s.put (R.VD_OE_STAT_SPARES_LEFT e) ([8, 9].countP (fun l => s.lineState e l == 5 || s.lineState e l == 6)) else s

/-- A spare of a place's bus in a state. -/
def State.spareIn (s : State) (e place st : Nat) : Option Nat := (busSpares e place).find? (fun l => s.lineState e l == st)

/-- Begin to warm a spare of a place's bus where none is warm or warming (R315); with none left SPARES_OUT is set (R318). -/
def State.warmSpare (s : State) (e place : Nat) : State :=
  if (s.spareIn e place 6).isSome then s else
  match s.spareIn e place 5 with
  | none => s.put (R.VD_OE_IRQ_SPARES_OUT e) 1
  | some l => if (s.line e l).lit then s else s.lightLine e l 8 (parkTone l)

/-- A spare is used or has failed (R318): SPARES_OUT is set where it was the last of a place's bus. -/
def State.spareSpent (s : State) (e l : Nat) : State :=
  let out := (s.places e).any (fun k => (busSpares e k).contains l && (s.spareIn e k 5).isNone && (s.spareIn e k 6).isNone)
  s.doIf out (fun s => s.put (R.VD_OE_IRQ_SPARES_OUT e) 1)

/-- The port's optical state. -/
def State.ostate (s : State) (p : PortId) : Nat := s.get (R.PORT_OPT_STAT_OSTATE p)

/-- An engine's state (R307), with a Log entry. -/
def State.oeGo (s : State) (e st : Nat) : State :=
  let f := R.VD_OE_STAT_STATE e
  if s.get f = st then s else
  let s := s.setOe e { s.oe e with since := s.now .verard }
  let s := (s.put f st).logChange .verard 10 f (if st = 5 then 4 else 2)
  if st = 4 then s.put (R.VD_OE_IRQ_SEARCH_FAIL e) 1 else s

/-- A port that ran leaves the state machine's upper states for DETECT (R60). -/
def State.portDetect (s : State) (p : PortId) : State :=
  let st := s.get (R.PORT_STAT_STATE p)
  if 2 ≤ st ∧ st ≤ 6 then s.portGo p 1 else s

/-- A port's rings are locked: where it is enabled it enters DETECT (R307). -/
def State.portLock (s : State) (p : PortId) : State :=
  let s := (s.put (R.PORT_OPT_STAT_OSTATE p) 2).showSwitching p
  if s.getB (R.PORT_CTRL_ENABLE p) ∧ s.get (R.PORT_STAT_STATE p) = 0 ∧ s.portLit p then s.portGo p 1 else s

/-- Show the heater codes of an engine's ports and its heater power (R305, R321, R322). -/
def State.showHeat (s : State) (e : Nat) : State :=
  let s := (oePorts e).foldl (fun s p =>
    (s.put (R.PORT_OPT_HEAT_MOD_HEAT p) (s.oring e (s.get (R.PORT_OPT_STAT_MOD_RING p))).code).put
      (R.PORT_OPT_HEAT_DROP_HEAT p) (s.oring e (8 + s.get (R.PORT_OPT_STAT_DROP_RING p))).code) s
  s.put (R.VD_OE_HEAT_HEAT_PWR e) (((s.oe e).rings.map (fun r => r.2.code)).sum * 2400 / 4095)

/-- Put the rings of a place to a modulator and a drop ring. -/
def State.ringsOf (s : State) (p : PortId) (m d : Nat) : State := (s.put (R.PORT_OPT_STAT_MOD_RING p) m).put (R.PORT_OPT_STAT_DROP_RING p) d

-- R307.

/-- Every line of an engine goes dark, its ports go dark and a swap under way is given up. -/
def State.oeOff (s : State) (e : Nat) : State :=
  let s := (List.range 10).foldl (fun s l =>
    let s := s.darkLine e l
    let s := s.setLine e l { s.line e l with dueAt := 0, forced := false, waited := false, asked := false }
    let s := (s.put (R.VD_OE_LINEl_STAT_TONE_OK e l) 0).complete .verard 0x82 (e * 16 + l) 0x31 [0xFF] true
    if s.lineState e l = 4 ∨ s.lineState e l = 7 then s else (s.lineGo e l 0).put (R.VD_OE_LINEl_STAT_CHAN e l) 15) s
  let still (x : OeRing) : OeRing := { x with goal := none, seek := false, down := false }
  let s := (s.setOe e { s.oe e with swap := none, settling := [], tests := [], rings := (s.oe e).rings.map (fun x => (x.1, still x.2)) }).put
    (R.VD_OE_STAT_SWAP_ACTIVE e) 0
  let s := (oePorts e).foldl (fun s p =>
    let s := (s.put (R.PORT_OPT_STAT_OSTATE p) 0).put (R.PORT_OPT_STAT_LINE p) 15
    (s.portDetect p).complete .verard 0x83 p.idx 0 [0] true) s
  (s.oeGo e 0).showSpares e

/-- The working line of a place is lit on its channel with its tone. -/
def State.lightPlace (s : State) (e k : Nat) : State :=
  let c := s.placeChan e k
  let s := if s.lineState e k = 0 ∨ s.lineState e k = 1 then s.put (R.VD_OE_LINEl_STAT_CHAN e k) c else s
  match s.workLine e k with
  | none => s
  | some l => s.lightLine e l c (chanTone c)

/-- The working lines are lit, each on its channel with its tone, and the spares are parked (R303, R304). -/
def State.oeLight (s : State) (e : Nat) : State :=
  let park := if e < 8 then [8, 9] else [4, 5, 6, 7, 8, 9]
  let s := park.foldl (fun s l => if s.lineState e l = 0 then s.lineGo e l 5 else s) s
  ((s.places e).foldl (fun s k => s.lightPlace e k) s).showSpares e

/-- A ring begins a sweep over its full range (R306): down to code 0 at the sweep's rate, then up (DESIGN CHOICE, notes/assumptions/158). -/
def State.beginSweep (s : State) (e r : Nat) : State :=
  let x := s.oring e r
  s.setOring e r { x with goal := none, seek := false, down := x.code != 0 }

/-- A maker token has opened (R302, R407): where engine 8 runs, its test ports may be lit now, and their rings are searched. -/
def State.lightTests (s : State) : State :=
  let st := s.get (R.VD_OE_STAT_STATE 8)
  if st = 0 ∨ st = 5 ∨ !s.testLit then s
  else [2, 3].foldl (fun s k =>
    let s := (s.lightPlace 8 k).doIf (st != 1 && s.lineState 8 k == 0) (fun s => s.lineGo 8 k 1)
    s.doIf (st != 1 && s.pstate 8 k == 0) (fun s => ((s.setPstate 8 k 1).beginSweep 8 k).beginSweep 8 (8 + k))) s

/-- VD_OE_CTRL.ENABLE and the source's readiness decide whether an engine starts, from stage OPTICS on (R307, R360, R363). -/
def State.oeStart (s : State) (e : Nat) : State :=
  let stage := s.get R.VD_BOOT_STAGE
  if s.getB (R.VD_OE_CTRL_ENABLE e) then
    (if s.get (R.VD_OE_STAT_STATE e) = 0 ∧ s.vd.lsReady ∧ 3 ≤ stage ∧ stage ≤ 5 then (s.oeGo e 1).oeLight e else s)
  else if s.get (R.VD_OE_STAT_STATE e) = 0 then s else s.oeOff e

/-- A write of VD_OE_CTRL.ENABLE. -/
def State.oeEnable (s : State) (e : Nat) (on : Bool) : State := (s.putB (R.VD_OE_CTRL_ENABLE e) on).oeStart e

/-- OE_ENABLE_WRITE. -/
def execOeEnableWrite (e : Fin 9) (on : Bool) (s : State) : Res :=
  finish (s.viaBus 1 (0x60000 + 0x200 * e.val) (fun s => (s.oeEnable e on)))

/-- The laser is QUALIFIED (R307): every working line is on, its tone good, its port locks, and the engine searches. -/
def State.laserOk (s : State) (e : Fin 9) : State :=
  let s := (s.places e).foldl (fun s k => match s.workLine e k with
    | none => s
    | some l => (s.lineGo e l 1).put (R.VD_OE_LINEl_STAT_TONE_OK e l) 1) s
  let s := (s.places e).foldl (fun s k => ((s.setPstate e k 1).beginSweep e k).beginSweep e (8 + k)) s
  (s.setOe e { s.oe e with settling := [] }).oeGo e 2

/-- LASER_QUALIFIED (R307): 100 ms with every working line lit and in power. -/
def execLaserQualified (e : Fin 9) (s : State) : Res :=
  finish (
    if s.get (R.VD_OE_STAT_STATE e) = 1 ∧ (s.oe e).since + msSub 100 ≤ s.now .verard then
      s.laserOk e
    else s)

/-- The laser has not qualified within 1 s (R307): spares stand in for absent lines, or the engine faults. -/
def State.laserLate (s : State) (e : Fin 9) (absent : BitVec 10) : State :=
  let work := (s.places e).filterMap (fun k => (s.workLine e k).map (fun l => (k, l)))
  if work.all (fun x => absent.toNat.testBit x.2) then s.oeGo e 5
  else
    let s := (work.filter (fun x => absent.toNat.testBit x.2)).foldl (fun s x =>
      let c := s.placeChan e x.1
      let s := ((s.lineGo e x.2 7).put (R.VD_OE_LINEl_STAT_CHAN e x.2) 15).darkLine e x.2
      match s.spareIn e x.1 5 with
      | none => s.put (R.VD_OE_IRQ_SPARES_OUT e) 1
      | some l => (((s.lineGo e l 1).put (R.VD_OE_LINEl_STAT_CHAN e l) c).lightLine e l c (chanTone c)).spareSpent e l) s
    (s.setOe e { s.oe e with since := s.now .verard }).showSpares e

/-- LASER_WAIT_TIMEOUT (R307): the working lines absent after 1 s; where all are, the engine is in FAULT. -/
def execLaserWaitTimeout (e : Fin 9) (absent : BitVec 10) (s : State) : Res :=
  finish (
    if s.get (R.VD_OE_STAT_STATE e) ≠ 1 ∨ s.now .verard < (s.oe e).since + secSub 1 then s else
    s.laserLate e absent)

/-- OE_FAULT_RETRY (R307): 10 s in FAULT. -/
def execOeFaultRetry (e : Fin 9) (s : State) : Res :=
  finish (
    if s.get (R.VD_OE_STAT_STATE e) = 5 ∧ (s.oe e).since + secSub 10 ≤ s.now .verard then (s.oeGo e 1).oeLight e else s)

-- The search (R308).

/-- The largest code that a shift needs. -/
def worstCode (code : Nat → Nat → Nat) (sh : Nat) : Nat := (List.range 8).foldl (fun m i => max m (code i ((i + sh) % 8))) 0

/-- The shift chosen (R308): the first of those with the smallest worst code. -/
def assignShift (code : Nat → Nat → Nat) : Nat :=
  (List.range 8).foldl (fun best sh => if worstCode code sh < worstCode code best then sh else best) 0

/-- A table of codes in row order, ring by ring; 0xFFFF where no tone appeared. -/
def codeTable (t : List (BitVec 16)) (i k : Nat) : Nat := ((t[8 * i + k]?).getD 0xFFFF).toNat

/-- A ring that stands at its goal has reached it. -/
def OeRing.settle (x : OeRing) : OeRing := if x.goal = some x.code then { x with goal := none } else x

/-- The rings of an engine that have reached their goals. -/
def State.reachGoals (s : State) (e : Nat) : State :=
  s.setOe e { s.oe e with rings := (s.oe e).rings.map (fun x => (x.1, x.2.settle)) }

/-- One place's rings after a search (R308): they move to their codes, and lock there; or the place is NO_LINE. -/
def State.settlePlace (s : State) (e k : Nat) (m d : List (BitVec 16)) (locked : Nat) : State :=
  let c := s.placeChan e k
  let mi := if e < 8 then (k + 8 - s.get (R.VD_OE_STAT_SHIFT e)) % 8 else k
  let di := if e < 8 then (k + 8 - s.get (R.VD_OE_STAT_DROP_SHIFT e)) % 8 else k
  let mc := codeTable m mi c
  let dc := codeTable d di c
  let row (t : List (BitVec 16)) (i : Nat) : List Nat := (List.range 8).map (fun j => codeTable t i j)
  let ok := mc ≤ 4095 ∧ dc ≤ 4095 ∧ locked.testBit mi ∧ locked.testBit (8 + di) ∧ (s.workLine e k).isSome
  let goal (v : Nat) : Option Nat := if v ≤ 4095 then some v else none
  let s := s.setOring e mi { s.oring e mi with goal := goal mc, found := row m mi, wrong := 0, down := false }
  let s := s.setOring e (8 + di) { s.oring e (8 + di) with goal := goal dc, found := row d di, wrong := 0, down := false, darkAt := none }
  let s := match placePort e k with
    | some p => (s.ringsOf p mi di).doIf (decide (e < 8)) (fun s => s.put (R.PORT_OPT_STAT_CHAN p) c)
    | none => s
  if ok then s.setOe e { s.oe e with settling := (s.oe e).settling ++ [k] }
  else match placePort e k with
    | some p => (s.put (R.PORT_OPT_STAT_LINE p) 15).put (R.PORT_OPT_STAT_OSTATE p) 6
    | none => s.setPstate e k 6

/-- READY where every place of the engine has its line, else DEGRADED (R307). -/
def State.oeJudge (s : State) (e : Nat) : State :=
  let st := s.get (R.VD_OE_STAT_STATE e)
  let some_ (v : Nat) : Bool := (s.places e).any (fun k => s.pstate e k == v)
  if (st ≠ 2 ∧ st ≠ 3 ∧ st ≠ 4) ∨ (st = 2 ∧ some_ 1) then s
  else if some_ 6 then s.oeGo e 4
  else if some_ 1 then s
  else s.oeGo e 3

/-- Rings that have reached their codes lock (R307, R308): the place has its line, and its port may run. -/
def State.settleDone (s : State) (e : Nat) : State :=
  let there (k : Nat) : Bool := let r := s.placeRings e k; (s.oring e r.1).goal.isNone && (s.oring e r.2).goal.isNone
  let ks := (s.oe e).settling.filter there
  if ks = [] then s else
  let s := s.setOe e { s.oe e with settling := (s.oe e).settling.filter (fun k => !there k) }
  let s := ks.foldl (fun s k => (match placePort e k with
    | some p => s.put (R.PORT_OPT_STAT_LINE p) ((s.workLine e k).getD 15)
    | none => s).setPstate e k 2) s
  let s := s.oeJudge e
  let s := ((oePorts e).filter (fun p => s.ostate p == 2)).foldl (fun s p => s.portLock p) s
  (ks.filterMap (placePort e)).foldl (fun s p => s.complete .verard 0x83 p.idx 0 [BitVec.ofNat 8 (s.ostate p)] true) s

/-- The sweep of an engine's search has found its codes (R307, R308): at start-up every ring is assigned; later those of the places that
search again. The rings then move to their codes. -/
def State.searchDone (s : State) (e : Nat) (m d : List (BitVec 16)) (locked : Nat) : State :=
  let st := s.get (R.VD_OE_STAT_STATE e)
  if st ≠ 2 ∧ st ≠ 3 ∧ st ≠ 4 then s else
  let s := if st = 2 ∧ e < 8 then
      (s.put (R.VD_OE_STAT_SHIFT e) (assignShift (codeTable m))).put (R.VD_OE_STAT_DROP_SHIFT e) (assignShift (codeTable d))
    else s
  let ks := (s.places e).filter (fun k => s.pstate e k == 1 && !(s.oe e).settling.contains k)
  let s := (ks.foldl (fun s k => s.settlePlace e k m d locked) s).oeJudge e
  let s := (ks.filterMap (placePort e)).foldl (fun s p =>
    s.doIf (s.ostate p == 6) (fun s => s.complete .verard 0x83 p.idx 0 [BitVec.ofNat 8 6] true)) s
  (s.reachGoals e).settleDone e

/-- OPTICAL_SEARCH_DONE: the codes found for the modulator and drop rings, and the rings that lock at their codes. -/
def execOpticalSearchDone (e : Fin 9) (mods drops : List (BitVec 16)) (locked : BitVec 16) (s : State) : Res :=
  finish (s.searchDone e mods drops locked.toNat)

/-- A port's rings are searched again. -/
def State.searchAgain (s : State) (p : PortId) : State :=
  let (e, k) := oePlace p
  let r := s.placeRings e k
  let s := (s.beginSweep e r.1).beginSweep e r.2
  let s := s.setOe e { s.oe e with settling := (s.oe e).settling.filter (fun x => x != k) }
  (((s.put (R.PORT_OPT_STAT_OSTATE p) 1).bumpSat (R.PORT_OPT_CNT_RELOCKS p)).portDetect p)

/-- A write of VD_OE_CTRL.RESEARCH (R322): every NO_LINE port. -/
def State.oeResearch (s : State) (e : Nat) : State :=
  let st := s.get (R.VD_OE_STAT_STATE e)
  if st = 3 ∨ st = 4 then ((oePorts e).filter (fun p => s.ostate p == 6)).foldl (fun s p => s.searchAgain p) s else s

/-- OE_RESEARCH. -/
def execOeResearch (e : Fin 9) (s : State) : Res :=
  finish (s.viaBus 1 (0x60000 + 0x200 * e.val) (fun s => (s.oeResearch e)))

-- Swaps (R315 to R318).

/-- The SWAP command (R316, R355). -/
def State.swapSend (s : State) (e old spare slot : Nat) : State := s.lsSend e old 5 (spare + slot * 16)

/-- A swap begins at this instant (R316). -/
def State.swapGo (s : State) (e place l spare : Nat) : State :=
  let c := s.placeChan e place
  let s := s.swapSend e l spare c
  let s := s.setOe e { s.oe e with swap := some { port := (match placePort e place with | some p => p.idx | none => 100 + place),
                                                  old := l, spare := spare, at_ := s.now .verard },
                                    gap := (placePort e place).map (fun p => (p.idx, s.now .verard)) }
  let s := (s.put (R.VD_OE_STAT_SWAP_ACTIVE e) 1).put (R.VD_OE_LINEl_STAT_CHAN e spare) c
  match placePort e place with
  | some p => s.put (R.PORT_OPT_STAT_OSTATE p) 4
  | none => s

/-- Whether an engine may begin a swap now: none is under way, and 1 ms has passed since the last (R318). -/
def State.swapFree (s : State) (e : Nat) : Bool :=
  (s.oe e).swap.isNone && (match (s.oe e).lastSwap with | none => true | some t => decide (t + msSub 1 ≤ s.now .verard))

/-- The FAILED line of a place that has no working one. -/
def State.failedLine (s : State) (e place : Nat) : Option Nat :=
  if (s.workLine e place).isSome then none else
  (place :: busSpares e place).find? (fun l => s.lineState e l == 7 && s.get (R.VD_OE_LINEl_STAT_CHAN e l) == s.placeChan e place)

/-- A FAILED working line of a place is replaced by a warm spare as soon as the engine may begin a swap; the port then retrains from
DETECT (R318). -/
def State.swapFailed (s : State) (e place : Nat) : State :=
  if !s.swapFree e then s else
  match s.failedLine e place, s.spareIn e place 6 with
  | some l, some sp => s.swapGo e place l sp
  | _, _ => s

-- Heaters (R305, R306).

/-- Insert by size, the largest first. -/
def insertErr (x : Nat × Int) : List (Nat × Int) → List (Nat × Int)
  | [] => [x]
  | y :: ys => if y.2.natAbs < x.2.natAbs then x :: y :: ys else y :: insertErr x ys

/-- Codes that an engine's rings have moved in the present ms. -/
def State.movedSum (s : State) (e ms : Nat) : Nat := ((s.oe e).rings.map (fun r => if r.2.ms = ms then r.2.moved else 0)).sum

/-- One ring's code moves by one toward its line, within HEAT_SLEW (R305, R306). -/
def State.moveRing (s : State) (e r ms : Nat) (err : Int) : State :=
  let x := s.oring e r
  let moved := if x.ms = ms then x.moved else 0
  if err = 0 ∨ s.get R.VD_OPT_CFG3_HEAT_SLEW ≤ moved then s
  else if 6825 ≤ s.movedSum e ms then s.put (R.VD_OE_STAT_SLEW_LIMITED e) 1
  else s.setOring e r { x with code := if 0 < err then min 4095 (x.code + 1) else x.code - 1, ms := ms, moved := moved + 1 }

/-- Whether a ring is being swept (R306, R308, R311): all of an engine in SEARCH, those of a place that searches again, or one alone. -/
def State.sweeping (s : State) (e r : Nat) : Bool :=
  let x := s.oring e r
  let st := s.get (R.VD_OE_STAT_STATE e)
  x.goal.isNone && (x.seek ||
    (st == 2 && (s.oe e).settling.isEmpty && (s.places e).contains (r % 8)) ||
    ((st == 3 || st == 4) && (s.places e).any (fun k => s.pstate e k == 1 && !(s.oe e).settling.contains k &&
      ((s.placeRings e k).1 == r || (s.placeRings e k).2 == r))))

/-- Codes a sweep moves in one update of the lock loops: one per 20 µs (R306). -/
def sweepStep : Nat := 5

/-- A swept ring moves on: down to code 0, then up over its full range. -/
def State.sweepRing (s : State) (e r ms : Nat) : State :=
  let x := s.oring e r
  let code := if x.down then x.code - sweepStep else min 4095 (x.code + sweepStep)
  let diff := max code x.code - min code x.code
  s.setOring e r { x with code := code, down := x.down && code != 0, ms := ms, moved := (if x.ms = ms then x.moved else 0) + diff }

/-- The sweeps of an engine move on (R306): rings with even numbers first, then those with odd ones. -/
def State.sweepRings (s : State) (e ms : Nat) : State :=
  let swept := (List.range 16).filter (fun r => s.sweeping e r)
  let evens := swept.filter (fun r => r % 2 == 0)
  let open_ := evens.any (fun r => (s.oring e r).down || decide ((s.oring e r).code < 4095))
  (if open_ then evens else swept.filter (fun r => r % 2 == 1)).foldl (fun s r => s.sweepRing e r ms) s

/-- A ring on its way to a code moves on: after a search at the sweep's rate, else within HEAT_SLEW (R306; DEDUCED,
notes/assumptions/158). -/
def State.goalRing (s : State) (e ms r : Nat) : State :=
  let x := s.oring e r
  match x.goal with
  | none => s
  | some g =>
    if (s.oe e).settling.any (fun k => (s.placeRings e k).1 == r || (s.placeRings e k).2 == r) then
      let code := if x.code < g then min g (x.code + sweepStep) else max g (x.code - sweepStep)
      let diff := max code x.code - min code x.code
      s.setOring e r { x with code := code, ms := ms, moved := (if x.ms = ms then x.moved else 0) + diff }
    else s.moveRing e r ms ((g : Int) - x.code)

/-- The moves of an engine's rings that no lock loop makes: sweeps, and ways to a code. -/
def State.driveRings (s : State) (e ms : Nat) : State :=
  let s := (s.sweepRings e ms)
  (((List.range 16).foldl (fun s r => s.goalRing e ms r) s).reachGoals e).settleDone e

/-- A drop ring that loses its light freezes its code (R309). -/
def State.ringLight (s : State) (e r : Nat) (dark : Bool) : State :=
  let x := s.oring e r
  s.setOring e r { x with darkAt := if dark then some (x.darkAt.getD (s.now .verard)) else none }

/-- The lock loops of an engine move their codes (R305, R306). -/
def State.lockRings (s : State) (e : Fin 9) (errs : List (BitVec 16)) (dark : BitVec 16) (ms : Nat) : State :=
  let locked (r : Nat) : Bool := (s.oring e r).goal.isNone && (s.places e).any (fun k =>
    (s.pstate e k == 2 || s.pstate e k == 4 || s.pstate e k == 5) && ((s.placeRings e k).1 == r || (s.placeRings e k).2 == r))
  let s := (List.range 8).foldl (fun s k => s.ringLight e (8 + k) (locked (8 + k) && dark.toNat.testBit (8 + k))) s
  let es := (errs.zipIdx.filter (fun x => locked x.2 && !dark.toNat.testBit x.2)).map (fun x => (x.2, x.1.toInt))
  (es.foldr insertErr []).foldl (fun s x => s.moveRing e x.1 ms x.2) s

/-- The part of a 100 µs update that moves rings (R305, R306): outside SEARCH the locks follow their errors, then every ring goes one step
toward its goal, lines that wait for a spare are tried again, and the heater's power is shown. -/
def State.ringsUpdate (s : State) (e : Fin 9) (errs : List (BitVec 16)) (dark : BitVec 16) (st ms : Nat) : State :=
  let s := s.doIf (st != 2) (fun s => s.lockRings e errs dark ms)
  ((s.places e).foldl (fun s k => s.swapFailed e k) (s.driveRings e ms)).showHeat e

/-- RING_LOCK_UPDATE (R305, R306, R309), every 100 µs: the errors of rings 0 to 15, those that are dark, the engine's temperature, and
each port's received and transmitted power. Rings that are swept or on their way to a code move on, and a FAILED line whose turn it is gets
its spare (R318). -/
def execRingLockUpdate (e : Fin 9) (errs : List (BitVec 16)) (dark : BitVec 16) (temp : BitVec 8) (pwr : List (BitVec 32)) (s : State) : Res :=
  finish (
    let now := s.now .verard
    if !periodOver (s.oe e).lockAt (usSub 100) now then s else
    let s := s.setOe e { s.oe e with lockAt := some now }
    let ms := now / msSub 1
    let st := s.get (R.VD_OE_STAT_STATE e)
    let s := (s.put (R.VD_OE_STAT_SLEW_LIMITED e) 0).put (R.VD_OE_STAT_TEMP_C e) temp.toNat
    let s := ((oePorts e).zip pwr).foldl (fun s x =>
      (s.put (R.PORT_OPT_PWR_RX_PWR x.1) (bits x.2.toNat 0 16)).put (R.PORT_OPT_PWR_TX_PWR x.1) (bits x.2.toNat 16 16)) s
    if st < 2 ∨ 4 < st then s else
    s.ringsUpdate e errs dark st ms)

-- A ring on the wrong line (R310, R311).

/-- A code of a modulator at which the search found no line; which of them is open (notes/assumptions/1). -/
def State.emptyCode (s : State) (x : OeRing) : Nat :=
  let free := (List.range 4096).filter (fun c => !x.found.contains c)
  (free[s.freeW % 4096]?).getD (free.headD 0)

/-- What a port carries faults with cause PATH (R208). -/
def State.faultVia (s : State) (p : PortId) : State :=
  s.faultPath .verard (s.carriedBy p)

/-- A ring of a port is found on the wrong line (R311), with the tone found, 0 where none was read. -/
def State.wrongLine (s : State) (p : PortId) (drop : Bool) (khz : Nat) : State :=
  let e := (oePlace p).1
  let st := s.ostate p
  if st = 0 ∨ st = 1 ∨ st = 3 ∨ st = 6 then s else
  let r := if drop then 8 + s.get (R.PORT_OPT_STAT_DROP_RING p) else s.get (R.PORT_OPT_STAT_MOD_RING p)
  let now := s.now .verard
  -- A swap under way is given up, and the spare stays WARM (R318).
  let s := match (s.oe e).swap with
    | some w => if w.port = p.idx ∧ w.restore = false then
        let c := s.get (R.PORT_OPT_STAT_CHAN p)
        let s := ((s.setOe e { s.oe e with swap := none }).put (R.VD_OE_STAT_SWAP_ACTIVE e) 0).put (R.VD_OE_LINEl_STAT_CHAN e w.spare) 15
        let s := (s.lightLine e w.spare 8 (parkTone w.spare)).lightLine e w.old c (chanTone c)
        s.complete .verard 0x82 (e * 16 + w.old) 0x31 [BitVec.ofNat 8 w.spare] true
      else s
    | none => s
  let x := s.oring e r
  let wrongs := now :: x.wrongs.filter (fun t => decide (now ≤ t + secSub 3600))
  let code := s.emptyCode x
  let s := if drop then s else s.drawn
  let s := s.setOring e r { x with goal := if drop then none else some code, seek := true, down := true, wrong := 0, wrongs := wrongs }
  let taken : Option PortId := (oePorts e).find? (fun q => q != p && chanTone (s.get (R.PORT_OPT_STAT_CHAN q)) == khz)
  let expect := chanTone (s.get (R.PORT_OPT_STAT_CHAN p))
  let s := (s.put (R.PORT_OPT_STAT_OSTATE p) 3).portDetect p
  let s := match taken with | some q => s.faultVia q | none => s
  let s := ((s.put (R.VD_OE_IRQ_WRONG_LINE e) 1).bumpSat (R.PORT_OPT_CNT_WRONG_LINE p)).bumpSat (R.VD_OE_CNT_WRONG_LINE e)
  let f := R.PORT_OPT_STAT_OSTATE p
  let s := s.logKind .verard 0x0A00 4 (leBytes 4 f.off ++ leBytes 4 (s.word f.sp f.off) ++ [BitVec.ofNat 8 r] ++ leBytes 2 khz ++ leBytes 2 expect)
  let s := if 3 ≤ wrongs.length then (s.put f 6).setOring e r { s.oring e r with wrongs := [], seek := false } else s
  (s.oeJudge e).showHeat e

/-- The code at which a ring meets channel `chan`, from its code at channel `was`: the search's, else one slot of 0.4 THz is 409.5 codes and
the free spectral range 3,685.5 (R303, R305). -/
def OeRing.codeFor (x : OeRing) (was chan : Nat) : Nat :=
  let c := (x.found[chan]?).getD 0xFFFF
  let v : Int := (2 * x.code : Nat) + 819 * ((chan : Int) - was)
  if c ≤ 4095 then c else ((if v < 0 then v + 7371 else if 8190 < v then v - 7371 else v) / 2).toNat

/-- An upstream port's receiver has identified the channel of its light (R302): the port follows it. Its line moves there, and its rings
move to that channel's codes. -/
def State.followChan (s : State) (p : PortId) (chan : Nat) : State :=
  let (e, k) := oePlace p
  let was := s.get (R.PORT_OPT_STAT_CHAN p)
  let line := (k :: busSpares e k).find? (fun l =>
    s.get (R.VD_OE_LINEl_STAT_CHAN e l) == was && s.lineState e l != 4 && s.lineState e l != 7)
  let s := (s.setOe e { s.oe e with ident := p.idx :: (s.oe e).ident }).put (R.PORT_OPT_STAT_CHAN p) chan
  let s := if chan = was then s else [k, 8 + k].foldl (fun s r =>
    s.setOring e r { s.oring e r with goal := some ((s.oring e r).codeFor was chan) }) s
  match line with
  | none => s
  | some l => if chan = was then s else (s.put (R.VD_OE_LINEl_STAT_CHAN e l) chan).lightLine e l chan (chanTone chan)

/-- Whether an upstream port has yet to identify its channel (R302). -/
def State.unidentified (s : State) (p : PortId) : Bool := (oePlace p).1 == 8 && !(s.oe 8).ident.contains p.idx

/-- One reading of a modulator's tone: the line's TONE_OK, and the second wrong tone in a row; an upstream port's drop ring takes the
channel it reads (R302). -/
def State.toneRead (s : State) (p : PortId) (drop : Bool) (khz : Nat) : State :=
  let e := (oePlace p).1
  let st := s.ostate p
  if st ≠ 2 ∧ st ≠ 4 ∧ st ≠ 5 then s else
  let r := if drop then 8 + s.get (R.PORT_OPT_STAT_DROP_RING p) else s.get (R.PORT_OPT_STAT_MOD_RING p)
  let want := chanTone (s.get (R.PORT_OPT_STAT_CHAN p))
  let line := s.get (R.PORT_OPT_STAT_LINE p)
  let chan := (khz - 200) / 20
  if drop ∧ s.unidentified p ∧ khz ≠ 0 ∧ chan < 8 ∧ chanTone chan = khz then s.followChan p chan
  else
    let s := if drop then s else
      let shown := match (s.oe e).swap with | some w => if w.port = p.idx then w.spare else line | none => line
      if shown < 10 then s.putB (R.VD_OE_LINEl_STAT_TONE_OK e shown) (khz == want) else s
    if khz = want ∨ khz = 0 then s.setOring e r { s.oring e r with wrong := 0 }
    else match if drop then none else (s.oe e).swap.filter (fun w => w.port == p.idx) with
      | some w =>
        if w.restore then s else
        -- The spare is on another line: it is made dark and FAILED, and the old line is to come back (R318).
        let s := ((s.lineGo e w.spare 7).darkLine e w.spare).put (R.VD_OE_LINEl_STAT_CHAN e w.spare) 15
        (s.setOe e { s.oe e with swap := some { w with restore := true } }).showSpares e
      | none =>
        let n := (s.oring e r).wrong + 1
        let s := s.setOring e r { s.oring e r with wrong := n }
        if 2 ≤ n then s.wrongLine p drop khz else s

/-- The TRAIN blocks a drop ring passes carry the channel in their lane identity (R302, R309, R310): an upstream port that has none yet
follows it; a ring of a port on another channel is on the wrong line, and the port does not train on. -/
def State.trainRx (s : State) (p : PortId) (q : TrainPeer) : State :=
  if p = .tlink ∨ s.get (R.PORT_STAT_STATE p) ≠ 2 then s.trainDone p q
  else if s.unidentified p then (s.followChan p q.lane.toNat).trainDone p q
  else if s.get (R.PORT_OPT_STAT_CHAN p) = q.lane.toNat then s.trainDone p q
  else s.wrongLine p true (chanTone q.lane.toNat)

/-- TRAIN_DONE (R60, R309, R310). -/
def execTrainDone (p : PortId) (peer : TrainPeer) (s : State) : Res := finish (s.trainRx p peer)

/-- TONE_CHECK (R310): the tones of rings 0 to 15 in kHz, 0 for none. -/
def execToneCheck (e : Fin 9) (tones : List (BitVec 16)) (s : State) : Res :=
  finish (
    let read (r : Nat) : Nat := ((tones[r]?).getD 0).toNat
    (oePorts e).foldl (fun s p =>
      let s := s.toneRead p false (read (s.get (R.PORT_OPT_STAT_MOD_RING p)))
      s.toneRead p true (read (8 + s.get (R.PORT_OPT_STAT_DROP_RING p)))) s)

/-- The downstream port that a child's UA names, by the side of port `n` (R23, R310). -/
def State.portNamed (s : State) (n ua : Nat) : Nat :=
  if s.vdRole = 0 then (if s.getB R.VD_TOPO_HOMING then n / 32 * 32 + uaPod ua else uaPod ua) else uaPort ua

/-- Whether a TICK's SENDER_UA names another port than the one it came in by (R310). -/
def State.strayUa (s : State) (p : PortId) (ua : Nat) : Bool :=
  match p with
  | .down n => ua != 0 && s.portNamed n ua != n.val
  | _ => false

/-- The tone of the line on which such a TICK came: that of the port it names, where this engine has it, else none is known (R311). -/
def State.strayTone (s : State) (p : PortId) (ua : Nat) : Nat :=
  match p with
  | .down n => let m := s.portNamed n ua; if m / 8 = n.val / 8 then chanTone (m % 8) else 0
  | _ => 0

/-- TICK_BLOCK_RX (R50, R53, R310). -/
def execTickBlockRx (p : PortId) (b : Block) (bins : BitVec 12) (s : State) : Res :=
  finish (
    let s := if s.inService p ∧ b.type = btTick ∧ s.strayUa p (tickOf b.content).senderUa.toNat then s.wrongLine p true (s.strayTone p (tickOf b.content).senderUa.toNat) else s
    s.tickRx p b.type b.content bins.toNat)

/-- A ring is back on its line (R311): its sweep has come to the code at which its own tone appears. -/
def State.lineBack (s : State) (p : PortId) (drop : Bool) (code : BitVec 12) : State :=
  let e := (oePlace p).1
  let r := if drop then 8 + s.get (R.PORT_OPT_STAT_DROP_RING p) else s.get (R.PORT_OPT_STAT_MOD_RING p)
  let s := (s.setOring e r { s.oring e r with code := code.toNat, goal := none, seek := false, wrong := 0 }).bumpSat (R.PORT_OPT_CNT_RELOCKS p)
  (s.showHeat e).portLock p

/-- WRONG_LINE_RECOVERED (R311): the ring found its own tone at a code and locks; its port returns to DETECT. -/
def execWrongLineRecovered (p : PortId) (drop : Bool) (code : BitVec 12) (s : State) : Res :=
  finish (
    if p = .tlink ∨ s.ostate p ≠ 3 then s else
    s.lineBack p drop code)

/-- DROP_RING_FREEZE_EXPIRY (R309): a drop ring that has been dark for 1 s searches again. -/
def execDropRingFreezeExpiry (p : PortId) (s : State) : Res :=
  finish (
    if p = .tlink ∨ (s.ostate p ≠ 2 ∧ s.ostate p ≠ 5) then s else
    match (s.oring (oePlace p).1 (8 + s.get (R.PORT_OPT_STAT_DROP_RING p))).darkAt with
    | none => s
    | some t => if t + secSub 1 ≤ s.now .verard then s.searchAgain p else s)

-- Ageing (R312).

/-- The place a line serves: none for a spare that serves none. -/
def State.lineplace (s : State) (e l : Nat) : Option Nat := (List.range (if e < 8 then 8 else 4)).find? (fun k => s.workLine e k == some l)

/-- The state that a line's power and bias give it (R312). -/
def State.lineJudge (s : State) (e l : Nat) (pwr : Int) : State :=
  let tgt := s.getS R.VD_OPT_CFG_P_TGT
  let bias := s.get (R.VD_OE_LINEl_PWR_BIAS e l)
  let max_ := s.get R.VD_OPT_CFG2_BIAS_MAX
  let below (f : Field) : Bool := decide (pwr ≤ tgt - 5 * (s.get f : Int))
  let forced := below R.VD_OPT_CFG2_FORCE_DROP
  let st := if (below R.VD_OPT_CFG_SWAP_DROP ∧ bias = max_) ∨ forced then 3
    else if s.get R.VD_OPT_CFG2_BIAS_WARN_PCT * max_ ≤ 100 * bias ∨ below R.VD_OPT_CFG_WARN_DROP then 2 else 1
  let was := s.lineState e l
  let s := s.setLine e l { s.line e l with forced := forced && st == 3, dueAt := if st = 3 ∧ was ≠ 3 then s.now .verard else (s.line e l).dueAt,
                                           waited := (s.line e l).waited && st == 3 }
  if st = was then s else
  let s := s.lineGo e l st
  if st = 2 then s.put (R.VD_OE_IRQ_AGEING e) 1
  else if st = 3 then
    let s := s.put (R.VD_OE_IRQ_SWAP_DUE e) 1
    match s.lineplace e l with | some k => s.warmSpare e k | none => s
  else s

/-- One sample of the fade (R322): power while the bias stands at BIAS_MAX, over 7 days. -/
def State.fade (s : State) (e l : Nat) (pwr : Int) : State :=
  let x := s.line e l
  let now := s.now .verard
  let week := secSub (7 * 86400)
  if s.get (R.VD_OE_LINEl_PWR_BIAS e l) ≠ s.get R.VD_OPT_CFG2_BIAS_MAX then
    ((s.setLine e l { x with hist := [] }).put (R.VD_OE_LINEl_FADE_RATE e l) 0).put (R.VD_OE_LINEl_FADE_DAYS e l) 0xFFFF
  else
    let young := x.hist.filter (fun h => decide (now < h.1 + week))
    let old := (x.hist.filter (fun h => decide (h.1 + week ≤ now))).head?
    let s := s.setLine e l { x with hist := (now, pwr) :: young ++ old.toList }
    match old with
    | none => s.put (R.VD_OE_LINEl_FADE_DAYS e l) 0xFFFF
    | some h =>
      let rate : Int := (pwr - h.2) * 10 * (secSub 86400 : Nat) / (now - h.1 : Nat)
      let left : Int := (pwr - (s.getS R.VD_OPT_CFG_P_TGT - 5 * (s.get R.VD_OPT_CFG_SWAP_DROP : Int))) * 10
      let s := s.putSSat (R.VD_OE_LINEl_FADE_RATE e l) rate
      if rate < 0 then s.put (R.VD_OE_LINEl_FADE_DAYS e l) (min 0xFFFE (left / (-rate)).toNat) else s.put (R.VD_OE_LINEl_FADE_DAYS e l) 0xFFFF

/-- Show the hours each of an engine's lines has been lit (R322). -/
def State.showLit (s : State) (e : Nat) : State :=
  (List.range 10).foldl (fun s l =>
    let x := s.line e l
    let on := if x.lit then s.now .verard - x.litSince else 0
    s.put (R.VD_OE_LINEl_LIT_LIT_H e l) (min 0xFFFFFF ((x.litTotal + on) / secSub 3600))) s

/-- One line's bias is adjusted by its tap power (R312). -/
def State.lineAdjust (s : State) (e l : Nat) (w : BitVec 16) : State :=
  let x := s.line e l
  let s := if x.lit then s.put (R.VD_OE_LINEl_LIT_LIT_H e l) (min 0xFFFFFF ((x.litTotal + (s.now .verard - x.litSince)) / secSub 3600)) else s
  if !x.lit then s else
  let pwr := w.toInt
  let tgt := s.getS R.VD_OPT_CFG_P_TGT
  let bias := s.get (R.VD_OE_LINEl_PWR_BIAS e l)
  let new := if pwr < tgt - 20 ∧ bias < s.get R.VD_OPT_CFG2_BIAS_MAX then bias + 1 else if tgt + 20 < pwr then bias - 1 else bias
  let s := (s.put (R.VD_OE_LINEl_PWR_PWR e l) w.toNat).put (R.VD_OE_LINEl_PWR_BIAS e l) new
  let s := if new = bias then s else s.lsSend e l 2 new
  let st := s.lineState e l
  if 1 ≤ st ∧ st ≤ 3 then (s.lineJudge e l pwr).fade e l pwr else s

/-- LINE_BIAS_ADJUST (R312), every 10 s: the tap powers of lines 0 to 9. -/
def execLineBiasAdjust (e : Fin 9) (pwr : List (BitVec 16)) (s : State) : Res :=
  finish (
    let now := s.now .verard
    if !periodOver (s.oe e).biasAt (secSub 10) now then s else
    (pwr.take 10).zipIdx.foldl (fun s x => s.lineAdjust e x.2 x.1) (s.setOe e { s.oe e with biasAt := some now }))

-- Swaps at work (R315 to R318).

/-- SPARE_WARM (R315): 20 ms at the park slot. -/
def execSpareWarm (e : Fin 9) (l : Fin 10) (s : State) : Res :=
  finish (
    let x := s.line e l
    if s.lineState e l = 5 ∧ x.lit ∧ x.litSince + msSub 20 ≤ s.now .verard then
      (List.range (if e.val < 8 then 8 else 4)).foldl (fun s k => if (busSpares e k).contains l.val then s.swapFailed e k else s) (s.lineGo e l 6)
    else s)

/-- Whether a line's swap may take place at this end of a TIME frame (R315). -/
def State.swapNow (s : State) (e l port : Nat) : Bool :=
  let x := s.line e l
  let hold := s.getB (R.VD_OE_CTRL_HOLD_SWAPS e)
  let due := s.lineState e l == 3
  let window := s.inWindow port (s.now .verard) (nsSub 220)
  (due || x.asked) && (x.forced || (x.asked && (!hold || window || x.waited)) || (!hold && (window || x.waited)))

/-- The port at a place of an engine is UP again where it waited for a swap. -/
def State.restorePort (s : State) (e place : Nat) : State :=
  match placePort e place with
  | some p => if s.ostate p = 4 then s.put (R.PORT_OPT_STAT_OSTATE p) 2 else s
  | none => s

/-- The old line comes back after a spare on the wrong line (R318), and the next spare is warmed. -/
def State.swapRestore (s : State) (e place : Nat) (w : OeSwap) : State :=
  let c := s.placeChan e place
  let s := (s.swapSend e w.spare w.old c)
  let s := if (s.line e w.old).lit then s else s.setLine e w.old { s.line e w.old with lit := true, litSince := s.now .verard }
  let s := (s.setOe e { s.oe e with swap := none, lastSwap := some (s.now .verard),
                                    gap := (placePort e place).map (fun p => (p.idx, s.now .verard)) }).put (R.VD_OE_STAT_SWAP_ACTIVE e) 0
  let s := (s.restorePort e place).warmSpare e place
  if (s.spareIn e place 5).isNone ∧ (s.spareIn e place 6).isNone then
    (s.setLine e w.old { s.line e w.old with asked := false }).complete .verard 0x82 (e * 16 + w.old) 0x31 [0xFF] true
  else s

/-- SPARE_SWAP (R315, R316): a TIME frame has ended on a port. -/
def execSpareSwap (p : PortId) (s : State) : Res :=
  finish (
    if p = .tlink then s else
    let (e, k) := oePlace p
    match (s.oe e).swap with
    | some w => if w.port = p.idx ∧ w.restore then s.swapRestore e k w else s
    | none =>
      match s.workLine e k, s.spareIn e k 6 with
      | some l, some sp => if s.swapFree e ∧ s.ostate p = 2 ∧ s.swapNow e l p.idx then s.swapGo e k l sp else s
      | _, _ => s)

/-- Whether a place waits for a spare (R315, R318): its line is due or asked to be swapped, or has failed. -/
def State.wantsSpare (s : State) (e k : Nat) : Bool :=
  match s.workLine e k with
  | some l => s.lineState e l == 3 || (s.line e l).asked
  | none => (s.failedLine e k).isSome

/-- The places of an engine that wait for a spare get one warmed (R315, R318). -/
def State.warmDue (s : State) (e : Nat) : State :=
  (s.places e).foldl (fun s k => s.doIf (s.wantsSpare e k) (fun s => s.warmSpare e k)) s

/-- A swap is confirmed (R316): the spare is the line, the old line is spent, and OPT_SWAP completes. -/
def State.swapEnd (s : State) (e : Fin 9) (w : OeSwap) : State :=
  let s := (s.lineGo e w.spare 1).lineGo e w.old 4
  let s := (s.put (R.VD_OE_LINEl_STAT_CHAN e w.old) 15).put (R.VD_OE_LINEl_STAT_TONE_OK e w.old) 0
  let x := s.line e w.old
  let s := s.setLine e w.old
    { lit := false, litSince := x.litSince, litTotal := if x.lit then x.litTotal + (w.at_ - x.litSince) else x.litTotal }
  let s := (s.setOe e { s.oe e with swap := none, lastSwap := some (s.now .verard) }).put (R.VD_OE_STAT_SWAP_ACTIVE e) 0
  let s := ((s.put (R.VD_OE_IRQ_SWAPPED e) 1).bump (R.VD_OE_CNT_SWAPS e)).showSpares e
  let s := match (oePorts e).find? (fun p => p.idx == w.port) with
    | some p => (s.put (R.PORT_OPT_STAT_LINE p) w.spare).doIf (s.ostate p == 4) (fun s => s.portLock p)
    | none => s
  ((s.complete .verard 0x82 (e.val * 16 + w.old) 0 [BitVec.ofNat 8 w.spare] true).spareSpent e w.spare).warmDue e

/-- SWAP_CONFIRM (R316): 1 ms after the swap. -/
def execSwapConfirm (e : Fin 9) (s : State) : Res :=
  finish (
    match (s.oe e).swap with
    | none => s
    | some w =>
      if w.restore ∨ s.now .verard < w.at_ + msSub 1 then s else
      s.swapEnd e w)

/-- SWAP_WAIT_TIMEOUT (R315): SWAP_WAIT_S after the line became due. -/
def execSwapWaitTimeout (e : Fin 9) (l : Fin 10) (s : State) : Res :=
  finish (
    let x := s.line e l
    if (s.lineState e l = 3 ∨ x.asked) ∧ x.dueAt + secSub (s.get R.VD_OPT_CFG3_SWAP_WAIT_S) ≤ s.now .verard then
      s.setLine e l { x with waited := true }
    else s)

/-- A place that has lost its working line, or that waits for a spare that has failed, gets the next one (R315, R318): its port is dark
until then, NO_LINE where no spare is left; an OPT_SWAP that waited for the last one ends. -/
def State.nextSpare (s : State) (e k : Nat) : State :=
  let warm := (s.spareIn e k 6).isSome
  let gone := !warm && (s.spareIn e k 5).isNone
  let s := s.warmSpare e k
  match s.workLine e k with
  | some l =>
    s.doIf (gone && (s.line e l).asked) (fun s =>
      (s.setLine e l { s.line e l with asked := false }).complete .verard 0x82 (e * 16 + l) 0x31 [0xFF] true)
  | none =>
    let s := if warm then s else match placePort e k with
      | some p =>
        let s := (s.put (R.PORT_OPT_STAT_OSTATE p) (if gone then 6 else 0)).portDetect p
        if gone then (s.put (R.PORT_OPT_STAT_LINE p) 15).oeJudge e else s
      | none => s.setPstate e k (if gone then 6 else 0)
    s.swapFailed e k

/-- A line fails (R312, R315, R318): a spare takes its place where one is left; where it was a spare, what waits for it gets the next. -/
def State.lineFail (s : State) (e : Fin 9) (l : Fin 10) : State :=
  let place := s.lineplace e l
  let mid := match (s.oe e).swap with | some w => w.spare == l.val | none => false
  -- A spare that fails in mid-swap gives the port back to the old line, as one on the wrong line does (R318).
  let s := match (s.oe e).swap with
    | some w => if w.spare = l.val then s.setOe e { s.oe e with swap := some { w with restore := true } } else s
    | none => s
  let s := ((s.lineGo e l 7).put (R.VD_OE_IRQ_LASER_FAULT e) 1).put (R.VD_OE_LINEl_STAT_TONE_OK e l) 0
  let s := s.showSpares e
  match place with
  | some k => s.nextSpare e k
  | none =>
    let s := s.spareSpent e l
    if mid then s else
    ((s.places e).filter (fun k => (busSpares e k).contains l.val && s.wantsSpare e k)).foldl (fun s k => s.nextSpare e k) s

/-- LINE_POWER_FALL (R312, R318): a fall of over 6 dB in 1 ms. -/
def execLinePowerFall (e : Fin 9) (l : Fin 10) (s : State) : Res :=
  finish (
    let st := s.lineState e l
    if st = 0 ∨ st = 4 ∨ st = 7 then s else
    s.lineFail e l)

/-- LS_STATUS_RX (R355): a status word of the laser source, discarded where its CRC or OP is wrong, and the level of LS_READY; an enabled
engine that is OFF starts once the source is ready (R307). -/
def execLsStatusRx (e : Fin 9) (w : Word) (ready : Bool) (s : State) : Res :=
  finish (
    let v := w.toNat
    let l := v % 16
    let s := { s with vd := { s.vd with lsReady := ready } }
    let s := if bits v 24 8 = crc8 (v % 2 ^ 24) ∧ bits v 4 4 = 8 ∧ l < 10 then s.put (R.VD_OE_LINEl_PWR_PWR e l) (bits v 8 16) else s
    (List.range 9).foldl (fun s e => s.oeStart e) s)

/-- LIGHT_RETURN (R317): the receiver held block lock through the gap, so nothing changes. -/
def execLightReturn (_p : PortId) (s : State) : Res := .next s

end Sys2Proof.Machine
end

