-- ==== Sys2Proof/Machine/LinkKey.lean ====
section
/-! DEFINITION. Link keys (R400): agreement, re-keying, expiry. -/

namespace Sys2Proof.Machine

open Sys2Proof

/-- The key and the two 32-bit values of R400: z, a label, the nonces of the first and the second end, and what follows. -/
def deriveKey (z : List Byte) (label : Byte) (n1 n2 rest : List Byte) : List Byte × BitVec 32 × BitVec 32 :=
  let d := Config.sha384 (z ++ [label] ++ n1 ++ n2 ++ rest)
  (padTo 32 d, BitVec.ofNat 32 (leAt d 32 4), BitVec.ofNat 32 (leAt d 36 4))

/-- Whether two certificates are authentic under ROOT_KEY (R398): issuer first checked, then the device. -/
def certsOk (certs : List Byte) : Bool :=
  let dev := certs.take 256
  let iss := (certs.drop 256).take 256
  Config.ecdsaVerify Config.rootKey (iss.take 160) (iss.drop 160) &&
  Config.ecdsaVerify ((iss.drop 12).take 97) (dev.take 160) (dev.drop 160) &&
  dev.headD 0 == 1 && iss.headD 0 == 1 && leAt dev 1 1 == 0 && leAt iss 1 1 == 1 && (dev.drop 117).take 8 == (iss.drop 4).take 8

/-- Why an agreement fails (R414): 0 certificate, 1 owner, 2 signature; none where it succeeds. Parent first under the signature. -/
def keyFault (own peer sig : List Byte) (child : Bool) : Option Nat :=
  if !certsOk (own.take 512) ∨ !certsOk (peer.take 512) ∨ (peer.drop 512).length < 226 then some 0
  else if own.drop 641 ≠ (peer.drop 641).take 97 then some 1
  else if Config.ecdsaVerify ((peer.drop 12).take 97) (if child then peer.take 738 ++ own else own ++ peer.take 738) sig then none
  else some 2

/-- Whether the life-cycle states let two ends agree a key (R404): in MAKER with MAKER peers only. No field of R400's rounds names the
peer's state; it is the free value `Config.makerPeer` of the peer's certificates (notes/assumptions/160). -/
def State.keyAllowed (s : State) (d : Dev) (certs : List Byte) : Bool :=
  let lc := (s.sec d).lc
  decide (lc ≤ 2) && (lc != 0 || Config.makerPeer certs)

/-- An agreement fails (R60, R400): from KEY to HELD; a re-key leaves the old key in use. -/
def State.keyFailed (s : State) (p : PortId) (reason : Nat) : State :=
  let s := s.logKind p.dev 0x0D04 3 [BitVec.ofNat 8 p.idx, BitVec.ofNat 8 reason]
  let s := s.setPort p { s.port p with keyTx := [], keyRx := [] }
  if s.inService p then s.setPort p { s.port p with rekeyFail := some (s.now p.dev) } else s.portHold p 3

/-- Why a key agreement whose two rounds are in fails, or nothing (R400). -/
def State.keyVerdict (s : State) (p : PortId) : Option Nat :=
  let t := s.port p
  if s.keyAllowed p.dev (t.keyRx.take 512) then keyFault (t.keyTx.take 738) (t.keyRx.take 738) ((t.keyRx.drop 738).take 96) (s.isChild p) else some 0

/-- A link key is taken (R58, R400): at once in KEY, else by its switch. -/
def State.keyTake (s : State) (p : PortId) : State :=
  let t := s.port p
  let child := s.isChild p
  let peer := t.keyRx.take 738
  let tx := t.keyTx.take 738
  let z := Config.ecdhShared t.keyDraw ((peer.drop 512).take 97)
  let own := (tx.drop 609).take 32
  let his := (peer.drop 609).take 32
  let (k, parent, kid) := if child then deriveKey z 0x4C his own [] else deriveKey z 0x4C own his []
  let (mine, theirs) := if child then (kid, parent) else (parent, kid)
  let now := s.now p.dev
  let t := { t with keyTx := [], keyRx := [], keyAt := now, rekeyFail := none }
  if s.get (R.PORT_STAT_STATE p) = 3 then
    (s.setPort p { t with linkKey := k, noncePrefix := mine, rxKey := k, rxPrefix := theirs, nextKey := none, txGroupNo := 0 }).portGo p 4
  else
    let sw := BitVec.ofNat 16 (if child then leAt (s.port p).keyRx 834 2 else leAt (s.port p).keyTx 738 2)
    s.setPort p { t with nextKey := some (k, mine, theirs, sw, false, false) }

/-- LINK_KEY_AGREED (R60, R400): both rounds have arrived in CAL frames; round 2 is the peer's signature and, in a re-key, SWITCH_SEQ. -/
def execLinkKeyAgreed (p : PortId) (s : State) : Res :=
  finish (
    let t := s.port p
    let st := s.get (R.PORT_STAT_STATE p)
    if t.keyTx = [] ∨ (st ≠ 3 ∧ st ≠ 6) then s
    else
      match s.keyVerdict p with
      | some why => s.keyFailed p why
      | none => s.keyTake p)

/-- LINK_KEY_FAIL (R60, R400): the agreement fails, or has not ended within 50 ms. -/
def execLinkKeyFail (p : PortId) (reason : Fin 3) (s : State) : Res :=
  finish (if s.get (R.PORT_STAT_STATE p) = 3 ∨ (s.inService p ∧ (s.port p).keyTx ≠ []) then s.keyFailed p reason else s)

/-- LINK_REKEY (R400): 24 h after the last agreement, or 60 s after a re-key that failed, the parent begins a new one. -/
def execLinkRekey (p : PortId) (s : State) : Res :=
  finish (
    let t := s.port p
    let now := s.now p.dev
    let due := decide (t.keyAt + secSub 86400 ≤ now) && (match t.rekeyFail with | none => true | some f => decide (f + secSub 60 ≤ now))
    if s.inService p ∧ !s.isChild p ∧ t.keyTx = [] ∧ due then s.keySend p else s)

/-- LINK_KEY_EXPIRY (R400): a key older than 48 h. -/
def execLinkKeyExpiry (p : PortId) (s : State) : Res :=
  finish (
    let t := s.port p
    if s.inService p ∧ t.keyAt + secSub 172800 < s.now p.dev then
      (s.logKind p.dev 0x0D04 3 [BitVec.ofNat 8 p.idx, 3]).portHold p 3
    else s)

end Sys2Proof.Machine
end

