-- ==== Sys2Proof/Machine/Profile.lean ====
section
/-! DEFINITION. Profile areas and records (R408, R422 to R425): their checks, their values, the fused default. -/

namespace Sys2Proof.Machine

open Sys2Proof

/-- A field of an image word in a record: its first byte, the register field, and the range its defining rule gives. -/
structure Img where
  byte : Nat
  f : Field
  lo : Int
  hi : Int
  signed : Bool := false
  deriving DecidableEq, Repr

/-- The value an image gives its field. -/
def Img.value (x : Img) (rec : List Byte) : Nat := bits (leAt rec x.byte 4) x.f.lsb x.f.width

/-- Whether the value lies in its range. -/
def Img.ok (x : Img) (rec : List Byte) : Bool :=
  let v : Int := if x.signed then toSigned x.f.width (x.value rec) else (x.value rec : Nat)
  decide (x.lo ≤ v) && decide (v ≤ x.hi)

/-- The image words of a Lotik record (R423; ranges of R237, R256, R345). -/
def lkImages : List Img :=
  [⟨24, R.LK_CS_CFG_BASE_OP, 0, 15, false⟩, ⟨24, R.LK_CS_CFG_VSETTLE_US, 1, 18, false⟩, ⟨24, R.LK_CS_CFG_DROOP_MV, 10, 100, false⟩,
   ⟨24, R.LK_CS_CFG_HYST_MV, 0, 50, false⟩, ⟨24, R.LK_CS_CFG_MARGIN_WARN, 1, 15, false⟩,
   ⟨28, R.LK_CS_CFG2_STR_WARN_PPM, 1, 65535, false⟩, ⟨28, R.LK_CS_CFG2_MARGIN_ERR_LIMIT, 1, 65535, false⟩,
   ⟨32, R.LK_PG_CFG_HARMONISE, 0, 1, false⟩, ⟨32, R.LK_PG_CFG_BOOST_PCT, 100, 135, false⟩, ⟨32, R.LK_PG_CFG_BOOST_MS, 0, 40, false⟩,
   ⟨32, R.LK_PG_CFG_SLOPE_QW, 1, 256, false⟩, ⟨32, R.LK_PG_CFG_OPDOWN_DENSITY, 8, 60, false⟩,
   ⟨36, R.LK_PG_CFG2_OPDOWN_MS, 1, 255, false⟩, ⟨36, R.LK_PG_CFG2_OPUP_MS, 10, 1023, false⟩,
   ⟨36, R.LK_PG_CFG2_TWARN_C, 60, (R.LK_PG_TEMP_TCRIT_C.reset : Int) - 5, false⟩,
   ⟨40, R.LK_PG_DEFER_CFG_DEFER_MIN, 1, 65535, false⟩, ⟨40, R.LK_PG_DEFER_CFG_DEFER_MAX_US, 1, 65535, false⟩,
   ⟨44, R.LK_PG_CAP_CAP_1S, 0, 65535, false⟩, ⟨44, R.LK_PG_CAP_CAP_10S, 0, 65535, false⟩] ++
  ((List.range 16).map (fun k => ⟨48 + 4 * k, R.LK_PG_SHAREk_SHARES k, 0, 2 ^ 32 - 1, false⟩)) ++
  [⟨112, R.LK_HM_CFG_SOUND_PERIOD_S, 1, 1023, false⟩, ⟨112, R.LK_HM_CFG_KAT_AUTO, 0, 1, false⟩, ⟨112, R.LK_HM_CFG_MIN_SEV, 0, 5, false⟩,
   ⟨112, R.LK_HM_CFG_FWD_SEV, 0, 5, false⟩, ⟨112, R.LK_HM_CFG_FWD_RATE, 0, 32767, false⟩,
   ⟨116, R.LK_HM_CFG2_ACT_FULL_W, 0, 65535, false⟩, ⟨116, R.LK_HM_CFG2_KAT_LIMIT_US, 0, 4095, false⟩]

/-- The image words of one PTP port (R100, R104). -/
def ptpImages (i : Nat) : List Img :=
  let b := 108 + 4 * i
  [⟨b, R.PTP_CTRL_ENABLE i, 0, 1, false⟩, ⟨b, R.PTP_CTRL_TRANSPORT i, 0, 2, false⟩, ⟨b, R.PTP_CTRL_TWO_STEP i, 0, 1, false⟩,
   ⟨b, R.PTP_CTRL_DELAY_MECH i, 0, 1, false⟩, ⟨b, R.PTP_CTRL_PORT_ROLE i, 0, 1, false⟩, ⟨b, R.PTP_CTRL_DOMAIN i, 0, 127, false⟩,
   ⟨b, R.PTP_CTRL_LOG_SYNC i, -7, 0, true⟩, ⟨b, R.PTP_CTRL_LOG_ANNOUNCE i, -3, 3, true⟩, ⟨b, R.PTP_CTRL_LOG_DELAYREQ i, -7, 0, true⟩,
   ⟨b, R.PTP_CTRL_UNICAST i, 0, 1, false⟩]

/-- The image words of a Verard record (R424; ranges of R80, R83, R88, R94, R312, R346). -/
def vdImages : List Img :=
  [⟨4, R.VD_REF_CFG_REVERTIVE, 0, 1, false⟩, ⟨4, R.VD_REF_CFG_PAIR, 0, 1, false⟩, ⟨4, R.VD_REF_CFG_ASSIST, 0, 1, false⟩,
   ⟨4, R.VD_REF_CFG_WTR_S, 0, 3600, false⟩, ⟨4, R.VD_REF_CFG_QUAL_S, 1, 600, false⟩,
   ⟨8, R.VD_HOLD_CFG_SPEC_NS, 10, 10000, false⟩, ⟨8, R.VD_HOLD_CFG_AGEING, 0, 2 ^ 18 - 1, false⟩, ⟨12, R.VD_JUMP_JUMP_NS, 10, 1000, false⟩,
   ⟨52, R.VD_OUT_CTRL_PPS_EN, 0, 1, false⟩, ⟨52, R.VD_OUT_CTRL_F10M_EN, 0, 1, false⟩,
   ⟨68, R.VD_OPT_CFG_P_TGT, 400, 1200, true⟩, ⟨68, R.VD_OPT_CFG_WARN_DROP, 1, 255, false⟩, ⟨68, R.VD_OPT_CFG_SWAP_DROP, 1, 255, false⟩,
   ⟨72, R.VD_OPT_CFG2_FORCE_DROP, 1, 255, false⟩, ⟨72, R.VD_OPT_CFG2_BIAS_WARN_PCT, 50, 100, false⟩, ⟨72, R.VD_OPT_CFG2_BIAS_MAX, 1, 65535, false⟩,
   ⟨76, R.VD_OPT_CFG3_SWAP_WAIT_S, 0, 65535, false⟩, ⟨76, R.VD_OPT_CFG3_HEAT_SLEW, 1, 64, false⟩,
   ⟨80, R.VD_HM_CFG_PROBATION, 0, 255, false⟩, ⟨80, R.VD_HM_CFG_EXPEL, 0, 255, false⟩, ⟨80, R.VD_HM_CFG_REJOIN, 0, 255, false⟩,
   ⟨80, R.VD_HM_CFG_EXPEL_RATE, 0, 15, false⟩, ⟨80, R.VD_HM_CFG_MIN_SEV, 0, 5, false⟩,
   ⟨84, R.VD_HM_CFG2_RECOVER_MIN, 0, 1023, false⟩, ⟨84, R.VD_HM_CFG2_PROB_H, 0, 1023, false⟩, ⟨84, R.VD_HM_CFG2_COMMON_DIES, 0, 4095, false⟩] ++
  ptpImages 0 ++ ptpImages 1

/-- Every image field in its range, and no other bit of an image word set. -/
def imagesOk (xs : List Img) (rec : List Byte) : Bool :=
  xs.all (fun x => x.ok rec) &&
  ((xs.map (·.byte)).eraseDups).all (fun b =>
    ((xs.filter (fun x => x.byte == b)).map (fun x => x.value rec * 2 ^ x.f.lsb)).sum == leAt rec b 4)

/-- Whether bytes are zero. -/
def zeroAt (rec : List Byte) (lo n : Nat) : Bool := leAt rec lo n == 0

/-- Whether a value lies in a range. -/
def within (lo v hi : Nat) : Bool := decide (lo ≤ v) && decide (v ≤ hi)

/-- Whether a Lotik record passes its check (R423). -/
def lkRecordOk (r : List Byte) : Bool :=
  let topo := leAt r 0 4
  let size := bits topo 3 5
  r.length == 256 && leAt r 252 4 == crc32 (r.take 252) && zeroAt r 120 132 &&
  decide (topo < 512) && bits topo 0 2 != 3 && decide (1 ≤ size) && !(bits topo 0 2 == 0 && topo.testBit 8) &&
  within 50 (leAt r 4 4) 10000000 && within 20 (leAt r 8 2) 65535 && within 100 (leAt r 10 2) 65535 &&
  within 10 (bits (leAt r 12 4) 0 14) 10000 && within 60 (leAt r 20 4) 86400 && imagesOk lkImages r &&
  ((r.drop 48).take 64).all (fun b => b != 0) &&
  -- A cap is none, or 1 W upward in 1/8 W (R256).
  (leAt r 44 2 == 0 || decide (8 ≤ leAt r 44 2)) && (leAt r 46 2 == 0 || decide (8 ≤ leAt r 46 2)) &&
  (leAt r 44 2 == 0 || decide (leAt r 46 2 ≤ leAt r 44 2))

/-- Whether a Verard record passes its check (R424). -/
def vdRecordOk (r : List Byte) : Bool :=
  let topo := leAt r 0 4
  let drop := leAt r 70 1
  r.length == 1024 && leAt r 1020 4 == crc32 (r.take 1020) && zeroAt r 216 804 &&
  decide (topo < 2048) && bits topo 0 2 != 3 && !(bits topo 0 2 == 0 && bits topo 4 6 != 0) &&
  ((r.drop 16).take 4).all (fun b => decide (b.toNat < 16)) && zeroAt r 18 1 &&
  within 10 (leAt r 20 2) 500 && within 1 (leAt r 22 2) 100 && within 1 (leAt r 24 2) 1000 && zeroAt r 27 1 &&
  within 0 (leAt r 40 2) 1800 && zeroAt r 42 2 && decide (leAt r 44 4 < leAt r 48 4) &&
  decide (leAt r 64 1 < 4) && decide (leAt r 65 2 < 512) && zeroAt r 67 1 &&
  decide (drop < leAt r 71 1) && decide (leAt r 71 1 < leAt r 72 1) && zeroAt r 90 2 &&
  within 60 (leAt r 92 4) 86400 && decide (leAt r 96 1 < 2) && decide (leAt r 97 1 < 2) && zeroAt r 98 2 &&
  zeroAt r 122 2 && zeroAt r 160 4 && zeroAt r 170 2 && zeroAt r 208 4 && within 50 (leAt r 212 4) 10000000 && imagesOk vdImages r

/-- The length of a part's record, and its area's magic (R422). -/
def recLen : Dev → Nat
  | .lotik => 256
  | .verard => 1024
def areaMagic : Dev → Nat
  | .lotik => 0x4C4B5052
  | .verard => 0x56445052

/-- A record of an area. -/
def areaRecord (d : Dev) (area : List Byte) (p : Nat) : List Byte := (area.drop (64 + p * recLen d)).take (recLen d)

/-- Whether a record passes. -/
def recordOk : Dev → List Byte → Bool
  | .lotik, r => lkRecordOk r
  | .verard, r => vdRecordOk r

/-- Which test an area fails (R408, R422, R425): 1 MAGIC or VERSION, 2 the tag, 3 the selected record; 0 where it passes. -/
def areaFault (d : Dev) (profKey area : List Byte) (p : Nat) : Nat :=
  if leAt area 0 4 ≠ areaMagic d ∨ leAt area 4 1 ≠ 1 then 1
  else if profKey ≠ [] ∧
      padTo 16 (Config.gcmTag profKey ((area.drop 36).take 12) (area.take 36 ++ (area.drop 64).take (4 * recLen d)) []) ≠ (area.drop 48).take 16 then 2
  else if !recordOk d (areaRecord d area p) then 3
  else 0

/-- Put the image fields of a record into their registers. -/
def State.putImages (s : State) (xs : List Img) (rec : List Byte) : State := xs.foldl (fun s x => s.put x.f (x.value rec)) s

/-- Apply a Lotik record (R15, R362, R423). HEAD sources the ring's clock (R63). -/
def State.applyLk (s : State) (r : List Byte) : State :=
  let topo := leAt r 0 4
  let role := bits topo 0 2
  let hold := leAt r 12 4
  let s := s.putImages lkImages r
  let s := ((s.put R.LK_TOPO_ROLE role).put (R.TIME_STAT_TIME_MODE .lotik) (bits topo 2 1)).put R.LK_RING_STAT_RING_SIZE (bits topo 3 5)
  let s := s.put R.LK_SYNC_LIMITS_PEND_LIMIT_US (leAt r 10 2)
  let s := { s with lk := { s.lk with prof :=
    { startMarginUs := leAt r 4 4, markGuard := leAt r 8 2, holdSpecNs := bits hold 0 14, loAgeing := bits hold 14 18,
      fCold := leAt r 16 4, sessionIdleS := leAt r 20 4 } } }
  let s := s.setRing { s.lk.ring with sources := role == 1 }
  if topo.testBit 8 then s.portEnable .tlink true else s

/-- Apply a Verard record (R14, R22, R424); a ROOT or COMBINED forms its UA from it. -/
def State.applyVd (s : State) (r : List Byte) : State :=
  let topo := leAt r 0 4
  let role := bits topo 0 2
  let s := s.putImages vdImages r
  let s := ((s.put R.VD_TOPO_ROLE role).put R.VD_TOPO_SIDE (bits topo 2 1)).put R.VD_TOPO_HOMING (bits topo 3 1)
  let s := (s.put (R.TIME_STAT_TIME_MODE .verard) (bits topo 10 1)).put R.VD_HM_SPARES_FLOOR (leAt r 88 2)
  let s := if role = 1 then (s.put (R.PTP_CTRL_ENABLE 0) 0).put (R.PTP_CTRL_ENABLE 1) 0 else s
  let s := [0, 1, 3].foldl (fun s i => s.put (R.VD_REFi_CFG_PRIO i) (leAt r (16 + i) 1)) s
  let s := (List.range 64).foldl (fun s n => s.putB (R.PORT_CTRL_ENABLE (.down (Fin.ofNat 64 n))) ((leAt r 56 8).testBit n)) s
  let s := (s.putB (R.PORT_CTRL_ENABLE .upA) ((leAt r 64 1).testBit 0)).putB (R.PORT_CTRL_ENABLE .upB) ((leAt r 64 1).testBit 1)
  let s := (List.range 9).foldl (fun s e => s.putB (R.VD_OE_CTRL_ENABLE e) ((leAt r 65 2).testBit e)) s
  let s := { s with vd := { s.vd with prof :=
    { podNumber := bits topo 4 6, bwPtpMhz := leAt r 20 2, bwPpsMhz := leAt r 22 2, bearingSlew := leAt r 24 2, classMax := leAt r 26 1,
      fCold := leAt r 28 4, assistF := leAt r 32 4, ppsDelayPs := toSigned 32 (leAt r 36 4), warmSettle := leAt r 40 2,
      freqAccept := leAt r 44 4, freqReject := leAt r 48 4, sessionIdleS := leAt r 92 4, ptpPhy := [leAt r 96 1, leAt r 97 1],
      ptpAsymPs := [toSigned 32 (leAt r 100 4), toSigned 32 (leAt r 104 4)], ptpAddr := (r.drop 116).take 96, startMarginUs := leAt r 212 4 } } }
  if role = 1 then s else s.formVdUa (bits topo 4 6)

/-- An image word of the fused default (R423, R424): each field at its reset value. -/
def imgWord (xs : List Img) (b : Nat) : Nat := ((xs.filter (fun x => x.byte == b)).map (fun x => x.f.reset % 2 ^ x.f.width * 2 ^ x.f.lsb)).sum

/-- The fused default record of a Verard (R405, R424): POD, side A, STRAIGHT, EPOCH, every port and engine enabled, both PTP ports
disabled, every other field at its default. -/
def defaultRecord : List Byte :=
  let img (b : Nat) : List Byte := leBytes 4 (imgWord vdImages b)
  let p : VdProf := {}
  let body := leBytes 4 1 ++ img 4 ++ img 8 ++ img 12 ++
    [BitVec.ofNat 8 (R.VD_REFi_CFG_PRIO 0).reset, BitVec.ofNat 8 (R.VD_REFi_CFG_PRIO 1).reset, 0, BitVec.ofNat 8 (R.VD_REFi_CFG_PRIO 3).reset] ++
    leBytes 2 p.bwPtpMhz ++ leBytes 2 p.bwPpsMhz ++ leBytes 2 p.bearingSlew ++ leBytes 1 p.classMax ++ [0] ++ leBytes 4 p.fCold ++
    leBytes 4 p.assistF ++ leBytes 4 (ofSigned 32 p.ppsDelayPs) ++ leBytes 2 p.warmSettle ++ [0, 0] ++ leBytes 4 p.freqAccept ++
    leBytes 4 p.freqReject ++ img 52 ++ leBytes 8 (2 ^ 64 - 1) ++ [3] ++ leBytes 2 511 ++ [0] ++ img 68 ++ img 72 ++ img 76 ++ img 80 ++ img 84 ++
    leBytes 2 R.VD_HM_SPARES_FLOOR.reset ++ [0, 0] ++ leBytes 4 p.sessionIdleS ++ [0, 0, 0, 0] ++ leBytes 8 0 ++ img 108 ++ img 112 ++
    List.replicate 96 0 ++ leBytes 4 p.startMarginUs
  let body := padTo 1020 body
  body ++ leBytes 4 (crc32 body)

/-- A profile area of four default records, with a copy number (R405, R422). -/
def defaultArea (seq : Nat) : List Byte :=
  padTo 64 (leBytes 4 (areaMagic .verard) ++ [1, 0, 0, 0] ++ leBytes 4 seq) ++ (List.replicate 4 defaultRecord).flatten

end Sys2Proof.Machine
end

