-- ==== Sys2Proof/Machine/Sec.lean ====
section
/-! DEFINITION. Life-cycle access, key permissions, wipes, firmware banks and the boot check (R396 to R416). -/

namespace Sys2Proof.Machine

open Sys2Proof

/-- Replace a part's security state. -/
def State.setSec (s : State) (d : Dev) (x : Sec) : State := s.setPart d { s.part d with sec := x }

/-- What a part keeps of its security work until its restart. -/
def State.secRun (s : State) (d : Dev) : SecRun := (s.part d).run

/-- Replace it. -/
def State.setSecRun (s : State) (d : Dev) (r : SecRun) : State := s.setPart d { s.part d with run := r }

-- Life cycle (R403 to R407).

/-- Bits 0 to 6: slots 1 to 7 bound (R415). -/
def Sec.keys (x : Sec) : Nat := ((List.range 7).map (fun i => b2n ((x.slot (i + 1)).2 != []) * 2 ^ i)).sum

/-- Show a part's life cycle and keys (R415). -/
def State.showSec (s : State) (d : Dev) : State :=
  let x := s.sec d
  let s := ((s.put (R.SEC_LC_STATE d) x.lc).putB (R.SEC_LC_PENDING d) x.target.isSome).putB (R.SEC_LC_ID_KEY d) (x.idKey != [])
  let s := ((s.putB (R.SEC_LC_CERT d) (x.certs != [])).put (R.SEC_LC_KEYS d) x.keys).putB (R.SEC_LC_PROFILE_KEY d) (x.profKey != [])
  ((s.put (R.SEC_LC_USED d) x.used).put (R.SEC_SVN_SVN_MIN d) x.svnMin).putB (R.SEC_SVN_KEY0_REVOKED d) x.revoked

/-- Whether the life-cycle state allows an opcode (R404); `loc` is local ingress. -/
def State.lcAllows (s : State) (d : Dev) (loc : Bool) (op : Nat) (pay : List Byte) : Bool :=
  let lc := (s.sec d).lc
  let ix := (pay.headD 0).toNat
  if lc = 4 then op == 1 && loc
  else if op = 0x94 then decide (lc ≤ 2)
  else if op = 0x97 then (if ix = 0xFE then lc == 0 else if (1 ≤ ix ∧ ix ≤ 7) ∨ ix = 0xFD then lc == 1 || lc == 2 else true)
  else if op = 0x93 then pay.isEmpty || lc == 0
  else if op / 16 = 15 then s.userOpen d
  else true

/-- Whether a session may be opened under a key (R401, R404). -/
def State.openAllows (s : State) (d : Dev) (loc : Bool) (ix : Nat) : Bool :=
  let lc := (s.sec d).lc
  if ix = 0 then lc == 0 || lc == 3
  else if ix = 0xFF then lc == 1 && loc
  else if ix ≤ 7 then lc == 1 || lc == 2
  else lc != 4

/-- Whether a session's key permits an opcode (R399, R401, R405). -/
def State.keyPermits (s : State) (d : Dev) (key op : Nat) (pay : List Byte) : Bool :=
  let ix := (pay.headD 0).toNat
  if op = 0 ∨ op = 1 ∨ op = 0x91 ∨ op = 0x95 ∨ (op = 0x93 ∧ pay = []) then true
  else if op = 0x97 then
    (if ix = 0xFE then key == 0 else if key = 1 then true else key == 0xFF && ix == 1)
  else if op = 0x96 then key == 0 || key == 1 || key == 0xFF
  else if key = 0xFF then false
  else if key ≤ 1 then true
  else ((s.sec d).slot key).1.testBit (op / 16)

/-- What a transition asks for (R405): whether it is in the table, whether this key may ask, and whether its conditions hold. -/
def lcRow (x : Sec) (key target : Nat) : Option (Bool × Bool) :=
  match x.lc, target with
  | 0, 1 => some (key == 0, x.idKey != [] && x.certs != [])
  | 1, 2 => some (key == 0xFF || key == 1, (x.slot 1).2 != [])
  | 2, 1 => some (key == 1, true)
  | 1, 3 => some (key == 1 || key == 0xFF, true)
  | 2, 3 => some (key == 1, true)
  | 3, 1 => some (key == 0, true)
  | 0, 4 => some (key == 0, true)
  | 3, 4 => some (key == 0, true)
  | 2, 4 => some (key == 1, true)
  | _, _ => none

/-- The profile store with the fused defaults in both copies (R405). -/
def defaultCopies (d : Dev) : List (Nat × List Byte) :=
  match d with
  | .lotik => []
  | .verard => [(0, defaultArea 0), (1, defaultArea 0)]

/-- The bank that is not running (R410). -/
def Sec.staging (x : Sec) : Bank := if x.running = 0 then x.bank1 else x.bank0

/-- Replace it. -/
def Sec.setStaging (x : Sec) (b : Bank) : Sec := if x.running = 0 then { x with bank1 := b } else { x with bank0 := b }

/-- An erase that a restart interrupts leaves no transfer. -/
def Sec.dropErase (x : Sec) : Sec := if x.staging.state = 1 then x.setStaging {} else x

/-- The bank that runs. -/
def Sec.runningBank (x : Sec) : Bank := if x.running = 0 then x.bank0 else x.bank1

/-- Replace it. -/
def Sec.setRunning (x : Sec) (b : Bank) : Sec := if x.running = 0 then { x with bank0 := b } else { x with bank1 := b }

/-- A bank that has been wiped: it holds no image, also not one from the factory. -/
def Bank.wiped : Bank := { parts := [(0, [])] }

/-- What a transition wipes (R405): to SCRAPPED everything, and the profile store is left with the fused defaults. -/
def Sec.wipe (d : Dev) (x : Sec) (target : Nat) : Sec :=
  if target = 4 then
    { x with slots := [], profKey := [], idKey := [], certs := [], copies := defaultCopies d, bank0 := Bank.wiped, bank1 := Bank.wiped }
  else if x.lc = 2 ∨ (x.lc = 1 ∧ target = 3) then
    let y := { x with slots := [], profKey := [], copies := defaultCopies d }
    if target = 3 ∧ y.staging.state ≠ 0 then y.setStaging {} else y
  else x

/-- Whether a transition wipes the Log (R405). -/
def wipesLog (lc target : Nat) : Bool := target == 4 || lc == 2 || (lc == 1 && target == 3)

-- Firmware banks (R409 to R412).

/-- Parts in an image (R410). -/
def partCount (len : Nat) : Nat := (len + 2047) / 2048

/-- The bytes a part must have. -/
def partLen (len p : Nat) : Nat := if p + 1 < partCount len then 2048 else len - 2048 * p

/-- The image a bank holds. -/
def Bank.image (b : Bank) : List Byte := b.parts.flatMap (·.2)

/-- Put a part into a bank; a bank that holds every part is STAGED (R410). -/
def Bank.take (b : Bank) (p : Nat) (bytes : List Byte) : Bank :=
  let parts := smPut [] b.parts p bytes
  { b with parts := parts, state := if parts.length = partCount b.len then 3 else b.state }

/-- A bank filled with a whole image. -/
def Bank.full (img : List Byte) : Bank :=
  { state := 0, ver := leAt img 8 4, len := img.length,
    parts := (List.range (partCount img.length)).map (fun p => (p, (img.drop (2048 * p)).take 2048)) }

/-- The part bitmap, bits from the part count on read 1 (R410). -/
def Bank.bitmap (b : Bank) : List Byte :=
  let n := partCount b.len
  (List.range ((n + 7) / 8)).map (fun i => BitVec.ofNat 8
    ((List.range 8).map (fun j => b2n (decide (n ≤ 8 * i + j) || b.parts.any (fun e => e.1 == 8 * i + j)) * 2 ^ j)).sum)

/-- Show a part's transfer (R415). -/
def State.showFw (s : State) (d : Dev) : State :=
  let b := (s.sec d).staging
  let live := decide (b.state ≠ 0)
  let v (n : Nat) : Nat := if live then n else 0
  let s := ((s.put (R.FW_STAT_XFER d) b.state).put (R.FW_STAGE_VER_VERSION d) (v b.ver)).put (R.FW_XFER_ID_ID d) (v b.xfer)
  (s.put (R.FW_PARTS_TOTAL d) (v (partCount b.len))).put (R.FW_PARTS_HELD d) (v b.parts.length)

/-- The largest image of a part (R409). -/
def bankBytes : Dev → Nat
  | .lotik => 32768
  | .verard => 4194304

/-- PART of a part (R29). -/
def partCode : Dev → Nat
  | .lotik => 0x4C4B
  | .verard => 0x5644

/-- The boot check of an image (R411), in order: 0 where it passes, else FAIL_CAUSE. -/
def bootCheck (d : Dev) (x : Sec) (readable : Bool) (img : List Byte) : Nat :=
  let at_ := leAt img
  let step := (Config.stepping d).toNat
  let body := (img.drop 320).take (at_ 16 4)
  let signer := at_ 48 1
  let key := (img.drop 64).take 97
  if !readable then 8
  else if at_ 0 4 ≠ 0x53465731 ∨ at_ 4 2 ≠ partCode d then 1
  else if step < at_ 6 1 ∨ at_ 7 1 < step then 2
  else if x.verMax < at_ 14 1 ∨ at_ 15 1 < x.verMax then 3
  else if at_ 12 2 < x.svnMin then 4
  else if 1 < signer ∨ key ≠ Config.fwKey signer ∨ (signer = 0 ∧ x.revoked) then 5
  else if !Config.ecdsaVerify key (img.take 224 ++ body) ((img.drop 224).take 96) then 6
  else if padTo 16 (Config.gcmTag (Config.typeKey d) ((img.drop 20).take 12) (img.take 20) body) ≠ (img.drop 32).take 16 then 7
  else 0

/-- An image that has passed runs (R411): its versions, SVN_MIN and FW_KEY0 by its flags, SOURCE, and a FW_BOOT entry. -/
def State.fwRun (s : State) (d : Dev) (bank source : Nat) (img : List Byte) : State :=
  let x := s.sec d
  let flags := leAt img 49 1
  let svn := leAt img 12 2
  let s := s.setSec d { x with
    verMax := leAt img 15 1
    svnMin := if flags.testBit 0 then svn else x.svnMin
    revoked := x.revoked || (flags.testBit 1 && leAt img 48 1 == 1) }
  let s := ((s.put (R.CMD_STAT_VER_MIN d) (leAt img 14 1)).put (R.CMD_STAT_VER_MAX d) (leAt img 15 1)).put (R.FW_RUN_VER_VERSION d) (leAt img 8 4)
  ((s.put (R.FW_STAT_SOURCE d) source).showSec d).logKind d 0x0E02 2 ([BitVec.ofNat 8 bank] ++ leBytes 4 (leAt img 8 4) ++ leBytes 1 svn)

/-- An image fails its check (R411). -/
def State.fwFail (s : State) (d : Dev) (bank cause : Nat) (img : List Byte) : State :=
  ((s.put (R.FW_STAT_LAST_FAIL d) 1).put (R.FW_STAT_FAIL_CAUSE d) cause).logKind d 0x0E03 4
    ([BitVec.ofNat 8 bank] ++ leBytes 4 (leAt img 8 4) ++ [BitVec.ofNat 8 cause])

/-- Check the staged image, if there is one (R411): on a pass its bank becomes the running bank; on a failure it stays with XFER = NONE. -/
def State.fwStaged (s : State) (d : Dev) (readable : Bool) : State × Bool :=
  let x := s.sec d
  let b := x.staging
  if b.state ≠ 3 then (s, false) else
  let n := 1 - x.running
  let x' := x.setStaging { b with state := 0 }
  let why := bootCheck d x readable b.image
  if why = 0 then ((s.setSec d { x' with running := n }).fwRun d n n b.image, true)
  else ((s.setSec d x').fwFail d n why b.image, false)

end Sys2Proof.Machine
end

