-- ==== Sys2Proof/Machine/Boot.lean ====
section
/-! DEFINITION. Resets, start-up stages and the sleep of Lotik's domains (R350 to R364). -/

namespace Sys2Proof.Machine

open Sys2Proof

/-- The register keys of the Lotik window lie below this, those of Verard from it on. -/
def vdKeys : Nat := 2 ^ 28 * 32

/-- The rise of RST_N (R8, R361): every register of Lotik at its reset value; what R396, R403 and R412 keep stays, and the straps are
sampled. -/
def State.resetLotik (s : State) (prof : Nat) (profCmd : Bool) : State :=
  let tripped := s.getB R.LK_PG_STAT_TRIPPED || s.lk.wasTripped
  let x := (s.sec .lotik).dropErase
  let sel := if profCmd then x.nextProf else some prof
  let s := { s with
    reg := s.reg.filter (fun e => decide (vdKeys ≤ e.1))
    lkPart := { sec := { x with prof := prof, profCmd := profCmd, nextProf := none }, run := { selected := sel } }
    lk := { wasTripped := tripped }
    ports := s.ports.filter (fun e => e.1 != PortId.tlink.idx) }
  ((s.put R.LK_BOOT_PROF prof).showSec .lotik).showFw .lotik

/-- The rise of SYS_RST_N (R8, R360): every register of Verard at its reset value. -/
def State.resetVerard (s : State) (prof : Nat) : State :=
  let s := { s with
    reg := s.reg.filter (fun e => decide (e.1 < vdKeys))
    vdPart := { sec := { (s.sec .verard).dropErase with prof := prof } }
    vd := { hot := s.vd.hot }
    ports := s.ports.filter (fun e => e.1 == PortId.tlink.idx) }
  ((s.put R.VD_BOOT_PROF prof).showSec .verard).showFw .verard

/-- A part restarts itself as its reset pin would restart it (R406). -/
def State.restart (s : State) (d : Dev) : State :=
  let x := s.sec d
  match d with
  | .lotik => s.resetLotik x.prof x.profCmd
  | .verard => s.resetVerard x.prof

/-- A transition that waits is completed (R406): the wipe, the target, and the entry closed. -/
def State.lcClose (s : State) (d : Dev) : State :=
  match (s.sec d).target with
  | none => s
  | some (t, _) =>
    let x := (s.sec d).wipe d t
    ((s.setSec d { x with lc := t, target := none }).showSec d).showFw d

/-- Lotik enters a stage (R362). -/
def State.lkStage (s : State) (n : Nat) : State :=
  (s.setSecRun .lotik { s.secRun .lotik with stageAt := s.now .lotik }).put R.LK_BOOT_STAGE n

/-- Lotik enters FAULT (R362). -/
def State.lkFault (s : State) (cause : Nat) : State := (((s.lkStage 7).put R.LK_BOOT_FAULT cause).portGo .tlink 0)

/-- Verard enters a stage (R363). -/
def State.vdStage (s : State) (n : Nat) : State :=
  (s.setSecRun .verard { s.secRun .verard with stageAt := s.now .verard }).put R.VD_BOOT_STAGE n

/-- Verard enters FAULT (R363). -/
def State.vdFault (s : State) (cause : Nat) : State := (s.vdStage 6).put R.VD_BOOT_FAULT cause

/-- Try Lotik's firmware sources in turn (R411, R412): a source's number, its bank, its image. A patch is loaded into the bank that does
not run before it is checked; where a transfer is open there, which outlasts the restart (R410), it goes into the running bank once it has
passed (notes/assumptions/83). -/
def State.tryImages (s : State) : List (Nat × Nat × List Byte) → State
  | [] =>
    -- No source passes: ROM alone.
    let s := s.setSec .lotik { s.sec .lotik with verMax := 1 }
    (s.put (R.FW_STAT_SOURCE .lotik) 3).put R.LK_BOOT_PATCH 0
  | (src, bank, img) :: rest =>
    let here := bank == (s.sec .lotik).running
    let s := if src = 2 ∧ !here then s.setSec .lotik ((s.sec .lotik).setStaging (Bank.full img)) else s
    let why := bootCheck .lotik (s.sec .lotik) true img
    if why = 0 then
      let x := s.sec .lotik
      let s := if src = 2 then s.setSec .lotik (if here then x.setRunning (Bank.full img) else { x with running := bank }) else s
      (s.fwRun .lotik bank src img).put R.LK_BOOT_PATCH 1
    else (s.fwFail .lotik bank why img).tryImages rest

/-- Lotik's firmware (R412): a STAGED bank; then of the running bank and the patch the one with the higher FW_VERSION; then the other. -/
def State.lkFirmware (s : State) (patch : List Byte) : State :=
  let q := s.fwStaged .lotik true
  let s := q.1
  let ok := q.2
  let s := s.showFw .lotik
  if ok then s.put R.LK_BOOT_PATCH 1 else
  let n := (s.sec .lotik).running
  let cur := (s.sec .lotik).runningBank.image
  let run := if cur = [] then [] else [(n, n, cur)]
  let dest := if (s.sec .lotik).staging.state = 0 then 1 - n else n
  let pat := if patch = [] then [] else [(2, dest, patch)]
  s.tryImages (if leAt cur 8 4 < leAt patch 8 4 then pat ++ run else run ++ pat)

/-- The patch image of a boot block (R422); none where PATCH_LEN is not a length an image can have. -/
def patchOf (block : List Byte) : List Byte :=
  let n := leAt block 12 4
  if 320 ≤ n ∧ n ≤ 32768 then (block.drop 1088).take n else []

/-- The profile is applied once the boot block has been read and a number is selected (R362, R364, R423); a block that fails its check
gives the fused default, which the reset values are, and no patch. -/
def State.tryProfile (s : State) : State :=
  let r := s.secRun .lotik
  match r.boot, r.selected with
  | some block, some n =>
    let ok := areaFault .lotik (s.sec .lotik).profKey block n == 0
    let s := s.put R.LK_BOOT_PROF n
    let s := if ok then s.applyLk (areaRecord .lotik block n) else s.put R.LK_BOOT_PROF_DEFAULT 1
    (s.lkFirmware (if ok then patchOf block else [])).lkStage 4
  | _, _ => s

/-- LOTIK_RESET (R361). -/
def execLotikReset (prof : BitVec 2) (profCmd : Bool) (s : State) : Res := finish (s.resetLotik prof.toNat profCmd)

/-- SPRING_CLOCK_ARRIVE (R362). -/
def execSpringClockArrive (s : State) : Res := finish (if s.get R.LK_BOOT_STAGE = 0 then s.lkStage 1 else s)

/-- The level below which a tripped die may start (R361). -/
def State.coolC (s : State) : Int := (s.get R.LK_PG_TEMP_TCRIT_C : Int) - 10

/-- FUSE ends (R362, R406): a die no longer hot after a trip releases THERM_TRIP, a transition that waited is closed, and stage PROFILE begins by asking for the boot block (R348). -/
def State.fuseLoaded (s : State) : State :=
  let s := if s.lk.wasTripped then ({ s with lk := { s.lk with wasTripped := false } }).emit (.pin "THERM_TRIP" 0) else s
  (((s.lcClose .lotik).lkStage 3).emit (.pin "BOOT_REQ" 1)).emit (.pin "BOOT_ADDR" 0)

/-- FUSE_LOAD_DONE (R361, R362, R406): with whether the fuses were good, and the hottest sensor. -/
def execFuseLoadDone (ok : Bool) (tmax : BitVec 8) (s : State) : Res :=
  finish (
    if s.get R.LK_BOOT_STAGE ≠ 1 then s
    else if !ok then s.lkFault 2
    else if s.lk.wasTripped ∧ s.coolC ≤ tmax.toInt then (s.lkStage 2).emit (.pin "THERM_TRIP" 1)
    else
      s.fuseLoaded)

/-- THERMAL_HOLD_RELEASE (R361, R362). -/
def execThermalHoldRelease (tmax : BitVec 8) (s : State) : Res :=
  finish (
    if s.get R.LK_BOOT_STAGE = 2 ∧ tmax.toInt < s.coolC then
      (({ s with lk := { s.lk with wasTripped := false } }).lkStage 1).emit (.pin "THERM_TRIP" 0)
    else s)

/-- BOOT_BLOCK_READ_DONE (R362, R364). -/
def execBootBlockReadDone (err : Bool) (block : List Byte) (s : State) : Res :=
  finish (
    if s.get R.LK_BOOT_STAGE ≠ 3 then s
    else ((s.setSecRun .lotik { s.secRun .lotik with boot := some (if err then [] else block) }).emit (.pin "BOOT_REQ" 0)).tryProfile)

/-- PROFILE_SELECT_TIMEOUT (R362, R364): 1 s without a selection. -/
def execProfileSelectTimeout (s : State) : Res :=
  finish (
    let r := s.secRun .lotik
    if s.get R.LK_BOOT_STAGE = 3 ∧ r.selected = none ∧ r.stageAt + secSub 1 ≤ s.now .lotik then
      ((s.put R.LK_BOOT_PROF_TIMEOUT 1).setSecRun .lotik { r with selected := some (s.sec .lotik).prof }).tryProfile
    else s)

/-- RING_STAGE_DONE (R362): the ring has enumerated, which HEAD knows when its counts have come back, or reported why it does not; or the
stage's 20 ms have passed. -/
def execRingStageDone (s : State) : Res :=
  finish (
    let ended := s.get R.LK_RING_STAT_ENUM ≠ 0 ∨ (s.secRun .lotik).stageAt + msSub 20 ≤ s.now .lotik
    if s.get R.LK_BOOT_STAGE = 4 ∧ ended then s.lkStage 5 else s)

/-- GRID_PLL_LOCKED (R251, R362): READY is set and the move to BASE_OP scheduled; the stage ends with the move. -/
def execGridPllLocked (s : State) : Res :=
  finish (
    if s.get R.LK_BOOT_STAGE ≠ 5 ∨ s.getB R.LK_CS_STAT_READY then s
    else
      let s := (s.put R.LK_CS_STAT_READY 1).toBaseOp
      if s.get R.LK_CS_CFG_BASE_OP = s.get R.LK_CS_STAT_CUR_OP then s.lkStage 6 else s)

/-- GRID_PLL_LOCK_TIMEOUT (R362). -/
def execGridPllLockTimeout (s : State) : Res :=
  finish (
    if s.get R.LK_BOOT_STAGE = 5 ∧ ¬s.getB R.LK_CS_STAT_READY ∧ (s.secRun .lotik).stageAt + msSub 1 ≤ s.now .lotik then s.lkFault 1 else s)

/-- A save or restore whose memory accesses are abandoned ends with MEM_ERROR (R184, R350; notes/assumptions/137). -/
def State.saveAbandon (s : State) : State :=
  match s.lk.sync.saving with
  | none => s
  | some r => (s.saveEnd r 5 none).applyHeld

/-- HOST_RST_N falls (R350): an active job faults; no fetch, spill or save goes on, and a JOB_SAVE under way ends with BUSY, since its job
is PAUSED no more (notes/assumptions/137); a record its port has not accepted is gone with the host; the waits and wakes of the sync unit
are discarded and counted. -/
def State.hostFall (s : State) : State :=
  let s := s.faultActive 14
  let idle (q : Nat × Queue) : Nat × Queue := (q.1, { q.2 with fetching := false })
  let s := { s with lk := { s.lk with hostDown := true, queues := s.lk.queues.map idle } }
  let s := [0, 1].foldl (fun s i => s.setSlot i { s.slot i with bursts := [] }) s
  let s := (s.setLog .lotik { s.log .lotik with spilling := none }).saveAbandon
  let s := [0, 1].foldl (fun s i => s.complete .lotik 0x66 i 0x30 [] true) s
  let x := s.lk.sync
  let n := x.wakes.length + x.waiters.length
  let s := (s.setSync { x with wakes := [], waiters := [], refused := [] }).showSync
  s.logKind .lotik 0x0509 3 (leBytes 4 n ++ leBytes 4 n)

/-- HOST_RESET (R350): the active job faults, host-memory accesses are abandoned, owed wakes and their waiters discarded. -/
def execHostReset (s : State) : Res :=
  finish (
    if s.lk.hostDown then s else
    s.hostFall)

/-- A slot that still fetches asks again for what was abandoned (R350). -/
def State.refetch (s : State) (i : Nat) : State := if s.slotState i = 0 then s else s.fetchMore i

/-- HOST_RST_N rises (R350): host ports serve again, and abandoned reads are asked again. -/
def State.hostRise (s : State) : State :=
  let s := { s with lk := { s.lk with hostDown := false } }
  (s.lk.queues.foldl (fun s q => s.pumpQueue q.1) (([0, 1].foldl State.refetch s))).spillNext

/-- HOST_RESET_RELEASE (R350): host ports serve again, and abandoned reads are asked again. -/
def execHostResetRelease (s : State) : Res :=
  finish (
    if !s.lk.hostDown then s else
    s.hostRise)

/-- Words of a profile area (R425). -/
def areaWords (area : List Byte) : List (Nat × Nat) :=
  ((wordsOf 1040 area).zipIdx.filter (fun x => x.1 != 0)).map (fun x => (x.2, x.1))

/-- A Verard's profile copies are tried, newer first (R425). -/
def State.loadProfile (s : State) (area0 area1 : List Byte) : State :=
  let x := s.sec .verard
  let c (i : Nat) (flash : List Byte) : List Byte := smGet flash x.copies i
  let d := (leAt (c 1 area1) 8 4 + 2 ^ 32 - leAt (c 0 area0) 8 4) % 2 ^ 32
  let new := if 1 ≤ d ∧ d < 2 ^ 31 then 1 else 0
  let area (i : Nat) : List Byte := if i = 0 then c 0 area0 else c 1 area1
  let fault (i : Nat) : Nat := areaFault .verard x.profKey (area i) x.prof
  let load (s : State) (i : Nat) : State :=
    let s := s.setSecRun .verard { s.secRun .verard with loaded := area i, buffer := areaWords (area i) }
    ((s.put R.VD_PROF_CTRL_LOADED i).applyVd (areaRecord .verard (area i) x.prof)).vdStage 3
  let s := if fault new = 0 then load s new
    else if fault (1 - new) = 0 then
      let s := load (s.put R.VD_PROF_CTRL_FALLBACK 1) (1 - new)
      s.logKind .verard 0x0D00 2 (leBytes 4 0xA2000 ++ leBytes 4 (s.word 1 0xA2000) ++ [BitVec.ofNat 8 new, BitVec.ofNat 8 (fault new)])
    else (s.put R.VD_PROF_CTRL_LOADED new).vdFault 3
  if s.get R.VD_BOOT_STAGE = 3 then (List.range 9).foldl (fun s e => s.oeStart e) s else s

/-- VERARD_RESET (R360). -/
def execVerardReset (prof : BitVec 2) (s : State) : Res := finish (s.resetVerard prof.toNat)

/-- Verard enters the hold of R360: it is held in reset with VD_TRIP_N low. -/
def State.heat (s : State) (tj : Byte) : State :=
  let s := { s with vd := { s.vd with hot := true } }
  ((s.resetVerard (s.sec .verard).prof).put R.VD_RAIL_TJ_C tj.toNat).emit (.pin "VD_TRIP_N" 0)

/-- VERARD_THERMAL_HOLD (R360): the junction sensor; held from 125 °C, released below 115 °C. -/
def execVerardThermalHold (tj : Byte) (s : State) : Res :=
  finish (
    if !s.vd.hot ∧ 125 ≤ tj.toNat then
      s.heat tj
    else
      let s := s.put R.VD_RAIL_TJ_C tj.toNat
      if s.vd.hot ∧ tj.toNat < 115 then ({ s with vd := { s.vd with hot := false } }).emit (.pin "VD_TRIP_N" 1) else s)

/-- PCIE_RESET (R359): the endpoint's configuration space only, which is no part of this state. -/
def execPcieReset (s : State) : Res := finish s

/-- Verard checks its image (R411, R363): a staged bank first, then the running one, then the bank that holds the image before it; FAULT
where both banks fail. -/
def State.vdFirmware (s : State) (image : List Byte) (readable : BitVec 2) : State :=
  let old := (s.sec .verard).running
  let staged := (s.sec .verard).staging.state == 3
  let q := s.fwStaged .verard (readable.getLsbD (1 - old))
  let s := q.1
  let ok := q.2
  let s := s.showFw .verard
  if ok then (s.put R.VD_BOOT_BANK (1 - old)).vdStage 2
  else
    let x := s.sec .verard
    let img := if x.runningBank.parts = [] then image else x.runningBank.image
    let why := bootCheck .verard x (readable.getLsbD old) img
    if why = 0 then ((s.fwRun .verard old old img).put R.VD_BOOT_BANK old).vdStage 2
    else
      let s := s.fwFail .verard old why img
      let other := x.staging.image
      let why := bootCheck .verard x (readable.getLsbD (1 - old)) other
      -- A bank that was staged has been checked already; else the image before the running one boots from it.
      if staged then s.vdFault 2
      else if why = 0 ∧ x.staging.state = 0 then
        let s := s.setSec .verard { s.sec .verard with running := 1 - old }
        ((s.fwRun .verard (1 - old) (1 - old) other).put R.VD_BOOT_BANK (1 - old)).vdStage 2
      else (s.fwFail .verard (1 - old) why other).vdFault 2

/-- Stage PORTS begins (R363): every enabled port that has light starts. -/
def State.vdPortsStart (s : State) : State :=
  let s := s.vdStage 4
  vdPorts.foldl (fun s p =>
    if s.getB (R.PORT_CTRL_ENABLE p) ∧ s.get (R.PORT_STAT_STATE p) = 0 ∧ s.portLit p then s.portGo p 1 else s) s

/-- VERARD_STAGE_DONE (R363): what the flash held from the factory of the running bank and of the two profile copies, and which banks
can be read, are given; a bank or copy that commands have written is the state's own. -/
def execVerardStageDone (image area0 area1 : List Byte) (readable : BitVec 2) (s : State) : Res :=
  finish (
    let stage := s.get R.VD_BOOT_STAGE
    if s.vd.hot then s else
    match stage with
    | 0 => ((s.lcClose .verard).put R.VD_RAIL_IN_TOL 0x3F).vdStage 1
    | 1 =>
      s.vdFirmware image readable
    | 2 => s.loadProfile area0 area1
    | 3 =>
      let busy := (List.range 9).any (fun e => s.getB (R.VD_OE_CTRL_ENABLE e) && decide (s.get (R.VD_OE_STAT_STATE e) ≤ 2))
      if busy ∧ s.now .verard < (s.secRun .verard).stageAt + msSub 1400 then s
      else
        s.vdPortsStart
    | 4 => s.vdStage 5
    | _ => s)

-- Sleep (R352).

/-- Whether some buffered waypoint of the given kinds lies within a span from now. -/
def State.wpWithin (s : State) (span : Nat) (kinds : List Nat) : Bool :=
  [0, 1].any (fun i => (s.slotInstants i).any (fun x =>
    match x.2 with
    | none => false
    | some t => (kinds.isEmpty || kinds.contains (wpAction x.1.wp)) && decide (t ≤ s.now .lotik + span)))

/-- What keeps the logic domain awake, as far as this state shows it (R352). -/
def State.logicBusy (s : State) : Bool :=
  [0, 1].any (fun i => !(s.slot i).bursts.isEmpty) || s.lk.queues.any (fun q => q.2.fetching) || s.lk.sync.saving.isSome ||
  !s.lk.sync.refused.isEmpty || (s.cmd .lotik).works.any (fun w => w.opcode == 0x66) || s.get R.LK_MBOX_STAT_STATE == 2 || (s.log .lotik).spilling.isSome || s.getB R.LK_STEP_STAT_GATE_PENDING || s.wpWithin (usSub 5) []

/-- What keeps the timing core awake (R352). -/
def State.tcBusy (s : State) : Bool :=
  s.getB (R.TIME_CTRL_HOLD_AWAKE .lotik) ||
  [0, 1].any (fun i => s.getB (R.LK_TRIGi_CTRL_FINE i) && s.getB (R.LK_TRIGi_CTRL_ENABLE i)) ||
  s.getB R.LK_STEP_STAT_GATE_PENDING || s.get (R.PORT_STAT_STATE .tlink) != 0 || s.lk.hm.sounding.isSome ||
  (s.getB (R.TIME_STAT_PENDING .lotik) && (s.clk .lotik).capFine) || s.wpWithin (usSub 3) [1, 2, 5] ||
  s.lk.trains.any (fun t => s.getB (R.LK_TRIGo_STAT_ARMED t.1) && decide (t.2.next ≤ s.now .lotik + usSub 3))

/-- LOGIC_DOMAIN_SLEEP (R352): after 10 µs idle the logic domain lowers FCLK_REQ; with FCLK_REQ low it says that the host has lowered
FCLK_ACK, and the domain is asleep. -/
def execLogicDomainSleep (s : State) : Res :=
  finish (
    if !s.getB R.LK_PWR_LOGIC_AWAKE then s
    else if s.lk.sleeping then s.sleepLogic
    else if !s.logicBusy ∧ s.lk.logicAt + usSub 10 ≤ s.now .lotik then
      ({ s with lk := { s.lk with sleeping := true } }).emit (.pin "FCLK_REQ" 0)
    else s)

/-- LOGIC_DOMAIN_WAKE (R352). -/
def execLogicDomainWake (s : State) : Res := finish s.wakeLogic

/-- FCLK_LOSS (R352): FCLK_ACK falls; without a request it is counted. -/
def execFclkLoss (s : State) : Res :=
  finish (
    if !s.getB R.LK_PWR_LOGIC_AWAKE then s
    else if s.lk.sleeping then s.sleepLogic
    else s.sleepLogic.bumpSat R.LK_PWR_FCLK_LOSS)

/-- TIMING_CORE_SLEEP (R352): 2 µs without a reason to stay awake. -/
def execTimingCoreSleep (s : State) : Res := finish (
    if s.tcBusy ∨ s.now .lotik < s.lk.tcAt + usSub 2 then s else s.put R.LK_PWR_TC_AWAKE 0)

/-- TIMING_CORE_WAKE (R128, R351). -/
def execTimingCoreWake (s : State) : Res := finish s.wakeTc

/-- BOOT_STATUS (R367). -/
def execBootStatus (c : CmdCtx) (s : State) : Res :=
  finish (s.answer c 0x02 0 (s.regBytes c.dev.sp [0, 4, 8]))

/-- PROFILE_SELECT (R364, R367). -/
def execProfileSelect (c : CmdCtx) (profile : Byte) (s : State) : Res :=
  finish (
    let n := profile.toNat
    if c.dev = .verard then s.answer c 0x03 0x10
    else if 3 < n then s.answer c 0x03 0x11
    else
      let stage := s.get R.LK_BOOT_STAGE
      let r := s.secRun .lotik
      let s := (s.answer c 0x03 0 [BitVec.ofNat 8 stage]).logCommand c 0x03 0
      if stage = 3 ∧ r.selected = none then (s.setSecRun .lotik { s.secRun .lotik with selected := some n }).tryProfile
      else (s.setSec .lotik { s.sec .lotik with nextProf := some n }).put R.LK_BOOT_NEXT_PROF n)

end Sys2Proof.Machine
end

