-- ==== Sys2Proof/Machine/DetCmd.lean ====
section
/-! DEFINITION. The commands of the determinism unit (R279 to R301). -/

namespace Sys2Proof.Machine

open Sys2Proof

/-- DIGEST_BEAT (R287 to R289): a beat folds into the open step whose low byte it names, or is discarded and counted. -/
def execDigestBeat (beat : BitVec 128) (s : State) : Res :=
  .next (s.atPort (fun s =>
    let v := beat.toNat
    let lowByte := bits v 108 8
    let t := bits v 104 4
    let x := s.lk.det
    if s.activeSlot.isNone then s.bumpSat R.LK_DET_DIG_CNT_DISCARDED
    else if !x.steps.any (fun d => d.step.toNat % 256 == lowByte) then s.bumpSat R.LK_DET_DIG_CNT_LATE
    else s.setDet
      { x with steps := x.steps.map (fun d =>
          if d.step.toNat % 256 == lowByte then
            { d with tags := smPut {} d.tags t ((d.tag t).fold (BitVec.ofNat 64 t) (BitVec.ofNat 64 (bits v 64 40)) (BitVec.ofNat 64 (bits v 0 64))) }
          else d) }))

/-- DIGEST_RECORD_CAPTURE (R300): the read of a record's first word. -/
def execDigestRecordCapture (t : Fin 16) (s : State) : Res :=
  .next (s.viaRead 0 (0x5100 + t.val * 0x20) 4 (fun s => (s.captureDigest t, (s.captureDigest t).get (R.LK_DET_DIGt_Dk_D t 0))))

/-- SEED_REQUEST (R292): the host's seed port; no step names the present one. -/
def execSeedRequest (r q : BitVec 32) (step : Option (BitVec 64)) (s : State) : Res :=
  .next (s.atPort (fun s =>
    match s.seedFor r q step with
    | none => (s.emit (.pin "SEED_RSP" 0)).emit (.pin "NO_JOB" 1)
    | some v => s.emit (.pin "SEED_RSP" v.toNat)))

/-- SEED_GO_WRITE (R292). -/
def execSeedGoWrite (v : Word) (s : State) : Res :=
  .next (s.viaBus 0 0x5050 (fun s => (s.seedWrite (v.toNat ||| 1))))

/-- TIME_PORT_REQUEST (R282, R283, R299): hall time, or the step-derived time under DETMODE, the same on every run. -/
def execTimePortRequest (s : State) : Res :=
  .next (s.atPort (fun s =>
    match s.getB R.LK_DET_STAT_DETMODE, s.activeSlot with
    | true, some i =>
      let ns := s.lk.jobs.step.toNat * (s.run i).period
      (s.emit (.pin "TIME_RSP" (packInstant false (ns * 65536)).toNat)).emit (.pin "STEP_DERIVED" 1)
    | _, _ => (s.emit (.pin "TIME_RSP" (packInstant (s.wrap .lotik) (s.now .lotik)).toNat)).emit (.pin "STEP_DERIVED" 0)))

/-- ALIGN_REQUEST (R285): 2 µs before Mark 0, or before the first Mark after a resume or load. -/
def execAlignRequest (s : State) : Res :=
  .next (
    match s.activeSlot with
    | none => s
    | some i =>
      let m : Option Nat := if s.slotState i = 3 then some (s.slot i).t0 else if s.slotState i = 5 then (s.run i).resumeAt else none
      match m with
      | none => s
      | some m =>
        if s.now .lotik + usSub 2 < m then s
        else (s.setDet { s.lk.det with alignFor := some m, ready := false, missed := false }).emit (.pin "ALIGN_REQ" 1))

/-- What ALIGN_READY shows 100 ns before an aligned mark (R285, R286). -/
def State.alignReady (s : State) (ready : Bool) : State :=
  if ready then s.setDet { s.lk.det with ready := true, missed := false }
  else (s.setDet { s.lk.det with ready := false, missed := true }).alignMissed

/-- ALIGN_READY_CHECK (R285, R286): at M − 100 ns the host's ALIGN_READY is there, or the alignment is missed. -/
def execAlignReadyCheck (ready : Bool) (s : State) : Res :=
  .next (
    match s.lk.det.alignFor with
    | none => s
    | some m => if s.now .lotik + nsSub 100 < m then s else s.alignReady ready)

/-- DET_STATUS (R301): the RC fields are not cleared (R428). -/
def execDetStatus (c : CmdCtx) (s : State) : Res :=
  done (if c.dev = .verard then s.answer c 0x60 0x10
    else (s.answer c 0x60 0 (s.regBytes 0 [0x5000, 0x5004, 0x5008, 0x500C, 0x5010, 0x5014, 0x5018, 0x501C])).logCommand c 0x60 0)

/-- DET_DIGEST (R301, R428): captured for the reply alone. -/
def execDetDigest (c : CmdCtx) (tag : Byte) (s : State) : Res :=
  done (
    if c.dev = .verard then s.answer c 0x61 0x10
    else if 15 < tag.toNat then s.answer c 0x61 0x11
    else
      let t := s.captureDigest tag.toNat
      (s.answer c 0x61 0 (t.regBytes 0 ((List.range 8).map (fun k => 0x5100 + tag.toNat * 0x20 + 4 * k)))).logCommand c 0x61 0)

/-- DET_SEED (R291, R301): a step of all ones is the present one. -/
def execDetSeed (c : CmdCtx) (rank stream : Word) (step : DWord) (s : State) : Res :=
  done (
    if c.dev = .verard then s.answer c 0x63 0x10
    else match s.seedFor rank stream (if step = 0xFFFFFFFFFFFFFFFF then none else some step) with
      | none => s.answer c 0x63 0x31
      | some v => (s.answer c 0x63 0 (leBytes 16 v.toNat)).logCommand c 0x63 0)

/-- DIG_REQ_GO. -/
def execDigReqGo (v : Word) (s : State) : Res :=
  finish (s.viaBus 0 0x5020 (fun s => (s.digGo v)))

/-- DET_DIGEST_CHECK: kind 0 COMBINE, 1 COMPARE. -/
def execDetDigestCheck (c : CmdCtx) (tag kind : Byte) (s : State) : Res :=
  finish (
    if c.dev = .verard then s.answer c 0x62 0x10
    else if 15 < tag.toNat ∨ 1 < kind.toNat then s.answer c 0x62 0x11
    else if s.getB R.LK_DET_DIG_REQ_BUSY then s.answer c 0x62 0x30
    else (s.accept c 0x62 0).digStart tag.toNat kind.toNat)

end Sys2Proof.Machine
end

