-- ==== Sys2Proof/Machine/Flags.lean ====
section
/-! DEFINITION. Lotik's interrupt lines, computed from the interrupt flags and their enables (R418); Verard's groups stand in Ops. -/

namespace Sys2Proof.Machine

open Sys2Proof

/-- Which interrupt lines have a source (R418). -/
def State.irqLines (s : State) : Nat :=
  b2n (s.irqOn [R.LK_STEP_IRQ_FAULT, R.LK_STEP_IRQ_IDLE, R.LK_STEP_IRQ_LATE, R.LK_STEP_IRQ_OVERRUN, R.LK_STEP_IRQ_ENDED] R.LK_STEP_IRQ_EN_EN) +
  2 * b2n (s.irqOn [R.LK_SYNC_IRQ_UNDERFLOW, R.LK_SYNC_IRQ_OVERFLOW, R.LK_SYNC_IRQ_SATURATED, R.LK_SYNC_IRQ_AHEAD,
    R.LK_SYNC_IRQ_LINK_FAULT, R.LK_SYNC_IRQ_PEND_STALE, R.LK_SYNC_IRQ_WAITER_FULL, R.LK_SYNC_IRQ_SAVE_DONE] R.LK_SYNC_IRQ_EN_EN) +
  4 * b2n (s.irqOn [R.LK_GQ_IRQ_COMPLETE, R.LK_GQ_IRQ_FAULT, R.LK_GQ_IRQ_DROP, R.LK_GQ_IRQ_STALL, R.LK_GQ_IRQ_ERR] R.LK_GQ_IRQ_EN_EN) +
  8 * b2n (s.irqOn [R.LK_CS_IRQ_LOR, R.LK_CS_IRQ_MARGIN_FAULT, R.LK_CS_IRQ_FENCE, R.LK_CS_IRQ_STR_WARN, R.LK_CS_IRQ_VID_FAULT,
    R.LK_CS_IRQ_SWITCH_DONE] R.LK_CS_IRQ_EN_EN) +
  16 * b2n (s.irqOn [R.LK_PG_IRQ_CAP_UNREACHABLE, R.LK_PG_IRQ_TWARN, R.LK_PG_IRQ_TRIP, R.LK_PG_IRQ_CAP_ERR, R.LK_PG_IRQ_DEFER_SENT,
    R.LK_PG_IRQ_BOOST, R.LK_PG_IRQ_CEIL] R.LK_PG_IRQ_EN_EN) +
  32 * b2n (s.irqOn [R.LK_HM_IRQ_MARGIN_LOW, R.LK_HM_IRQ_KAT_FAIL, R.LK_HM_IRQ_KAT_TIMEOUT, R.LK_HM_IRQ_HSTATE, R.LK_HM_IRQ_LOG_LOSS,
    R.LK_HM_IRQ_SPILL_ERR, R.LK_HM_IRQ_NEST_LIMIT] R.LK_HM_IRQ_EN_EN) +
  64 * b2n (s.getB (R.TIME_STAT_LATCH_GAP .lotik) || s.getB (R.PORT_STAT_RTT_STEP .tlink) ||
    (List.range 2).any (fun i => s.getB (R.LK_TRIGi_STAT_OVF i) || s.getB (R.LK_TRIGo_STAT_CFG_ERR i) || s.getB (R.LK_TRIGo_STAT_LATE i))) +
  128 * b2n (s.irqOn [R.LK_MBOX_IRQ_DELIVERED, R.LK_MBOX_IRQ_ERR, R.LK_MBOX_IRQ_DROP] R.LK_MBOX_IRQ_EN_EN || s.getB (R.FW_STAT_LAST_FAIL .lotik))

/-- Whether the boundary's IRQ[i] is high (R418). -/
def State.irqPin (s : State) (i : Nat) : Bool := s.irqLines.testBit i && (s.get R.LK_IRQ_MASK_MASK).testBit i

end Sys2Proof.Machine
end

