-- ==== Sys2Proof/Machine/Ring.lean ====
section
/-! DEFINITION. The package ring (R63 to R69, R73): its time, hop delays, enumeration, status, master changes, opens. -/

namespace Sys2Proof.Machine

open Sys2Proof

/-- The state field of a ring port (R76). -/
def ringStateField : RingPort → Field
  | .e => R.LK_RING_STAT_E_STATE
  | .w => R.LK_RING_STAT_W_STATE

/-- The fault field of a ring port (R76). -/
def ringFaultField : RingPort → Field
  | .e => R.LK_RING_STAT_E_FAULT
  | .w => R.LK_RING_STAT_W_FAULT

/-- The hop delay field of a ring port (R76). -/
def hopField : RingPort → Field
  | .e => R.LK_RING_HOP_E_HOP_PS
  | .w => R.LK_RING_HOP_W_HOP_PS

/-- Whether a symbol comes from this die itself, having gone round. -/
def State.ownSymbol (s : State) (src : BitVec 5) : Bool := src == s.lk.ring.die && (s.lk.ring.dieValid || s.lk.ring.sources)

/-- Pass a symbol on through the other ring port, where it is UP (R63); a die's own symbol ends where it comes back. -/
def State.ringPass (s : State) (r : RingPort) (src : BitVec 5) (dst : BitVec 6) (b : RingBody) : State :=
  s.emitIf (s.ringUp r.other && !s.ownSymbol src) (ringOut r.other { ccw := r == .e, src := src, dst := dst, body := b })

/-- The hops a symbol has made that arrives here, clockwise at W, counter-clockwise at E. -/
def State.hopsFrom (s : State) (r : RingPort) (src : BitVec 5) : Nat :=
  let size := s.get R.LK_RING_STAT_RING_SIZE + 1
  let cw := (s.lk.ring.die.toNat + size - src.toNat % size) % size
  if r = .w then cw else (size - cw) % size

/-- Whether a copy for every die goes on from here (R199): each travels half the ring, or to the end of a chain. -/
def State.goesOn (s : State) (r : RingPort) (src : BitVec 5) : Bool :=
  s.getB R.LK_TOPO_RING_CHAIN || decide (2 * s.hopsFrom r src < s.get R.LK_RING_STAT_RING_SIZE + 1)

/-- A die follows no master: FOLLOW and HOPS read 0 (R76). -/
def State.followNone (s : State) : State := (s.put R.LK_RING_STAT_FOLLOW 0).put R.LK_RING_STAT_HOPS 0

/-- A die that the forwarded clock no longer reaches follows nobody and shows LOST (R49, R73, R76). -/
def State.cutFromClock (s : State) : State := (((s.followNone).put R.LK_TOPO_MASTER 0).ringMode false).setOwn .lotik 5

/-- Both hops of a die open: it loses the forwarded clock, unless it is the source (R49, R73). -/
def State.ringLost (s : State) : State :=
  if !s.ringUp .e && !s.ringUp .w && !s.lk.ring.sources then s.cutFromClock else s

/-- Show RING_CHAIN (R24, R73): a hop beside this die is open, or a die has said that one beside it is. -/
def State.showChain (s : State) : State :=
  s.putB R.LK_TOPO_RING_CHAIN
    (s.get R.LK_RING_STAT_E_STATE == 3 || s.get R.LK_RING_STAT_W_STATE == 3 || !s.lk.ring.chains.isEmpty)

/-- A hop is declared open (R73): the ring reforms as a chain. -/
def State.hopOpen (s : State) (r : RingPort) (code : Nat) : State :=
  if s.get (ringStateField r) = 3 then s.put (ringFaultField r) code else
  let s := (s.put (ringStateField r) 3).put (ringFaultField r) code
  let s := s.showChain
  let now := s.now .lotik
  let s := s.setHop r { s.hop r with seenAt := none, missed := 0, badCrc := 0, echoAt := none, openAt := some now }
  -- What came over the hop is seen no more (R42); the other copy tells its mode with its next symbol.
  let s := (s.ringMode false).sendStatus
  -- While the ring still reforms around the other hop of this die the entry is nested (R343).
  let nested := match (s.hop r.other).openAt with
    | some t => s.get (ringStateField r.other) == 3 && decide (now < t + usSub 4)
    | none => false
  let f := ringStateField r
  let s := s.report .lotik { kind := 0x0100, sev := 4, ua := s.ua .lotik, step := s.stepCount .lotik, depth := b2n nested,
                             arg := leBytes 4 f.off ++ leBytes 4 (s.word f.sp f.off) }
  (s.ringLost).hopChanged

/-- A symbol with a bad CRC (R64, R73): discarded and counted; eight in a row open the hop. -/
def State.ringBad (s : State) (r : RingPort) : State :=
  let h := s.hop r
  let s := (s.setHop r { h with badCrc := h.badCrc + 1 }).bumpSat R.LK_RING_CNT_CRC_ERR
  if 8 ≤ h.badCrc + 1 then s.hopOpen r 0 else s

/-- A symbol with a good CRC (R73). -/
def State.ringGood (s : State) (r : RingPort) : State := s.setHop r { s.hop r with badCrc := 0 }

/-- TICKS[39:0] extended from this die's own accumulator: the value nearest to it (R65), which for an accumulator just begun may lie
before its origin. -/
def nearestTicks (own t : Nat) : Int :=
  let base := own + 2 ^ 40 - 2 ^ 39
  let v := base - base % 2 ^ 40 + t
  ((if v < base then v + 2 ^ 40 else v : Nat) : Int) - 2 ^ 40

/-- The same as a tick this die can count to (R66). -/
def extendTicks (own t : Nat) : Nat := (nearestTicks own t).toNat

/-- Hops to the master the clockwise way: the way of the copy that arrives at W (R65, R76). -/
def State.cwHops (s : State) : Nat :=
  let size := s.get R.LK_RING_STAT_RING_SIZE + 1
  (s.lk.ring.die.toNat + size - s.lk.ring.master.toNat % size) % size

/-- The direction with fewer hops; a tie of 16 follows the clockwise copy (R65). -/
def State.preferred (s : State) : RingPort :=
  let size := s.get R.LK_RING_STAT_RING_SIZE + 1
  if 2 * s.cwHops ≤ size then .w else .e

/-- The direction a die follows: the preferred one, unless its copy has been silent for 2 µs and the other has not (R65, R73). -/
def State.followPort (s : State) : RingPort :=
  let p := s.preferred
  let now := s.now .lotik
  let live (r : RingPort) : Bool := match (s.hop r).seenAt with
    | none => false
    | some t => decide (now ≤ t + usSub 2)
  if !live p && live p.other then p.other else p

/-- FOLLOW and HOPS of a die that follows a ring port (R76). -/
def State.showFollow (s : State) (r : RingPort) : State :=
  let size := s.get R.LK_RING_STAT_RING_SIZE + 1
  let h := if r = .w then s.cwHops else (size - s.cwHops) % size
  (s.put R.LK_RING_STAT_FOLLOW (if r = .w then 1 else 2)).put R.LK_RING_STAT_HOPS h

/-- Another die is ring time master (R66): its symbols are followed, and this die sources no more. -/
def State.masterThere (s : State) (m : BitVec 5) : State :=
  let wasMaster := s.isRingMaster
  let s := s.setRing { s.lk.ring with handover := none, master := m, sources := false }
  let s := (s.showMaster (if m = 0 then 1 else 2)).pathUpdate false false
  if wasMaster then ((s.put (R.PORT_STAT_TIME_USE .tlink) 0).showFollow s.preferred).showState .lotik else s

/-- Ring time of the other mode arrives (R32): the forwarded clock is there, but nobody's time to follow, so a die that followed it holds
over or stays in FREE_RUN. -/
def State.ringOther (s : State) : State :=
  let s := (s.setRing { s.lk.ring with lastTime := some (s.now .lotik) }).ringMode true
  if s.isRingMaster then s
  else
    let s := (s.followNone).put R.LK_TOPO_MASTER 0
    if (s.clk .lotik).own = 5 then s.setOwn .lotik 0 else (s.loseParent .lotik).showUncal .lotik

/-- RING_TIME_RX (R19, R32, R65, R66): a copy of ring time arrives. A die that missed a HANDOVER follows the new master from its first
symbol. -/
def State.ringTimeRx (s : State) (r : RingPort) (src : BitVec 5) (ticks : BitVec 40) (phase : BitVec 32) (path : BitVec 20)
    (st : BitVec 3) (wrap : Bool) : State :=
  let hop := s.get (hopField r)
  let s := s.ringGood r
  if s.ownSymbol src then s else
  let s := s.ringPass r src 0x3F (.time ticks phase (BitVec.ofNat 20 (path.toNat + hop)) st wrap)
  if wrap != s.wrap .lotik then s.ringOther else
    let s := s.ringMode false
    let now := s.now .lotik
    let c := s.clk .lotik
    let at_ : Int := (nearestTicks c.ticks.toNat ticks.toNat) * tickSub + (phase.toNat * tickSub / 2 ^ 32 : Nat) +
      psToSub ((path.toNat + hop : Nat) : Int)
    let ofs : Int := (now : Int) - at_
    let was := s.get R.LK_RING_STAT_FOLLOW
    let s := s.setHop r { s.hop r with ofs := ofs, seenAt := some now }
    let s := s.setRing { s.lk.ring with lastTime := some now, masterState := st }
    let s := if src ≠ s.lk.ring.master ∨ s.isRingMaster ∨ s.lk.ring.sources then s.masterThere src
      else (s.showMaster (if src = 0 then 1 else 2)).pathUpdate false false
    let f := s.followPort
    if f ≠ r then s.showFollow f
    else
      let s := (s.showFollow r).showUncal .lotik
      let s := if (s.clk .lotik).own = 5 then s.setOwn .lotik 0 else s
      let code := if r = .w then 1 else 2
      if was ≠ 0 ∧ was ≠ code ∧ was ≠ 3 ∧ (s.clk .lotik).own = 2 then
        -- A change of direction slews the tracked offset; it is no discontinuity (R65, R73).
        (s.setClk .lotik { s.clk .lotik with slew := ofs * 2 ^ 48 / tickSub }).showState .lotik
      else (s.feedLoop .lotik ofs).showEst .lotik

/-- RING_TIME_SEND (R65): the ring time master's symbols at a tick that is a multiple of 100. -/
def execRingTimeSend (s : State) : Res :=
  let c := s.clk .lotik
  .next (
    if s.lk.ring.sources ∧ c.ticks.toNat % 100 = 0 then
      s.ringSend 0x3F (.time (BitVec.ofNat 40 c.ticks.toNat) (BitVec.ofNat 32 (c.phase.toNat / 2 ^ 16)) 0
        (BitVec.ofNat 3 (s.shownState .lotik)) (s.wrap .lotik))
    else s)

/-- RING_TIME_RX. -/
def execRingTimeRx (r : RingPort) (src : BitVec 5) (ticks : BitVec 40) (phase : BitVec 32) (path : BitVec 20) (st : BitVec 3)
    (wrap : Bool) (crcOk : Bool) (s : State) : Res :=
  finish (if crcOk then s.ringTimeRx r src ticks phase path st wrap else s.ringBad r)

/-- RING_ECHO_SEND (R65, R73): a request each µs; three unanswered in a row open the hop. Requests and replies end at the neighbour, and
carry DST 0x3F: the rule names no DST for them (DESIGN CHOICE, notes/assumptions/143). -/
def execRingEchoSend (r : RingPort) (s : State) : Res :=
  finish (
    if !s.ringUp r then s else
    let h := s.hop r
    let missed := if h.echoAt.isSome then h.missed + 1 else h.missed
    if 3 ≤ missed then s.hopOpen r 0
    else
      let s := s.setHop r { h with echoSeq := h.echoSeq + 1, echoAt := some (s.now .lotik), missed := missed }
      s.emit (ringOut r { ccw := r == .w, src := s.lk.ring.die, dst := 0x3F, body := .echo h.echoSeq false }))

/-- RING_ECHO_RX (R65): a request is answered; a reply gives one round trip, and the median of 64 the hop delay. -/
def execRingEchoRx (r : RingPort) (seq : BitVec 16) (reply : Bool) (tripPs : BitVec 24) (crcOk : Bool) (s : State) : Res :=
  finish (
    if !crcOk then s.ringBad r else
    let s := s.ringGood r
    if !reply then
      s.emitIf (s.ringUp r) (ringOut r { ccw := r == .w, src := s.lk.ring.die, dst := 0x3F, body := .echo seq true })
    else
      let h := s.hop r
      if h.echoAt.isSome ∧ seq + 1 = h.echoSeq then
        let es := pushN 64 tripPs.toNat h.echoes
        let s := s.setHop r { h with echoAt := none, missed := 0, echoes := es }
        if es.length = 64 then
          -- The lane constants of this port and of the neighbour's (R65).
          let i := if r = .e then 0 else 1
          let lane := (Config.laneConst i).toNat + (Config.laneConst (i + 2)).toNat
          (s.putSat (hopField r) ((median (es.map Int.ofNat)).toNat / 2 - lane)).showUncal .lotik
        else s
      else s)

/-- HEAD starts enumeration (R68): it is die 0, and both tokens go out. -/
def State.enumBegin (s : State) : State :=
  let r := s.lk.ring
  let s := s.setRing { r with started := true, die := 0, dieValid := true }
  let size := s.get R.LK_RING_STAT_RING_SIZE + 1
  let s := s.emitIf (s.ringUp .e) (ringOut .e { ccw := false, src := 0, dst := 0x3F, body := .enum 1 false })
  let s := s.emitIf (s.ringUp .w) (ringOut .w { ccw := true, src := 0, dst := 0x3F, body := .enum (BitVec.ofNat 6 (size - 1)) true })
  s.formUa

/-- RING_ENUM_START (R68): HEAD takes number 0 and sends both counts, once both ring ports are UP or 1 ms after the first. -/
def execRingEnumStart (s : State) : Res :=
  .next (
    let r := s.lk.ring
    let both := s.ringUp .e && s.ringUp .w
    let one := s.ringUp .e || s.ringUp .w
    if s.get R.LK_TOPO_ROLE = 1 ∧ ¬r.started ∧ ¬s.getB R.LK_TOPO_ROLE_CONFLICT ∧
        (both ∨ (one ∧ r.firstUp.getD 0 + msSub 1 ≤ s.now .lotik)) then
      s.enumBegin
    else s)

/-- An ENUM count comes back to HEAD (R68): RING_SIZE upward and 0 downward end enumeration, anything else is an error, after which HEAD
hands out no numbers. -/
def State.enumBack (s : State) (token : BitVec 6) (down : Bool) : State :=
  -- The counts come back to HEAD as RING_SIZE and 0.
  let size := s.get R.LK_RING_STAT_RING_SIZE + 1
  let want := if down then 0 else size
  let ok := token.toNat == want
  let s := s.put R.LK_RING_STAT_ENUM (if ok && s.get R.LK_RING_STAT_ENUM != 2 then 1 else 2)
  let s := s.setRing { s.lk.ring with portValid := s.lk.ring.portValid && s.get R.LK_RING_STAT_ENUM == 1 }
  if ok then s else s.logChange .lotik 1 R.LK_RING_STAT_ENUM 4

/-- An ENUM count passes a die (R68): it goes on, one more upward and one less downward; the first gives the die its number, but for one that
has reported ISOLATED. -/
def State.enumTake (s : State) (r : RingPort) (token : BitVec 6) (down : Bool) : State :=
  let rg := s.lk.ring
  let role := s.get R.LK_TOPO_ROLE
  let s := if s.get R.LK_RING_STAT_ENUM = 3 then s
    else if rg.dieValid then
      if token.toNat = rg.die.toNat then s
      else (s.put R.LK_RING_STAT_ENUM 2).logChange .lotik 1 R.LK_RING_STAT_ENUM 4
    else
      let s := s.setRing { s.lk.ring with die := BitVec.ofNat 5 token.toNat, dieValid := true, started := true,
                                          altDie := if role = 2 then BitVec.ofNat 5 token.toNat else s.lk.ring.altDie }
      (s.put R.LK_RING_STAT_ENUM 1).formUa
  s.ringPass r 0 0x3F (.enum (if down then token - 1 else token + 1) down)

/-- RING_ENUM_SYMBOL (R15, R68). `conflict`: another die is seen to claim this die's role of HEAD or ALT_HEAD. -/
def execRingEnumSymbol (r : RingPort) (token : BitVec 6) (down : Bool) (conflict : Bool) (crcOk : Bool) (s : State) : Res :=
  finish (
    if !crcOk then s.ringBad r else
    let s := s.ringGood r
    let role := s.get R.LK_TOPO_ROLE
    if conflict ∧ role ≠ 0 then (s.put R.LK_TOPO_ROLE_CONFLICT 1).logChange .lotik 1 R.LK_TOPO_ROLE_CONFLICT 4
    else if s.getB R.LK_TOPO_ROLE_CONFLICT then s
    else if role = 1 then
      s.enumBack token down
    else
      s.enumTake r token down)

/-- RING_ENUM_TIMEOUT (R68): no token within 10 ms. -/
def execRingEnumTimeout (s : State) : Res :=
  .next (
    if s.get R.LK_TOPO_ROLE ≠ 1 ∧ ¬s.lk.ring.dieValid ∧ s.lk.ring.startAt + msSub 10 ≤ s.now .lotik then
      (s.put R.LK_RING_STAT_ENUM 3).logChange .lotik 1 R.LK_RING_STAT_ENUM 4
    else s)

/-- Send the frames held for a die that is awake (R67). -/
def State.releaseData (s : State) (die : BitVec 5) : State :=
  let mine := s.lk.ring.held.filter (fun h => h.dst == die)
  let s := s.setRing { s.lk.ring with held := s.lk.ring.held.filter (fun h => h.dst != die) }
  mine.foldl (fun s h => s.ringFrame (s.ringToward die.toNat) (BitVec.ofNat 6 die.toNat) h.out) s

/-- A good STATUS symbol (R67, R69, R73). -/
def State.takeStatus (s : State) (r : RingPort) (src : BitVec 5) (errPs : BitVec 24) (utcOffset : BitVec 16) (utcValid : Bool) (pod port : BitVec 6) (portValid chain awake : Bool)
    (master : BitVec 5) (masterState : BitVec 3) (holdEst : BitVec 24) : State :=
  if s.ownSymbol src then s else
  let s := s.ringPass r src 0x3F (.status errPs utcOffset utcValid pod port portValid chain awake master masterState holdEst)
  let others := s.lk.ring.chains.filter (fun x => x != src.toNat)
  let s := s.setRing { s.lk.ring with awake := smPut false s.lk.ring.awake src.toNat awake,
                                      chains := if chain then src.toNat :: others else others }
  let s := if awake then s.releaseData src else s
  let s := s.showChain
  -- A head's STATUS is the one sign of life a head gives to all: what its T-link is may have changed since the last (R26).
  let s := s.doIf (src == 0 || src == s.lk.ring.altDie) (fun s => s.drawLinks.pathUpdate false false)
  let s := if master ≠ 0 then s.setRing { s.lk.ring with altDie := master } else s
  let s := if src = s.lk.ring.master ∧ ¬s.isRingMaster then
      let s := s.setRing { s.lk.ring with masterErr := errPs, masterState := masterState, masterHold := holdEst }
      let s := (s.put (R.TIME_UTC_UTC_OFFSET .lotik) utcOffset.toNat).putB (R.TIME_UTC_UTC_VALID .lotik) utcValid
      ((s.showMaster (if src = 0 then 1 else 2)).showEst .lotik).showState .lotik
    else s
  if src = 0 ∧ portValid ∧ s.get R.LK_TOPO_ROLE ≠ 1 ∧ ¬s.lk.ring.portValid then
    let s := (s.setRing { s.lk.ring with pod := pod, port := port, portValid := true }).formUa
    match s.lk.ring.altPort with
    | none => s
    | some q =>
      if q ≠ port ∧ s.get R.LK_TOPO_ROLE = 2 ∧ s.inService .tlink then s.portHold .tlink 2 else s
  else s

/-- RING_STATUS_RX (R16, R64, R67, R69, R94). -/
def execRingStatusRx (r : RingPort) (src : BitVec 5) (errPs : BitVec 24) (utcOffset : BitVec 16) (utcValid : Bool)
    (pod port : BitVec 6) (portValid chain awake : Bool) (master : BitVec 5) (masterState : BitVec 3) (holdEst : BitVec 24)
    (crcOk : Bool) (s : State) : Res :=
  finish (
    if !crcOk then s.ringBad r else
    let s := s.ringGood r
    s.takeStatus r src errPs utcOffset utcValid pod port portValid chain awake master masterState holdEst)

/-- HANDOVER_RX (R66): the new master and its effective tick are recorded. -/
def execHandoverRx (r : RingPort) (src : BitVec 5) (ticks : BitVec 40) (master : BitVec 5) (crcOk : Bool) (s : State) : Res :=
  finish (
    if !crcOk then s.ringBad r else
    let s := (s.ringGood r).ringPass r src 0x3F (.handover ticks master)
    s.setRing { s.lk.ring with
      handover := some (extendTicks (s.clk .lotik).ticks.toNat ticks.toNat, master),
      altDie := if master = 0 then s.lk.ring.altDie else master })

/-- This die becomes ring time master (R66). -/
def State.masterHere (s : State) : State :=
  let s := s.becomeMaster.pathUpdate false false
  if s.portQualifies .tlink then s else (s.put R.LK_TOPO_MASTER 0).loseParent .lotik

/-- HANDOVER_EFFECTIVE (R66): at the effective tick the new master sources the clock and the TIME symbols; DISC does not change. -/
def execHandoverEffective (s : State) : Res :=
  finish (
    match s.lk.ring.handover with
    | none => s
    | some (t, m) =>
      if (s.clk .lotik).ticks.toNat < t then s
      else if m = s.lk.ring.die ∧ s.lk.ring.dieValid then
        s.masterHere
      else
        s.masterThere m)

/-- RING_MASTER_SILENT (R49, R66, R73): no TIME symbol for 3 µs. The head that is not the silent master takes over at the next multiple
of 100 ticks: HEAD for ALT_HEAD, ALT_HEAD for HEAD (DESIGN CHOICE where neither qualifies, notes/assumptions/115). Another die that
has heard none for 5 µs, which is as long as the Spring domain holds its clock, is cut off from it. -/
def execRingMasterSilent (s : State) : Res :=
  finish (
    match s.lk.ring.lastTime with
    | none => s
    | some t =>
      let role := s.get R.LK_TOPO_ROLE
      let mine := (role = 1 ∧ s.lk.ring.master ≠ 0) ∨ (role = 2 ∧ s.lk.ring.master = 0)
      if s.now .lotik < t + usSub 3 ∨ s.isRingMaster ∨ s.lk.ring.handover.isSome then s
      else
      let s := s.ringMode false
      if mine then
        let k := ((s.clk .lotik).ticks.toNat / 100 + 1) * 100
        s.setRing { s.lk.ring with handover := some (k, s.lk.ring.die) }
      else if t + usSub 5 ≤ s.now .lotik ∧ (s.clk .lotik).own ≠ 5 then s.cutFromClock
      else s)

/-- WAKE (R67): a WAKE symbol for this die starts its timing core and logic, and it answers with STATUS; another is passed on. -/
def execWake (r : RingPort) (src : BitVec 5) (dst : BitVec 6) (reason : BitVec 4) (crcOk : Bool) (s : State) : Res :=
  finish (
    if !crcOk then s.ringBad r else
    let s := s.ringGood r
    let mine := dst == 0x3F || (s.lk.ring.dieValid && dst.toNat == s.lk.ring.die.toNat)
    let s := if dst = 0x3F ∨ !mine then s.ringPass r src dst (.wake reason) else s
    if mine then (if s.getB R.LK_PWR_LOGIC_AWAKE then s.wakeTc.sendStatus else s.wakeAll) else s)

/-- A DATA symbol with a good CRC (R64, R199): for another die it is passed on, for every die it is passed on as far as it goes; what a
whole frame does at its own die is the command of that frame. -/
def State.ringDataIn (s : State) (r : RingPort) (x : RingSymbol) : State :=
  let mine := s.lk.ring.dieValid && x.dst.toNat == s.lk.ring.die.toNat
  if mine then s
  else if x.dst = 0x3F ∧ !s.goesOn r x.src then s
  else s.ringPass r x.src x.dst x.body

/-- The replay of a DATA symbol (R64): `k` counts back from the last one sent on the hop. -/
def State.ringReplay (s : State) (r : RingPort) (k : Nat) : State :=
  match (s.hop r).replay[k]? with
  | none => s
  | some (p, d) =>
    (s.emit (ringOut r { ccw := r == .w, src := s.lk.ring.die, dst := d, body := .data p })).bumpSat R.LK_RING_CNT_REPLAY

/-- RING_DATA_RX (R64): a whole symbol word arrives that carries part of a T-frame, or is damaged or of a reserved TYPE: those are
discarded and counted, a DATA symbol then being asked for again. `nak` asks this die to replay one of its own last 64; how a negative
acknowledgement names its symbol the spec does not say (notes/assumptions/116). -/
def execRingDataRx (r : RingPort) (kind : BitVec 5) (ends : BitVec 11) (body : BitVec 96) (crc : BitVec 16) (nak : Option (BitVec 6))
    (s : State) : Res :=
  finish (
    let sym := ringWord kind ends body crc
    match nak with
    | some k => s.ringReplay r k.toNat
    | none =>
      if !symbolOk sym then (s.ringBad r).emit (.pin "RING_NAK" (match r with | .e => 0 | .w => 1))
      else
        let s := s.ringGood r
        match symbolOf sym with
        | none => s.bumpSat R.LK_RING_CNT_CRC_ERR
        | some x =>
          match x.body with
          | .data _ => s.ringDataIn r x
          | _ => s)

/-- RING_CLOCK_TIMEOUT (R63): no clock at ALT_HEAD 1 ms after reset. -/
def execRingClockTimeout (s : State) : Res :=
  .next (
    if s.get R.LK_TOPO_ROLE = 2 ∧ s.lk.ring.lastTime = none ∧ ¬s.lk.ring.sources ∧ s.lk.ring.startAt + msSub 1 ≤ s.now .lotik then
      s.setRing { s.lk.ring with sources := true }
    else s)

/-- RING_HOP_OPEN (R73): a hop is declared open with a code of R70, 0 for missed echoes or bad CRCs. -/
def execRingHopOpen (r : RingPort) (code : BitVec 4) (s : State) : Res := finish (s.hopOpen r code.toNat)

/-- A hop begins to train, at start-up or after an open (R73, R76). -/
def State.hopTrain (s : State) (r : RingPort) : State :=
  ((s.put (ringStateField r) 1).put (ringFaultField r) 0).logChange .lotik 1 (ringStateField r)

/-- A hop has trained and is UP (R73, R76); RING_CHAIN clears once no hop of the ring is open. -/
def State.hopTrained (s : State) (r : RingPort) : State :=
  let s := s.put (ringStateField r) 2
  let s := s.setHop r { s.hop r with missed := 0, badCrc := 0, echoAt := none }
  let s := s.setRing { s.lk.ring with firstUp := some (s.lk.ring.firstUp.getD (s.now .lotik)) }
  ((s.showChain.sendStatus).logChange .lotik 1 (ringStateField r)).hopChanged

/-- RING_HOP_CLOSE (R68, R73, R76): a hop that comes up is TRAINING, and once it has trained, at the next such event, UP (DESIGN CHOICE,
notes/assumptions/144). -/
def execRingHopClose (r : RingPort) (s : State) : Res :=
  finish (if s.ringUp r then s else if s.get (ringStateField r) = 1 then s.hopTrained r else s.hopTrain r)

end Sys2Proof.Machine
end

