-- ==== Sys2Proof/Machine/GroupCmd.lean ====
section
/-! DEFINITION. The group messages as they arrive (R202), the group timers, the queues' commands and the group commands (R215, R235). -/

namespace Sys2Proof.Machine

open Sys2Proof

/-- A group message of a KIND arrives by a way; one whose KIND is reserved is none of them (R202). -/
def State.grpRx (s : State) (p : Path) (m : GroupMsg) (kind : Nat) : State :=
  s.treeRx p (.grp { m with kind := if 0x2C ≤ m.kind.toNat then m.kind else BitVec.ofNat 8 kind })

/-- ARRIVE (R198, R199): counted at a head, a Verard or a ring member, and passed on or completed. -/
def execArriveRx (p : Path) (m : GroupMsg) (s : State) : Res := finish (s.grpRx p m 0x20)

/-- PARTIAL (R225): checked and combined into the Basin entry, then passed on or finished. -/
def execPartialRx (p : Path) (m : GroupMsg) (s : State) : Res := finish (s.grpRx p m 0x21)

/-- COMPLETE (R189): passed down, or given to a member's queue, gate or linked object. -/
def execCompleteRx (p : Path) (m : GroupMsg) (s : State) : Res := finish (s.grpRx p m 0x22)

/-- RESULT (R231): passed down, or written to a member's completion entry. -/
def execResultRx (p : Path) (m : GroupMsg) (s : State) : Res := finish (s.grpRx p m 0x23)

/-- FAULT (R208): reaches TOP or members, and the operation ends with GROUP_FAULT. -/
def execFaultRx (p : Path) (m : GroupMsg) (s : State) : Res := finish (s.grpRx p m 0x24)

/-- PATH (R188): makes a Verard port group-active for the package. -/
def execPathRx (p : Path) (m : GroupMsg) (s : State) : Res := finish (s.grpRx p m 0x25)

/-- BIND (R190): a node takes its role and reservations, and answers. -/
def execBind (p : Path) (m : GroupMsg) (s : State) : Res := finish (s.grpRx p m 0x26)

/-- BIND_ACK (R190): gathered toward TOP. -/
def execBindAck (p : Path) (m : GroupMsg) (s : State) : Res := finish (s.grpRx p m 0x27)

/-- RENEW (R192): a node ends the group's operations and adopts the new generation. -/
def execRenewRx (p : Path) (m : GroupMsg) (s : State) : Res := finish (s.grpRx p m 0x29)

/-- UNBIND (R191): a node releases a failed SEAL's reservations. -/
def execUnbind (p : Path) (m : GroupMsg) (s : State) : Res := finish (s.grpRx p m 0x2A)

/-- CREDIT (R204): credits of classes 1 to 4 come back from a port's far end, or from a die of the ring; a damaged
message or symbol is discarded and counted. -/
def execCreditRx (p : Path) (die : Option (BitVec 5)) (control up down mgmt : BitVec 16) (s : State) : Res :=
  finish (
    if !s.pathUp p then s
    else match die with
    | none => (match p with | .ring r => s.ringBad r | _ => s.frameDrop p)
    | some die =>
      let counts := [control.toNat, up.toNat, down.toNat, mgmt.toNat]
      match p with
      | .port q => s.giveCredit q.dev q.idx counts
      | .ring _ => s.giveCredit .lotik (ringPeer die.toNat) counts
      | .host _ => s)

/-- OP_LIMIT_TIMEOUT (R208): OP_LIMIT after a slot's first arrival. -/
def execOpLimitTimeout (d : Dev) (s : State) : Res := finish (s.opLimit d)

/-- SEAL_TIMEOUT (R191): 10 ms after a SEAL was sent. -/
def execSealTimeout (d : Dev) (s : State) : Res := finish (s.roundTimeout d true)

/-- RENEW_TIMEOUT (R192): 10 ms after TOP sent a RENEW or DELETE. -/
def execRenewTimeout (d : Dev) (s : State) : Res := finish (s.roundTimeout d false)

/-- CREDIT_STALL (R204). -/
def execCreditStall (d : Dev) (s : State) : Res := finish (s.creditStall d)

-- A queue's registers (R211).

/-- Word k of a queue's descriptor. -/
def State.queueWord (s : State) (n k : Nat) : Nat :=
  let q := s.queue n
  match k with
  | 0 => b2n q.enable + 2 * b2n q.irqEn + 4 * q.sqLog2 + 64 * q.cqLog2
  | 1 => q.gid + q.gen * 2 ^ 18
  | 2 => q.sq % 2 ^ 32
  | 3 => q.sq / 2 ^ 32
  | 4 => q.cq % 2 ^ 32
  | 5 => q.cq / 2 ^ 32
  | 6 => q.sqTail
  | 7 => q.sqHead
  | 8 => q.cqTail + 4096 * b2n q.cqPhase
  | 9 => q.cqHead
  | 10 => q.state + 4 * min 4 q.ops.length + 32 * q.depth + 256 * b2n q.cqWait
  | 11 => q.next.toNat + 65536 * q.done.toNat
  | 12 => q.faultCause + 256 * q.faultUa
  | 13 => min q.completed 65535 + 65536 * min q.faulted 65535
  | _ => 0

/-- A write of SQ_TAIL: the doorbell (R196). -/
def State.sqTailWrite (s : State) (n v : Nat) : State := (s.setQueue n { s.queue n with sqTail := v % 4096 }).pumpQueue n

/-- A write to word k of a queue's descriptor (R193, R211): the configuration, group and rings only while ENABLE is 0. -/
def State.queueWrite (s : State) (n k v : Nat) : State :=
  let q := s.queue n
  let low (a : Nat) : Nat := a / 2 ^ 32 * 2 ^ 32 + v / 256 * 256
  let high (a : Nat) : Nat := v * 2 ^ 32 + a % 2 ^ 32
  match k with
  | 0 => s.queueCfg n v
  | 6 => s.sqTailWrite n v
  | 9 => s.cqHeadWrite n v
  | _ =>
    if q.enable then s else
    match k with
    | 1 => s.setQueue n { q with gid := v % 2 ^ 18, gen := v / 2 ^ 18 }
    | 2 => s.setQueue n { q with sq := low q.sq }
    | 3 => s.setQueue n { q with sq := high q.sq }
    | 4 => s.setQueue n { q with cq := low q.cq }
    | 5 => s.setQueue n { q with cq := high q.cq }
    | _ => s

/-- SQ_DOORBELL (R196). -/
def execSqDoorbell (q : BitVec 12) (v : Word) (s : State) : Res :=
  finish (s.viaBus 0 (0x80018 + 0x40 * q.toNat) (fun s => (s.sqTailWrite q.toNat v.toNat)))

/-- SUBMISSION_FETCHED (R195): the 256 bytes that the host's memory returned, or an error. -/
def execSubmissionFetched (q : BitVec 12) (ok : Bool) (entry : List Byte) (s : State) : Res := finish (s.fetched q.toNat ok entry)

/-- CQ_HEAD_WRITE (R196). -/
def execCqHeadWrite (q : BitVec 12) (v : Word) (s : State) : Res :=
  finish (s.viaBus 0 (0x80024 + 0x40 * q.toNat) (fun s => (s.cqHeadWrite q.toNat v.toNat)))

/-- GQ_ENABLE_WRITE (R193, R209): a write of a queue's configuration. -/
def execGqEnableWrite (q : BitVec 12) (v : Word) (s : State) : Res :=
  finish (s.viaBus 0 (0x80000 + 0x40 * q.toNat) (fun s => (s.queueCfg q.toNat v.toNat)))

-- Commands (R215, R235).

/-- GROUP_CREATE (R190, R215). -/
def execGroupCreate (c : CmdCtx) (gid : BitVec 24) (scope acc maxElems depth : Byte) (limitMs : BitVec 16) (s : State) : Res :=
  finish (s.groupCreate c gid.toNat scope.toNat acc.toNat maxElems.toNat depth.toNat limitMs.toNat)

/-- GROUP_ADD (R190, R215). -/
def execGroupAdd (c : CmdCtx) (gid : BitVec 24) (gen : BitVec 16) (entries : List DWord) (s : State) : Res :=
  finish (s.groupAdd c gid.toNat gen.toNat entries)

/-- GROUP_SEAL (R191, R215). -/
def execGroupSeal (c : CmdCtx) (gid : BitVec 24) (gen : BitVec 16) (s : State) : Res := finish (s.groupSeal c gid.toNat gen.toNat)

/-- GROUP_RENEW (R192, R215). -/
def execGroupRenew (c : CmdCtx) (gid : BitVec 24) (gen : BitVec 16) (s : State) : Res := finish (s.groupRenew c gid.toNat gen.toNat false)

/-- GROUP_DELETE (R192, R215). -/
def execGroupDelete (c : CmdCtx) (gid : BitVec 24) (gen : BitVec 16) (s : State) : Res := finish (s.groupRenew c gid.toNat gen.toNat true)

/-- GROUP_STATUS (R215). -/
def execGroupStatus (c : CmdCtx) (gid : BitVec 24) (s : State) : Res := finish (s.groupStatus c gid.toNat)

/-- GQ_BIND (R193, R215): a free queue's descriptor is written, and ENABLE is set where neither ring size nor another queue forbids it
(notes/assumptions/108). -/
def State.gqBind (s : State) (c : CmdCtx) (n : Nat) (gid : BitVec 24) (gen : BitVec 16) (sq : DWord) (sqLog2 : Byte) (cq : DWord) (cqLog2 irqEn : Byte) : State :=
  let t := s.setQueue n { s.queue n with irqEn := irqEn == 1, sqLog2 := sqLog2.toNat % 16, cqLog2 := cqLog2.toNat % 16, gid := gid.toNat,
                                         gen := gen.toNat, sq := sq.toNat, cq := cq.toNat }
  if sqLog2.toNat < 1 ∨ 12 < sqLog2.toNat ∨ cqLog2.toNat < 1 ∨ 12 < cqLog2.toNat then (t.queueErr n 2).answer c 0x46 0x11 else
  let q := t.enableQueue n
  let t := q.1
  let st := q.2
  let t := t.answer c 0x46 st
  if st = 0 then t.logCommand c 0x46 0 else t

/-- GQ_BIND (R193, R215, R332). -/
def execGqBind (c : CmdCtx) (queue : BitVec 16) (gid : BitVec 24) (gen : BitVec 16) (sq : DWord) (sqLog2 : Byte) (cq : DWord)
    (cqLog2 irqEn : Byte) (s : State) : Res :=
  finish (
    let n := queue.toNat
    if c.dev = .verard then s.answer c 0x46 0x10
    else if s.expelled then s.answer c 0x46 0x31
    else if 4096 ≤ n ∨ sq.toNat % 256 ≠ 0 ∨ cq.toNat % 256 ≠ 0 ∨ 2 ^ 18 ≤ gid.toNat ∨ 2 ^ 14 ≤ gen.toNat ∨ 1 < irqEn.toNat then s.answer c 0x46 0x11
    else if (s.queue n).enable then s.answer c 0x46 0x30
    else
      s.gqBind c n gid gen sq sqLog2 cq cqLog2 irqEn)

/-- GQ_UNBIND (R209, R215). -/
def execGqUnbind (c : CmdCtx) (queue : BitVec 16) (s : State) : Res :=
  finish (
    let n := queue.toNat
    if c.dev = .verard then s.answer c 0x47 0x10
    else if 4096 ≤ n then s.answer c 0x47 0x11
    else
      let live := ((s.queue n).ops.filter (fun o => o.res.isNone)).length
      let s := if (s.queue n).enable then s.disableQueue n else s
      (s.answer c 0x47 0 (leBytes 1 live)).logCommand c 0x47 0)

/-- GQ_STATUS (R215). -/
def execGqStatus (c : CmdCtx) (queue : BitVec 16) (s : State) : Res :=
  finish (
    let n := queue.toNat
    if c.dev = .verard then s.answer c 0x48 0x10
    else if 4096 ≤ n then s.answer c 0x48 0x11
    else (s.answer c 0x48 0 (([1, 10, 11, 12] : List Nat).flatMap (fun k => leBytes 4 (s.queueWord n k)))).logCommand c 0x48 0)

/-- The units that one slot's entry takes (R233). -/
def GroupRec.entryUnits (g : GroupRec) : Nat := if g.depth = 0 then 0 else g.basin / g.depth

/-- GROUP_BASIN (R235): where a slot's entry lies and what it holds. -/
def State.groupBasin (s : State) (c : CmdCtx) (gid : BitVec 24) (slot : Byte) : State :=
  let g := s.group .verard gid.toNat
  let x : OpSlot := smGet {} g.slots slot.toNat
  (s.answer c 0x49 0 (leBytes 3 (g.basinAt + (if x.busy then x.entry else slot.toNat % g.depth) * g.entryUnits) ++ leBytes 2 g.entryUnits ++
    leBytes 2 x.oseq.toNat ++ leBytes 2 x.cover ++ leBytes 1 (opClass x.op x.ty))).logCommand c 0x49 0

/-- GROUP_BASIN (R235): where a slot's entry lies. -/
def execGroupBasin (c : CmdCtx) (gid : BitVec 24) (slot : Byte) (s : State) : Res :=
  finish (
    if c.dev = .lotik then s.answer c 0x49 0x10 else
    let g := s.group .verard gid.toNat
    if 3 < slot.toNat ∨ 2 ^ 18 ≤ gid.toNat ∨ g.basin = 0 then s.answer c 0x49 0x11
    else
      s.groupBasin c gid slot)

end Sys2Proof.Machine
end

