-- ==== Sys2Proof/Machine/SecCmd.lean ====
section
/-! DEFINITION. Sessions, certificates, stamps, the life cycle and key slots by command (R372 to R376, R391, R397 to R407, R416). -/

namespace Sys2Proof.Machine

open Sys2Proof

/-- The key bound as a KEY_INDEX (R399); nothing where none is bound. -/
def Sec.sessionKey (x : Sec) (ix : Nat) : List Byte :=
  if ix = 0 then Config.makerKey else if ix ≤ 7 then (x.slot ix).2 else []

/-- A SESSION_ID that no session of the part has (R372): a free value, non-zero with bit 31 at 0 (notes/assumptions/1). -/
def freshId (used : List Nat) : Nat → Nat → Nat
  | 0, v => v % (2 ^ 31 - 1) + 1
  | n + 1, v => if used.contains (v % (2 ^ 31 - 1) + 1) then freshId used n (v + 1) else v % (2 ^ 31 - 1) + 1

/-- The salts of a session (R400). -/
def sessionSalts (a b : BitVec 32) : BitVec 32 × BitVec 32 :=
  let si := a &&& 0x7FFFFFFF
  let sd := b &&& 0x7FFFFFFF
  (si, if sd = si then sd ^^^ 0x40000000 else sd)

/-- How many sessions a part holds (R376). -/
def sessionCap : Dev → Nat
  | .lotik => 8
  | .verard => 64

/-- Count an answer of LIFECYCLE_DENIED or NOT_PERMITTED that a command's own checks give (R415). -/
def State.countDenied (s : State) (d : Dev) (st : Nat) : State := s.doIf (st == 0x22 || st == 0x24) (·.bumpSat (R.SEC_CNT_DENIED d))

/-- A command's own refusal of its caller. -/
def State.notPermitted (s : State) (c : CmdCtx) (op : Byte) : State := (s.countDenied c.dev 0x24).answer c op 0x24

/-- A SESSION_OPEN that is refused: a status word (R372). -/
def State.refuseOpen (s : State) (c : CmdCtx) (st : Nat) : State := (s.countDenied c.dev st).sendAnswer c 3 0x90 (statusWord st)

/-- Open a session (R372, R399 to R401). -/
def State.openSession (s : State) (c : CmdCtx) (ix : Nat) (pay : List Byte) : State :=
  let d := c.dev
  let p := s.cmd d
  let eI := (pay.drop 4).take 97
  let nI := (pay.drop 101).take 32
  let used := p.sessions.map (fun x => x.id.toNat)
  let sid := freshId used used.length s.freeW
  let s := s.drawn
  let eD := padTo 97 (Config.ephemeral p.draws)
  let nD := padTo 32 (Config.freeBytes s.free)
  let s := s.drawn
  let (k, a, b) := deriveKey (Config.ecdhShared p.draws eI) 0x53 nI nD (leBytes 4 sid)
  let (si, sd) := sessionSalts a b
  let body := statusWord 0 ++ leBytes 4 sid ++ eD ++ nD
  let sig := padTo 96 (Config.ecdsaSign d (pay.take 133 ++ body))
  let x : Session := { id := BitVec.ofNat 32 sid, key := k, saltIn := si, saltOut := sd, lastAuth := s.now d, keyIndex := ix }
  let s := s.setCmd d { s.cmd d with sessions := p.sessions ++ [x], draws := p.draws + 1 }
  (s.showSessions d).sendAnswer c 3 0x90 (body ++ sig)

/-- SESSION_OPEN (R372, R401, R404): `loc` is local ingress; `hdr` the header's bytes. -/
def execSessionOpen (c : CmdCtx) (loc : Bool) (hdr pay : List Byte) (s : State) : Res :=
  finish (
    let d := c.dev
    let x := s.sec d
    let ix := (pay.headD 0).toNat
    let sig := pay.drop 133
    if !s.openAllows d loc ix then s.refuseOpen c 0x22
    else if pay.length ≠ 229 then s.refuseOpen c 0x12
    else if (ix ≠ 0xFF ∧ x.sessionKey ix = []) ∨ !Config.onCurve ((pay.drop 4).take 97) then s.refuseOpen c 0x11
    else if !(if ix = 0xFF then sig == List.replicate 96 0 else Config.ecdsaVerify (x.sessionKey ix) (hdr.take 20 ++ pay.take 133) sig) then
      (s.logKind d 0x0D03 3 [0, 0, 0, 0, 2]).refuseOpen c 0x20
    else if sessionCap d ≤ ((s.cmd d).sessions.filter (fun y => !y.group)).length then s.refuseOpen c 0x31
    else s.openSession c ix pay)

/-- SESSION_CLOSE (R375, R376): the session ends once its reply has been sent. -/
def execSessionClose (c : CmdCtx) (s : State) : Res :=
  finish (((s.answer c 0x91 0).logCommand c 0x91 0).endSessions c.dev (fun x => x.id == c.session))

/-- GROUP_SESSION (R375): the session is held. -/
def State.groupSession (s : State) (c : CmdCtx) (by_ : Session) (others : List Session) (gid : BitVec 24) (gen : BitVec 16) (id : Word) (key : List Byte) (salt : Word) : State :=
  let x : Session := { id := id, group := true, key := key, saltIn := salt, lastAuth := s.now .lotik, keyIndex := by_.keyIndex,
                       gid := BitVec.ofNat 18 gid.toNat, gen := BitVec.ofNat 14 gen.toNat }
  let s := s.setCmd .lotik { s.cmd .lotik with sessions := others ++ [x] }
  ((s.showSessions .lotik).answer c 0x92 0).logCommand c 0x92 0

/-- GROUP_SESSION (R375, R391). -/
def execGroupSession (c : CmdCtx) (gid : BitVec 24) (gen : BitVec 16) (id : Word) (key : List Byte) (salt : Word) (s : State) : Res :=
  finish (
    let xs := (s.cmd .lotik).sessions
    let others := xs.filter (fun x => x.id != id)
    if c.dev = .verard then s.answer c 0x92 0x10
    else if !id.getLsbD 31 ∨ salt.toNat / 2 ^ 20 = 0xFFF ∨ 2 ^ 18 ≤ gid.toNat then s.answer c 0x92 0x11
    else match s.session .lotik c.session with
      | none => s
      | some by_ =>
        if by_.group then s.notPermitted c 0x92
        else if !s.lk.queues.any (fun q => q.2.enable && q.2.gid == gid.toNat && q.2.gen == gen.toNat) then s.answer c 0x92 0x50
        else if 8 ≤ (others.filter (fun x => x.group)).length then s.answer c 0x92 0x31
        else
          s.groupSession c by_ others gid gen id key salt)

/-- Hall time as a command reads it, at the start of its execution (R391, R402): the packed instant, fine with FINE and on Verard always
(R39). A fine reading wakes Lotik's timing core; one that finds it asleep is stamped once the core is ready, within 1.5 µs (R40), and how
long that takes is a free value too (notes/assumptions/145). -/
def State.readTime (s : State) (d : Dev) (fine : Bool) : State × List Byte :=
  if fine || d == .verard then
    let asleep := d == .lotik && !s.getB R.LK_PWR_TC_AWAKE
    let wait := if asleep then s.freeW / 2560 % (usSub 3 / 2) else 0
    ((s.doIf (d == .lotik) State.wakeTc).drawn, packedBytes (s.wrap d) (s.fineNow d + wait))
  else (s, packedBytes (s.wrap d) (s.now d))

/-- TIME_READ (R391). -/
def execTimeRead (c : CmdCtx) (fine : Byte) (s : State) : Res :=
  finish (
    if 1 < fine.toNat then s.answer c 0x10 0x11
    else
      let d := c.dev
      let rest := leBytes 2 (s.clk d).disc.toNat ++ leBytes 3 (s.errPs d) ++ leBytes 1 (s.get (R.TIME_STAT_STATE d))
      let q := s.readTime d (fine == 1)
      let s := q.1
      let t := q.2
      s.answer c 0x10 0 (t ++ rest))

/-- ID_CERT (R398, R416). -/
def execIdCert (c : CmdCtx) (install : List Byte) (s : State) : Res :=
  finish (
    let d := c.dev
    let x := s.sec d
    if install = [] then
      -- Blank storage gives what it holds.
      if x.certs = [] then (s.drawn).answer c 0x93 0 (padTo 512 (Config.freeBytes s.free)) else s.answer c 0x93 0 x.certs
    else if install.length ≠ 512 then s.answer c 0x93 0x12
    else if x.idKey = [] ∨ (install.drop 12).take 97 ≠ x.idKey then s.answer c 0x93 0x11
    else ((s.setSec d { x with certs := install }).showSec d).answer c 0x93 0 install)

/-- SIGN_STAMP (R402): the record is taken now, and waits for the signing engine. -/
def State.stampQueue (s : State) (c : CmdCtx) (digest : List Byte) (fine : Byte) : State :=
  let d := c.dev
  let valid := match d with | .lotik => s.getB R.LK_TOPO_UA_VALID | .verard => s.getB R.VD_TOPO_UA_VALID
  let det := d == .lotik && s.getB R.LK_DET_STAT_DETMODE
  let q := s.readTime d (fine == 1)
  let s' := q.1
  let t := q.2
  let body :=
    [1, BitVec.ofNat 8 (s.get (R.TIME_STAT_STATE d))] ++ leBytes 3 (if valid then s.ua d else 0) ++ leBytes 1 (s.sec d).lc ++
    leBytes 2 (s.clk d).disc.toNat ++ t ++ leBytes 3 (s.errPs d) ++
    [BitVec.ofNat 8 (fine.toNat + 2 * b2n (s.wrap d) + 4 * b2n det)] ++ leBytes 8 (s.stepCount d) ++ padTo 16 digest ++
    leBytes 8 (Config.serial d).toNat
  s'.setSecRun d { s'.secRun d with stamps := (s'.secRun d).stamps ++ [(c, body)] }

/-- SIGN_STAMP (R402): the record is taken now, and queued for the signing engine. -/
def execSignStamp (c : CmdCtx) (digest : List Byte) (fine : Byte) (s : State) : Res :=
  finish (
    let d := c.dev
    if 1 < fine.toNat then s.answer c 0x94 0x11
    else if 8 ≤ (s.secRun d).stamps.length then s.answer c 0x94 0x30
    else
      s.stampQueue c digest fine)

/-- STAMP_SIGNED (R402): the oldest record gets its number, the count of the stamps signed before it, and its signature. -/
def execStampSigned (d : Dev) (s : State) : Res :=
  finish (
    let r := s.secRun d
    match r.stamps with
    | [] => s
    | (c, body) :: rest =>
      let body := body ++ leBytes 4 r.stamped ++ [0, 0, 0, 0]
      let s := s.setSecRun d { r with stamps := rest, stamped := r.stamped + 1 }
      (s.put (R.SEC_CNT_STAMPS d) (r.stamped + 1)).answer c 0x94 0 (body ++ padTo 96 (Config.ecdsaSign d body)))

/-- LC_STATUS (R407, R416): a new challenge, which voids the one before. -/
def execLcStatus (c : CmdCtx) (s : State) : Res :=
  finish (
    let d := c.dev
    let ch := padTo 32 (Config.freeBytes s.free)
    let s := (s.drawn).setSecRun d { s.secRun d with challenge := ch }
    let w := s.word d.sp d.secBase
    s.answer c 0x95 0 ([BitVec.ofNat 8 (bits w 0 3), BitVec.ofNat 8 (bits w 3 4), BitVec.ofNat 8 (bits w 7 7), BitVec.ofNat 8 (bits w 15 6)] ++
      leBytes 8 (Config.serial d).toNat ++ ch))

/-- The end of a transition (R406): the wipe, a LC_CHANGE entry first in a wiped Log, the target state, and the restart. -/
def State.lcFinish (s : State) (d : Dev) : State :=
  match (s.sec d).target with
  | none => s
  | some (t, key) =>
    let from_ := (s.sec d).lc
    let s := if wipesLog from_ t then (s.setLog d {}).showLog d else s
    ((s.logKind d 0x0D01 2 [BitVec.ofNat 8 from_, BitVec.ofNat 8 t, BitVec.ofNat 8 key]).lcClose d).restart d

/-- A maker token (R407). -/
def State.takeToken (s : State) (c : CmdCtx) (token : List Byte) : State :=
  let d := c.dev
  let ch := (s.secRun d).challenge
  let ok := token.take 8 == leBytes 8 (Config.serial d).toNat && ch != [] && (token.drop 8).take 32 == ch &&
    Config.ecdsaVerify Config.makerKey (token.take 40) (token.drop 40)
  if ok then
    let s := (s.put (R.SEC_LC_TOKEN_OPEN d) 1).logKind d 0x0D05 2 (ch.take 8)
    let s := s.doIf (d == .verard) State.lightTests
    (s.answer c 0x96 0).logCommand c 0x96 0
  else (s.logKind d 0x0D03 3 (leBytes 4 c.session.toNat ++ [3])).answer c 0x96 0x20

/-- Whether a part is in use (R406): a job slot of Lotik not IDLE; a port of Verard in SERVICE. -/
def State.lcBusy (s : State) : Dev → Bool
  | .lotik => [0, 1].any (fun i => s.slotState i != 0)
  | .verard => vdPorts.any (fun p => s.inService p)

/-- An LC_TRANSITION that may run (R406). -/
def State.lcBegin (s : State) (c : CmdCtx) (t key : Nat) : State :=
  let d := c.dev
  let x := s.sec d
  let s := (s.answer c 0x96 1).logCommand c 0x96 1
  let s := (s.setSec d { s.sec d with used := x.used + 1, target := some (t, key) }).showSec d
  if d = .verard ∧ s.getB R.VD_PROF_CTRL_BUSY then s else s.lcFinish d

/-- LC_TRANSITION (R405 to R407, R425): the transition runs to the restart in this command, or waits for a PROGRAM to end. -/
def execLcTransition (c : CmdCtx) (target force : Byte) (token : List Byte) (s : State) : Res :=
  finish (
    let d := c.dev
    let x := s.sec d
    let t := target.toNat
    let key := match s.session d c.session with | some y => y.keyIndex | none => 0x100
    if token ≠ [] then
      if token.length ≠ 136 then s.answer c 0x96 0x12
      else if t ≠ 3 ∨ x.lc ≠ 3 ∨ 1 < force.toNat then s.answer c 0x96 0x11
      else if key ≠ 0 then s.notPermitted c 0x96
      else s.takeToken c token
    else match lcRow x key t with
      | none => s.answer c 0x96 0x11
      | some (may, met) =>
        if 1 < force.toNat then s.answer c 0x96 0x11
        else if !may then s.notPermitted c 0x96
        else if !met then s.answer c 0x96 0x11
        else if x.target.isSome ∨ (s.lcBusy d ∧ (d = .lotik ∨ force = 0)) then s.answer c 0x96 0x30
        else if 31 ≤ x.used ∧ t ≠ 4 then s.answer c 0x96 0x31
        else
          s.lcBegin c t key)

/-- KEY_BIND (R397, R399, R416). -/
def execKeyBind (c : CmdCtx) (index : Byte) (mask : BitVec 16) (key : List Byte) (s : State) : Res :=
  finish (
    let d := c.dev
    let x := s.sec d
    let ix := index.toNat
    let zero := key.all (fun b => b == 0)
    let bound (s : State) : State := s.logKind d 0x0D02 2 ([index] ++ leBytes 2 mask.toNat ++ [BitVec.ofNat 8 (b2n (!zero || ix == 0xFE))])
    let want := if ix = 0xFE then some 0 else if ix = 0xFD then some 32 else if 1 ≤ ix ∧ ix ≤ 7 then some 97 else none
    match want with
    | none => s.answer c 0x97 0x11
    | some n =>
      if key.length ≠ n then s.answer c 0x97 0x12
      else if ix = 0xFE then
        if x.idKey ≠ [] then s.answer c 0x97 0x11
        else
          let pt := padTo 97 (Config.idPoint d)
          let s := bound ((s.setSec d { x with idKey := pt }).showSec d)
          (s.answer c 0x97 0 pt).logCommand c 0x97 0
      else if ix = 0xFD then
        let s := bound ((s.setSec d { x with profKey := if zero then [] else key }).showSec d)
        (s.answer c 0x97 0).logCommand c 0x97 0
      else if !zero ∧ !Config.onCurve key then s.answer c 0x97 0x11
      else
        let s := bound ((s.setSec d { x with slots := smPut (0, []) x.slots ix (if zero then (0, []) else (mask.toNat, key)) }).showSec d)
        let s := (s.answer c 0x97 0).logCommand c 0x97 0
        s.endSessions d (fun y => y.keyIndex == ix))

end Sys2Proof.Machine
end

