-- ==== Sys2Proof/Machine/Fw.lean ====
section
/-! DEFINITION. Firmware transfers and the profile store (R410, R411, R416, R425). -/

namespace Sys2Proof.Machine

open Sys2Proof

/-- Replace a part's staging bank, and show it. -/
def State.setBank (s : State) (d : Dev) (b : Bank) : State := (s.setSec d ((s.sec d).setStaging b)).showFw d

/-- What FW_BEGIN's completion carries (R410). -/
def Bank.report (b : Bank) : List Byte := leBytes 2 (partCount b.len) ++ leBytes 2 b.parts.length ++ b.bitmap

/-- FW_BEGIN (R410, R416): the same triple resumes; otherwise the staging bank is erased. -/
def execFwBegin (c : CmdCtx) (id len ver : Word) (s : State) : Res :=
  finish (
    let d := c.dev
    let b := (s.sec d).staging
    if len.toNat < 320 ∨ bankBytes d < len.toNat then s.answer c 0xA0 0x11
    else if b.state = 1 then s.answer c 0xA0 0x71
    else if b.state ≠ 0 then
      if b.xfer = id.toNat ∧ b.len = len.toNat ∧ b.ver = ver.toNat then
        (s.accept c 0xA0 1).complete d 0xA0 1 0 b.report true
      else s.answer c 0xA0 0x71
    else (s.accept c 0xA0 0).setBank d { state := 1, xfer := id.toNat, ver := ver.toNat, len := len.toNat })

/-- FW_ERASE_DONE (R410). -/
def execFwEraseDone (d : Dev) (s : State) : Res :=
  finish (
    let b := (s.sec d).staging
    if b.state ≠ 1 then s
    else
      let b := { b with state := 2 }
      (s.setBank d b).complete d 0xA0 0 0 b.report true)

/-- A part enters the bank (R410); with the last one the transfer is STAGED. -/
def State.fwTake (s : State) (d : Dev) (p : Nat) (data : List Byte) : State :=
  let b := ((s.sec d).staging).take p data
  let s := s.setBank d b
  if b.state = 3 then s.logKind d 0x0E01 2 (leBytes 4 b.xfer ++ leBytes 4 b.ver) else s

/-- FW_CHUNK (R410, R416): Lotik holds the part on receipt; Verard programs it first. -/
def execFwChunk (c : CmdCtx) (id : Word) (part : BitVec 16) (data : List Byte) (s : State) : Res :=
  finish (
    let d := c.dev
    let b := (s.sec d).staging
    let p := part.toNat
    if b.state = 1 then s.answer c 0xA1 0x71
    else if b.state = 0 ∨ b.xfer ≠ id.toNat ∨ partCount b.len ≤ p then s.answer c 0xA1 0x72
    else if data.length ≠ partLen b.len p then s.answer c 0xA1 0x12
    else if b.parts.any (fun e => e.1 == p) then s.answer c 0xA1 0x70
    else match d with
      | .lotik => (s.fwTake d p data).answer c 0xA1 0
      | .verard =>
        let s := s.accept c 0xA1 p
        s.setSecRun d { s.secRun d with writes := (s.secRun d).writes ++ [(c, id.toNat, p, data)] })

/-- A part is in flash (R410): kept, and its FW_CHUNK completes. -/
def State.chunkDone (s : State) (r : SecRun) (c : CmdCtx) (id p : Nat) (data : List Byte)
    (rest : List (CmdCtx × Nat × Nat × List Byte)) : State :=
  let s := s.setSecRun .verard { r with writes := rest }
  let b := (s.sec .verard).staging
  let st := if b.state < 2 ∨ b.xfer ≠ id ∨ partCount b.len ≤ p then 0x72 else if b.parts.any (fun e => e.1 == p) then 0x70 else 0
  let s := if st = 0 then s.fwTake .verard p data else s
  match (s.cmd .verard).works.find? (fun w => w.ctx == c && w.opcode == 0xA1 && w.tag == p) with
  | none => s
  | some w => s.completeWork w st [] false

/-- FW_CHUNK_PROGRAMMED (R410): the oldest part in flight has been programmed and read back; of two of one part the first holds. -/
def execFwChunkProgrammed (s : State) : Res :=
  finish (
    let r := s.secRun .verard
    match r.writes with
    | [] => s
    | (c, id, p, data) :: rest =>
      s.chunkDone r c id p data rest)

/-- FW_STATUS (R416). -/
def execFwStatus (c : CmdCtx) (s : State) : Res :=
  finish (
    let d := c.dev
    let b := (s.sec d).staging
    s.answer c 0xA2 0 (s.regBytes d.sp ((List.range 5).map (fun k => d.secBase + 0x20 + 4 * k)) ++ (if b.state = 2 ∨ b.state = 3 then b.bitmap else [])))

/-- FW_CANCEL (R410, R416). -/
def execFwCancel (c : CmdCtx) (id : Word) (s : State) : Res :=
  finish (
    let b := (s.sec c.dev).staging
    if b.state < 2 ∨ b.xfer ≠ id.toNat then s.answer c 0xA3 0x72
    else ((s.setBank c.dev {}).answer c 0xA3 0).logCommand c 0xA3 0)

-- The profile store (R425).

/-- The store buffer's bytes. -/
def State.bufBytes (s : State) : List Byte :=
  (List.range 1040).flatMap (fun i => leBytes 4 (smGet 0 (s.secRun .verard).buffer i))

/-- Whether every record of an area has a right CRC. -/
def crcsOk (area : List Byte) : Bool :=
  (List.range 4).all (fun p => let r := areaRecord .verard area p; leAt r 1020 4 == crc32 (r.take 1020))

/-- A write of VD_PROF_CTRL.PROGRAM (R425). -/
def State.profProgram (s : State) : State :=
  let lc := (s.sec .verard).lc
  if s.getB R.VD_PROF_CTRL_BUSY then s
  else if lc = 3 ∨ lc = 4 then (s.put R.VD_PROF_CTRL_RESULT 4).put R.VD_PROF_CTRL_DONE 1
  else if !crcsOk s.bufBytes then (s.put R.VD_PROF_CTRL_RESULT 3).put R.VD_PROF_CTRL_DONE 1
  else (s.put R.VD_PROF_CTRL_BUSY 1).setSecRun .verard { s.secRun .verard with reloading := false }

/-- A write of VD_PROF_CTRL.RELOAD (R425). -/
def State.profReload (s : State) : State :=
  if s.getB R.VD_PROF_CTRL_BUSY then s
  else (s.put R.VD_PROF_CTRL_BUSY 1).setSecRun .verard { s.secRun .verard with reloading := true }

/-- PROFILE_PROGRAM. -/
def execProfileProgram (s : State) : Res :=
  finish (s.viaBus 1 0xA2000 (fun s => s.profProgram))

/-- PROFILE_RELOAD. -/
def execProfileReload (s : State) : Res :=
  finish (s.viaBus 1 0xA2000 (fun s => s.profReload))

/-- A profile area is programmed or reloaded (R425). -/
def State.profDone (s : State) (ok : Bool) : State :=
  let r := s.secRun .verard
  let s := if !ok then s
    else if r.reloading then s.setSecRun .verard { r with buffer := areaWords r.loaded }
    else
      let bytes := s.bufBytes
      let area := bytes.take 8 ++ leBytes 4 (leAt r.loaded 8 4 + 1) ++ bytes.drop 12
      let x := s.sec .verard
      s.setSec .verard { x with copies := smPut [] x.copies (1 - s.get R.VD_PROF_CTRL_LOADED) area }
  let s := ((s.put R.VD_PROF_CTRL_BUSY 0).put R.VD_PROF_CTRL_DONE 1).put R.VD_PROF_CTRL_RESULT (if ok then 1 else 2)
  s.lcFinish .verard

/-- PROFILE_PROGRAM_DONE (R425): the other copy holds the buffer with the loaded SEQ + 1, or the buffer the loaded copy again; a
transition that waited goes on. -/
def execProfileProgramDone (ok : Bool) (s : State) : Res :=
  finish (
    if !s.getB R.VD_PROF_CTRL_BUSY then s
    else
      s.profDone ok)

end Sys2Proof.Machine
end

