-- ==== Sys2Proof/Machine/Operands.lean ====
section
/-! DEFINITION. The operands of command packets: headers, parameters and lengths (R368 to R370). -/

namespace Sys2Proof.Machine

open Sys2Proof

/-- The header in a packet's first 32 bytes (R368); reserved bits are dropped. -/
def readHdr (b : List Byte) : PktHeader :=
  { version := BitVec.ofNat 8 (leAt b 0 1), type := BitVec.ofNat 8 (leAt b 1 1), opcode := BitVec.ofNat 8 (leAt b 2 1),
    flags := BitVec.ofNat 8 (leAt b 3 1), seq := BitVec.ofNat 32 (leAt b 4 4), session := BitVec.ofNat 32 (leAt b 8 4),
    target := BitVec.ofNat 21 (leAt b 12 3), source := BitVec.ofNat 21 (leAt b 15 3), length := BitVec.ofNat 16 (leAt b 18 2),
    salt := BitVec.ofNat 32 (leAt b 20 4), counter := BitVec.ofNat 64 (leAt b 24 8) }

/-- The packet at the front of a slot or buffer. -/
def pktIn (b : List Byte) : List Byte := padTo (48 + (readHdr b).length.toNat) b

/-- The packet in a whole packet's bytes; none where they do not have the length the header gives. -/
def readPkt (b : List Byte) : Option Packet :=
  let h := readHdr b
  if b.length = 48 + h.length.toNat then
    some { hdr := h, payload := (b.drop 32).take h.length.toNat, tag := b.drop (32 + h.length.toNat) }
  else none

/-- A parameter of a request (R370): n bytes from offset o. -/
def fld {w : Nat} (p : List Byte) (o n : Nat) : BitVec w := BitVec.ofNat w (leAt p o n)

/-- Whether LENGTH fits an opcode (R370). -/
def lenOk (op : Nat) (p : List Byte) : Bool :=
  let n := p.length
  match op with
  | 0x00 => decide (n ≤ 4028)
  | 0x01 => n == 0
  | 0x02 => n == 0
  | 0x03 => n == 1
  | 0x10 => n == 1
  | 0x18 => n == 0
  | 0x19 => n == 2
  | 0x1A => n == 2
  | 0x1B => n == 0
  | 0x1C => n == 4
  | 0x1D => n == 25
  | 0x1E => n == 18
  | 0x20 => n == 27
  | 0x21 => n == 17
  | 0x22 => n == 5
  | 0x23 => n == 17
  | 0x24 => n == 3
  | 0x25 => n == 0
  | 0x30 => n == 2
  | 0x31 => n == 7
  | 0x32 => n == 4
  | 0x33 => n == 16
  | 0x34 => n == 8
  | 0x35 => n == 2
  | 0x40 => n == 9
  | 0x41 => decide (7 ≤ n) && n == 7 + 8 * leAt p 5 2
  | 0x42 => n == 5
  | 0x43 => n == 5
  | 0x44 => n == 5
  | 0x45 => n == 3
  | 0x46 => n == 26
  | 0x47 => n == 2
  | 0x48 => n == 2
  | 0x49 => n == 4
  | 0x50 => n == 0
  | 0x51 => n == 2
  | 0x52 => n == 2
  | 0x53 => n == 0
  | 0x54 => n == 0
  | 0x55 => n == 4
  | 0x56 => n == 0
  | 0x57 => n == 2
  | 0x58 => n == 0
  | 0x60 => n == 0
  | 0x61 => n == 1
  | 0x62 => n == 2
  | 0x63 => n == 16
  | 0x64 => n == 17
  | 0x65 => n == 17
  | 0x66 => n == 8
  | 0x67 => n == 8
  | 0x70 => n == 1
  | 0x71 => n == 0
  | 0x72 => n == 0
  | 0x73 => n == 5
  | 0x74 => n == 4
  | 0x75 => n == 1
  | 0x76 => n == 4
  | 0x77 => n == 2
  | 0x78 => n == 3
  | 0x79 => n == 0
  | 0x80 => n == 1
  | 0x81 => n == 1
  | 0x82 => n == 2
  | 0x83 => n == 1
  | 0x84 => n == 27
  | 0x85 => n == 1
  | 0x91 => n == 0
  | 0x92 => n == 45
  | 0x93 => n == 0 || n == 512
  | 0x94 => n == 17
  | 0x95 => n == 0
  | 0x96 => n == 2 || n == 138
  | 0x97 => n == (if leAt p 0 1 = 0xFE then 3 else if leAt p 0 1 = 0xFD then 35 else 100)
  | 0xA0 => n == 12
  | 0xA1 => decide (7 ≤ n) && decide (n ≤ 2054)
  | 0xA2 => n == 0
  | 0xA3 => n == 4
  | 0xF0 => n == 6
  | 0xF1 => n == 8
  | _ => true

end Sys2Proof.Machine
end

