-- ==== Sys2Proof/Machine/Ingress.lean ====
section
/-! DEFINITION. Local ingress: Lotik's mailbox and Verard's command rings (R392 to R394). -/

namespace Sys2Proof.Machine

open Sys2Proof

/-- What a local ingress checks (R392): the source, before the part has its UA also the target, and that the packet fits. -/
def State.ingressOk (s : State) (d : Dev) (b : List Byte) : Bool :=
  let h := readHdr b
  let own := s.ua d
  decide (48 + h.length.toNat ≤ 4080) &&
  h.source.toNat == (if s.uaValid d then own else 0) + 2 ^ 20 &&
  (s.uaValid d || h.target.toNat % 2 ^ 20 == 0 || h.target.toNat % 2 ^ 20 == own)

/-- Hand a packet to a part's controller. -/
def State.enqueue (s : State) (d : Dev) (p : Path) (b : List Byte) : State :=
  s.setCmd d { s.cmd d with inbox := (s.cmd d).inbox ++ [{ path := p, bytes := b, at_ := s.now d }] }

-- The mailbox (R393).

/-- The mailbox becomes FREE; a waiting packet for the host is delivered. -/
def State.mboxFree (s : State) : State := (s.put R.LK_MBOX_STAT_STATE 0).drainHost .lotik 8

/-- CLAIM: ignored unless FREE. -/
def State.mboxClaim (s : State) : State :=
  if s.get R.LK_MBOX_STAT_STATE = 0 then s.put R.LK_MBOX_STAT_STATE 1 else s

/-- The bytes of the buffer. -/
def State.mboxBytes (s : State) : List Byte := (List.range 1020).flatMap (fun k => leBytes 4 (s.get (R.LK_MBOX_BUF_DATA k)))

/-- SEND: the buffer's packet goes to the controller where it passes the checks of R392; a refused one leaves the mailbox FREE. -/
def State.mboxSend (s : State) : State :=
  if s.get R.LK_MBOX_STAT_STATE ≠ 1 then s.put R.LK_MBOX_IRQ_ERR 1
  else
    let b := s.mboxBytes
    if s.ingressOk .lotik b then (s.put R.LK_MBOX_STAT_STATE 2).enqueue .lotik (.host .lotik) (pktIn b)
    else (s.put R.LK_MBOX_IRQ_ERR 1).mboxFree

/-- RELEASE: a delivered packet has been read. -/
def State.mboxRelease (s : State) : State :=
  if s.get R.LK_MBOX_STAT_STATE ≠ 3 then s.put R.LK_MBOX_IRQ_ERR 1 else s.mboxFree

/-- A write of LK_MBOX_CTRL: its bits act in order. -/
def State.mboxCtrl (s : State) (v : Nat) : State :=
  ((s.doIf (v.testBit 0) State.mboxClaim).doIf (v.testBit 1) State.mboxSend).doIf (v.testBit 2) State.mboxRelease

/-- A write into the buffer: discarded outside CLAIMED. -/
def State.mboxWrite (s : State) (k v : Nat) : State :=
  if s.get R.LK_MBOX_STAT_STATE = 1 then s.put (R.LK_MBOX_BUF_DATA k) v else s

/-- MBOX_CLAIM. -/
def execMboxClaim (s : State) : Res := finish (s.viaBus 0 0x7000 State.mboxClaim)

/-- MBOX_SEND. -/
def execMboxSend (s : State) : Res := finish (s.viaBus 0 0x7000 State.mboxSend)

/-- MBOX_RELEASE. -/
def execMboxRelease (s : State) : Res := finish (s.viaBus 0 0x7000 State.mboxRelease)

-- The command rings (R394).

/-- Where a request slot lies. -/
def State.reqSlot (s : State) (k : Nat) : Nat := s.get R.VD_CMD_REQ_LO_BASE_LO * 4096 + s.get R.VD_CMD_REQ_HI_BASE_HI * 2 ^ 32 + k * 4096

/-- How many request slots are announced and not yet read. -/
def State.reqWaiting (s : State) : Nat :=
  let n := 2 ^ s.get R.VD_CMD_REQ_CFG_LOG2
  if s.getB R.VD_CMD_REQ_CFG_ENABLE then (s.get R.VD_CMD_REQ_TAIL_TAIL % n + n - s.get R.VD_CMD_REQ_HEAD_HEAD % n) % n else 0

/-- A write of REQ_TAIL: the slots it announces are read. -/
def State.reqTail (s : State) (v : Nat) : State :=
  let s := s.put R.VD_CMD_REQ_TAIL_TAIL v
  let n := 2 ^ s.get R.VD_CMD_REQ_CFG_LOG2
  (List.range s.reqWaiting).foldl (fun s k => s.emit (.hostRead .verard (s.reqSlot ((s.get R.VD_CMD_REQ_HEAD_HEAD + k) % n)) 4096)) s

/-- Verard has read the next request slot. -/
def State.reqTake (s : State) (slot : List Byte) : State :=
  let s := s.put R.VD_CMD_REQ_HEAD_HEAD ((s.get R.VD_CMD_REQ_HEAD_HEAD + 1) % 2 ^ s.get R.VD_CMD_REQ_CFG_LOG2)
  if s.ingressOk .verard slot then s.enqueue .verard (.host .verard) (pktIn slot) else s.cmdIrq R.VD_CMD_IRQ_REQ_ERR 1

/-- A write of RSP_HEAD: waiting packets take the freed slots. -/
def State.rspHead (s : State) (v : Nat) : State := (s.put R.VD_CMD_RSP_HEAD_HEAD v).drainHost .verard 64

/-- CMD_REQ_DOORBELL: `slots` are the announced slots as the board CPU's memory returns them. -/
def execCmdReqDoorbell (tail : BitVec 10) (slots : List (List Byte)) (s : State) : Res :=
  finish (s.viaBus 1 0x9000C (fun s =>
    let s := s.reqTail tail.toNat
    (slots.take s.reqWaiting).foldl State.reqTake s))

/-- CMD_RSP_HEAD_WRITE. -/
def execCmdRspHeadWrite (v : BitVec 10) (s : State) : Res := finish (s.viaBus 1 0x90024 (fun s => s.rspHead v.toNat))

end Sys2Proof.Machine
end

