-- ==== Sys2Proof/Machine/JobSlot.lean ====
section
/-! DEFINITION. A member's job commands (R122 to R136, R140 to R151, R293 to R298): program entries, the fetcher, waypoints, Marks,
the drain, job images. -/

namespace Sys2Proof.Machine

open Sys2Proof

-- Registers.

/-- The low words of a packed instant's SEC and NS, in three fields. -/
def State.putInstant (s : State) (ns lo hi : Field) (t : Nat) : State :=
  let p := (packInstant (s.wrap .lotik) t).toNat
  ((s.put ns (bits p 16 32)).put lo (bits p 48 32)).put hi (bits p 80 16)

/-- Capture the step registers at one instant (R153): LK_STEP_LO through LK_NEXT_SEC_HI. -/
def State.captureStep (s : State) : State :=
  let st := s.lk.jobs.step.toNat
  let s := (s.put R.LK_STEP_LO_STEP_LO st).put R.LK_STEP_HI_STEP_HI (st / 2 ^ 32)
  let s := s.putInstant R.LK_MARK_NS_NS R.LK_MARK_SEC_LO_SEC_LO R.LK_MARK_SEC_HI_SEC_HI s.lk.jobs.mark
  let next := match s.activeSlot with
    | some i => if s.slotState i = 4 then s.nextMark i else if s.slotState i = 3 then some (s.slot i).t0 else (s.resuming i).map Prod.snd
    | none => none
  (s.putInstant R.LK_NEXT_NS_NS R.LK_NEXT_SEC_LO_SEC_LO R.LK_NEXT_SEC_HI_SEC_HI (next.getD 0)).putB R.LK_NEXT_SEC_HI_KNOWN next.isSome

/-- STEP_LO_READ (R153). -/
def execStepLoRead (s : State) : Res :=
  .next (s.viaRead 0 0x2008 4 (fun s => (s.captureStep, s.captureStep.get R.LK_STEP_LO_STEP_LO)))

/-- STEP_READ (R154): captured for the reply alone (R428). -/
def execStepRead (c : CmdCtx) (s : State) : Res :=
  finish (
    if c.dev = .verard then s.answer c 0x25 0x10
    else
      let t := s.captureStep
      (s.answer c 0x25 0 (t.regBytes 0 ((List.range 13).map (fun k => 0x2004 + 4 * k)))).logCommand c 0x25 0)

/-- A write to word k of a program entry (R124, R153): discarded while a slot uses the entry. -/
def State.progWrite (s : State) (n k v : Nat) : State :=
  let used := (List.range 2).any (fun i => s.slotState i != 0 && (s.slot i).prog == n)
  if used then s.put R.LK_STEP_STAT_PROG_WR_ERR 1
  else match k with
    | 0 => s.put (R.LK_PROGn_BASE_LO_BASE_LO n) (v / 4096)
    | 1 => s.put (R.LK_PROGn_BASE_HI_BASE_HI n) v
    | 2 =>
      let len := bits v 0 22
      (s.put (R.LK_PROGn_LEN_LEN n) len).putB (R.LK_PROGn_LEN_VALID n) (v.testBit 31 && decide (1 ≤ len) && decide (len ≤ 2097152))
    | _ => s

/-- PROG_ENTRY_WRITE (R124). -/
def execProgEntryWrite (n : Fin 8) (k : Fin 4) (v : Word) (s : State) : Res :=
  .next (s.viaBus 0 (0x2100 + 0x10 * n.val + 4 * k.val) (fun s => (s.progWrite n.val k.val v.toNat)))

/-- HOST_ABORT: the active job faults (R146). -/
def State.hostAbort (s : State) : State := s.faultActive 14

/-- A write of LK_STEP_CTRL (R131, R146). -/
def State.stepCtrl (s : State) (v : Nat) : State :=
  let s := if v.testBit 0 then s.stepDone else s
  if v.testBit 1 then s.hostAbort else s

/-- STEP_DONE_WRITE (R131): the step-done bit, or the boundary's step-done signal. -/
def execStepDoneWrite (s : State) : Res :=
  finish (s.viaBus 0 0x2000 (fun s => s.stepDone))

/-- HOST_ABORT_WRITE (R146). -/
def execHostAbortWrite (s : State) : Res :=
  finish (s.viaBus 0 0x2000 (fun s => s.hostAbort))

-- The fetcher.

/-- Whether a waypoint newly in the buffer came too late (R125). -/
def State.lateFetch (s : State) (i had : Nat) : Bool :=
  (s.slotState i == 3 || s.slotState i == 4 || (s.resuming i).isSome) &&
  ((s.slotInstants i).drop had).any (fun x =>
    x.1.fault == 0 && (match x.2 with | some t => decide (t < s.now .lotik + usSub 10) | none => false))

/-- The prefetch of a slot has failed (R140): NO_RESOURCE, and the slot is free again. -/
def State.prefetchFail (s : State) (i : Nat) : State :=
  (s.jobAnswer i jkArmAck 0x31 (s.slot i).armCseq).slotIdle i 0

/-- A burst could not be read (R125): the error stands in the place of the waypoint it would have delivered next. A burst that lies
behind a taken JUMP would have delivered none. -/
def failBurst (first : Nat) (x : Slot) : Slot :=
  if !x.fetchEnd && decide (first ≤ x.fetchPc) && decide (x.fetchPc < first + 64) then x.hold 0 9 else x

/-- A burst arrives (R125): its waypoints are checked and taken in execution order. -/
def State.burstDone (s : State) (i : Nat) (ok : Bool) (wps : List (BitVec 128)) : State :=
  let x := s.slot i
  match x.bursts with
  | [] => s
  | first :: rest =>
    let s := s.logicWork
    let x := { x with bursts := rest }
    let had := x.buf.length
    if !ok ∧ x.arming then (s.setSlot i x).prefetchFail i
    else
      let s := s.setSlot i (if ok then takeBurst (s.progLen i) first (wps.take 64) 128 x else failBurst first x)
      if s.lateFetch i had then s.slotFault i 8
      else
        let s := ((s.fetchMore i).plan i).showJob
        if had = 0 then s.advance i else s

/-- FETCH_BURST_DONE (R125): the waypoints that the host's memory returned, or an error. -/
def execFetchBurstDone (i : Fin 2) (ok : Bool) (wps : List (BitVec 128)) (s : State) : Res := finish (s.burstDone i.val ok wps)

/-- PREFETCH_DONE (R140, R298): the member answers ARM, or JOB_LOAD. -/
def execPrefetchDone (i : Fin 2) (s : State) : Res :=
  finish (
    let x := s.slot i.val
    if s.slotState i.val ≠ 1 ∨ !x.prefetching ∨ !s.prefetched i.val then s
    else
      let s := s.setSlot i.val { x with prefetching := false, loading := false, arming := false }
      let s := s.doIf x.loading (fun s => (s.put R.LK_DET_STAT_LOADED 1).complete .lotik 0x67 i.val 0 [] true)
      s.doIf x.arming (fun s => s.jobAnswer i.val jkArmAck 0 x.armCseq))

/-- PREFETCH_TIMEOUT (R140): 1 ms after ARM. -/
def execPrefetchTimeout (i : Fin 2) (s : State) : Res :=
  finish (
    let x := s.slot i.val
    if s.slotState i.val = 1 ∧ x.arming ∧ x.armedAt + msSub 1 ≤ s.now .lotik then s.prefetchFail i.val else s)

-- Marks.

/-- MARK_TIMED (R130): a TIMED Mark's instant is reached. -/
def execMarkTimed (s : State) : Res :=
  finish (
    match s.dueMark with
    | some (i, w, m) => if markKind w = 0 then s.raiseMark i m else s
    | none => s)

/-- MARK_RAISE (R134): the Mark is placed at the boundary and the step counter incremented. -/
def execMarkRaise (s : State) : Res :=
  finish (
    match s.dueMark with
    | some (i, _, m) => s.raiseMark i m
    | none => s)

/-- Whether the next Mark, scheduled at `t`, can fall: no waypoint up to it faults, and no rule of R128 that is known by now is broken
(notes/assumptions/106). -/
def State.schedLawful (s : State) (i : Nat) (w : BitVec 128) (t : Nat) : Bool :=
  let ahead := (s.slotInstants i).takeWhile (fun x => wpAction x.1.wp != 1)
  let windows := ahead.map (fun x => match x.2 with
    | some u => if wpAction x.1.wp == 4 then u + bits (wpArg x.1.wp) 0 32 * tickSub else u
    | none => 0)
  ahead.all (fun x => x.1.fault == 0) && (((s.slot i).buf.drop ahead.length).head?.map (·.fault) == some 0) &&
  (markKind w != 0 ||
    (ahead.all (fun x => match x.2 with | some u => decide (u ≤ t) | none => true) && decide ((s.run i).prevAt ≤ t) && windows.all (fun e => decide (e ≤ t)) &&
      decide ((s.run i).winAny ≤ t ∧ s.lk.jobs.mark + usSub 5 ≤ t ∧ s.now .lotik < t + tickSub)))

/-- OVERRUN_TEST (R133): at M − GUARD of a TIMED Mark, S − GUARD of a HYBRID one. -/
def execOverrunTest (s : State) : Res :=
  finish (
    match s.activeSlot with
    | none => s
    | some i =>
      match s.nextMarkWp i, s.nextSched i with
      | some w, some t =>
        let x := s.slot i
        if s.slotState i ≠ 4 ∨ (s.run i).ended ∨ x.overrunTested ∨ s.now .lotik + s.markGuard w * tickSub < t ∨ !s.schedLawful i w t then s
        else
          let s := s.setSlot i { x with overrunTested := true }
          if x.stepDone then s
          else
            let s := (s.bumpSat R.LK_MARK_CNT_OVERRUN).put R.LK_STEP_IRQ_OVERRUN 1
            if wpStrict w then s.slotFault i 5 else s
      | _, _ => s)

/-- GATE_LIMIT_EXPIRY (R132). -/
def execGateLimitExpiry (s : State) : Res :=
  finish (
    match s.activeSlot with
    | none => s
    | some i =>
      let x := s.slot i
      if s.slotState i = 4 ∧ x.gateSent ∧ x.gateDone.isNone ∧ x.gateAt + msSub x.gateLimit ≤ s.now .lotik then
        (s.wakeAll.put R.LK_STEP_STAT_GATE_PENDING 0).slotFault i 4
      else s)

-- Waypoints (R127).

/-- WAYPOINT_NOP (R127). -/
def execWaypointNop (s : State) : Res :=
  finish (
    match s.dueWp 0 with
    | some (i, _, t) => s.wpDone i t
    | none => s)

/-- Whether the waypoint next to execute has been made ready. -/
def State.headPlanned (s : State) (i : Nat) : Bool := ((s.slot i).buf.head?.map (·.planned)).getD false

/-- WAYPOINT_FREQ (R242): the change has been prepared ahead of this instant; it counts as the change before the next one. -/
def execWaypointFreq (s : State) : Res :=
  finish (
    match s.dueWp 2 with
    | some (i, w, t) =>
      let n := bits (wpArg w) 0 4
      let s := if s.headPlanned i then s else s.schedule { tick := t, idx := some n, ceil := none }
      let r := s.run i
      (s.setRun i { r with lastFreq := n, freqAt := if n = r.lastFreq then r.freqAt else some t }).wpDone i t
    | none => s)

/-- WAYPOINT_POWER_HINT (R267). -/
def execWaypointPowerHint (s : State) : Res :=
  finish (
    match s.dueWp 3 with
    | some (i, w, t) => (s.powerHint i (bits (wpArg w) 0 8) (bits (wpArg w) 8 16)).wpDone i t
    | none => s)

/-- WAYPOINT_OPTICAL (R127, R131): the window's end is a term of Mark placement. -/
def execWaypointOptical (s : State) : Res :=
  finish (
    match s.dueWp 4 with
    | some (i, w, t) =>
      let s := if s.headPlanned i then s else s.sendQuiet i t (bits (wpArg w) 0 32)
      let e := t + bits (wpArg w) 0 32 * tickSub
      let r := s.run i
      (s.setRun i { r with winEnd := max r.winEnd e, winAny := max r.winAny e }).wpDone i t
    | none => s)

/-- A CAPTURE waypoint executes (R127, R116, R118). -/
def State.captureWp (s : State) (i : Nat) (w : BitVec 128) (t : Nat) : State :=
  let g := wpArg w
  let o := bits g 2 1
  let s := match bits g 0 2 with
    | 0 => { s with lk := { s.lk with captures := s.lk.captures ++ [(o, t, s.lk.jobs.step.toNat)] } }
    | 1 =>
      if s.headPlanned i then s
      else (s.put (R.LK_TRIGo_CTRL_ROUTE o) (bits g 3 2)).armTrain o t (bits g 16 16) (bits g 32 16) true
    | _ => s.logKind .lotik 0x0403 1 ([2, BitVec.ofNat 8 o, 0, 0] ++ packedBytes (s.wrap .lotik) t)
  s.wpDone i t

/-- WAYPOINT_CAPTURE (R127, R128): outputs whose arming time has come are armed; the one next to execute takes its effect. -/
def execWaypointCapture (s : State) : Res :=
  finish (
    let s := match s.activeSlot with | some i => s.plan i | none => s
    match s.dueWp 5 with
    | some (i, w, t) =>
      s.captureWp i w t
    | none => s)

/-- WAYPOINT_SOUNDING (R127, R325). -/
def execWaypointSounding (s : State) : Res :=
  finish (
    match s.dueWp 6 with
    | some (i, w, t) => (s.soundStart (bits (wpArg w) 0 4) false).wpDone i t
    | none => s)

/-- WAYPOINT_END (R127): no further waypoints or Marks. -/
def execWaypointEnd (s : State) : Res :=
  finish (
    match s.dueWp 8 with
    | some (i, _, t) =>
      let s := (s.setRun i { s.run i with ended := true }).put R.LK_STEP_STAT_ENDED 1
      (s.put R.LK_STEP_IRQ_ENDED 1).wpDone i t
    | none => s)

-- Start, teardown and drain.

/-- COMMIT_HOLD_DEADLINE (R141): T0 − 20 µs with the other slot not IDLE. -/
def execCommitHoldDeadline (i : Fin 2) (s : State) : Res :=
  finish (
    let r := s.run i.val
    if r.commitHeld.isSome ∧ (s.slot i.val).t0 ≤ s.now .lotik + usSub 20 then
      (s.setRun i.val { r with commitHeld := none }).jobAnswer i.val jkCommitAck 0x30 r.commitCseq.toNat
    else s)

/-- LAST_ABORT_TIME (R142, R296): T0 − 10 µs, or T_R − 10 µs, without CONFIRM. -/
def execLastAbortTime (i : Fin 2) (s : State) : Res :=
  finish (
    let st := s.slotState i.val
    let r := s.run i.val
    if st = 2 ∧ (s.slot i.val).t0 ≤ s.now .lotik + usSub 10 then s.slotIdle i.val 2
    else if st = 5 ∧ !r.confirm then
      match r.resumeAt with
      | some t => if t ≤ s.now .lotik + usSub 10 then s.setRun i.val { r with resumeAt := none } else s
      | none => s
    else s)

/-- JOB_START_T0 (R142, R296): a CONFIRMED member raises Mark 0 at T0, a PAUSED one that holds CONFIRM raises Mark P at T_R; the
roots' records follow. -/
def execJobStartT0 (s : State) : Res :=
  finish (
    let s := match s.activeSlot with
      | none => s
      | some i =>
        let now := s.now .lotik
        if s.slotState i = 3 ∧ (s.slot i).t0 ≤ now then s.startJob i
        else if s.slotState i = 5 ∧ (s.run i).confirm then
          match (s.run i).resumeAt with
          | some t => if t ≤ now then s.resumeJob i t else s
          | none => s
        else s
    (s.rootStart .lotik).rootStart .verard)

/-- TEARDOWN_INSTANT (R149): TD is reached. -/
def execTeardownInstant (s : State) : Res :=
  finish (
    match s.activeSlot with
    | none => s
    | some i =>
      match (s.run i).td with
      | some td =>
        if (s.slotState i = 4 ∨ s.slotState i = 5) ∧ td ≤ s.now .lotik then s.startDrain i (s.run i).drainCause else s
      | none => s)

/-- The energy record of a job (R275, R339): none of it where the job ended before its first Mark. -/
def State.energyRecord (s : State) (i : Nat) : State :=
  let x := s.slot i
  let r := s.run i
  let steps := if r.marks = [] then 0 else s.lk.jobs.step.toNat
  s.report .lotik
    { kind := 0x0803, sev := 1, ua := s.ua .lotik, step := s.stepCount .lotik,
      arg := leBytes 4 (jobWord x.gid x.gen) ++ leBytes 8 (if r.marks = [] then 0 else s.lk.pg.jobPj / 1000000),
      cont := padTo 56 (leBytes 8 steps ++ leBytes 1 r.maxDensity ++ [0, 0, 0] ++ leBytes 4 (r.bubbles / 500) ++ leBytes 4 (r.unreach / 500)) }

/-- A slot has drained (R150): its queues' operations end, its digests and energy close, and DRAINED goes up. -/
def State.drained (s : State) (i : Nat) : State :=
  let x := s.slot i
  let mine := s.lk.queues.filter (fun q => q.2.enable && q.2.gid == x.gid.toNat && q.2.gen == x.gen.toNat)
  let s := mine.foldl (fun s q => s.endAll q.1 true) s
  let s := (s.closeAll.energyRecord i).detEnd.toBaseOp
  let s := s.sendJobUp { s.jobMsg i jkDrained 0 with bitmap := BitVec.ofNat 64 (2 ^ uaDie (s.ua .lotik)) }
  s.slotIdle i (s.run i).drainCause

/-- DRAIN_COMPLETE (R150, R251, R281, R289): operations in flight end, the records are logged, DRAINED goes up, the slot is IDLE. -/
def execDrainComplete (s : State) : Res :=
  finish (
    match s.activeSlot with
    | none => s
    | some i =>
      if s.slotState i ≠ 6 then s else
      s.drained i)

-- Job images (R297, R298).

/-- The slot in a state, if one is. -/
def State.slotIn (s : State) (st : Nat) : Option Nat :=
  if s.slotState 0 = st then some 0 else if s.slotState 1 = st then some 1 else none

/-- An instant that may lie before the hall's own beginning, packed modulo the range of SEC (R30, R297). -/
def packBase (wrap : Bool) (t : Int) : List Byte := packedBytes wrap (t % (2 ^ 48 * 1000000000 * 65536)).toNat

/-- BASE as an image holds it: in TOD mode the upper half of SEC's range lies before the hall's own beginning (R298). -/
def unpackBase (wrap : Bool) (t : Nat) : Int :=
  if wrap || decide (t < 2 ^ 47 * 1000000000 * 65536) then t else (t : Int) - 2 ^ 48 * 1000000000 * 65536

/-- A loop entry in the image. -/
def loopBytes (e : LoopEnt) : List Byte := leBytes 8 (e.index % 2 ^ 21 + e.left % 2 ^ 32 * 2 ^ 21)

/-- A step's tags in the image. -/
def stepBytes (x : DigStep) : List Byte :=
  (List.range 16).flatMap (fun t => leBytes 8 (x.tag t).lo.toNat ++ leBytes 8 (x.tag t).hi.toNat ++ leBytes 8 (x.tag t).count.toNat)

/-- The job image of a PAUSED slot (R297); BASE includes the deferrals, which every later Mark of the program carries
(notes/assumptions/34). -/
def State.jobImage (s : State) (i : Nat) : List Byte :=
  let x := s.slot i
  let r := s.run i
  let w := s.wrap .lotik
  let (m, p) := r.held.getD (0, 0)
  let flags := b2n x.detmode + 2 * b2n x.oosFault + 4 * b2n r.alignMiss + 8 * s.get R.LK_DET_CFG_CANON_RECOVERY
  let steps := s.lk.det.steps
  let head := leBytes 2 1 ++ leBytes 1 flags ++ [0] ++ leBytes 4 (s.progLen i) ++ leBytes 8 p ++ leBytes 3 x.pc ++ leBytes 1 x.stack.length ++
    padTo 32 (x.stack.reverse.flatMap loopBytes) ++ packBase w (x.base + r.deferTotal * tickSub) ++ packedBytes w m ++
    leBytes 16 x.seed.toNat ++ leBytes 4 r.period ++ leBytes 4 x.gateLimit ++ leBytes 1 r.lastFreq ++ [0, 0, 0] ++
    leBytes 4 (s.word 0 R.LK_DET_RANK_RANK_BASE.off) ++ List.replicate 16 0
  let tail := stepBytes (steps.headD { step := 0 }) ++ stepBytes ((steps.drop 1).headD { step := 0 })
  head ++ leBytes 4 (crc32 (head ++ tail)) ++ tail

/-- JOB_SAVE (R297, R301): the image goes to the host's memory; the completion follows the host's (R386). -/
def execJobSave (c : CmdCtx) (addr : DWord) (s : State) : Res :=
  finish (
    if c.dev = .verard then s.answer c 0x66 0x10 else
    match s.slotIn 5 with
    | none => s.answer c 0x66 0x30
    | some i => (s.accept c 0x66 i).emit (.hostWrite .lotik (addr.toNat / 64 * 64) (s.jobImage i)))

/-- A step's digests from an image. -/
def stepFrom (step : BitVec 64) (bs : List Byte) : DigStep :=
  (List.range 16).foldl (fun x t =>
    { x with tags := smPut {} x.tags t { lo := BitVec.ofNat 64 (leAt bs (24 * t) 8), hi := BitVec.ofNat 64 (leAt bs (24 * t + 8) 8),
                                          count := BitVec.ofNat 40 (leAt bs (24 * t + 16) 8) } }) { step := step }

/-- Whether an image fits a slot (R298): VERSION, CRC, seed, DETMODE and program length. -/
def State.imageFits (s : State) (i : Nat) (b : List Byte) : Bool :=
  let x := s.slot i
  b.length == 896 && leAt b 0 2 == 1 && leAt b 124 4 == crc32 (b.take 124 ++ b.drop 128) && leAt b 76 16 == x.seed.toNat &&
  (leAt b 2 1).testBit 0 == x.detmode && leAt b 4 4 == s.progLen i && decide (leAt b 19 1 ≤ 4)

/-- Restore an image into an ARMED slot (R298): the prefetch starts from PC. -/
def State.loadJobImage (s : State) (i : Nat) (b : List Byte) : State :=
  let x := s.slot i
  let w := s.wrap .lotik
  let at_ (o : Nat) : Nat := unpackInstant w (s.now .lotik) (BitVec.ofNat 96 (leAt b o 12))
  let p := leAt b 8 8
  let depth := leAt b 19 1
  let stack := ((List.range depth).map (fun k =>
    let e := leAt b (20 + 8 * k) 8
    ({ index := bits e 0 21, left := bits e 21 32 } : LoopEnt))).reverse
  let pc := leAt b 16 3 % 2 ^ 21
  let s := s.setSlot i { x with base := unpackBase w (at_ 52), pc := pc, stack := stack, fetchPc := pc, fetchStack := stack, spin := none,
                                fetchEnd := false, buf := [], bursts := [], prefetching := true, loading := true }
  let rank := leAt b 104 4
  let s := ((s.put R.LK_DET_RANK_RANK_BASE (bits rank 0 22)).put R.LK_DET_RANK_RANKS (bits rank 22 5)).put R.LK_DET_PERIOD_PERIOD_NS (leAt b 92 4)
  -- Steps P − 1 and P − 2, so far as there were any.
  let open_ := (([1, 2] : List Nat).filter (fun k => decide (k ≤ p))).map (fun k =>
    stepFrom (BitVec.ofNat 64 (p - k)) ((b.drop (384 * k - 256)).take 384))
  let s := s.setRun i
    { s.run i with
      held := some (at_ 64, p)
      loaded := true
      period := leAt b 92 4
      lastFreq := leAt b 100 1 % 16
      alignMiss := (leAt b 2 1).testBit 2
      digSteps := open_ }
  s.fetchMore i

/-- JOB_LOAD (R298, R301): `image` is what the host's memory holds at the address, or nothing where its read fails. -/
def execJobLoad (c : CmdCtx) (addr : DWord) (image : Option (List Byte)) (s : State) : Res :=
  finish (
    if c.dev = .verard then s.answer c 0x67 0x10 else
    match (List.range 2).find? (fun i => s.slotState i == 1) with
    | none => s.answer c 0x67 0x30
    | some i =>
      let s := (s.accept c 0x67 i).emit (.hostRead .lotik (addr.toNat / 64 * 64) 896)
      match image with
      | some b => if s.imageFits i b then s.loadJobImage i b else s.complete .lotik 0x67 i 0x11 [] true
      | none => s.complete .lotik 0x67 i 0x11 [] true)

end Sys2Proof.Machine
end

