-- ==== Sys2Proof/Machine/LogCmd.lean ====
section
/-! DEFINITION. The commands of the Logs (R337 to R342, R345 to R347). -/

namespace Sys2Proof.Machine

open Sys2Proof

/-- The entry that holds a sequence number, and which half of a pair it names (R339). -/
def Log.find (l : Log) (seq : Nat) : Option (LogEntry × Bool) :=
  match l.entries.find? (fun e => e.seq == seq) with
  | some e => some (e, false)
  | none => (l.entries.find? (fun e => e.cont != [] && (e.seq + 1) % 2 ^ 32 == seq)).map (fun e => (e, true))

/-- The 64 bytes under a sequence number; nothing where the Log holds none. -/
def Log.bytesAt (l : Log) (wrap : Bool) (seq : Nat) : Option (List Byte) :=
  (l.find seq).map (fun x => ((x.1.toBytes wrap).drop (if x.2 then 64 else 0)).take 64)

/-- Whether a sequence number lies from RD to before WR. -/
def Log.unconsumed (l : Log) (seq : Nat) : Bool := decide ((seq + 2 ^ 32 - l.rd) % 2 ^ 32 < l.used)

/-- VALID of Verard's view (R346): whether it holds an unconsumed entry. -/
def State.showView (s : State) : State :=
  s.putB R.VD_LOG_VIEW_VALID (match s.vd.logView with | some q => (s.log .verard).unconsumed q | none => false)

/-- Whether a sequence number lies from RD to WR (R345). -/
def Log.inside (l : Log) (seq : Nat) : Bool := decide ((seq + 2 ^ 32 - l.rd) % 2 ^ 32 ≤ l.used)

/-- Where consuming up to a sequence number leaves RD: a pair is consumed as one (R339). -/
def Log.consumed (l : Log) (seq : Nat) : Nat :=
  match l.find seq with
  | some (_, true) => (seq + 1) % 2 ^ 32
  | _ => seq

/-- Consume a part's entries up to a sequence number (R337, R339, R345); nothing changes outside RD to WR. -/
def State.logAdvance (s : State) (d : Dev) (seq : Nat) : State :=
  let l := s.log d
  if !l.inside seq then s else
  let s := ((s.setLog d { l with rd := l.consumed seq }).showLog d).payLoss d
  match d with
  | .lotik => s.spillNext
  | .verard => s.showView

/-- A write of VD_LOG_SEL (R346). -/
def State.logSelWrite (s : State) (v : Nat) : State :=
  let s := s.put R.VD_LOG_SEL_SEQ v
  let q := v % 2 ^ 32
  let held := (s.log .verard).bytesAt (s.wrap .verard) q
  let bs := held.getD []
  let s := { s with vd := { s.vd with logView := if held.isSome ∧ (s.log .verard).unconsumed q then some q else none } }
  ((wordsOf 16 (padTo 64 bs)).zipIdx.foldl (fun s w => s.put (R.VD_LOG_ENTRYk_ENTRY w.2) w.1) s).showView

/-- LOG_RD_WRITE (R337, R345, R346): outside RD to WR the write is discarded. -/
def execLogRdWrite (d : Dev) (v : Word) (s : State) : Res :=
  finish (s.viaBus d.sp (match d with | .lotik => 0x620C | .verard => 0x80008) (fun s => s.logAdvance d v.toNat))

/-- LOG_SEL_WRITE (R346). -/
def execLogSelWrite (v : Word) (s : State) : Res :=
  finish (s.viaBus 1 0x80010 (fun s => (s.logSelWrite v.toNat)))

/-- LOG_COALESCE_END (R340, R341): an entry that was coalesced and forwarded is forwarded again with its final COUNT; spilling goes on. -/
def execLogCoalesceEnd (seq : Word) (s : State) : Res :=
  finish (
    let l := s.log .lotik
    match l.entries.find? (fun e => e.seq == seq.toNat) with
    | none => s
    | some e =>
      if l.open_ (s.now .lotik) e then s
      else if !e.sent then s.spillNext
      else
        let s := if e.coalesced then s.forward e else s
        (s.setLog .lotik ((s.log .lotik).markSent seq.toNat false)).spillNext)

/-- LOG_SPILL_DONE (R337, R343): the copied entry is consumed, where a write of RD has not done so meanwhile, and the next one follows; a
host write error stops spilling. -/
def execLogSpillDone (ok : Bool) (s : State) : Res :=
  finish (
    let l := s.log .lotik
    match l.spilling with
    | none => s
    | some (seq, n) =>
      let s := s.logicWork
      if ok then
        let s := s.setLog .lotik { l with spilling := none, rd := if l.rd = seq then (seq + n) % 2 ^ 32 else l.rd }
        (((s.put R.LK_LOG_SPILL_TAIL_TAIL (s.get R.LK_LOG_SPILL_TAIL_TAIL + n)).showLog .lotik).payLoss .lotik).spillNext
      else
        let s := ((s.setLog .lotik { l with spilling := none }).put R.LK_LOG_STAT_SPILL_ERR 1).put R.LK_HM_IRQ_SPILL_ERR 1
        s.report .lotik { kind := 0x0B00, sev := 2, ua := s.ua .lotik, step := s.stepCount .lotik, depth := 1,
                          arg := leBytes 4 R.LK_LOG_STAT_SPILL_ERR.off ++ leBytes 4 (s.word 0 R.LK_LOG_STAT_SPILL_ERR.off) })

/-- RATE_SUMMARY (R341): one entry for the reports of the second that were not forwarded, or that a Verard did not take. -/
def execRateSummary (d : Dev) (s : State) : Res :=
  finish (
    let l := s.log d
    if l.noFwd = 0 ∨ !periodOver l.sumAt (secSub 1) (s.now d) then s
    else (s.setLog d { l with noFwd := 0, sumAt := some (s.now d) }).logKind d 0x0B07 3 (leBytes 4 l.noFwd))

/-- Entries from the first one at or after a sequence number, oldest first, as far as a number of places goes; a pair is read as one. -/
def takeEntries (n : Nat) : List LogEntry → List LogEntry
  | [] => []
  | e :: es => if e.places ≤ n then e :: takeEntries (n - e.places) es else []

/-- LOG_READ (R339, R347): unconsumed entries, from the first one at or after the one named (notes/assumptions/32). -/
def execLogRead (c : CmdCtx) (first : Word) (count : Byte) (s : State) : Res :=
  finish (
    if count = 0 ∨ 62 < count.toNat then s.answer c 0x73 0x11 else
    let l := s.log c.dev
    let ofs := (first.toNat + 2 ^ 32 - l.rd) % 2 ^ 32
    let from_ := if ofs < l.used then ofs else if 2 ^ 31 ≤ ofs then 0 else l.used
    let es := (l.entries.filter (fun e => l.unconsumed e.seq && decide (from_ ≤ (e.seq + 2 ^ 32 - l.rd) % 2 ^ 32))).reverse
    let es := takeEntries count.toNat es
    s.answer c 0x73 0 (leBytes 1 (es.map LogEntry.places).sum ++ es.flatMap (fun e => e.toBytes (s.wrap c.dev))))

/-- LOG_ADVANCE (R337, R347). -/
def execLogAdvance (c : CmdCtx) (seq : Word) (s : State) : Res :=
  finish (
    (s.logAdvance c.dev seq.toNat).answer c 0x74 (if (s.log c.dev).inside seq.toNat then 0 else 0x11))

end Sys2Proof.Machine
end

