-- ==== Sys2Proof/Machine/OptCmd.lean ====
section
/-! DEFINITION. Quiet windows as they arrive (R313, R314), the circuit-switch outputs (R319, R320) and the optical commands (R323). -/

namespace Sys2Proof.Machine

open Sys2Proof

/-- QUIET at a pod Verard (R313, R314, R322): its window is kept and counted, or it came too late; a later one than the two kept is neither. -/
def State.quietTake (s : State) (n : Nat) (start : Packed) (window : Word) (m : GroupMsg) : State :=
  let s := s.engine (treeCells (.grp { m with kind := 0x2B }))
  let now := s.now .verard
  let t := unpackInstant (s.wrap .verard) now start
  if t < now + usSub 20 then s.bumpSat R.VD_OPT_QUIET_CNT_LATE
  else
    let w : Window := { port := n, start := t, stop := t + window.toNat * tickSub, word := m.gid.toNat + m.gen.toNat * 2 ^ 18 }
    let s := s.keepWindow w
    s.doIf (s.vd.windows.contains w) (fun s => s.bumpSat R.VD_OPT_QUIET_CNT_ACCEPTED)

/-- QUIET (R210, R313, R314): from the head of a package cabled to this Verard. -/
def execQuiet (p : Path) (m : GroupMsg) (s : State) : Res :=
  finish (
    if !s.pathUp p || !s.serves (pathDev p) then s
    else if m.wire ≠ .good ∨ 0x2C ≤ m.kind.toNat then s.frameDrop p
    else if !s.uaValid (pathDev p) then s
    else
    let s := s.absorbed p (.grp { m with kind := 0x2B })
    -- A node that holds the group discards what another generation sent (R210).
    if pathDev p = .verard ∧ (s.group .verard m.gid.toNat).state ≠ 0 ∧ !s.gens .verard m then s.staleMsg .verard (some p) m.gid.toNat
    else
    match p, m.body with
    | .port (.down n), .quiet start window =>
      s.quietTake n.val start window m
    | _, _ => s)

-- R319.

/-- The instant in VD_OCSo_AT. -/
def State.ocsAt (s : State) (o : Nat) : Nat :=
  let v := s.get (R.VD_OCSo_AT_NS_NS o) * 2 ^ 16 + (s.get (R.VD_OCSo_AT_SEC_LO_SEC_LO o) + s.get (R.VD_OCSo_AT_SEC_HI_SEC_HI o) * 2 ^ 32) * 2 ^ 48
  unpackInstant (s.wrap .verard) (s.now .verard) (BitVec.ofNat 96 v)

/-- ARM an output, or refuse (R319). -/
def State.ocsArm (s : State) (o : Nat) : State :=
  let mask := s.ocsMask o
  let now := s.now .verard
  let window := s.getB (R.VD_OCSo_CTRL_MODE o)
  let at_ := s.ocsAt o
  let near := !window && decide (at_ < now + usSub 100)
  let bad := mask.isEmpty || s.get (R.VD_OCSo_TIMING_WIDTH_US o) == 0 || (window && s.get (R.VD_OCSo_CTRL_UP_MASK o) != 0) ||
    (!window && !onTick at_) || near
  if bad then
    let s := s.put (R.VD_OCSo_STAT_CFG_ERR o) 1
    if near then s.put (R.VD_OCSo_STAT_LATE o) 1 else s
  else
    let s := (s.setOcs o { s.ocs o with at_ := if window then none else some at_, mask := mask }).put (R.VD_OCSo_STAT_ARMED o) 1
    (s.put (R.VD_OCSo_STAT_WAITING o) 0).ocsAwait o

/-- Cancel an armed output. -/
def State.ocsCancel (s : State) (o : Nat) : State :=
  ((s.setOcs o { s.ocs o with at_ := none }).put (R.VD_OCSo_STAT_ARMED o) 0).put (R.VD_OCSo_STAT_WAITING o) 0

/-- A write of VD_OCSo_CTRL (R319, R322): CANCEL goes before ARM. -/
def State.ocsCtrl (s : State) (o v : Nat) : State :=
  let s := ((s.put (R.VD_OCSo_CTRL_MODE o) (bits v 2 1)).put (R.VD_OCSo_CTRL_POLARITY o) (bits v 3 1)).put (R.VD_OCSo_CTRL_UP_MASK o) (bits v 4 2)
  if v.testBit 1 then s.ocsCancel o else if v.testBit 0 then s.ocsArm o else s

/-- OCS_ARM_WRITE: a write of VD_OCSo_CTRL with ARM. -/
def execOcsArmWrite (o : Fin 4) (v : Word) (s : State) : Res :=
  finish (s.viaBus 1 (0x61300 + 0x20 * o.val) (fun s => (s.ocsCtrl o (v.toNat ||| 1))))

/-- OCS_CANCEL_WRITE: a write of VD_OCSo_CTRL with CANCEL. -/
def execOcsCancelWrite (o : Fin 4) (v : Word) (s : State) : Res :=
  finish (s.viaBus 1 (0x61300 + 0x20 * o.val) (fun s => (s.ocsCtrl o (v.toNat ||| 2))))

/-- The pulse of an optical switch trigger (R319, R320): its ports are SWITCHING from now. -/
def State.ocsFire (s : State) (o : Fin 4) (x : Ocs) (t : Nat) : State :=
  let level := 1 - s.get (R.VD_OCSo_CTRL_POLARITY o)
  let s := s.emit (.pin (["OCS_TRIG0", "OCS_TRIG1", "OCS_TRIG2", "OCS_TRIG3"].getD o "OCS_TRIG") (level + 2 * s.get (R.VD_OCSo_TIMING_WIDTH_US o)))
  let s := s.setOcs o { x with at_ := none, firedAt := some t, live := x.mask, lossLogged := false }
  let s := ((s.put (R.VD_OCSo_STAT_ARMED o) 0).put (R.VD_OCSo_STAT_FIRED o) 1).bump (R.VD_OCSo_STAT_FIRES o)
  x.mask.foldl (fun s n => s.showSwitching (portOfIdx n)) s

/-- OCS_PULSE (R319, R320): the pin carries the active level in bit 0 and the pulse's length in µs above it. -/
def execOcsPulse (o : Fin 4) (s : State) : Res :=
  finish (
    let x := s.ocs o
    match x.at_ with
    | none => s
    | some t =>
      if !s.getB (R.VD_OCSo_STAT_ARMED o) || decide (s.now .verard < t) then s else
      s.ocsFire o x t)

/-- SETTLE_MS and 200 ms after a pulse (R320): what is still SWITCHING is not any more. -/
def State.ocsEnd (s : State) (o : Fin 4) (x : Ocs) : State :=
  let s := s.setOcs o { x with firedAt := none, live := [] }
  x.live.foldl (fun s n => s.showSwitching (portOfIdx n)) s

/-- OCS_SWITCH_TIMEOUT (R320). -/
def execOcsSwitchTimeout (o : Fin 4) (s : State) : Res :=
  finish (
    let x := s.ocs o
    match x.firedAt with
    | none => s
    | some t =>
      if s.now .verard < t + msSub (s.get (R.VD_OCSo_TIMING_SETTLE_MS o) + 200) then s else
      s.ocsEnd o x)

-- R323.

/-- OPT_STATUS. -/
def execOptStatus (c : CmdCtx) (e : Byte) (s : State) : Res :=
  done (
    if c.dev = .lotik then s.answer c 0x80 0x10
    else if 8 < e.toNat then s.answer c 0x80 0x11
    else (s.answer c 0x80 0 (s.regBytes 1 ((List.range 6).map (fun k => 0x60000 + e.toNat * 0x200 + 4 * k)))).logCommand c 0x80 0)

/-- OPT_LINES. -/
def execOptLines (c : CmdCtx) (e : Byte) (s : State) : Res :=
  done (
    if c.dev = .lotik then s.answer c 0x81 0x10
    else if 8 < e.toNat then s.answer c 0x81 0x11
    else (s.answer c 0x81 0 ((s.showLit e.toNat).regBytes 1 ((List.range 40).map (fun k => 0x60040 + e.toNat * 0x200 + 4 * k)))).logCommand c 0x81 0)

/-- OPT_SWAP of a serving line with a spare (R315, R323). -/
def State.optSwap (s : State) (c : CmdCtx) (e l : Byte) (k : Nat) : State :=
  let x := s.line e.toNat l.toNat
  let s := s.accept c 0x82 (e.toNat * 16 + l.toNat)
  let s := s.setLine e.toNat l.toNat { x with asked := true, dueAt := if s.lineState e.toNat l.toNat = 3 then x.dueAt else s.now .verard }
  s.warmSpare e.toNat k

/-- OPT_SWAP (R315, R323): a line that serves no place has nothing to swap. -/
def execOptSwap (c : CmdCtx) (e l : Byte) (s : State) : Res :=
  finish (
    if c.dev = .lotik then s.answer c 0x82 0x10
    else if 8 < e.toNat ∨ 9 < l.toNat then s.answer c 0x82 0x11
    else if (s.oe e.toNat).swap.isSome then s.answer c 0x82 0x30
    else match s.lineplace e.toNat l.toNat with
      | none => s.answer c 0x82 0x11
      | some k =>
        if (s.spareIn e.toNat k 5).isNone ∧ (s.spareIn e.toNat k 6).isNone then s.answer c 0x82 0x31
        else
          s.optSwap c e l k)

/-- OPT_RESEARCH (R308, R323). -/
def State.optResearch (s : State) (c : CmdCtx) (port : Byte) : State :=
  let p := portOfIdx port.toNat
  let st := s.get (R.VD_OE_STAT_STATE (oePlace p).1)
  let s := s.accept c 0x83 port.toNat
  if st = 3 ∨ st = 4 then s.searchAgain p
  else if st = 2 then s
  else s.complete .verard 0x83 port.toNat 0 [BitVec.ofNat 8 (s.ostate p)] true

/-- OPT_RESEARCH (R323): the port leaves service while its rings are searched; where its engine cannot search, the answer follows at once. -/
def execOptResearch (c : CmdCtx) (port : Byte) (s : State) : Res :=
  finish (
    if c.dev = .lotik then s.answer c 0x83 0x10
    else if 65 < port.toNat then s.answer c 0x83 0x11
    else
      s.optResearch c port)

/-- OCS_ARM (R319, R323): the trigger's registers are written and it is armed, or refused. -/
def State.ocsArmCmd (s : State) (c : CmdCtx) (o mode up : Byte) (at_ : Packed) (ports : BitVec 64) (width settle : BitVec 16) : State :=
  let o := o.toNat
  let v := at_.toNat
  let s := ((s.put (R.VD_OCSo_AT_NS_NS o) (bits v 16 32)).put (R.VD_OCSo_AT_SEC_LO_SEC_LO o) (bits v 48 32)).put (R.VD_OCSo_AT_SEC_HI_SEC_HI o) (bits v 80 16)
  let s := (s.put (R.VD_OCSo_PORTS_LO_PORTS o) (bits ports.toNat 0 32)).put (R.VD_OCSo_PORTS_HI_PORTS o) (bits ports.toNat 32 32)
  let s := (s.put (R.VD_OCSo_TIMING_WIDTH_US o) width.toNat).put (R.VD_OCSo_TIMING_SETTLE_MS o) settle.toNat
  let was := s.get (R.VD_OCSo_STAT_CFG_ERR o)
  let late := s.get (R.VD_OCSo_STAT_LATE o)
  let t := (s.put (R.VD_OCSo_STAT_CFG_ERR o) 0).put (R.VD_OCSo_STAT_LATE o) 0
  -- An AT instant with SUB not 0 is on no hall tick (R31, R319); the registers have no place for SUB.
  let t := if mode.toNat % 2 = 0 ∧ v % 65536 ≠ 0 then t.put (R.VD_OCSo_STAT_CFG_ERR o) 1
    else t.ocsCtrl o (1 + 4 * (mode.toNat % 4) + 16 * (up.toNat % 4))
  let ok := t.get (R.VD_OCSo_STAT_CFG_ERR o) == 0
  let t := (t.put (R.VD_OCSo_STAT_CFG_ERR o) (max was (t.get (R.VD_OCSo_STAT_CFG_ERR o)))).put (R.VD_OCSo_STAT_LATE o) (max late (t.get (R.VD_OCSo_STAT_LATE o)))
  if ok then (t.answer c 0x84 0).logCommand c 0x84 0 else t.answer c 0x84 0x11

/-- OCS_ARM (R319, R323): the output's registers are set, and it is armed or refused. -/
def execOcsArm (c : CmdCtx) (o mode up : Byte) (at_ : Packed) (ports : BitVec 64) (width settle : BitVec 16) (s : State) : Res :=
  finish (
    if c.dev = .lotik then s.answer c 0x84 0x10
    else if 3 < o.toNat then s.answer c 0x84 0x11
    else
      s.ocsArmCmd c o mode up at_ ports width settle)

/-- OCS_CANCEL (R323). -/
def execOcsCancel (c : CmdCtx) (o : Byte) (s : State) : Res :=
  finish (
    if c.dev = .lotik then s.answer c 0x85 0x10
    else if 3 < o.toNat then s.answer c 0x85 0x11
    else ((s.ocsCancel o.toNat).answer c 0x85 0).logCommand c 0x85 0)

end Sys2Proof.Machine
end

