-- ==== Sys2Proof/Machine/PowerCmd.lean ====
section
/-! DEFINITION. The commands of the power governor (R254 to R278). -/

namespace Sys2Proof.Machine

open Sys2Proof

/-- ACTIVITY_EVENT (R254): a region's counter counts its line's event, saturating. -/
def execActivityEvent (r : Fin 64) (k : Fin 32) (s : State) : Res :=
  .next (
    if s.nr ≤ r.val then s else
    let x := s.region r
    s.setRegion r { x with counts := smPut 0 x.counts k.val (min (smGet 0 x.counts k.val + 1) 65535) })

/-- What a sample shows (R257, R261, R269), and what it adds to the running job's record (R275). -/
def State.sampleShow (s : State) (lim : Option Int) (total worst now : Nat) : State :=
  let s := (s.put R.LK_PG_STAT_MAX_DENSITY worst).putB R.LK_PG_STAT_CAPPING (worst != 0 || decide (s.get R.LK_CS_STAT_OP_CEIL < 15))
  let s := s.putB R.LK_PG_STAT_SLOPE_LIMITED (s.regionNos.any (fun r => s.getB (R.LK_PG_REGr_STAT_SLOPE r)))
  let s := s.putSat R.LK_PG_POWER_P_EST (total / eighthW)
  let s := s.putSat R.LK_PG_POWER_P_LIMIT (match lim with | none => 65535 | some l => l.toNat / eighthW)
  let s := s.putSat R.LK_PG_AVG_AVG_1S ((s.lk.pg.bins1.take 1000).sum.toNat / 500000 / eighthW)
  let s := s.putSat R.LK_PG_AVG_AVG_10S ((s.lk.pg.bins10.take 1000).sum.toNat / 5000000 / eighthW)
  let s := s.showTemp
  let near := s.regionNos.any (fun r => decide ((s.get R.LK_PG_CFG2_TWARN_C : Int) - 3 ≤ (s.region r).temp))
  let s := s.setPg { s.lk.pg with hotAt := if near then now else s.lk.pg.hotAt }
  match s.activeSlot with
  | none => s
  | some i =>
    let x := s.run i
    if !s.jobBegun i then s else
    s.setRun i { x with maxDensity := max x.maxDensity worst, bubbles := x.bubbles + b2n (worst != 0),
                        unreach := x.unreach + b2n (s.getB R.LK_PG_STAT_CAP_UNREACHABLE) }

/-- A power sample (R258, R261, R269, R275). -/
def State.sample (s : State) (k : Nat) (p : Power) (now : Nat) (temps : List (BitVec 8)) : State :=
  -- the limit that held during the sample, and the bins up to it (R258, R269)
  let lim0 := s.dieLimit
  let w1 := rollBins p.bins1 p.cur1 (p.sampleNo / 500) ((k - 1) / 500)
  let b1 := w1.1
  let c1 := w1.2
  let w10 := rollBins p.bins10 p.cur10 (p.sampleNo / 5000) ((k - 1) / 5000)
  let b10 := w10.1
  let c10 := w10.2
  let s := s.setPg { p with bins1 := b1, cur1 := c1, bins10 := b10, cur10 := c10, sampleNo := k }
  let temp (r : Nat) : Int := (temps.getD r 0).toInt
  let total := (s.regionNos.map (fun r =>
    (if s.live r then s.dynEnergy r else 0) + leakMw (s.get (R.LK_CS_REGr_STAT_OP r)) (temp r) * 2000)).sum
  let counted : Int := match s.getB R.LK_PG_STAT_CAP_UNREACHABLE, lim0 with
    | true, some l => min l total
    | _, _ => total
  let p := s.lk.pg
  let p := { p with cur1 := p.cur1 + counted, cur10 := p.cur10 + counted, totalPj := p.totalPj + total,
                    jobPj := match s.activeSlot with
                      | some i => if s.jobBegun i then p.jobPj + total else p.jobPj
                      | none => p.jobPj }
  let w1 := rollBins p.bins1 p.cur1 ((k - 1) / 500) (k / 500)
  let b1 := w1.1
  let c1 := w1.2
  let w10 := rollBins p.bins10 p.cur10 ((k - 1) / 5000) (k / 5000)
  let b10 := w10.1
  let c10 := w10.2
  let s := s.setPg { p with bins1 := b1, cur1 := c1, bins10 := b10, cur10 := c10 }
  let s := s.boost (s.unbubbled temp)
  let lim := s.dieLimit
  let s := s.regionNos.foldl (fun s r => s.sampleRegion lim r (temp r)) s
  let s := (s.ceilTest lim total).floorTest lim
  let s := s.regionNos.foldl (fun s r => s.setDensity r) s
  let worst := s.regionNos.foldl (fun n r => max n (s.get (R.LK_PG_REGr_STAT_DENSITY r))) 0
  (s.sampleShow lim total worst now).hintRequests.deferRequest

/-- ACTIVITY_SAMPLE (R254 to R270): with each region's sensor temperature, °C. -/
def execActivitySample (temps : List (BitVec 8)) (s : State) : Res :=
  finish (
    let now := s.now .lotik
    let k := now / sampleSub
    let p := s.lk.pg
    if k ≤ p.sampleNo then s else
    s.sample k p now temps)

/-- BOOST_REARM (R266): 1 s after the opening. -/
def execBoostRearm (s : State) : Res :=
  .next (
    match s.lk.pg.boostAt with
    | none => s
    | some b => if b + secSub 1 ≤ s.now .lotik then s.put R.LK_PG_STAT_BOOST_ARMED 1 else s)

/-- The region cycles of a slot: 1,024 frames of 64 (R263). -/
def slotCycles : Nat := 65536

/-- DET_SLOT_BOUNDARY (R263): a further slot of the region has ended since the Mark, and the density takes the largest n(r) computed
during it. -/
def execDetSlotBoundary (r : Fin 64) (s : State) : Res :=
  .next (
    let x := s.region r
    if !s.getB R.LK_DET_STAT_DETMODE ∨ x.frame / slotCycles ≤ x.slots then s else
    s.setRegion r { x with applied := x.nMax, nMax := 0, slots := x.frame / slotCycles })

/-- PG_CAP_WRITE. -/
def execPgCapWrite (v : Word) (s : State) : Res :=
  .next (s.viaBus 0 0x400C (fun s => (s.pgCapWrite v.toNat)))

/-- PG_LO_CAPTURE (R276): a read of LK_PG_JOB_UJ_LO or LK_PG_TOTAL_UJ_LO. -/
def execPgLoCapture (total : Bool) (s : State) : Res :=
  .next (s.viaRead 0 (if total then 0x4038 else 0x4030) 4 (fun s =>
    (s.capturePg total, (s.capturePg total).get (if total then R.LK_PG_TOTAL_UJ_LO_LO else R.LK_PG_JOB_UJ_LO_LO))))

/-- PG_REGION_CAPTURE (R277): the read of a region block's first word. -/
def execPgRegionCapture (r : Fin 64) (s : State) : Res :=
  .next (s.viaRead 0 (0x4400 + r.val * 0x10) 4 (fun s =>
    if s.nr ≤ r.val then (s, 0) else (s.capturePgRegion r, (s.capturePgRegion r).word 0 (0x4400 + r.val * 0x10))))

/-- A sensor at or above TWARN_C (R273). -/
def State.warn (s : State) (r : Nat) (temp : BitVec 8) : State :=
  let now := s.now .lotik
  let s := (s.setRegion r { s.region r with temp := temp.toInt }).showTemp
  let s := s.setPg { s.lk.pg with warnClear := now, hotAt := now }
  if s.getB R.LK_PG_STAT_TWARN then s
  else
    let s := ((s.put R.LK_PG_STAT_TWARN 1).put R.LK_PG_IRQ_TWARN 1).setPg { s.lk.pg with ceilStep := now }
    (s.logChange .lotik 8 R.LK_PG_STAT_TWARN).lowerCeil

/-- THERMAL_WARNING (R273): a sensor has reached TWARN_C. -/
def execThermalWarning (r : Fin 64) (temp : BitVec 8) (s : State) : Res :=
  .next (
    if s.nr ≤ r.val ∨ temp.toInt < s.get R.LK_PG_CFG2_TWARN_C then s else
    s.warn r temp)

/-- TWARN_CEIL_STEP (R273): every 10 ms while any sensor stays at or above TWARN_C. -/
def execTwarnCeilStep (s : State) : Res :=
  .next (
    let now := s.now .lotik
    let hot := s.regionNos.any (fun r => decide ((s.get R.LK_PG_CFG2_TWARN_C : Int) ≤ (s.region r).temp))
    if s.getB R.LK_PG_STAT_TWARN ∧ hot ∧ s.lk.pg.ceilStep + msSub 10 ≤ now then
      (s.setPg { s.lk.pg with ceilStep := now }).lowerCeil
    else s)

/-- TWARN_CLEAR (R273): every sensor has stayed below TWARN_C − 3 °C for 100 ms. -/
def execTwarnClear (s : State) : Res :=
  .next (
    let cool := s.regionNos.all (fun r => decide ((s.region r).temp < (s.get R.LK_PG_CFG2_TWARN_C : Int) - 3))
    if s.getB R.LK_PG_STAT_TWARN ∧ cool ∧ s.lk.pg.hotAt + msSub 100 ≤ s.now .lotik then
      (s.put R.LK_PG_STAT_TWARN 0).setPg { s.lk.pg with warnClear := s.now .lotik }
    else s)

/-- Every region's AO stops (R274): CLK_STOP of those that are not stopped already. -/
def State.stopRegions (s : State) : State :=
  (s.regionNos.filter (fun r => s.regState r != 4)).foldl (fun s r => s.emit (.regionPin "CLK_STOP" r 1)) s

/-- A sensor at or above TCRIT_C (R274): THERM_TRIP is driven, logged, and the active job faults. -/
def State.trip (s : State) (r : Nat) (temp : BitVec 8) : State :=
  let s := (s.setRegion r { s.region r with temp := temp.toInt }).showTemp
  let s := (s.emit (.pin "THERM_TRIP" 1)).stopRegions
  let s := (s.put R.LK_PG_STAT_TRIPPED 1).put R.LK_PG_IRQ_TRIP 1
  let s := s.logKind .lotik 0x0801 5 [BitVec.ofNat 8 r, temp]
  s.faultActive 14

/-- THERMAL_TRIP (R274): every region's AO stops, THERM_TRIP is driven, and the active job faults with HOST_ABORT after the
entry that gives the reason. -/
def execThermalTrip (r : Fin 64) (temp : BitVec 8) (s : State) : Res :=
  finish (
    if s.nr ≤ r.val ∨ temp.toInt < s.get R.LK_PG_TEMP_TCRIT_C ∨ s.getB R.LK_PG_STAT_TRIPPED then s else
    s.trip r temp)

/-- PG_STATUS (R278). -/
def execPgStatus (c : CmdCtx) (s : State) : Res :=
  finish (if c.dev = .verard then s.answer c 0x54 0x10
    else s.answer c 0x54 0 (s.regBytes 0 [0x400C, 0x4010, 0x4014, 0x4018, 0x401C, 0x4020]))

/-- PG_CAP (R257, R278). -/
def State.pgCap (s : State) (c : CmdCtx) (cap1 cap10 : BitVec 16) : State :=
  let fl := s.floorEst / eighthW
  let below := (cap1 != 0 && decide (cap1.toNat < fl)) || (cap10 != 0 && decide (cap10.toNat < fl))
  let again := s.getB R.LK_PG_STAT_CAP_UNREACHABLE &&
    (capLower (s.get R.LK_PG_CAP_CAP_1S) cap1.toNat || capLower (s.get R.LK_PG_CAP_CAP_10S) cap10.toNat)
  let low := below || again
  let s := s.setCaps cap1.toNat cap10.toNat
  let st := if low then 0x60 else 0
  let s := s.answer c 0x55 st (leBytes 2 (min fl 65535))
  s.report .lotik { kind := 0x0C01, sev := 1, ua := c.src.toNat, step := s.stepCount .lotik,
                    arg := [0x55, BitVec.ofNat 8 st, c.version, 0] ++ leBytes 4 c.session.toNat ++ leBytes 4 c.seq.toNat ++
                      leBytes 2 cap1.toNat ++ leBytes 2 cap10.toNat }

/-- PG_CAP (R257, R268, R278): below the floor estimate, or lowered again while the die
holds its floor, the caps apply all the same. The entry carries both caps. -/
def execPgCap (c : CmdCtx) (cap1 cap10 : BitVec 16) (s : State) : Res :=
  finish (
    if c.dev = .verard then s.answer c 0x55 0x10
    else if capBad cap1.toNat cap10.toNat then s.answer c 0x55 0x11
    else
      s.pgCap c cap1 cap10)

/-- PG_ENERGY (R278). -/
def execPgEnergy (c : CmdCtx) (s : State) : Res :=
  finish (
    if c.dev = .verard then s.answer c 0x56 0x10
    else s.answer c 0x56 0 (leBytes 4 (s.word 0 0x2028) ++ leBytes 8 (s.lk.pg.jobPj / 1000000) ++ leBytes 8 (s.lk.pg.totalPj / 1000000)))

/-- PG_REGIONS (R277, R278, R428). -/
def State.pgRegions (s : State) (c : CmdCtx) (first regions : Byte) : State :=
  let rs := (List.range regions.toNat).map (· + first.toNat)
  let t := rs.foldl (fun s r => s.capturePgRegion r) s
  s.answer c 0x57 0 (rs.flatMap (fun r => t.regBytes 0 ((List.range 4).map (fun k => 0x4400 + r * 0x10 + 4 * k))))

/-- PG_REGIONS (R277, R278): each block captured for the reply alone (R428). -/
def execPgRegions (c : CmdCtx) (first regions : Byte) (s : State) : Res :=
  finish (
    if c.dev = .verard then s.answer c 0x57 0x10
    else if regions.toNat = 0 ∨ 64 < regions.toNat ∨ s.nr < first.toNat + regions.toNat then s.answer c 0x57 0x11
    else
      s.pgRegions c first regions)

/-- PG_MODEL (R278). -/
def execPgModel (c : CmdCtx) (s : State) : Res :=
  finish (
    if c.dev = .verard then s.answer c 0x58 0x10
    else s.answer c 0x58 0 (leBytes 2 (s.get R.LK_PG_MODEL_V_REF_MV) ++
      (List.range 32).flatMap (fun k => leBytes 2 (s.get (R.LK_PG_WEIGHTk_WEIGHT k))) ++
      (List.range 16).flatMap (fun o => (List.range 8).flatMap (fun t => leBytes 2 (Config.leakage o t).toNat))))

end Sys2Proof.Machine
end

