-- ==== Sys2Proof/Machine/Refs.lean ====
section
/-! DEFINITION. References, selection, jump refusal, time states of the hall master, PTP ports and output pulses (R77 to R105). -/

namespace Sys2Proof.Machine

open Sys2Proof

/-- A reference input's hidden state. -/
def State.refIn (s : State) (i : Nat) : RefIn := smGet {} s.vd.refs.inputs i

/-- Replace a reference input's hidden state. -/
def State.setRefIn (s : State) (i : Nat) (x : RefIn) : State :=
  s.setRefs { s.vd.refs with inputs := smPut {} s.vd.refs.inputs i x }

/-- A PTP port's hidden state. -/
def State.ptp (s : State) (p : Nat) : PtpPort := smGet {} s.vd.refs.ptp p

/-- Replace a PTP port's hidden state. -/
def State.setPtp (s : State) (p : Nat) (x : PtpPort) : State :=
  s.setRefs { s.vd.refs with ptp := smPut {} s.vd.refs.ptp p x }

/-- Whether this Verard uses references at all (R77). -/
def State.usesRefs (s : State) : Bool := s.vdRole != 1

/-- The wait-to-restore of an input has passed (R83). -/
def State.wtrPassed (s : State) (i : Nat) : Bool :=
  match (s.refIn i).qualSince with
  | none => false
  | some t => decide (t + secSub (s.get R.VD_REF_CFG_WTR_S) ≤ s.now .verard)

/-- Show the seconds an input still has to wait (R103). -/
def State.showTimers (s : State) (i : Nat) : State :=
  let left (since : Option Nat) (n : Nat) : Nat := match since with
    | some t => n - (s.now .verard - t) / secSub 1
    | none => n
  let r := s.refIn i
  let s' := s.put (R.VD_REFi_TIMERS_QUAL_REMAIN_S i)
    (if s.get (R.VD_REFi_ST_QUAL i) = 1 then left r.goodSince (s.get R.VD_REF_CFG_QUAL_S) else 0)
  s'.put (R.VD_REFi_TIMERS_WTR_REMAIN_S i)
    (if s.getB (R.VD_REFi_ST_WTR_RUN i) then left r.qualSince (s.get R.VD_REF_CFG_WTR_S) else 0)

/-- Show whether an input waits to be restored (R83, R103): QUALIFIED, of higher priority than the selected one, and its time not over. -/
def State.showWtr (s : State) (i : Nat) : State :=
  let prio := s.get (R.VD_REFi_CFG_PRIO i)
  (s.putB (R.VD_REFi_ST_WTR_RUN i)
    (s.get (R.VD_REFi_ST_QUAL i) == 2 && i != 2 && prio != 0 && s.getB R.VD_REF_CFG_REVERTIVE && s.hasInput &&
      decide (prio < s.get (R.VD_REFi_CFG_PRIO (s.get R.VD_REF_STAT_SELECTED))) && !s.wtrPassed i)).showTimers i

/-- The same of every input that can be selected. -/
def State.showWtrs (s : State) : State := [0, 1, 3].foldl (fun s i => s.showWtr i) s

/-- An input's qualification state changes, with its Log entry (R81). -/
def State.setQual (s : State) (i q cause : Nat) : State :=
  let old := s.get (R.VD_REFi_ST_QUAL i)
  if old = q then s else
  let s := s.put (R.VD_REFi_ST_QUAL i) q
  let s := if old = 2 then s.put (R.VD_REFi_ST_CAUSE i) cause else s
  let now := s.now .verard
  let s := s.setRefIn i { s.refIn i with
    qualSince := if q = 2 then some now else none
    goodSince := if q = 1 then some now else (s.refIn i).goodSince }
  (s.showWtr i).logChange .verard 2 (R.VD_REFi_ST_QUAL i) (if old = 2 then 4 else 2)

/-- An input crosses a reject limit (R80). One that was never active stays ABSENT but for a pin fault, and a refused or locked out one
stays so (R83, R89). -/
def State.rejectInput (s : State) (i cause : Nat) : State :=
  let q := s.get (R.VD_REFi_ST_QUAL i)
  if q = 3 ∨ q = 4 ∨ q = 5 ∨ (q = 0 ∧ cause ≠ 5) then s
  else
    let s := (s.setQual i 3 cause).bumpSat (R.VD_REFi_CNT_REJECTS i)
    if i = 2 then s.put R.VD_REF_STAT_PAIRED 0 else s

/-- An input seen active again begins to qualify (R80). -/
def State.beginQual (s : State) (i : Nat) : State :=
  let q := s.get (R.VD_REFi_ST_QUAL i)
  if (q = 0 ∨ q = 3) ∧ (s.get (R.VD_REFi_ST_FAULT i) = 0 ∨ s.get (R.VD_REFi_ST_FAULT i) = 5) then s.setQual i 1 0 else s

/-- The bearing limit of R86, ps. -/
def State.bearingLimit (s : State) : Int :=
  let j : Int := s.get R.VD_JUMP_JUMP_NS * 1000
  let own := (s.clk .verard).own
  if own = 3 ∨ own = 4 then j + s.get R.VD_HOLD_EST_EST_PS else j

/-- An input's bearing, ps (R85): the filtered offset of a PTP input, the mean of the last 4 edges of IN3; before any observation, what
its register shows. -/
def State.bearing (s : State) (i : Nat) : Int :=
  let o := (s.refIn i).obs.take (if i = 3 then 4 else 1)
  if o = [] then s.getS (R.VD_REFi_BEARING_BEARING_PS i) else o.sum / o.length

/-- The difference of two inputs' times, ps. IN3 names no second, so beside it only the part within a second counts (R78). -/
def State.apart (s : State) (i j : Nat) : Int :=
  let v := s.bearing i - s.bearing j
  if i ≠ 3 ∧ j ≠ 3 then v
  else
    let m := v % 1000000000000
    if 1000000000000 < m * 2 then m - 1000000000000 else m

/-- An input's bearing as it is held against the limit (R86): against hall time; in ACQUIRING against the time that the first lock will
take up, which the selected input gives (DEDUCED, notes/assumptions/14). -/
def State.bearingFrom (s : State) (i : Nat) : Int :=
  let sel := s.get R.VD_REF_STAT_SELECTED
  if (s.clk .verard).joined ∨ sel = 7 then s.bearing i else s.apart i sel

/-- Whether an input's bearing lies within the limit (R86). The rule sets none in FREE_RUN. -/
def State.bearingOk (s : State) (i : Nat) : Bool :=
  (!(s.clk .verard).joined && (s.clk .verard).own != 1) || decide ((s.bearingFrom i).natAbs ≤ s.bearingLimit.toNat)

/-- Whether an input may be selected (R77, R78, R82, R86, R101). -/
def State.selectable (s : State) (i : Nat) : Bool :=
  i != 2 && s.get (R.VD_REFi_ST_QUAL i) == 2 && s.get (R.VD_REFi_CFG_PRIO i) != 0 && !s.getB (R.VD_REFi_CFG_LOCKOUT i) &&
  s.bearingOk i && (i != 3 || s.wrap .verard || s.getB R.VD_REF_STAT_TOD_VALID) &&
  (2 ≤ i || s.get (R.PTP_STAT_PORT_STATE i) != 6)

/-- The best of a list of inputs: the lowest priority number, then the lowest input (R82). -/
def State.bestInput (s : State) (l : List Nat) : Nat :=
  l.foldl (fun b i => if b = 7 then i else if s.get (R.VD_REFi_CFG_PRIO i) < s.get (R.VD_REFi_CFG_PRIO b) then i else b) 7

/-- The input the selector chooses (R82, R83). -/
def State.choice (s : State) : Nat :=
  let ok := [0, 1, 3].filter (fun i => s.selectable i)
  let cur := s.get R.VD_REF_STAT_SELECTED
  if !ok.contains cur then s.bestInput ok
  else if s.vd.refs.rerun then s.bestInput ok
  else if s.getB R.VD_REF_CFG_REVERTIVE then
    let better := ok.filter (fun i => decide (s.get (R.VD_REFi_CFG_PRIO i) < s.get (R.VD_REFi_CFG_PRIO cur)) && s.wtrPassed i)
    if better = [] then cur else s.bestInput better
  else cur

/-- The QUALIFIED PTP input of highest priority, or 7 (R78); priority 0 disables an input (R82). -/
def State.bestPtp (s : State) : Nat :=
  s.bestInput ([0, 1].filter (fun i => s.get (R.VD_REFi_ST_QUAL i) == 2 && s.get (R.VD_REFi_CFG_PRIO i) != 0))

/-- UTC offset as the hall master learns it (R78): from the selected PTP input, with IN3 from the best QUALIFIED one; else kept. -/
def State.takeUtc (s : State) : State :=
  let sel := s.get R.VD_REF_STAT_SELECTED
  let src := if s.get R.VD_TOPO_TIME_PARENT ≠ 3 then 7 else if sel < 2 then sel else if sel = 3 then s.bestPtp else 7
  if src = 7 then s
  else (s.put (R.TIME_UTC_UTC_OFFSET .verard) (s.refIn src).utcOffset.toNat).putB (R.TIME_UTC_UTC_VALID .verard) (s.refIn src).utcValid

/-- The state the selector gives this root (R82): its own on the hall master; on a root that follows, the one R91 gives for its input
and its OCXO. -/
def State.refState (s : State) : Nat :=
  let c := s.clk .verard
  let ready := s.getB R.VD_REF_STAT_OCXO_READY
  if c.own = 5 then 5
  else if c.hallMaster ∨ s.get R.VD_TOPO_TIME_PARENT = 3 then c.own.toNat
  else if s.hasInput then (if c.joined then 2 else if ready then 1 else 0)
  else if c.joined then (if c.own = 4 ∨ !ready then 4 else 3) else 0

/-- The present update absorbs the bearing of an input as a fixed offset (R85, R87): a reference switch. -/
def State.absorbBearing (s : State) (i : Nat) : State :=
  let s := (s.putSSat R.VD_BEARING_RES_RES_PS (s.bearing i)).setRefs { s.vd.refs with absorb := false, working := false }
  ((s.put R.VD_REF_STAT_SWITCHED 1).bump R.VD_REF_STAT_SWITCH_COUNT).logChange .verard 2 R.VD_REF_STAT_SELECTED

/-- The selection of an update takes effect (R85, R87, R91). The hall master's loop absorbs the bearing of an input it newly follows, so
hall time does not step; in ACQUIRING the loss of the input it followed leads through FREE_RUN, and the next input acquires anew. -/
def State.switchTo (s : State) (new : Nat) : State :=
  let old := s.get R.VD_REF_STAT_SELECTED
  let c := s.clk .verard
  let leads := s.get R.VD_TOPO_TIME_PARENT == 3 || c.hallMaster
  let again := leads && s.vd.refs.absorb && new != 7
  let s := s.setRefs { s.vd.refs with rerun := false, absorb := s.vd.refs.absorb && c.joined && new == 7 }
  if new = old then s.doIf (again && c.joined) (fun s => s.absorbBearing new)
  else
    let s := s.put R.VD_REF_STAT_SELECTED new
    let s := s.doIf (leads && c.own == 1 && old != 7) (fun s => s.setOwn .verard 0)
    if new = 7 then s.showWtrs.logChange .verard 2 R.VD_REF_STAT_SELECTED 4
    else
      let s := s.showWtrs
      if leads ∧ c.joined then s.absorbBearing new else s.logChange .verard 2 R.VD_REF_STAT_SELECTED

/-- Holdover assist begins when IN2 is QUALIFIED in holdover (R96). -/
def State.assist (s : State) : State :=
  let c := s.clk .verard
  if s.getB R.VD_REF_CFG_ASSIST ∧ s.get (R.VD_REFi_ST_QUAL 2) = 2 ∧ (c.own = 3 ∨ c.own = 4) ∧ ¬s.getB R.VD_REF_STAT_ASSIST_ACTIVE then
    (s.setClk .verard { c with holdE0 := c.est, holdF := s.vd.prof.assistF, holdA := 0, holdAt := c.now }).put
      R.VD_REF_STAT_ASSIST_ACTIVE 1
  else if c.own ≠ 3 ∧ c.own ≠ 4 then s.put R.VD_REF_STAT_ASSIST_ACTIVE 0
  else s

/-- IN2 is lost: pairing and assist end (R79, R96). -/
def State.assistEnd (s : State) : State :=
  let s := s.put R.VD_REF_STAT_PAIRED 0
  if s.getB R.VD_REF_STAT_ASSIST_ACTIVE then
    let c := s.clk .verard
    (s.setClk .verard { c with holdE0 := c.est, holdF := c.holdF0, holdA := c.holdA0, holdAt := c.now }).put
      R.VD_REF_STAT_ASSIST_ACTIVE 0
  else s

/-- The time state of a device that takes references, after a selection (R91). -/
def State.masterState (s : State) : State :=
  let c := s.clk .verard
  if s.get R.VD_TOPO_TIME_PARENT ≠ 3 then s
  else if c.own = 0 ∧ s.getB R.VD_REF_STAT_OCXO_READY ∧ s.hasInput then s.setOwn .verard 1
  else if (c.own = 3 ∨ c.own = 4) ∧ s.hasInput then (s.setOwn .verard 2).showEst .verard
  else s

/-- Whether an input agrees with the selected one within JUMP_NS (R78, R90), or there is none QUALIFIED to disagree with. -/
def State.agrees (s : State) (i : Nat) : Bool :=
  let sel := s.get R.VD_REF_STAT_SELECTED
  sel == 7 || s.get (R.VD_REFi_ST_QUAL sel) != 2 ||
    decide ((s.apart i sel).natAbs ≤ s.get R.VD_JUMP_JUMP_NS * 1000)

/-- An input outside or back inside the bearing limit (R86), or, before the first lock, back in agreement (R90). -/
def State.bearingCheck (s : State) (i : Nat) : State :=
  let q := s.get (R.VD_REFi_ST_QUAL i)
  let cause := s.get (R.VD_REFi_ST_CAUSE i)
  if q = 2 ∧ !s.bearingOk i then s.setQual i 6 8
  else if q = 6 ∧ s.bearingOk i ∧ (cause = 8 ∨ (s.clk .verard).joined ∨ s.agrees i) then s.setQual i 2 0
  else s

/-- R90: at the first lock, the other phase-bearing inputs, where the selected one differs from every one of them by more than
JUMP_NS. -/
def State.disagreeing (s : State) : List Nat :=
  let sel := s.get R.VD_REF_STAT_SELECTED
  let others := [0, 1, 3].filter (fun i => i != sel && !s.getB (R.VD_REFi_CFG_LOCKOUT i) &&
    (s.get (R.VD_REFi_ST_QUAL i) == 2 || s.get (R.VD_REFi_ST_QUAL i) == 6))
  if others.any (fun i => s.agrees i) then [] else others

/-- A jump refusal takes effect (R88). -/
def State.refuseInput (s : State) (i : Nat) (step : Int) : State :=
  let s := s.setRefIn i { s.refIn i with refused := true }
  let s := (s.setQual i 4 6).put R.VD_REF_STAT_JUMP_REFUSED 1
  let s := (s.bumpSat R.VD_JUMP_REFUSALS).bumpSat (R.VD_REFi_CNT_REFUSALS i)
  let s := (s.putSSat R.VD_JUMP_LAST_LAST_NS (step / 1000)).put R.VD_JUMP_LAST_INPUT i
  s.logChange .verard 2 R.VD_JUMP_LAST_LAST_NS 4

/-- IN2's measured frequency, 10⁻¹², is taken where it supplies it (R79, R96): by a hall master whose IN3 is paired with it, and in an
assisted holdover. It is measured against the OCXO as corrected, so the whole of it goes into the value that tracks the reference
(DESIGN CHOICE, notes/assumptions/148); phase is never taken from it. -/
def State.takeFreq (s : State) (ppt : Int) : State :=
  let c := s.clk .verard
  let paired := s.getB R.VD_REF_STAT_PAIRED && s.get R.VD_TOPO_TIME_PARENT == 3 && (c.own == 1 || c.own == 2)
  if paired ∨ s.getB R.VD_REF_STAT_ASSIST_ACTIVE then
    let rate := clampInc ((c.rate.toNat : Int) + (incOne : Int) * ppt / 1000000000000)
    (s.setClk .verard { c with rate := BitVec.ofNat 49 rate }.steered).putSSat R.VD_LOOP_FREQ_FREQ_PPT
      (((rate : Int) - incOne) * 1000000000000 / incOne)
  else s

/-- INPUT_QUALIFIED (R80): an input is measured at a frequency, 10⁻¹². Beyond the reject limit it is REJECTED; inside every accept
limit for QUAL_S it becomes QUALIFIED, and its bearing is kept from then on (R85); a measurement outside the accept limit starts QUAL_S
again; a BEARING_HIGH input is rejected like a QUALIFIED one. IN2 begins to qualify when it is first measured, and supplies its frequency
where it is asked to. -/
def State.inputMeasured (s : State) (i : Nat) (freqPpt : BitVec 32) : State :=
  let f := freqPpt.toInt.natAbs
  let q := s.get (R.VD_REFi_ST_QUAL i)
  let long : Bool := match (s.refIn i).goodSince with
    | none => false
    | some t => decide (t + secSub (s.get R.VD_REF_CFG_QUAL_S) ≤ s.now .verard)
  let sound := s.get (R.VD_REFi_ST_FAULT i) == 0 || s.get (R.VD_REFi_ST_FAULT i) == 5
  let shown := if q = 0 ∧ i ≠ 2 then s else s.put (R.VD_REFi_FREQ_FREQ_PPT i) freqPpt.toNat
  if f ≤ s.vd.prof.freqAccept then
    if q = 1 ∧ long ∧ sound then
      let s := shown.setQual i 2 0
      if i = 2 then s else s.putSSat (R.VD_REFi_BEARING_BEARING_PS i) (s.bearing i)
    else shown.doIf (i == 2) (fun s => (s.beginQual 2).takeFreq freqPpt.toInt)
  else if s.vd.prof.freqReject < f then
    (if q = 1 ∨ q = 2 ∨ q = 6 then (shown.rejectInput i 2).doIf (i == 2) State.assistEnd else shown)
  else if q = 1 then shown.setRefIn i { shown.refIn i with goodSince := some (s.now .verard) }
  else shown.doIf (i == 2) (fun s => s.takeFreq freqPpt.toInt)

/-- A lockout set or released takes effect (R83): released, an input qualifies afresh where it is active, and a refused one is refused
again (R89). The table of R81 has no cause for a lockout: a QUALIFIED input that is locked out shows NONE (DESIGN CHOICE,
notes/assumptions/149). -/
def State.lockoutTaken (s : State) (i : Nat) (on : Bool) : State :=
  if on then (s.setQual i 5 0).doIf (i == 2) State.assistEnd
  else if s.get (R.VD_REFi_ST_QUAL i) ≠ 5 then s
  else
    let fault := s.get (R.VD_REFi_ST_FAULT i)
    let active := if i < 2 then s.getB (R.PTP_STAT_GM_PRESENT i) else if i = 3 then (s.refIn 3).lastEdge.isSome else true
    s.setQual i (if (s.refIn i).refused then 4 else if fault ≠ 0 ∧ fault ≠ 5 then 3 else if active then 1 else 0) 0

/-- The place of an event in the order of R84; pin faults and activity losses, the first place, act as they come, so before all that
waits for the update. -/
def RefEvent.place : RefEvent → Nat
  | .refuse _ _ => 2
  | .measured _ _ => 3
  | .unfit _ _ => 3
  | .lockout _ _ => 4

/-- An event takes effect. -/
def State.takeRefEvent (s : State) : RefEvent → State
  | .refuse i step => s.refuseInput i step
  | .measured i ppt => s.inputMeasured i ppt
  | .unfit i cause => s.rejectInput i cause
  | .lockout i on => s.lockoutTaken i on

/-- The waiting events, in the order of R84: those of one place in the order they came. -/
def State.takeRefEvents (s : State) : State :=
  let l := s.vd.refs.events
  let ord := [2, 3, 4].flatMap (fun p => l.filter (fun e => e.place == p))
  ord.foldl (fun s e => s.takeRefEvent e) (s.setRefs { s.vd.refs with events := [] })

/-- An event waits for the next loop update (R84). -/
def State.refEvent (s : State) (e : RefEvent) : State := s.setRefs { s.vd.refs with events := s.vd.refs.events ++ [e] }

/-- The residual of an absorbed bearing is worked off through INC (R85): each update takes off what INC moved since the one before, 1 ps
for each ppb of BEARING_SLEW, which stands in INC beside the loop's own way until nothing remains. A root that follows has none, and in
LOST the last INC stands (R49). -/
def State.workResidual (s : State) : State :=
  let res := s.getS R.VD_BEARING_RES_RES_PS
  let c := s.clk .verard
  let k : Int := s.vd.prof.bearingSlew
  let res := if !s.vd.refs.working then res else if res.natAbs ≤ k.natAbs then 0 else if 0 < res then res - k else res + k
  let on := res != 0 && c.own == 2 && s.get R.VD_TOPO_TIME_PARENT == 3
  let d : Int := (incOne : Int) * k / 1000000000
  let bear := if !on then 0 else if 0 < res then d else -d
  let s := s.putS R.VD_BEARING_RES_RES_PS (if on ∨ c.own = 3 ∨ c.own = 4 then res else 0)
  (s.setRefs { s.vd.refs with working := on }).doIf (bear != c.bear && c.own != 5)
    (fun s => s.setClk .verard { c with bear := bear }.steered)

/-- SELECTOR_UPDATE (R82 to R87): the residual of earlier updates is worked off, the events of this one are taken in their order,
bearings are held against their limit, an input is selected, once, and the hall master chosen afresh. -/
def State.selectorUpdate (s : State) : State :=
  if !s.usesRefs then s else
  let s := (s.workResidual).takeRefEvents
  let s := [0, 1, 3].foldl (fun s i => s.bearingCheck i) s
  let s := s.switchTo s.choice
  let s := s.putB R.VD_REF_STAT_PAIRED (s.get R.VD_REF_STAT_SELECTED == 3 && s.getB R.VD_REF_CFG_PAIR && s.get (R.VD_REFi_ST_QUAL 2) == 2)
  let s := s.put R.VD_REF_STAT_REF_STATE s.refState
  let s := (s.takeUtc.retimeVerard).masterState
  let s := s.assist.markMeas
  s.put R.VD_REF_STAT_REF_STATE s.refState

/-- SELECTOR_UPDATE. -/
def execSelectorUpdate (s : State) : Res := done s.selectorUpdate

/-- One observation of an input's time minus hall time, ps (R85, R88, R89): on the hall master a step beyond JUMP_NS of the selected input
is not used, and a second one in a row refuses the input at the next update; else it steers the loop. -/
def State.observe (s : State) (i : Nat) (v : Int) : State :=
  let x := s.refIn i
  let c := s.clk .verard
  let jump := s.get R.VD_JUMP_JUMP_NS * 1000
  let used := s.get R.VD_REF_STAT_SELECTED == i && s.get R.VD_TOPO_TIME_PARENT == 3
  let step := v - s.getS R.VD_BEARING_RES_RES_PS
  if c.joined ∧ used ∧ ¬s.vd.refs.absorb ∧ jump < step.natAbs then
    (s.setRefIn i { x with jumpOnce := !x.jumpOnce }).doIf x.jumpOnce (fun s => s.refEvent (.refuse i step))
  else
    let back := x.refused && decide (v.natAbs ≤ jump)
    let s := s.setRefIn i { x with jumpOnce := false, refused := x.refused && !back, obs := pushN 16 v x.obs }
    let s := s.doIf (back && s.get (R.VD_REFi_ST_QUAL i) == 4) (fun s => s.setQual i 1 0)
    s.doIf (used && (c.own == 1 || c.own == 2)) (fun s => s.steer .verard (-(psToSub step)))

/-- INPUT_QUALIFIED (R80, R84): the measurement is taken at the next loop update. -/
def execInputQualified (i : Fin 4) (freqPpt : BitVec 32) (s : State) : Res :=
  done (if !s.usesRefs then s else s.refEvent (.measured i freqPpt))

/-- WTR_EXPIRY (R83): wait-to-restore ends; the input may be selected at the next update. -/
def execWtrExpiry (i : Fin 4) (s : State) : Res :=
  done (
    if s.getB (R.VD_REFi_ST_WTR_RUN i) && s.wtrPassed i then
      (s.put (R.VD_REFi_ST_WTR_RUN i) 0).put (R.VD_REFi_TIMERS_WTR_REMAIN_S i) 0
    else s)

/-- 2^k seconds, for a signed 4-bit logarithm of an interval (R100), in 2⁻¹⁶ ns. -/
def logInterval (v : Nat) : Nat :=
  let k := toSigned 4 v
  if 0 ≤ k then secSub 1 * 2 ^ k.toNat else secSub 1 / 2 ^ (-k).toNat

/-- The mean of the quarter of exchanges with the smallest delay (R100), and the smallest delay. -/
def ptpFilter (l : List (Int × Int)) : Int × Int :=
  let t := l.foldl (fun acc x => let (a, b) := acc.span (fun y => decide (y.1 ≤ x.1)); a ++ x :: b) []
  let q := t.take (max 1 (t.length / 4))
  ((q.map (·.2)).sum / q.length, (t.head?.map (·.1)).getD 0)

/-- An exchange of a PTP port (R100): one-way difference t2 − t1 less the mean path delay, turned to input minus hall time. PTP_MPD shows
the smallest path delay of the 1 s window, the one the offset rests on: the table says no more than mean path delay (DESIGN CHOICE,
notes/assumptions/150). -/
def State.ptpExchange (s : State) (p : Nat) (delay diff : Int) : State :=
  let asym := s.vd.prof.ptpAsymPs.getD p 0
  let x := s.ptp p
  let now := s.now .verard
  let win := x.window ++ [(delay, -(diff - delay) + asym)]
  if x.windowAt + secSub 1 ≤ now then
    let ft := ptpFilter win
    let ofs := ft.1
    let d := ft.2
    let s := s.setPtp p { x with window := [], windowAt := now, mpd := d }
    let s := (s.putSSat (R.PTP_OFFSET_OFFSET_PS p) ofs).putSat (R.PTP_MPD_MPD_PS p) d.toNat
    s.observe p ofs
  else s.setPtp p { x with window := win, mpd := delay }

/-- A Sync's t2 − t1 is known (R100): with peer-to-peer the delay is already held, else a Delay_Resp completes the exchange. -/
def State.ptpSync (s : State) (p : Nat) (rx : Nat) (origin : Packed) (corrPs : Int) : State :=
  let t1 : Nat := unpackInstant false 0 origin
  let diff := subToPs ((rx : Int) - t1) - corrPs
  let s := s.setPtp p { s.ptp p with syncDiff := some diff, syncRx := none }
  if s.getB (R.PTP_CTRL_DELAY_MECH p) then s.ptpExchange p (s.ptp p).mpd diff else s

/-- Lexicographic order of announced data sets: the lower wins (R100, default BMCA). -/
def datasetLe : List Nat → List Nat → Bool
  | [], _ => true
  | _ :: _, [] => false
  | a :: as, b :: bs => if a < b then true else if b < a then false else datasetLe as bs

/-- The clockClass a time transmitter advertises (R101). -/
def State.clockClass (s : State) : Nat :=
  if !s.getB R.VD_REF_STAT_TOD_VALID then 248
  else match s.shownState .verard with
    | 2 => 6
    | 3 => 7
    | 4 => 52
    | _ => 248

/-- The data set a port announces, in the order in which the default BMCA compares it (R100): the priorities are those of the default
profile (PRESUMED, notes/assumptions/119). -/
def State.ownDataset (s : State) (p : Nat) : List Nat :=
  [128, s.clockClass, Config.ptpAccuracy.toNat, Config.ptpVariance.toNat, 128, (Config.ptpIdentity p).toNat]

/-- A port may be a time transmitter (R100). -/
def State.mayTransmit (s : State) (p : Nat) : Bool := s.getB (R.PTP_CTRL_PORT_ROLE p) && s.getB R.VD_REF_STAT_TOD_VALID

/-- An Announce on a port (R80, R100): the best transmitter is followed, a better one replaces it, and its own later messages renew what it
announces. The 4 intervals for a Sync begin anew with another transmitter. A clock class or traceability outside the limits rejects the
input at the next update (R84). -/
def State.ptpAnnounce (s : State) (p : Nat) (src : BitVec 80) (ds : List Nat) (cls : Nat) (tr : Bool) (uo : BitVec 16) (uv : Bool) : State :=
  let x := s.refIn p
  if x.best ≠ [] ∧ x.source ≠ some src ∧ !datasetLe ds x.best then s else
  let now := s.now .verard
  let s := s.setRefIn p { x with lastAnnounce := some now, utcOffset := uo, utcValid := uv, best := ds, source := some src,
                                 lastSync := if x.source = some src then x.lastSync else some now }
  let s := (s.put (R.PTP_STAT_GM_PRESENT p) 1).put (R.PTP_STAT_GM_CLASS p) cls
  let s := s.putB (R.PTP_STAT_TRACEABLE p) tr
  -- The default BMCA leaves the better of the two clocks transmitting.
  let s := s.put (R.PTP_STAT_PORT_STATE p) (if s.mayTransmit p && !datasetLe ds (s.ownDataset p) then 6 else 9)
  if s.vd.prof.classMax < cls then s.refEvent (.unfit p 3)
  else if !tr ∧ ¬s.wrap .verard then s.refEvent (.unfit p 4)
  else s.beginQual p

/-- Add a stamp to a port's queue (R102). -/
def State.tsqPush (s : State) (p : Nat) (e : TsqEntry) : State :=
  let x := s.ptp p
  if 64 ≤ x.tsq.length then (s.put (R.PTP_STAT_TSQ_OVF p) 1).bumpSat (R.PTP_CNT_TSQ_LOST p)
  else (s.setPtp p { x with tsq := x.tsq ++ [e] }).put (R.PTP_STAT_TSQ_COUNT p) (x.tsq.length + 1)

/-- PTP_MESSAGE_RX (R100, R101): a message on a port, stamped at `bins` after the accumulator. -/
def State.ptpRx (s : State) (p : Nat) (m : PtpMsg) (bins : Nat) : State :=
  if s.vdRole = 1 ∨ ¬s.getB (R.PTP_CTRL_ENABLE p) then s else
  let now := fineStamp (s.clk .verard) (s.now .verard) bins - psToSub (Config.ptpRxDly p).toNat
  let now := now.toNat
  let mine (d : Byte) : Bool := d.toNat == s.get (R.PTP_CTRL_DOMAIN p)
  let chosen (d : Byte) (src : BitVec 80) : Bool :=
    mine d && (s.refIn p).source == some src && s.get (R.PTP_STAT_PORT_STATE p) != 6
  let peer := s.getB (R.PTP_CTRL_DELAY_MECH p)
  let id := Config.ptpIdentity p
  match m with
  | .foreign => s.bumpSat (R.PTP_CNT_RX_DROP p)
  | .network => s
  | .unsupported => s
  | .announce d src ds cls tr uo uv => if mine d then s.ptpAnnounce p src ds cls.toNat tr uo uv else s
  | .sync d src seq two origin corr =>
    if !chosen d src then s else
    let s := s.setRefIn p { s.refIn p with lastSync := some now }
    if two then s.setPtp p { s.ptp p with syncRx := some (seq, now, corr.toInt) } else s.ptpSync p now origin corr.toInt
  | .followUp d src seq origin corr =>
    match (s.ptp p).syncRx with
    | some (q, rx, c) => if chosen d src ∧ q = seq then s.ptpSync p rx origin (c + corr.toInt) else s
    | none => s
  | .delayReq d src seq corr =>
    if mine d ∧ !peer ∧ s.mayTransmit p ∧ s.get (R.PTP_STAT_PORT_STATE p) = 6 then
      s.emit (.ptp p (.delayResp d id src seq (packInstant false now) corr))
    else s
  | .delayResp d src req seq rx corr =>
    match (s.ptp p).reqTx, (s.ptp p).syncDiff with
    | some (q, tx), some diff =>
      if chosen d src ∧ !peer ∧ req = id ∧ q = seq then
        let back := subToPs ((unpackInstant false 0 rx : Nat) - (tx : Int)) - corr.toInt
        (s.setPtp p { s.ptp p with reqTx := none }).ptpExchange p ((diff + back) / 2) diff
      else s
    | _, _ => s
  | .pdelayReq d src seq corr =>
    if !mine d ∨ !peer then s else
    let two := s.getB (R.PTP_CTRL_TWO_STEP p)
    let out := s.now .verard + (psToSub (Config.ptpTxDly p).toNat).toNat
    let s := s.emit (.ptp p (if two then .pdelayResp d id src seq true (packInstant false now) 0
      else .pdelayResp d id src seq false 0 (BitVec.ofInt 32 (corr.toInt + subToPs ((out : Int) - now)))))
    let s := s.emitIf two (.ptp p (.pdelayRespFollowUp d id src seq (packInstant false out) corr))
    s.tsqPush p { seqId := seq, msgType := 3, stamp := out, oneStep := !two }
  | .pdelayResp d src req seq two reqRx corr =>
    match (s.ptp p).reqTx with
    | some (q, tx) =>
      if !(mine d && peer && req == id && q == seq) then s
      else if two then s.setPtp p { s.ptp p with respRx := some (src, now, unpackInstant false 0 reqRx, corr.toInt) }
      else s.setPtp p { s.ptp p with mpd := (subToPs ((now : Int) - tx) - corr.toInt) / 2, reqTx := none, respRx := none }
    | none => s
  | .pdelayRespFollowUp d src req seq respTx corr =>
    match (s.ptp p).reqTx, (s.ptp p).respRx with
    | some (q, tx), some (from_, rx, reqRx, c) =>
      if mine d ∧ src = from_ ∧ req = id ∧ q = seq then
        let trip : Int := ((rx : Int) - tx) - ((unpackInstant false 0 respTx : Nat) - (reqRx : Int))
        s.setPtp p { s.ptp p with mpd := (subToPs trip - c - corr.toInt) / 2, reqTx := none, respRx := none }
      else s
    | _, _ => s

/-- PTP_MESSAGE_RX. -/
def execPtpMessageRx (p : Fin 2) (m : PtpMsg) (bins : BitVec 12) (s : State) : Res := done (s.ptpRx p m bins.toNat)

/-- PTP_MESSAGE_TX (R100 to R102): a due message leaves; event messages enter the stamp queue. A port transmits time only while
it is a time transmitter with TOD_VALID. -/
def State.ptpTx (s : State) (p : Nat) (k : PtpTx) (bins : Nat) : State :=
  if s.vdRole = 1 ∨ ¬s.getB (R.PTP_CTRL_ENABLE p) then s else
  let now := fineStamp (s.clk .verard) (s.now .verard) bins + (psToSub (Config.ptpTxDly p).toNat).toNat
  let d := BitVec.ofNat 8 (s.get (R.PTP_CTRL_DOMAIN p))
  let id := Config.ptpIdentity p
  let x := s.ptp p
  let tx := s.mayTransmit p && s.get (R.PTP_STAT_PORT_STATE p) == 6
  let two := s.getB (R.PTP_CTRL_TWO_STEP p)
  match k with
  | .announce =>
    if !tx then s else
    (s.setPtp p { x with seqAnnounce := x.seqAnnounce + 1 }).emit
      (.ptp p (.announce d id (s.ownDataset p) (BitVec.ofNat 8 s.clockClass) (s.getB R.VD_REF_STAT_TOD_VALID)
        (BitVec.ofNat 16 (s.get (R.TIME_UTC_UTC_OFFSET .verard))) (s.getB (R.TIME_UTC_UTC_VALID .verard))))
  | .sync =>
    if !tx then s else
    let s := (s.setPtp p { x with seqSync := x.seqSync + 1 }).emit
      (.ptp p (.sync d id x.seqSync two (if two then 0 else packInstant false now) 0))
    let s := s.emitIf two (.ptp p (.followUp d id x.seqSync (packInstant false now) 0))
    s.tsqPush p { seqId := x.seqSync, msgType := 0, stamp := now, oneStep := !two }
  | .delayReq =>
    if s.getB (R.PTP_CTRL_DELAY_MECH p) ∨ s.get (R.PTP_STAT_PORT_STATE p) = 6 then s else
    let s := (s.setPtp p { x with seqDelay := x.seqDelay + 1, reqTx := some (x.seqDelay, now) }).emit (.ptp p (.delayReq d id x.seqDelay 0))
    s.tsqPush p { seqId := x.seqDelay, msgType := 1, stamp := now, oneStep := false }
  | .pdelayReq =>
    if !s.getB (R.PTP_CTRL_DELAY_MECH p) then s else
    let s := (s.setPtp p { x with seqPdelay := x.seqPdelay + 1, reqTx := some (x.seqPdelay, now) }).emit (.ptp p (.pdelayReq d id x.seqPdelay 0))
    s.tsqPush p { seqId := x.seqPdelay, msgType := 2, stamp := now, oneStep := false }

/-- PTP_MESSAGE_TX. -/
def execPtpMessageTx (p : Fin 2) (k : PtpTx) (bins : BitVec 12) (s : State) : Res := done (s.ptpTx p k bins.toNat)

/-- A PTP input falls silent (R80): it is rejected, and its port transmits where it may (R100), or listens. -/
def State.ptpSilent (s : State) (p : Nat) (x : RefIn) : State :=
  let s := s.setRefIn p { x with lastAnnounce := none, lastSync := none, best := [], source := none }
  let s := (s.put (R.PTP_STAT_GM_PRESENT p) 0).put (R.PTP_STAT_PORT_STATE p) (if s.mayTransmit p then 6 else 4)
  s.rejectInput p 1

/-- Whether a PTP input is silent (R80): no Announce for 3 intervals, or no Sync for 4, counted from the last one, from the beginning of
qualification where no Sync has come yet, and from reset where no Announce has. -/
def State.ptpLate (s : State) (p : Nat) : Bool :=
  let x := s.refIn p
  let now := s.now .verard
  let late (since n lg : Nat) : Bool := decide (since + n * logInterval lg ≤ now)
  late (x.lastAnnounce.getD 0) 3 (s.get (R.PTP_CTRL_LOG_ANNOUNCE p)) ||
    match x.lastSync, x.goodSince with
    | some t, _ => late t 4 (s.get (R.PTP_CTRL_LOG_SYNC p))
    | none, some t => x.lastAnnounce.isSome && late t 4 (s.get (R.PTP_CTRL_LOG_SYNC p))
    | none, none => false

/-- ANNOUNCE_TIMEOUT (R80): no Announce for 3 intervals, or no Sync for 4. -/
def execAnnounceTimeout (p : Fin 2) (s : State) : Res :=
  done (
    if s.vdRole = 1 ∨ ¬s.getB (R.PTP_CTRL_ENABLE p) then s
    else if s.ptpLate p then s.ptpSilent p (s.refIn p) else s)

/-- Whether an edge of IN3 falls within ±1 µs of the expected second (R80): once hall time is locked, of a second of hall time, before that a
second after the edge before it; and none has been missed since that edge. -/
def State.ppsExpected (s : State) (v : Int) (now : Nat) : Bool :=
  let gap : Option Nat := (s.refIn 3).lastEdge.map (fun t => now - t)
  let near := decide (v.natAbs ≤ 1000000)
  match gap with
  | none => near || !(s.clk .verard).joined
  | some g => if (s.clk .verard).joined then near && decide (g < msSub 1500) else decide (((g : Int) - secSub 1).natAbs ≤ usSub 1)

/-- An edge of the 1PPS input (R80, R85): its bearing is observed, and a good edge starts or keeps qualification; an edge away from the
expected second, or after a missed one, begins QUAL_S anew. -/
def State.pps (s : State) (bins : BitVec 12) (longHigh : Bool) : State :=
  let c := s.clk .verard
  let t : Int := (fineStamp c (s.now .verard) bins.toNat : Nat) - psToSub s.vd.prof.ppsDelayPs
  let v := subToPs (-(nearSecond t))
  let s := if longHigh ∧ s.get (R.VD_REFi_ST_FAULT 3) ≠ 5 then (s.put (R.VD_REFi_ST_FAULT 3) 5).logChange .verard 2 (R.VD_REFi_ST_FAULT 3) else s
  let good := s.ppsExpected v t.toNat
  let s := s.setRefIn 3 { s.refIn 3 with lastEdge := some t.toNat }
  let s := if good then s.beginQual 3
    else if s.get (R.VD_REFi_ST_QUAL 3) = 1 then s.setRefIn 3 { s.refIn 3 with goodSince := some (s.now .verard) } else s
  s.observe 3 v

/-- PPS_EDGE (R80, R84, R88): an edge of IN3, `bins` after the accumulator. `longHigh`: the pulse was high for over 500 ms, so it is
taken as inverted and its other edge is used. -/
def execPpsEdge (bins : BitVec 12) (longHigh : Bool) (s : State) : Res :=
  done (
    if !s.usesRefs then s else
    s.pps bins longHigh)

/-- PPS_EDGE_TIMEOUT (R80): no edge for 2.5 s. -/
def execPpsEdgeTimeout (s : State) : Res :=
  done (
    match (s.refIn 3).lastEdge with
    | none => s
    | some t =>
      if t + msSub 2500 ≤ s.now .verard then (s.setRefIn 3 { s.refIn 3 with lastEdge := none, obs := [] }).rejectInput 3 1 else s)

/-- REF10M_LOSS (R79, R80, R96): no IN2 edge for 1 µs. -/
def execRef10mLoss (s : State) : Res := done (if s.usesRefs then (s.rejectInput 2 1).assistEnd else s)

/-- BEARING_REFRESH (R85, R86): each second, from the filtered offset of a PTP input or the mean of the last 4 edges of IN3. -/
def execBearingRefresh (s : State) : Res :=
  done (
    if !s.usesRefs then s else
    [0, 1, 3].foldl (fun s i =>
      if s.get (R.VD_REFi_ST_QUAL i) = 2 ∨ s.get (R.VD_REFi_ST_QUAL i) = 6 then
        (s.putSSat (R.VD_REFi_BEARING_BEARING_PS i) (s.bearing i)).bearingCheck i
      else s) s)

/-- BEARING_RESIDUAL_DONE (R85): the residual has been worked off. -/
def execBearingResidualDone (s : State) : Res :=
  done (
    if s.vd.refs.working ∧ (s.getS R.VD_BEARING_RES_RES_PS).natAbs ≤ s.vd.prof.bearingSlew then s.workResidual else s)

/-- Set an input's priority (R83, R103): reads 0 and ignores writes for IN2. -/
def State.setPrio (s : State) (i v : Nat) : State :=
  if i = 2 then s
  else
    let s := s.put (R.VD_REFi_CFG_PRIO i) v
    (s.setRefs { s.vd.refs with rerun := true }).showWtrs

/-- Lock an input out, or release it (R83): the field changes at once, the input at the next update (R84). -/
def State.setLockout (s : State) (i : Nat) (on : Bool) : State :=
  let was := s.getB (R.VD_REFi_CFG_LOCKOUT i)
  (s.putB (R.VD_REFi_CFG_LOCKOUT i) on).doIf (on != was) (fun s => s.refEvent (.lockout i on))

/-- REF_PRIO_WRITE (R83). -/
def execRefPrioWrite (i : Fin 4) (prio : BitVec 4) (s : State) : Res :=
  done (s.viaBus 1 (0x10100 + 0x20 * i.val) (fun s => (s.setPrio i prio.toNat)))

/-- REF_LOCKOUT_WRITE (R83). -/
def execRefLockoutWrite (i : Fin 4) (on : Bool) (s : State) : Res :=
  done (s.viaBus 1 (0x10100 + 0x20 * i.val) (fun s => (s.setLockout i on)))

/-- OCXO_WARM_CHANGE (R93): OCXO_READY clears at once when the pin falls. -/
def execOcxoWarmChange (level : Bool) (s : State) : Res :=
  done (
    if !s.vdRuns then s else
    let s := s.putB R.VD_REF_STAT_OCXO_WARM level
    if level then s.setRefs { s.vd.refs with warmSince := some (s.now .verard) }
    else (s.setRefs { s.vd.refs with warmSince := none }).put R.VD_REF_STAT_OCXO_READY 0)

/-- OCXO_READY_SET (R93): OCXO_WARM has been high for WARM_SETTLE. -/
def execOcxoReadySet (s : State) : Res :=
  done (
    match s.vd.refs.warmSince with
    | none => s
    | some t =>
      if s.vdRuns ∧ s.getB R.VD_REF_STAT_OCXO_WARM ∧ t + secSub s.vd.prof.warmSettle ≤ s.now .verard then
        (s.put R.VD_REF_STAT_OCXO_READY 1).masterState
      else s)

/-- OCXO_FAIL (R92): the device shows LOST; TOD_VALID falls (R78), and R19 chooses again. -/
def execOcxoFail (s : State) : Res :=
  done (
    if !s.vdRuns then s else
    let s := (s.put R.VD_REF_STAT_OCXO_FAIL 1).put R.VD_REF_STAT_TOD_VALID 0
    let s := (s.setClk .verard { s.clk .verard with hallMaster := false }).setOwn .verard 5
    let s := s.put R.VD_REF_STAT_REF_STATE 5
    (s.logChange .verard 2 R.VD_REF_STAT_OCXO_FAIL 4).retimeVerard)

/-- OCXO_RECOVER (R91): present and in range for 10 s; the next lock is a first lock or join step. -/
def execOcxoRecover (s : State) : Res :=
  done (
    if s.vdRuns ∧ s.getB R.VD_REF_STAT_OCXO_FAIL then
      let s := s.put R.VD_REF_STAT_OCXO_FAIL 0
      let s := (s.setClk .verard { s.clk .verard with joined := false }).setOwn .verard 0
      let s := s.put R.VD_REF_STAT_REF_STATE s.refState
      (s.logChange .verard 2 R.VD_REF_STAT_OCXO_FAIL).retimeVerard
    else s)

/-- The PTP input that the second count of a first lock comes from, if any (R78): the selected one, with IN3 the best QUALIFIED one; its
Announce messages must carry timeTraceable = TRUE. -/
def State.secondsFrom (s : State) : Option Nat :=
  let sel := s.get R.VD_REF_STAT_SELECTED
  let p := if sel < 2 then sel else s.bestPtp
  if p < 2 ∧ s.getB (R.PTP_STAT_TRACEABLE p) then some p else none

/-- The offset that a first lock removes, own minus reference, 2⁻¹⁶ ns (R48, R78): with IN3 the edge gives the phase and the PTP input
the second, the nearest to its time. -/
def State.firstOffset (s : State) : Int :=
  let own := (s.clk .verard).lastOfs
  match s.secondsFrom with
  | none => own
  | some p =>
    if s.get R.VD_REF_STAT_SELECTED < 2 then own
    else
      let far : Int := -(psToSub (s.bearing p))
      far + nearSecond (own - far)

/-- LOCK_ACHIEVED (R48, R90, R91): ACQUIRING ends in LOCKED with the first-lock or join step. -/
def State.lockAchieved (s : State) (d : Dev) : State :=
  let c := s.clk d
  if c.own ≠ 1 then s else
  let master := d = .verard ∧ s.get R.VD_TOPO_TIME_PARENT = 3
  let need := if master then secSub 10 else msSub 10
  if c.now < c.since + need then s
  else if c.now < c.wideAt + need then s
  else if master ∧ s.disagreeing ≠ [] then s.disagreeing.foldl (fun s i => (s.setQual i 6 7).put (R.VD_REFi_ST_CAUSE i) 7) s
  else
    let ofs := if master then s.firstOffset else c.lastOfs
    let s := s.stepTime d (accOf (s.wrap d) ((c.now : Int) - ofs))
    let s := s.setClk d { s.clk d with joined := true }
    let s := s.setOwn d 2
    if d = .verard then
      let s := if master then
          let s := if s.secondsFrom.isSome then s.put R.VD_REF_STAT_TOD_VALID 1 else s
          s.put R.VD_BEARING_RES_RES_PS 0
        else s
      let s := s.put R.VD_REF_STAT_REF_STATE s.refState
      let s := if s.vd.refs.pulsing then s else (s.setRefs { s.vd.refs with pulsing := true }).setPpsOfs 0
      s.showEst d
    else s.showEst d

/-- LOCK_ACHIEVED. -/
def execLockAchieved (d : Dev) (s : State) : Res := done (s.lockAchieved d)

/-- PPS_OUT_PULSE (R99): the pulse of a second and the edge of F10M_OUT that falls with it, where the outputs are enabled. The wave's other
edges follow at 100 ns, and move with the pulses (notes/assumptions/120). -/
def execPpsOutPulse (s : State) : Res :=
  done (
    if s.vd.refs.pulsing then
      let s := (s.setRefs { s.vd.refs with pulses := s.vd.refs.pulses + 1 }).emitIf (s.getB R.VD_OUT_CTRL_PPS_EN) (.pin "PPS_OUT" 1)
      s.emitIf (s.getB R.VD_OUT_CTRL_F10M_EN) (.pin "F10M_OUT" 1)
    else s)

/-- VD_OUT_CTRL_REALIGN (R99): a REALIGN write. -/
def execVdOutCtrlRealign (s : State) : Res :=
  done (s.viaBus 1 0x10030 (fun s => s.realign))

/-- REALIGN_EFFECTIVE (R99, R105): the first second boundary at least 1 s after the request. -/
def execRealignEffective (s : State) : Res :=
  done (
    match s.vd.refs.realignAt with
    | none => s
    | some t =>
      if s.now .verard < t then s
      else
        let s := (s.setRefs { s.vd.refs with realignAt := s.vd.refs.realignThen, realignThen := none, pulsing := true }).setPpsOfs 0
        let s := s.putB R.VD_OUT_STAT_REALIGN_PENDING s.vd.refs.realignAt.isSome
        s.complete .verard 0x1B 0 0 (packedBytes (s.wrap .verard) t) true)

/-- Show a stamp-queue entry, or none, as the result of a lookup or pop (R102, R104). -/
def State.tsqResult (s : State) (p : Nat) (e : Option TsqEntry) : State :=
  let s := s.put (R.PTP_TSQ_RES_DONE p) 1
  match e with
  | none => s.put (R.PTP_TSQ_RES_FOUND p) 0
  | some e =>
    let v := (packInstant false e.stamp).toNat
    let s := ((s.put (R.PTP_TSQ_RES_FOUND p) 1).put (R.PTP_TSQ_RES_SEQ_ID p) e.seqId.toNat).put (R.PTP_TSQ_RES_MSG_TYPE p) e.msgType.toNat
    let s := (s.putB (R.PTP_TSQ_RES_ONE_STEP p) e.oneStep).put (R.PTP_TSQ_SEC_LO_SEC_LO p) (bits v 48 32)
    let s := (s.put (R.PTP_TSQ_SEC_HI_SEC_HI p) (bits v 80 16)).put (R.PTP_TSQ_SEC_HI_SUB p) (bits v 0 16)
    s.put (R.PTP_TSQ_NS_NS p) (bits v 16 32)

/-- The oldest queue entry that matches a key, if any (R102). -/
def State.tsqFind (s : State) (p : Nat) (seqId : BitVec 16) (mt : BitVec 4) : Option TsqEntry :=
  (s.ptp p).tsq.find? (fun e => e.seqId == seqId && e.msgType == mt)

/-- Remove one entry of the queue (R102). -/
def State.tsqRemove (s : State) (p : Nat) (e : TsqEntry) : State :=
  let q := (s.ptp p).tsq.erase e
  (s.setPtp p { s.ptp p with tsq := q }).put (R.PTP_STAT_TSQ_COUNT p) q.length

/-- A write of PTP_TSQ_KEY (R102): LOOKUP wins over POP. -/
def State.tsqKey (s : State) (p : Nat) (v : Nat) : State :=
  let s := (s.put (R.PTP_TSQ_KEY_SEQ_ID p) (bits v 0 16)).put (R.PTP_TSQ_KEY_MSG_TYPE p) (bits v 16 4)
  if bits v 20 1 = 1 then
    let e := s.tsqFind p (BitVec.ofNat 16 v) (BitVec.ofNat 4 (v / 2 ^ 16))
    let s := match e with
      | some e => s.tsqRemove p e
      | none => s
    s.tsqResult p e
  else if bits v 21 1 = 1 then
    let e := (s.ptp p).tsq.head?
    let s := match e with
      | some e => s.tsqRemove p e
      | none => s
    s.tsqResult p e
  else s

/-- PTP_TSQ_KEY_LOOKUP (R102): a write of the key with LOOKUP set. -/
def execPtpTsqKeyLookup (p : Fin 2) (seqId : BitVec 16) (msgType : BitVec 4) (s : State) : Res :=
  done (s.viaBus 1 (0x20010 + 0x100 * p.val) (fun s => (s.tsqKey p (seqId.toNat + msgType.toNat * 2 ^ 16 + 2 ^ 20))))

/-- PTP_TSQ_POP (R102): a write of the key with POP set and LOOKUP clear. -/
def execPtpTsqPop (p : Fin 2) (seqId : BitVec 16) (msgType : BitVec 4) (s : State) : Res :=
  done (s.viaBus 1 (0x20010 + 0x100 * p.val) (fun s => (s.tsqKey p (seqId.toNat + msgType.toNat * 2 ^ 16 + 2 ^ 21))))

/-- A reference command is answered only by a ROOT or COMBINED Verard (R105). -/
def State.refCmd (s : State) (c : CmdCtx) (op : Byte) (f : State → State) : State :=
  if c.dev = .lotik ∨ s.vdRole = 1 then s.answer c op 0x10 else f s

/-- REF_STATUS (R105). -/
def execRefStatus (c : CmdCtx) (s : State) : Res :=
  done (s.refCmd c 0x18 (fun s =>
    (s.answer c 0x18 0 (([0, 1, 2, 3].foldl (fun s i => s.showTimers i) s).regBytes 1 ([0x10004, 0x10008, 0x1000C] ++
      [0, 1, 2, 3].flatMap (fun i => [0x10104 + i * 0x20, 0x1010C + i * 0x20, 0x10110 + i * 0x20])))).logCommand c 0x18 0))

/-- REF_PRIORITY (R83, R105). -/
def execRefPriority (c : CmdCtx) (input prio : Byte) (s : State) : Res :=
  done (s.refCmd c 0x19 (fun s =>
    if input = 2 ∨ 3 < input.toNat ∨ 15 < prio.toNat then s.answer c 0x19 0x11
    else ((s.setPrio input.toNat prio.toNat).answer c 0x19 0).logCommand c 0x19 0))

/-- REF_LOCKOUT (R83, R105). -/
def execRefLockout (c : CmdCtx) (input lock : Byte) (s : State) : Res :=
  done (s.refCmd c 0x1A (fun s =>
    if 3 < input.toNat ∨ 1 < lock.toNat then s.answer c 0x1A 0x11
    else ((s.setLockout input.toNat (lock == 1)).answer c 0x1A 0).logCommand c 0x1A 0))

/-- OUT_REALIGN (R99, R105): ACCEPTED, completed at the first realigned pulse. -/
def execOutRealign (c : CmdCtx) (s : State) : Res := done (s.refCmd c 0x1B (fun s => (s.accept c 0x1B 0).realign))

/-- PTP_TSQ_LOOKUP (R102, R105). -/
def execPtpTsqLookup (c : CmdCtx) (port msgType : Byte) (seqId : BitVec 16) (s : State) : Res :=
  done (s.refCmd c 0x1C (fun s =>
    if 1 < port.toNat then s.answer c 0x1C 0x11
    else match s.tsqFind port.toNat seqId (msgType.setWidth 4) with
      | none => (s.answer c 0x1C 0 (List.replicate 14 0)).logCommand c 0x1C 0
      | some e =>
        let s := s.tsqRemove port.toNat e
        (s.answer c 0x1C 0 ([1, BitVec.ofNat 8 (b2n e.oneStep)] ++ packedBytes false e.stamp)).logCommand c 0x1C 0))

end Sys2Proof.Machine
end

