-- ==== Sys2Proof/Machine/Sync.lean ====
section
/-! DEFINITION. The commands of the sync objects (R158 to R185). -/

namespace Sys2Proof.Machine

open Sys2Proof

/-- SYNC_SIGNAL. -/
def execSyncSignal (obj : Fin 16384) (ctx : BitVec 16) (core : Byte) (arg : Word) (s : State) : Res :=
  finish (s.portOp { src := 1, op := 0, obj := obj, arg := arg.toNat, ctx := ctx, core := core })

/-- SYNC_ARRIVE. -/
def execSyncArrive (obj : Fin 16384) (ctx : BitVec 16) (core : Byte) (arg : Word) (s : State) : Res :=
  finish (s.portOp { src := 1, op := 1, obj := obj, arg := arg.toNat, ctx := ctx, core := core })

/-- SYNC_RESET. -/
def execSyncReset (obj : Fin 16384) (ctx : BitVec 16) (core : Byte) (arg : Word) (s : State) : Res :=
  finish (s.portOp { src := 1, op := 2, obj := obj, arg := arg.toNat, ctx := ctx, core := core })

/-- SYNC_READ_OP. -/
def execSyncReadOp (obj : Fin 16384) (ctx : BitVec 16) (core : Byte) (arg : Word) (s : State) : Res :=
  finish (s.portOp { src := 1, op := 3, obj := obj, arg := arg.toNat, ctx := ctx, core := core })

/-- SYNC_WAIT. -/
def execSyncWait (obj : Fin 16384) (ctx : BitVec 16) (core : Byte) (cmp : BitVec 2) (arg : Word) (s : State) : Res :=
  finish (s.portOp { src := 1, op := 4, obj := obj, arg := arg.toNat, cmp := cmp.toNat, ctx := ctx, core := core })

/-- SYNC_WAIT_CONSUME. -/
def execSyncWaitConsume (obj : Fin 16384) (ctx : BitVec 16) (core : Byte) (arg : Word) (s : State) : Res :=
  finish (s.portOp { src := 1, op := 5, obj := obj, arg := arg.toNat, ctx := ctx, core := core })

/-- SYNC_CANCEL. -/
def execSyncCancel (obj : Fin 16384) (ctx : BitVec 16) (core : Byte) (arg : Word) (s : State) : Res :=
  finish (s.portOp { src := 1, op := 6, obj := obj, arg := arg.toNat, ctx := ctx, core := core })

/-- SYNC_OP_WRITE. -/
def execSyncOpWrite (obj : Fin 16384) (v : Word) (s : State) : Res :=
  finish (s.viaBus 0 (0x4000C + 16 * obj.val) (fun s => (s.syncOpWrite obj v.toNat)))

/-- SYNC_CFG_WRITE. -/
def execSyncCfgWrite (obj : Fin 16384) (v : Word) (s : State) : Res :=
  finish (s.viaBus 0 (0x40004 + 16 * obj.val) (fun s => (s.syncCfgWrite obj v.toNat)))

/-- REMOTE_SIGNAL (R173, R175). -/
def execRemoteSignal (r : BitVec 128) (s : State) : Res :=
  finish (
    s.atPort (fun s =>
      let s := s.deliverWakes
      if s.flowHeld (recFlow r) then s.holdReq (.record r) else s.takeRecord r))

/-- FEED_BEAT. -/
def execFeedBeat (flow : BitVec 12) (count : Byte) (s : State) : Res :=
  finish (
    s.atPort (fun s =>
      let s := s.deliverWakes
      if s.flowHeld flow.toNat then s.holdReq (.feed flow.toNat count.toNat) else s.takeFeed flow.toNat count.toNat))

/-- PEND_SLOT_STALE (R176): every slot that has waited longer than PEND_LIMIT and is not yet marked. -/
def execPendSlotStale (s : State) : Res :=
  finish (
    let lim := usSub (s.get R.LK_SYNC_LIMITS_PEND_LIMIT_US)
    let old (p : PendSlot) : Bool := !p.stale && decide (p.since + lim < s.now .lotik)
    let due := s.lk.sync.pend.filter old
    let s := s.setSync { s.lk.sync with pend := s.lk.sync.pend.map (fun p => if old p then { p with stale := true } else p) }
    due.foldl (fun s p => (s.put R.LK_SYNC_IRQ_PEND_STALE 1).logRec 0x0508 3 p.sig) s)

/-- SYNC_FLOW_RESET_WRITE. -/
def execSyncFlowResetWrite (v : Word) (s : State) : Res :=
  finish (s.viaBus 0 0x238 (fun s => (s.flowWrite (v.toNat ||| 4096))))

/-- SYNC_SAVE_WRITE. -/
def execSyncSaveWrite (v : Word) (s : State) : Res :=
  finish (s.viaBus 0 0x22C (fun s => (s.saveCtrl (v.toNat ||| 1))))

/-- SYNC_RESTORE_WRITE. -/
def execSyncRestoreWrite (v : Word) (s : State) : Res :=
  finish (s.viaBus 0 0x22C (fun s => (s.saveCtrl ((v.toNat ||| 3) - 1))))

/-- SYNC_SAVE_DONE (R177): with whether every write ended without an error. -/
def execSyncSaveDone (ok : Bool) (s : State) : Res :=
  finish (
    if s.lk.sync.saving = some false then
      (s.saveEnd false (if ok then 1 else 5) (if ok then some s.lk.sync.saveLen else none)).applyHeld
    else s)

/-- SYNC_RESTORE_DONE (R178): the image as read, and whether every read ended without an error. -/
def execSyncRestoreDone (ok : Bool) (img : List Byte) (s : State) : Res :=
  finish (
    if s.lk.sync.saving ≠ some true then s
    else
      let r := if ok then s.imageResult img else 5
      let s := s.restoreBody img
      let s := if r = 0 then s.loadImage img else s
      (s.saveEnd true (if r = 0 then 1 else r) (if ok then some img.length else none)).applyHeld)

/-- SYNC_DBG_SEL_WRITE. -/
def execSyncDbgSelWrite (obj : BitVec 14) (s : State) : Res :=
  finish (s.viaBus 0 0xF0000 (fun s => (s.dbgCapture obj.toNat)))

/-- SYNC_READ. -/
def execSyncRead (c : CmdCtx) (obj : BitVec 16) (s : State) : Res :=
  finish (
    let n := obj.toNat
    if c.dev = .verard then s.answer c 0x30 0x10
    else if 16384 ≤ n then s.answer c 0x30 0x11
    else s.answer c 0x30 0 (leBytes 4 (s.obj n).v ++ leBytes 4 (s.obj n).cfgWord ++ leBytes 4 (s.objStat n)))

/-- SYNC_OP: the operation's status is in the reply; the command completes OK even when it is rejected. -/
def execSyncOp (c : CmdCtx) (obj : BitVec 16) (op : Byte) (value : Word) (s : State) : Res :=
  finish (
    if c.dev = .verard then s.answer c 0x31 0x10
    else if 16384 ≤ obj.toNat ∨ 2 < op.toNat then s.answer c 0x31 0x11
    else s.syncOp { src := 4, op := op.toNat, obj := obj.toNat, arg := value.toNat, ua := c.src.toNat % 2 ^ 20, cmd := some c })

/-- SYNC_DEBUG: the view, and up to 240 waiter records in release order. -/
def execSyncDebug (c : CmdCtx) (obj first : BitVec 16) (s : State) : Res :=
  finish (
    let n := obj.toNat
    if c.dev = .verard then s.answer c 0x32 0x10
    else if 16384 ≤ n then s.answer c 0x32 0x11
    else
      let view := (s.dbgCapture n).regBytes 0 ((List.range 18).map (fun k => 0xF0004 + 4 * k))
      let reg := s.lk.sync.waiters.filter (fun w => w.obj == n)
      let ws := ((s.releaseOrder reg).drop first.toNat).take 240
      s.answer c 0x32 0 (view ++ leBytes 2 ws.length ++ ws.flatMap (fun w => w.bytes (reg.idxOf w))))

/-- SYNC_SAVE (R177, R185): the save of the range named, to the address named; the RW registers of R184 stand. -/
def execSyncSave (c : CmdCtx) (addr : DWord) (first count flowFirst flowCount : BitVec 16) (s : State) : Res :=
  finish (
    if c.dev = .verard then s.answer c 0x33 0x10
    else if 16384 ≤ first.toNat ∨ 4096 ≤ flowFirst.toNat then s.answer c 0x33 0x11
    else if s.getB R.LK_SYNC_SAVE_CTRL_BUSY then s.answer c 0x33 0x30
    else (s.accept c 0x33 0).saveStart (addr.toNat / 64 * 64) first.toNat count.toNat flowFirst.toNat flowCount.toNat)

/-- SYNC_RESTORE. -/
def execSyncRestore (c : CmdCtx) (addr : DWord) (s : State) : Res :=
  finish (
    if c.dev = .verard then s.answer c 0x34 0x10
    else if s.getB R.LK_SYNC_SAVE_CTRL_BUSY then s.answer c 0x34 0x30
    else (s.accept c 0x34 0).restoreStart (addr.toNat / 64 * 64))

/-- SYNC_FLOW_RESET. -/
def execSyncFlowReset (c : CmdCtx) (flow : BitVec 16) (s : State) : Res :=
  finish (
    if c.dev = .verard then s.answer c 0x35 0x10
    else if 4096 ≤ flow.toNat then s.answer c 0x35 0x11
    else
      let q := s.flowReset flow.toNat
      let s := q.1
      let n := q.2
      (s.answer c 0x35 0 (leBytes 2 n)).logCommand c 0x35 0)

end Sys2Proof.Machine
end

