-- ==== Sys2Proof/Machine/Bus.lean ====
section
/-! DEFINITION. Register accesses to the Lotik window and Verard's BARs (R5 to R7, R404, R417 to R421), and the debug commands (R391). -/

namespace Sys2Proof.Machine

open Sys2Proof

-- Reads.

/-- Read the fields of one register; RC fields are cleared in the same access (R6). -/
def State.readFields (s : State) (sp off : Nat) : State × Nat :=
  ((fieldsAt sp off).foldl (fun s f => if f.acc = .rc then s.put f 0 else s) s, s.word sp off)

/-- A word of the Log ring (R337): place k holds the last entry written there. -/
def State.ringWord (s : State) (off : Nat) : Nat :=
  let l := s.log .lotik
  let k := off / 64 % 1024
  let back := (l.wr + 2 ^ 32 - 1 - k) % 1024
  match l.bytesAt (s.wrap .lotik) ((l.wr + 2 ^ 32 - 1 - back) % 2 ^ 32) with
  | some bs => leAt bs (off % 64) 4
  | none => 0

/-- The captures that a read of the Lotik window takes first (R153, R252, R276, R277, R300). -/
def State.lkCapture (s : State) (off : Nat) : State :=
  if off = 0x2008 then s.captureStep
  else if 0x3800 ≤ off ∧ off < 0x4000 ∧ off % 0x20 = 4 then s.captureRegion ((off - 0x3800) / 0x20)
  else if off = 0x4030 then s.capturePg false
  else if off = 0x4038 then s.capturePg true
  else if 0x4400 ≤ off ∧ off < 0x4800 ∧ off % 0x10 = 0 then s.capturePgRegion ((off - 0x4400) / 0x10)
  else if 0x5100 ≤ off ∧ off < 0x5300 ∧ off % 0x20 = 0 then s.captureDigest ((off - 0x5100) / 0x20)
  else s

/-- Whether an offset lies in the block of a region this die does not have. -/
def State.noRegion (s : State) (off : Nat) : Bool :=
  (decide (0x3800 ≤ off) && decide (off < 0x4000) && decide (s.nr ≤ (off - 0x3800) / 0x20)) ||
  (decide (0x4400 ≤ off) && decide (off < 0x4800) && decide (s.nr ≤ (off - 0x4400) / 0x10))

/-- A mapped word of the Lotik window. Open controller debug has no published contents: a free value (R421; notes/assumptions/1). -/
def State.lkRead (s : State) (off : Nat) : State × Nat :=
  if 0x40000 ≤ off ∧ off < 0x80000 then
    let n := (off - 0x40000) / 16
    (s, match off / 4 % 4 with | 0 => (s.obj n).v | 1 => (s.obj n).cfgWord | 2 => s.objStat n | _ => 0)
  else if 0x80000 ≤ off ∧ off < 0xC0000 then
    let n := (off - 0x80000) / 64
    let k := off / 4 % 16
    (if k = 13 then s.setQueue n { s.queue n with completed := 0, faulted := 0 } else s, s.queueWord n k)
  else if 0xC0000 ≤ off ∧ off < 0xD0000 then (s, s.ringWord (off - 0xC0000))
  else if 0xE0000 ≤ off ∧ off < 0xF0000 then (s.drawn, s.freeW % 2 ^ 32)
  else if off = 0x30 then (s, s.irqLines)
  else if s.noRegion off then (s, 0)
  else (s.lkCapture off).readFields 0 off

/-- Bring the live fields of Verard that a read shows up to the present instant (R103, R214, R321, R322). -/
def State.vdCapture (s : State) (off : Nat) : State :=
  let s := match portAt off with
    | some p => s.showWindows p
    | none => s
  if 0x10100 ≤ off ∧ off < 0x10180 then s.showTimers ((off - 0x10100) / 0x20)
  else if 0x60000 ≤ off ∧ off < 0x61200 then s.showLit ((off - 0x60000) / 0x200)
  else s

/-- A mapped word of Verard BAR0. -/
def State.vdRead (s : State) (off : Nat) : State × Nat :=
  if off = 0x20 then (s, s.vdGroups)
  else if 0xA0000 ≤ off ∧ off < 0xA1040 then (s, smGet 0 (s.secRun .verard).buffer ((off - 0xA0000) / 4))
  else (s.vdCapture off).readFields 1 off

/-- The ports of a list, as bits [31:0] or [63:32]. -/
def portBits (ps : List Nat) (high : Bool) : Nat :=
  ((List.range 32).map (fun i => b2n (ps.contains (if high then i + 32 else i)) * 2 ^ i)).sum

/-- The packages counted to complete an operation at Verard (R198, R214): all at the top, those it combines, none at a relay. -/
def State.expectPkgs (s : State) (g : GroupRec) : Nat :=
  match g.role with
  | 0 => g.members.length
  | 1 => ((s.ownPkgs g).filter (fun m => s.groupActive (uaPort m.1))).length
  | _ => 0

/-- A word of a group descriptor (R214); a FREE one shows what the GID keeps: its generation and its count of fenced messages
(notes/assumptions/125). -/
def State.descWord (s : State) (gid k : Nat) : Nat :=
  let g := s.group .verard gid
  if g.state = 0 then (if k = 0 then g.gen * 2 ^ 16 else if k = 14 then g.stale else 0) else
  let ports := s.memberPorts g
  match k with
  | 0 => g.state + 4 * g.role + 16 * g.scope + 64 * g.acc + 256 * g.maxElems + 2 ^ 13 * g.depth + 2 ^ 16 * g.gen
  | 1 => s.expectPkgs g + 2 ^ 13 * dieCount (if s.vdRole = 0 then g.members else if g.role = 0 ∧ g.scope = 1 then g.members else s.ownPkgs g)
  | 2 => portBits ports false
  | 3 => portBits ports true
  | 4 => portBits (ports.filter s.groupActive) false
  | 5 => portBits (ports.filter s.groupActive) true
  | 6 => g.done.toNat + 2 ^ 16 * ((List.range 4).map (fun i => b2n (smGet {} g.slots i).busy * 2 ^ i)).sum
  | 7 => g.limitMs
  | 8 => g.basin
  | 9 => min 15 ((s.descriptors .verard).filter (fun x => x.1 == gid)).length
  | 10 => g.completed % 2 ^ 32
  | 11 => g.completed / 2 ^ 32
  | 12 => min g.faults 65535 + 2 ^ 16 * g.lastCause
  | 13 => g.lastUa
  | 14 => g.stale
  | _ => 0

/-- A word of a tree-counter slot (R214). -/
def State.slotWord (s : State) (gid slot k : Nat) : Nat :=
  let x : OpSlot := smGet {} (s.group .verard gid).slots slot
  match k with
  | 0 => x.oseq.toNat + 2 ^ 16 * b2n x.busy + 2 ^ 17 * b2n x.faulted
  | 1 => x.cover
  | 2 => x.op + 2 ^ 8 * x.ty + 2 ^ 16 * x.sh
  | _ => bits (packInstant (s.wrap .verard) x.firstAt).toNat 16 32

/-- The bytes of a Basin entry (R218, R233). -/
def OpSlot.basinBytes (x : OpSlot) (acc : Nat) : List Byte :=
  x.elems.flatMap (fun e => padTo (if acc = 1 then 280 else 48) (e.limbBytes (opClass x.op x.ty) x.op))

/-- A word of the Basin pool (R235). -/
def State.basinWord (s : State) (off : Nat) : Nat :=
  let u := off / 64
  match (s.tree .verard).groups.find? (fun e => decide (e.2.basinAt ≤ u) && decide (u < e.2.basinAt + e.2.basin)) with
  | none => 0
  | some (_, g) =>
    let n := max 1 g.entryUnits
    match g.slots.find? (fun e => e.2.busy && e.2.entry == (u - g.basinAt) / n) with
    | none => 0
    | some (_, x) => leAt (x.basinBytes g.acc) ((u - g.basinAt) % n * 64 + off % 64) 4

/-- A mapped word of Verard BAR2. -/
def State.v2Read (s : State) (off : Nat) : State × Nat :=
  if off < 0x1000000 then (s, s.descWord (off / 64) (off / 4 % 16))
  else if off < 0x2000000 then (s, s.slotWord ((off - 0x1000000) / 64) (off / 16 % 4) (off / 4 % 4))
  else if off < 0x2800000 then (s, s.basinWord (off - 0x2000000))
  else (s.showEngine).readFields 2 off

/-- A mapped word, as a register read takes it. -/
def State.readWord (s : State) (sp off : Nat) : State × Nat :=
  if sp = 0 then s.lkRead off else if sp = 1 then s.vdRead off else s.v2Read off

/-- Whether an access has a size and alignment its space accepts (R5). -/
def sizeOk (sp off size : Nat) : Bool := (size == 4 || (sp == 2 && size == 8)) && off % size == 0

/-- A register read (R5, R6, R404, R417, R421). -/
def State.regRead (s : State) (sp off size : Nat) : State × Nat :=
  if !sizeOk sp off size || !mapped sp off || s.shut sp off then (s.logAccess (spDev sp) (busOff sp off) false size, 0)
  else if s.darkRead sp off then (s, 0)
  else
    let q := s.readWord sp off
    let s := q.1
    let lo := q.2
    if size = 8 ∧ !mapped sp (off + 4) then (s.logAccess (spDev sp) (busOff sp (off + 4)) false size, lo)
    else if size = 8 then
      let q := s.readWord sp (off + 4)
      let s := q.1
      let hi := q.2
      (s, lo + 2 ^ 32 * hi)
    else (s, lo)

-- Writes.

/-- Write one field by its access code (R6). -/
def State.writeField (s : State) (v : Nat) (f : Field) : State :=
  match f.acc with
  | .rw => s.put f (bits v f.lsb f.width)
  | .w1c => if bits v f.lsb 1 = 1 then s.put f 0 else s
  | _ => s

/-- Write the fields of one register; reserved bits are ignored (R6, R7). -/
def State.writeFields (s : State) (sp off v : Nat) : State := (fieldsAt sp off).foldl (fun s f => s.writeField v f) s

/-- A write of a port's control register (R60, R74). -/
def State.portCtrl (s : State) (p : PortId) (v : Nat) : State :=
  let s := if v.testBit 0 = s.getB (R.PORT_CTRL_ENABLE p) then s else s.portEnable p (v.testBit 0)
  let s := s.doIf (v.testBit 1) (fun s => s.portRetry p)
  s.doIf (v.testBit 2) (fun s => s.portCalNow p)

/-- A write of LK_CS_FENCE_CTRL (R250). -/
def State.fenceCtrl (s : State) (v : Nat) : State :=
  let core := bits v 0 8
  let s := (s.put R.LK_CS_FENCE_CTRL_CORE core).doIf (v.testBit 8) (fun s => s.fenceCoreWrite core)
  s.doIf (v.testBit 9) (fun s => s.fenceRegionWrite core)

/-- A write to a mapped word of the Lotik window. -/
def State.lkWrite (s : State) (off v : Nat) : State :=
  if 0x40000 ≤ off ∧ off < 0x80000 then
    let n := (off - 0x40000) / 16
    match off / 4 % 4 with | 1 => s.syncCfgWrite n v | 2 => s.syncStatWrite n v | 3 => s.syncOpWrite n v | _ => s
  else if 0x80000 ≤ off ∧ off < 0xC0000 then s.queueWrite ((off - 0x80000) / 64) (off / 4 % 16) v
  else if 0x7010 ≤ off ∧ off < 0x8000 then s.mboxWrite ((off - 0x7010) / 4) v
  else if 0x2100 ≤ off ∧ off < 0x2180 then s.progWrite ((off - 0x2100) / 16) (off / 4 % 4) v
  else if s.noRegion off then s
  else match off with
    | 0x22C => s.saveCtrl v
    | 0x238 => s.flowWrite v
    | 0x1000 => s.latch .lotik (BitVec.ofNat 32 v)
    | 0x1140 => s.portCtrl .tlink v
    | 0x1200 => s.trigInCtrl 0 v
    | 0x1220 => s.trigInCtrl 1 v
    | 0x1208 => s.doIf (v.testBit 0) (fun s => s.trigPop 0)
    | 0x1228 => s.doIf (v.testBit 0) (fun s => s.trigPop 1)
    | 0x1240 => s.trigCtrl 0 v
    | 0x1260 => s.trigCtrl 1 v
    | 0x2000 => s.stepCtrl v
    | 0x3080 => s.fenceCtrl v
    | 0x400C => s.pgCapWrite v
    | 0x5004 => if v = 0 then s else s.writeFields 0 off v
    | 0x5020 => s.digReqWrite v
    | 0x5050 => s.seedWrite v
    | 0x6008 => s.soundWrite v
    | 0x6200 => (s.writeFields 0 off v).spillNext
    | 0x6204 => (s.writeFields 0 off v).spillNext
    | 0x620C => s.logAdvance .lotik v
    | 0x621C => (s.writeFields 0 off v).spillNext
    | 0x7000 => s.mboxCtrl v
    | 0xF0000 => s.dbgCapture (bits v 0 14)
    | _ => s.writeFields 0 off v

/-- A write of a command ring's configuration (R394): discarded while it is in use, but for the write that takes it out of use. -/
def State.ringCfg (s : State) (en : Field) (off v : Nat) : State :=
  if s.getB en then (if v.testBit 4 then s else s.put en 0) else s.writeFields 1 off v

/-- A write of a register of the command rings (R394). -/
def State.cmdRingWrite (s : State) (off v : Nat) : State :=
  match off with
  | 0x90000 => if s.getB R.VD_CMD_REQ_CFG_ENABLE then s else s.writeFields 1 off v
  | 0x90004 => if s.getB R.VD_CMD_REQ_CFG_ENABLE then s else s.writeFields 1 off v
  | 0x90008 => s.ringCfg R.VD_CMD_REQ_CFG_ENABLE off v
  | 0x9000C => s.reqTail (bits v 0 10)
  | 0x90014 => if s.getB R.VD_CMD_RSP_CFG_ENABLE then s else s.writeFields 1 off v
  | 0x90018 => if s.getB R.VD_CMD_RSP_CFG_ENABLE then s else s.writeFields 1 off v
  | 0x9001C => (s.ringCfg R.VD_CMD_RSP_CFG_ENABLE off v).drainHost .verard 64
  | 0x90024 => s.rspHead (bits v 0 10)
  | _ => s.writeFields 1 off v

/-- A write of an engine's control register (R307, R318). -/
def State.oeCtrl (s : State) (e v : Nat) : State :=
  let s := s.put (R.VD_OE_CTRL_HOLD_SWAPS e) (bits v 1 1)
  let s := if v.testBit 0 = s.getB (R.VD_OE_CTRL_ENABLE e) then s else s.oeEnable e (v.testBit 0)
  s.doIf (v.testBit 2) (fun s => s.oeResearch e)

/-- A write of VD_PROF_CTRL (R425). -/
def State.profCtrl (s : State) (v : Nat) : State :=
  let s := s.doIf (v.testBit 3) (fun s => s.put R.VD_PROF_CTRL_DONE 0)
  if v.testBit 0 then s.profProgram else s.doIf (v.testBit 1) State.profReload

/-- A write to a mapped word of Verard BAR0. -/
def State.vdWrite (s : State) (off v : Nat) : State :=
  match portAt off with
  | some p => if (off - p.base) = 0 then s.portCtrl p v else s.writeFields 1 off v
  | none =>
    if 0x10100 ≤ off ∧ off < 0x10180 ∧ off % 0x20 = 0 then
      let i := (off - 0x10100) / 0x20
      (s.setPrio i (bits v 0 4)).setLockout i (v.testBit 4)
    else if 0x20000 ≤ off ∧ off < 0x20200 ∧ off % 0x100 = 0x10 then s.tsqKey ((off - 0x20000) / 0x100) v
    else if 0x30100 ≤ off ∧ off < 0x30300 ∧ off % 0x80 = 0 then s.measCtrl ((off - 0x30100) / 0x80) v
    else if 0x60000 ≤ off ∧ off < 0x61200 ∧ off % 0x200 = 0 then s.oeCtrl ((off - 0x60000) / 0x200) v
    else if 0x61300 ≤ off ∧ off < 0x61380 ∧ off % 0x20 = 0 then s.ocsCtrl ((off - 0x61300) / 0x20) v
    else if 0x90000 ≤ off ∧ off ≤ 0x90030 then s.cmdRingWrite off v
    else if 0xA0000 ≤ off ∧ off < 0xA1040 then
      if s.getB R.VD_PROF_CTRL_BUSY then s
      else s.setSecRun .verard { s.secRun .verard with buffer := smPut 0 (s.secRun .verard).buffer ((off - 0xA0000) / 4) v }
    else match off with
      | 0x10030 => (s.writeFields 1 off v).doIf (v.testBit 2) State.realign
      | 0x10800 => s.latch .verard (BitVec.ofNat 32 v)
      | 0x30000 => s.doIf (v.testBit 0) State.measCalNow
      | 0x80008 => s.logAdvance .verard v
      | 0x80010 => s.logSelWrite v
      | 0xA2000 => s.profCtrl v
      | _ => s.writeFields 1 off v

/-- A write to a mapped word; BAR2 ignores writes (R214). -/
def State.writeWord (s : State) (sp off v : Nat) : State :=
  if sp = 0 then s.lkWrite off v else if sp = 1 then s.vdWrite off v else s

/-- A register write (R5 to R7, R404, R417, R421). -/
def State.regWrite (s : State) (sp off v : Nat) : State :=
  if !sizeOk sp off 4 || !mapped sp off || s.shut sp off then s.logAccess (spDev sp) (busOff sp off) true 4
  else if s.dark sp off then s
  else s.writeWord sp off v

/-- The Log entry of a 64-bit write that is discarded, whole or in its upper word (R5). -/
def State.logWide (s : State) (sp off : Nat) : State := s.logAccess (spDev sp) (busOff sp off) true 8

/-- A 64-bit write (R5): discarded but on BAR2, where it goes to two consecutive registers, of which one may be unmapped (R417). -/
def State.wideWrite (s : State) (sp off : Nat) (v : DWord) : State :=
  if !sizeOk sp off 8 || !mapped sp off || s.shut sp off then s.logWide sp off
  else if s.dark sp off then s
  else
    let s := s.writeWord sp off (v.toNat % 2 ^ 32)
    if mapped sp (off + 4) then s.writeWord sp (off + 4) (v.toNat / 2 ^ 32) else s.logWide sp (off + 4)

/-- A bus write of 32 or 64 bits. -/
def State.busWrite (s : State) (sp off : Nat) : BusData → State
  | .dword v => s.regWrite sp off v.toNat
  | .qword v => s.wideWrite sp off v

/-- REGISTER_WRITE (R5 to R7). `bar` is 0 for the Lotik window, 1 for BAR0, 2 for BAR2. -/
def execRegisterWrite (bar : Fin 3) (off : BitVec 26) (v : BusData) (s : State) : Res :=
  finish (if s.busUp (spDev bar) then (s.hostReq (spDev bar)).busWrite bar off.toNat v else s)

/-- REGISTER_READ_CLEAR (R6): a read of 32 bits, or of 64 on BAR2. -/
def execRegisterReadClear (bar : Fin 3) (off : BitVec 26) (wide : Bool) (s : State) : Res :=
  finish (
    if !s.busUp (spDev bar) then s
    else
      let q := (s.hostReq (spDev bar)).regRead bar off.toNat (if wide then 8 else 4)
      let s := q.1
      let v := q.2
      s.emit (.bus (spDev bar) (BitVec.ofNat 64 v)))

/-- BAD_SIZE_ACCESS (R5): an access of another size or alignment is discarded and recorded; a read returns 0. -/
def execBadSizeAccess (bar : Fin 3) (off : BitVec 26) (write : Bool) (size : BitVec 7) (s : State) : Res :=
  finish (
    if !s.busUp (spDev bar) || sizeOk bar off.toNat size.toNat then s
    else ((s.hostReq (spDev bar)).logAccess (spDev bar) (busOff bar off.toNat) write size.toNat).emitIf (!write) (.bus (spDev bar) 0))

/-- UNMAPPED_ACCESS (R417). -/
def execUnmappedAccess (bar : Fin 3) (off : BitVec 26) (write : Bool) (s : State) : Res :=
  finish (
    if !s.busUp (spDev bar) || !sizeOk bar off.toNat 4 || mapped bar off.toNat then s
    else ((s.hostReq (spDev bar)).logAccess (spDev bar) (busOff bar off.toNat) write 4).emitIf (!write) (.bus (spDev bar) 0))

-- Debug commands (R391).

/-- The space and offset that a debug command names: bit 31 selects BAR2 on Verard. -/
def dbgPlace (d : Dev) (off : Nat) : Nat × Nat :=
  match d with
  | .lotik => (0, off)
  | .verard => if off.testBit 31 then (2, off % 2 ^ 31) else (1, off)

/-- Read words in ascending offset, as register reads. -/
def State.dbgWords (s : State) (sp off : Nat) : Nat → State × List Byte
  | 0 => (s, [])
  | n + 1 =>
    let q := s.regRead sp off 4
    let s := q.1
    let v := q.2
    let q := s.dbgWords sp (off + 4) n
    let s := q.1
    let bs := q.2
    (s, leBytes 4 v ++ bs)

/-- DBG_READ (R391, R417). -/
def execDbgRead (c : CmdCtx) (off : Word) (count : BitVec 16) (s : State) : Res :=
  finish (
    let (sp, o) := dbgPlace c.dev off.toNat
    let n := count.toNat
    if n = 0 ∨ 1000 < n ∨ o % 4 ≠ 0 ∨ !(List.range n).all (fun k => mapped sp (o + 4 * k)) then s.answer c 0xF0 0x11
    else
      let q := s.dbgWords sp o n
      let s := q.1
      let bs := q.2
      s.answer c 0xF0 0 bs)

/-- DBG_WRITE (R391): exactly one register write. -/
def execDbgWrite (c : CmdCtx) (off value : Word) (s : State) : Res :=
  finish (
    let (sp, o) := dbgPlace c.dev off.toNat
    if o % 4 ≠ 0 ∨ !mapped sp o then s.answer c 0xF1 0x11
    else ((s.regWrite sp o value.toNat).answer c 0xF1 0).logCommand c 0xF1 0)

end Sys2Proof.Machine
end

