-- ==== Sys2Proof/Machine/JobMsgs.lean ====
section
/-! DEFINITION. The job control messages as they arrive (R138, R139), the roots' timers, and the job commands (R154, R301). -/

namespace Sys2Proof.Machine

open Sys2Proof

/-- A job control message of a KIND arrives by a way; one whose KIND is reserved is none of them (R138). -/
def State.jobRx (s : State) (p : Path) (m : JobMsg) (kind : Nat) : State :=
  s.treeRx p (.job { m with kind := if 0x11 ≤ m.kind.toNat then m.kind else BitVec.ofNat 8 kind })

/-- ARM (R140): a member checks it, takes a slot and starts its prefetch. -/
def execArm (p : Path) (m : JobMsg) (s : State) : Res := finish (s.jobRx p m jkArm)

/-- ARM_ACK (R139): gathered on its way, and recorded at the job root. -/
def execArmAck (p : Path) (m : JobMsg) (s : State) : Res := finish (s.jobRx p m jkArmAck)

/-- COMMIT (R141): a member checks it and answers, or holds its answer. -/
def execCommit (p : Path) (m : JobMsg) (s : State) : Res := finish (s.jobRx p m jkCommit)

/-- COMMIT_ACK (R139): gathered and recorded; all OK leads to CONFIRM. -/
def execCommitAck (p : Path) (m : JobMsg) (s : State) : Res := finish (s.jobRx p m jkCommitAck)

/-- CONFIRM (R142): a member's slot becomes CONFIRMED. -/
def execConfirm (p : Path) (m : JobMsg) (s : State) : Res := finish (s.jobRx p m jkConfirm)

/-- ABORT (R142): a member's slot returns to IDLE. -/
def execAbortRx (p : Path) (m : JobMsg) (s : State) : Res := finish (s.jobRx p m jkAbort)

/-- TEARDOWN (R149): a member keeps TD, or drains at once. -/
def execTeardown (p : Path) (m : JobMsg) (s : State) : Res := finish (s.jobRx p m jkTeardown)

/-- DRAINED (R151): gathered, and recorded at the job root. -/
def execDrained (p : Path) (m : JobMsg) (s : State) : Res := finish (s.jobRx p m jkDrained)

/-- RETIRE (R151): every node releases the job's state and takes the next generation. -/
def execRetire (p : Path) (m : JobMsg) (s : State) : Res := finish (s.jobRx p m jkRetire)

/-- JOB_FAULT (R147): the root fails the open round or tears the job down. -/
def execJobFault (p : Path) (m : JobMsg) (s : State) : Res := finish (s.jobRx p m jkFault)

/-- DEFER (R135): a member adds D to the scheduled instants at or after A. -/
def execDefer (p : Path) (m : JobMsg) (s : State) : Res := finish (s.jobRx p m jkDefer)

/-- DEFER_REQ (R271, R272): passed on where larger, and gathered at the job root. -/
def execDeferReq (p : Path) (m : JobMsg) (s : State) : Res := finish (s.jobRx p m jkDeferReq)

/-- PAUSE (R293): a member keeps A. -/
def execPause (p : Path) (m : JobMsg) (s : State) : Res := finish (s.jobRx p m jkPause)

/-- PAUSED (R294): the root compares P and M. -/
def execPaused (p : Path) (m : JobMsg) (s : State) : Res := finish (s.jobRx p m jkPaused)

/-- RESUME (R296): a PAUSED member acknowledges. -/
def execResume (p : Path) (m : JobMsg) (s : State) : Res := finish (s.jobRx p m jkResume)

/-- CHECK (R144): gathered by step count, and compared at the job root. -/
def execCheckRx (p : Path) (m : JobMsg) (s : State) : Res := finish (s.jobRx p m jkCheck)

/-- ACK_AGGREGATE_TIMER (R139): 5 µs after the first answer. -/
def execAckAggregateTimer (d : Dev) (s : State) : Res := finish (s.aggTimer d)

/-- COMMIT_DEADLINE (R142): T0 − 20 µs with answers missing. -/
def execCommitDeadline (d : Dev) (s : State) : Res := finish (s.commitDeadline d)

/-- START_CHECK_TIMEOUT (R144): 100 µs after T0. -/
def execStartCheckTimeout (d : Dev) (s : State) : Res := finish (s.checkTimeout d)

/-- RETIRE_TIMEOUT (R151): 1 ms after TD. -/
def execRetireTimeout (d : Dev) (s : State) : Res := finish (s.retireTimeout d)

/-- DEFER_GATHER_TIMER (R272): 10 µs after the first request. -/
def execDeferGatherTimer (d : Dev) (s : State) : Res := finish (s.deferTimer d)

/-- PAUSE_REPORT_TIMEOUT (R294): 1 ms after the first report. -/
def execPauseReportTimeout (d : Dev) (s : State) : Res := finish (s.pauseTimeout d)

/-- JOB_ARM (R140, R154). -/
def execJobArm (c : CmdCtx) (gid : BitVec 24) (gen : BitVec 16) (prog flags : Byte) (limit : Word) (seed : BitVec 128) (s : State) : Res :=
  finish (s.jobArm c gid.toNat gen.toNat prog.toNat flags.toNat limit.toNat seed)

/-- JOB_COMMIT (R141, R154). -/
def execJobCommit (c : CmdCtx) (gid : BitVec 24) (gen : BitVec 16) (t0 : Packed) (s : State) : Res :=
  finish (s.jobCommit c gid.toNat gen.toNat t0)

/-- JOB_ABORT (R149, R154). -/
def execJobAbort (c : CmdCtx) (gid : BitVec 24) (gen : BitVec 16) (s : State) : Res := finish (s.jobAbort c gid.toNat gen.toNat)

/-- JOB_TEARDOWN (R149, R154). -/
def execJobTeardown (c : CmdCtx) (gid : BitVec 24) (gen : BitVec 16) (td : Packed) (s : State) : Res :=
  finish (s.jobTeardown c gid.toNat gen.toNat td)

/-- JOB_STATUS (R154). -/
def execJobStatus (c : CmdCtx) (gid : BitVec 24) (s : State) : Res := finish (s.jobStatus c gid.toNat)

/-- JOB_PAUSE (R293, R301). -/
def execJobPause (c : CmdCtx) (gid : BitVec 24) (gen : BitVec 16) (a : Packed) (s : State) : Res :=
  finish (s.jobPause c gid.toNat gen.toNat a)

/-- JOB_RESUME (R296, R301). -/
def execJobResume (c : CmdCtx) (gid : BitVec 24) (gen : BitVec 16) (tr : Packed) (s : State) : Res :=
  finish (s.jobResume c gid.toNat gen.toNat tr)

end Sys2Proof.Machine
end

