-- ==== Sys2Proof/Machine/Packet.lean ====
section
/-! DEFINITION. Command packets on the road: fragments, relays, reassembly, timeouts (R378 to R382). -/

namespace Sys2Proof.Machine

open Sys2Proof

/-- Route records and reassembly buffers a part holds (R379, R380). -/
def routeCap : Dev → Nat
  | .lotik => 16
  | .verard => 1024
def reasmCap : Dev → Nat
  | .lotik => 4
  | .verard => 64

/-- Reassembly buffers in use: packets not complete, and whole ones the controller has not yet taken. -/
def State.reasmUsed (s : State) (d : Dev) : Nat :=
  let c := s.cmd d
  c.reasm.length + (c.inbox.filter (fun x => x.path != .host d)).length

/-- Show them (R395). -/
def State.showReasm (s : State) (d : Dev) : State := s.put (R.CMD_STAT_REASM d) (s.reasmUsed d)

/-- The UA by which a ring frame to a die of the package is sent. -/
def State.dieTarget (s : State) (die : Nat) : Nat := s.pkgUa + die

/-- The ring ways to every other die of the ring (R382). -/
def State.ringWays (s : State) : List (Path × Nat) :=
  ((List.range (s.get R.LK_RING_STAT_RING_SIZE + 1)).filter (fun x => x != uaDie (s.ua .lotik))).map
    (fun x => (.ring (s.ringToward x), s.dieTarget x))

/-- The ways of a packet to a multicast UA (R382): a status that refuses it, whether this part takes it, and the ways out. -/
def State.groupWays (s : State) (d : Dev) (arrived : Path) (u : Nat) : Nat × Bool × List (Path × Nat) :=
  let g := s.group d (u % 2 ^ 18)
  match d with
  | .lotik =>
    let self := s.isMember g
    match arrived with
    | .ring _ => if self ∨ g.state ≠ 0 then (0, self, []) else (0x32, false, [])
    | .port _ => if g.state ≠ 0 then (0, self, s.ringWays) else (0x32, false, [])
    | .host _ => if g.state ≠ 0 ∧ g.scope = 0 ∧ s.isGph then (0, self, s.ringWays) else (0x32, false, [])
  | .verard =>
    let top := s.routeUni .verard (s.topUa g) none
    -- A pod Verard has a copy from above by either upstream port: it goes down, and not up again.
    let fromAbove := s.vdRole == 1 && (arrived == .port .upA || arrived == .port .upB)
    if g.state = 0 then (0x32, false, [])
    else if g.role = 0 ∨ top = some arrived ∨ fromAbove then
      let live (p : PortId) : Bool := s.vdRole == 0 || 64 ≤ p.idx || s.groupActive p.idx
      -- TOP sends down every way, also the one by which a node below sent the packet up.
      (0, false, ((s.downPorts g (if g.role = 0 then none else some arrived)).filter live).map (fun p => (.port p, u)))
    else match top with
      | some p => (0, false, [(p, u)])
      | none => (0x32, false, [])

/-- Whether a target is this part itself; before it has its UA, UA 0 too (R381, R392). -/
def State.targetsSelf (s : State) (d : Dev) (u : Nat) : Bool := s.isOwnUa d u || (!s.uaValid d && u == 0)

/-- What becomes of a packet by its target (R21, R381, R382): a refusing status, whether this part takes it, the ways out. -/
def State.ways (s : State) (d : Dev) (arrived : Path) (u : Nat) : Nat × Bool × List (Path × Nat) :=
  if uaMulticast u then s.groupWays d arrived u
  else if uaBadClass u then (0x11, false, [])
  else if s.targetsSelf d u then (0, true, [])
  else match s.routeUni d u (some arrived) with
    | none => (0x32, false, [])
    | some p => (0, false, [(p, u)])

/-- A relay or target answers a request that goes no further with a NOTICE (R379, R381, R383); other packets end silently. -/
def State.noticeFor (s : State) (d : Dev) (h : PktHeader) (status : Nat) : State :=
  if h.type = 0 ∨ h.type = 3 then s.notice d h status else s

/-- Send one fragment by each of its ways. -/
def State.sendWays (s : State) (d : Dev) (ws : List (Path × Nat)) (f : Fragment) : State :=
  ws.foldl (fun s w => s.sendFrag d w.1 w.2 f) s

/-- Credits of an absorbed CMD frame go back the way it came (R204); on the ring to the die it came from. -/
def State.cmdAbsorbed (s : State) (path : Path) (f : Fragment) : State :=
  let o := f.origin.toNat
  let die := if uaClass o = 0 ∧ o / 32 = s.ua .lotik / 32 then uaDie o else if s.lk.ring.gph = 2 then s.lk.ring.altDie.toNat else 0
  s.returnCredit path die 4 (cellsFor (8 + f.part.length))

/-- Whether a fragment has the form of R378. -/
def fragOk (f : Fragment) : Bool :=
  let last := f.index.toNat + 1 == f.total.toNat
  decide (f.total.toNat ≤ 38) && decide (f.index.toNat < f.total.toNat) &&
  (if last then decide (1 ≤ f.part.length) && decide (f.part.length ≤ 108) else f.part.length == 108)

/-- A packet's parts in order. -/
def partsBytes (ps : List (Nat × List Byte)) : List Byte := ps.flatMap (·.2)

/-- Take a fragment for reassembly; the last missing one completes the packet (R380). -/
def State.reasmTake (s : State) (d : Dev) (path : Path) (f : Fragment) : State :=
  let c := s.cmd d
  let mine (r : Reasm) : Bool := r.origin == f.origin && r.pktId == f.pktId && r.fromPath == path
  let r0 : Reasm := { origin := f.origin, pktId := f.pktId, total := f.total, parts := [], startAt := s.now d, fromPath := path }
  let r? := if f.index = 0 then some r0 else c.reasm.find? mine
  match r? with
  | none => s
  | some r =>
    let parts := smPut [] r.parts f.index.toNat f.part
    let rest := c.reasm.filter (fun x => !mine x)
    let s := if parts.length = r.total.toNat then (s.setCmd d { c with reasm := rest }).enqueue d path (partsBytes parts)
      else s.setCmd d { c with reasm := rest ++ [{ r with parts := parts }] }
    s.showReasm d

/-- Whether a packet whose fragment 0 this is has a free record and buffer where it needs them (R379, R380). -/
def State.fragRoom (s : State) (d : Dev) (path : Path) (f : Fragment) : Bool :=
  let h := readHdr f.part
  let (st, self, outs) := s.ways d path (h.target.toNat % 2 ^ 20)
  decide (f.part.length < 48) || decide (4 < h.type.toNat) || decide (4032 < h.length.toNat) || st != 0 ||
  !((outs != [] && decide (routeCap d ≤ (s.cmd d).routes.length)) || (self && decide (reasmCap d ≤ s.reasmUsed d)))

/-- Fragment 0 that need not wait (R379, R380): the header chooses the way. A part with no UA of its own answers nothing here (R23). -/
def State.fragFirst (s : State) (d : Dev) (path : Path) (f : Fragment) : State :=
  let h := readHdr f.part
  let u := h.target.toNat % 2 ^ 20
  if f.part.length < 48 ∨ 4 < h.type.toNat ∨ 4032 < h.length.toNat then s.cmdAbsorbed path f
  else
    let (st, self, outs) := s.ways d path u
    if st ≠ 0 then (s.cmdAbsorbed path f).doIf (s.uaValid d) (fun s => s.noticeFor d h st)
    else
      let s := s.cmdAbsorbed path f
      let s := if outs = [] then s else
        let s := (s.bump (R.CMD_CNT3_RELAYED d)).sendWays d outs f
        if f.total = 1 then s
        else s.setCmd d { s.cmd d with routes := (s.cmd d).routes ++ [{ origin := f.origin, pktId := f.pktId, path := outs, startAt := s.now d }] }
      if self then s.reasmTake d path f else s

/-- A later fragment follows its packet (R379, R380); the last one frees the record. -/
def State.fragNext (s : State) (d : Dev) (path : Path) (f : Fragment) : State :=
  let s := s.cmdAbsorbed path f
  let c := s.cmd d
  let mine (r : RouteRec) : Bool := r.origin == f.origin && r.pktId == f.pktId
  let s := match c.routes.find? mine with
    | none => s
    | some r =>
      let s := s.sendWays d r.path f
      if f.index.toNat + 1 = f.total.toNat then s.setCmd d { s.cmd d with routes := (s.cmd d).routes.filter (fun x => !mine x) } else s
  s.reasmTake d path f

/-- A fragment acts (R379, R380). -/
def State.fragTake (s : State) (d : Dev) (path : Path) (f : Fragment) : State :=
  if f.index = 0 then s.fragFirst d path f else s.fragNext d path f

/-- The oldest fragment that waits on each way. -/
def frontFrags : List (Path × Fragment) → List Path → List (Path × Fragment)
  | [], _ => []
  | x :: xs, seen => if seen.contains x.1 then frontFrags xs seen else x :: frontFrags xs (x.1 :: seen)

/-- Fragments that waited go on as far as records and buffers allow, in order on each way. -/
def State.fragsOn (s : State) (d : Dev) : Nat → State
  | 0 => s
  | n + 1 =>
    match (frontFrags (s.cmd d).waiting []).find? (fun x => x.2.index != 0 || s.fragRoom d x.1 x.2) with
    | none => s
    | some x => ((s.setCmd d { s.cmd d with waiting := (s.cmd d).waiting.erase x }).fragTake d x.1 x.2).fragsOn d n

/-- A record or buffer may be free: fragments that waited go on. -/
def State.fragsGo (s : State) (d : Dev) : State := s.fragsOn d (s.cmd d).waiting.length

/-- A fragment arrives (R379, R380): it waits behind one that waits on its way, or where it is a fragment 0 without a record or buffer. -/
def State.fragIn (s : State) (d : Dev) (path : Path) (f : Fragment) : State :=
  let c := s.cmd d
  if c.waiting.any (fun x => x.1 == path) || (f.index == 0 && !s.fragRoom d path f) then
    s.setCmd d { c with waiting := c.waiting ++ [(path, f)] }
  else (s.fragTake d path f).fragsGo d

/-- CMD_FRAGMENT (R51, R378 to R382). -/
def execCmdFragment (path : Path) (f : Framed Fragment) (s : State) : Res :=
  finish (
    let d := pathDev path
    if !s.pathUp path || !s.serves d then s
    else if !f.crcOk then s.frameDrop path
    else
    let s := if d = .lotik then s.wakeAll else s
    if !fragOk f.body then s.cmdAbsorbed path f.body
    else s.fragIn d path f.body)

/-- REASSEMBLY_TIMEOUT (R380): packets incomplete 1 ms after fragment 0. -/
def execReassemblyTimeout (d : Dev) (s : State) : Res :=
  finish (
    let c := s.cmd d
    let late (r : Reasm) : Bool := decide (r.startAt + msSub 1 ≤ s.now d)
    let n := (c.reasm.filter late).length
    (((s.setCmd d { c with reasm := c.reasm.filter (fun r => !late r) }).bumpSat (R.CMD_CNT2_REASM_DROP d) n).showReasm d).fragsGo d)

/-- ROUTE_RECORD_EXPIRY (R379): records 1 ms after fragment 0. -/
def execRouteRecordExpiry (d : Dev) (s : State) : Res :=
  finish (
    let c := s.cmd d
    (s.setCmd d { c with routes := c.routes.filter (fun r => decide (s.now d < r.startAt + msSub 1)) }).fragsGo d)

end Sys2Proof.Machine
end

