-- ==== Sys2Proof/Machine/Pins.lean ====
section
/-! DEFINITION. Pin and link faults (R70 to R73): what each code does at each site, and its removal. -/

namespace Sys2Proof.Machine

open Sys2Proof

/-- The codes that are corrected where they are found (R70, R71). -/
def corrected (code : Nat) : Bool := code == 5 || code == 6

/-- PIN_FAULT_DETECT (R70 to R73, R80, R106): the hop, port, input or pin is taken out of use, or the fault is corrected. A fault on
an input that is another channel's STOP_SEL ends that input's own measurement alone (DESIGN CHOICE, notes/assumptions/154). -/
def execPinFaultDetect (site : PinSite) (code : BitVec 4) (s : State) : Res :=
  finish (
    let n := code.toNat
    if n = 0 ∨ 0xA < n then s else
    match site with
    | .hop r =>
      if corrected n then (s.put (ringFaultField r) n).logChange .lotik 1 (ringFaultField r) else s.hopOpen r n
    | .port p =>
      let st := s.get (R.PORT_STAT_STATE p)
      if st = 0 ∨ s.get (R.PORT_STAT_FAULT p) = n then s
      else if n = 1 then
        -- An open fibre keeps or puts the port in DETECT, with one entry (R60).
        let s := if st = 1 ∨ st = 7 then s else s.portGo p 1
        if s.switching p then s.switchLoss p else (s.put (R.PORT_STAT_FAULT p) 1).logChange p.dev 1 (R.PORT_STAT_STATE p)
      -- A corrected polarity, and a fault found in HELD, which only RETRY or a restart leaves (R60).
      else if n = 5 ∨ st = 7 then (s.put (R.PORT_STAT_FAULT p) n).logChange p.dev 1 (R.PORT_STAT_STATE p)
      else s.portFault p n
    | .refInput i =>
      -- A POD ignores its reference inputs (R77).
      if !s.usesRefs then s else
      let s := (s.put (R.VD_REFi_ST_FAULT i) n).logChange .verard 2 (R.VD_REFi_ST_FAULT i)
      if n = 5 then s else if i = 2 then (s.rejectInput 2 5).assistEnd else s.rejectInput i 5
    | .meas i =>
      let s := s.put (R.MEAS_STAT_FAULT i) n
      if n ≠ 5 ∧ s.getB (R.MEAS_STAT_BUSY i) then s.measEnd i 8 else s
    | .trigIn i => (s.put (R.LK_TRIGi_STAT_FAULT i) n).logChange .lotik 3 (R.LK_TRIGi_STAT_FAULT i)
    | .trigOut i => (s.put (R.LK_TRIGo_STAT_FAULT i) n).logChange .lotik 3 (R.LK_TRIGo_STAT_FAULT i))

/-- PIN_FAULT_CLEAR (R71): the pin recovers as soon as the fault is removed. A port leaves FAULT, and a hop its open state, by
their own events (R60, R73). -/
def execPinFaultClear (site : PinSite) (s : State) : Res :=
  finish (
    match site with
    | .hop r => if s.get (ringFaultField r) = 0 then s else (s.put (ringFaultField r) 0).logChange .lotik 1 (ringFaultField r)
    | .port p => if s.get (R.PORT_STAT_FAULT p) = 0 then s else (s.put (R.PORT_STAT_FAULT p) 0).logChange p.dev 1 (R.PORT_STAT_STATE p)
    | .refInput i =>
      if s.get (R.VD_REFi_ST_FAULT i) = 0 then s else (s.put (R.VD_REFi_ST_FAULT i) 0).logChange .verard 2 (R.VD_REFi_ST_FAULT i)
    | .meas i => s.put (R.MEAS_STAT_FAULT i) 0
    | .trigIn i => s.put (R.LK_TRIGi_STAT_FAULT i) 0
    | .trigOut i => s.put (R.LK_TRIGo_STAT_FAULT i) 0)

end Sys2Proof.Machine
end

