-- ==== Sys2Proof/Machine/TimeCmd.lean ====
section
/-! DEFINITION. The commands of hall time (R31 to R49, R91 to R95). -/

namespace Sys2Proof.Machine

open Sys2Proof

/-- TIME_LATCH (R40, R41): a write of the time control register of a part. -/
def execTimeLatch (d : Dev) (v : Word) (s : State) : Res :=
  finish (s.viaBus d.sp d.timeBase (fun s => (s.latch d v)))

/-- TIME_CAPTURE_DONE (R40): the capture completes with the bins the TDC counted. -/
def execTimeCaptureDone (d : Dev) (bins : BitVec 12) (s : State) : Res := finish (s.capture d bins.toNat)

/-- Verard's accumulator at a Spring edge; it stands still while Verard is held in reset (R360). -/
def State.edgeVerard (s : State) : State := if s.vd.hot then s else s.setClk .verard (s.clk .verard).edge

/-- SPRING_EDGE (R37): Lotik's accumulator takes INC; Verard's own accumulator advances by the same rule (notes/assumptions/3). The
wakes of sync objects that are due are delivered (R161, R166), and the order of R19 that a change in both heads held back is applied. -/
def execSpringEdge (s : State) : Res :=
  .next ((((s.setClk .lotik (s.clk .lotik).edge).edgeVerard).deliverWakes.releaseGaps).doIf s.lk.ring.again State.retimeLotik)

/-- SLEW_DONE (R48): the rejoin slew has removed the offset; SLEWING clears and the device is LOCKED. -/
def execSlewDone (d : Dev) (s : State) : Res :=
  finish (
    let c := s.clk d
    if c.slewing ∧ c.slew = 0 then ((s.setClk d { c with slewing := false }).setOwn d 2).showEst d else s)

/-- HOLDOVER_UPDATE (R94, R95): the estimate of a device in holdover is renewed and held against the specification; a ring time master
tells it in STATUS (notes/assumptions/112). -/
def execHoldoverUpdate (d : Dev) (s : State) : Res :=
  let c := s.clk d
  let s := if c.own = 3 ∨ c.own = 4 then
      let est := estPs c.holdE0 c.holdF c.holdA (c.now - c.holdAt)
      let s := s.setClk d { c with est := est }
      if c.own = 3 ∧ s.specPs d < est then s.setOwn d 4 else s
    else s
  let s := s.showEst d
  finish (s.doIf (d == .lotik && s.isRingMaster && (c.own == 3 || c.own == 4)) State.sendStatus)

end Sys2Proof.Machine
end

