-- ==== Sys2Proof/Machine/Request.lean ====
section
/-! DEFINITION. The controller acts on whole packets (R373 to R377, R384 to R391). -/

namespace Sys2Proof.Machine

open Sys2Proof

/-- Whether a part answers an opcode (R390): both, Lotik, Verard, a ROOT or COMBINED Verard, or a part that can be a top node. -/
def State.knows (s : State) (d : Dev) (op : Nat) : Bool :=
  let lk := d == .lotik
  [0x00, 0x01, 0x02, 0x10, 0x73, 0x74, 0x90, 0x91, 0x93, 0x94, 0x95, 0x96, 0x97, 0xA0, 0xA1, 0xA2, 0xA3, 0xF0, 0xF1].contains op ||
  (lk && [0x03, 0x1E, 0x25, 0x30, 0x31, 0x32, 0x33, 0x34, 0x35, 0x46, 0x47, 0x48, 0x50, 0x51, 0x52, 0x53, 0x54, 0x55, 0x56, 0x57, 0x58,
    0x60, 0x61, 0x62, 0x63, 0x66, 0x67, 0x70, 0x71, 0x72, 0x75, 0x92].contains op) ||
  (!lk && [0x1D, 0x49, 0x76, 0x77, 0x78, 0x79, 0x80, 0x81, 0x82, 0x83, 0x84, 0x85].contains op) ||
  (!lk && s.vdRole != 1 && [0x18, 0x19, 0x1A, 0x1B, 0x1C].contains op) ||
  ([0x20, 0x21, 0x22, 0x23, 0x24, 0x40, 0x41, 0x42, 0x43, 0x44, 0x45, 0x64, 0x65].contains op)

/-- NOP (R391): the same data. -/
def execNop (c : CmdCtx) (data : List Byte) (s : State) : Res := finish (s.answer c 0x00 0 data)

/-- INFO (R391). -/
def execInfo (c : CmdCtx) (s : State) : Res :=
  finish (
    let d := c.dev
    let id := match d with
      | .lotik => leBytes 2 (s.get R.LK_ID_PART) ++ leBytes 1 (s.get R.LK_ID_STEPPING) ++ leBytes 1 (s.get R.LK_TOPO_ROLE)
      | .verard => leBytes 2 (s.get R.VD_ID_PART) ++ leBytes 1 (s.get R.VD_ID_STEPPING) ++ leBytes 1 (s.get R.VD_TOPO_ROLE)
    let map := (List.range 32).map (fun i => BitVec.ofNat 8 ((List.range 8).map (fun j => b2n (s.knows d (8 * i + j)) * 2 ^ j)).sum)
    s.answer c 0x01 0 (id ++ leBytes 3 (s.ua d) ++ leBytes 1 (s.get (R.CMD_STAT_VER_MIN d)) ++ leBytes 1 (s.get (R.CMD_STAT_VER_MAX d)) ++
      leBytes 4 (s.get (R.FW_RUN_VER_VERSION d)) ++ leBytes 1 (s.sec d).lc ++ leBytes 1 (s.get (R.CMD_STAT_SESSIONS d)) ++
      leBytes 1 (s.get (R.CMD_STAT_GSESSIONS d)) ++ map))

/-- Carry out an opcode of class 0x0_ (R390). -/
def runOp0 (op : Nat) (c : CmdCtx) (p : List Byte) (s : State) : Res :=
  match op with
  | 0x00 => execNop c p s
  | 0x01 => execInfo c s
  | 0x02 => execBootStatus c s
  | 0x03 => execProfileSelect c (fld p 0 1) s
  | _ => .next s

/-- Carry out an opcode of class 0x1_ (R390). -/
def runOp1 (op : Nat) (c : CmdCtx) (p : List Byte) (s : State) : Res :=
  match op with
  | 0x10 => execTimeRead c (fld p 0 1) s
  | 0x18 => execRefStatus c s
  | 0x19 => execRefPriority c (fld p 0 1) (fld p 1 1) s
  | 0x1A => execRefLockout c (fld p 0 1) (fld p 1 1) s
  | 0x1B => execOutRealign c s
  | 0x1C => execPtpTsqLookup c (fld p 0 1) (fld p 1 1) (fld p 2 2) s
  | 0x1D => execMeasRun c (fld p 0 1) (fld p 1 4) (fld p 5 4) (fld p 9 4) (fld p 13 12) s
  | 0x1E => execTrigArm c (fld p 0 1) (fld p 1 1) (fld p 2 12) (fld p 14 2) (fld p 16 2) s
  | _ => .next s

/-- Carry out an opcode of class 0x2_ (R390). -/
def runOp2 (op : Nat) (c : CmdCtx) (p : List Byte) (s : State) : Res :=
  match op with
  | 0x20 => execJobArm c (fld p 0 3) (fld p 3 2) (fld p 5 1) (fld p 6 1) (fld p 7 4) (fld p 11 16) s
  | 0x21 => execJobCommit c (fld p 0 3) (fld p 3 2) (fld p 5 12) s
  | 0x22 => execJobAbort c (fld p 0 3) (fld p 3 2) s
  | 0x23 => execJobTeardown c (fld p 0 3) (fld p 3 2) (fld p 5 12) s
  | 0x24 => execJobStatus c (fld p 0 3) s
  | 0x25 => execStepRead c s
  | _ => .next s

/-- Carry out an opcode of class 0x3_ (R390). -/
def runOp3 (op : Nat) (c : CmdCtx) (p : List Byte) (s : State) : Res :=
  match op with
  | 0x30 => execSyncRead c (fld p 0 2) s
  | 0x31 => execSyncOp c (fld p 0 2) (fld p 2 1) (fld p 3 4) s
  | 0x32 => execSyncDebug c (fld p 0 2) (fld p 2 2) s
  | 0x33 => execSyncSave c (fld p 0 8) (fld p 8 2) (fld p 10 2) (fld p 12 2) (fld p 14 2) s
  | 0x34 => execSyncRestore c (fld p 0 8) s
  | 0x35 => execSyncFlowReset c (fld p 0 2) s
  | _ => .next s

/-- Carry out an opcode of class 0x4_ (R390). -/
def runOp4 (op : Nat) (c : CmdCtx) (p : List Byte) (s : State) : Res :=
  match op with
  | 0x40 => execGroupCreate c (fld p 0 3) (fld p 3 1) (fld p 4 1) (fld p 5 1) (fld p 6 1) (fld p 7 2) s
  | 0x41 => execGroupAdd c (fld p 0 3) (fld p 3 2) ((List.range (leAt p 5 2)).map (fun k => fld p (7 + 8 * k) 8)) s
  | 0x42 => execGroupSeal c (fld p 0 3) (fld p 3 2) s
  | 0x43 => execGroupRenew c (fld p 0 3) (fld p 3 2) s
  | 0x44 => execGroupDelete c (fld p 0 3) (fld p 3 2) s
  | 0x45 => execGroupStatus c (fld p 0 3) s
  | 0x46 => execGqBind c (fld p 0 2) (fld p 2 3) (fld p 5 2) (fld p 7 8) (fld p 15 1) (fld p 16 8) (fld p 24 1) (fld p 25 1) s
  | 0x47 => execGqUnbind c (fld p 0 2) s
  | 0x48 => execGqStatus c (fld p 0 2) s
  | 0x49 => execGroupBasin c (fld p 0 3) (fld p 3 1) s
  | _ => .next s

/-- Carry out an opcode of class 0x5_ (R390). -/
def runOp5 (op : Nat) (c : CmdCtx) (p : List Byte) (s : State) : Res :=
  match op with
  | 0x50 => execCsStatus c s
  | 0x51 => execCsLedger c (fld p 0 1) (fld p 1 1) s
  | 0x52 => execCsFence c (fld p 0 1) (fld p 1 1) s
  | 0x53 => execCsOpt c s
  | 0x54 => execPgStatus c s
  | 0x55 => execPgCap c (fld p 0 2) (fld p 2 2) s
  | 0x56 => execPgEnergy c s
  | 0x57 => execPgRegions c (fld p 0 1) (fld p 1 1) s
  | 0x58 => execPgModel c s
  | _ => .next s

/-- Carry out an opcode of class 0x6_ (R390). -/
def runOp6 (op : Nat) (c : CmdCtx) (p : List Byte) (image : Option (List Byte)) (s : State) : Res :=
  match op with
  | 0x60 => execDetStatus c s
  | 0x61 => execDetDigest c (fld p 0 1) s
  | 0x62 => execDetDigestCheck c (fld p 0 1) (fld p 1 1) s
  | 0x63 => execDetSeed c (fld p 0 4) (fld p 4 4) (fld p 8 8) s
  | 0x64 => execJobPause c (fld p 0 3) (fld p 3 2) (fld p 5 12) s
  | 0x65 => execJobResume c (fld p 0 3) (fld p 3 2) (fld p 5 12) s
  | 0x66 => execJobSave c (fld p 0 8) s
  | 0x67 => execJobLoad c (fld p 0 8) image s
  | _ => .next s

/-- Carry out an opcode of class 0x7_ (R390). -/
def runOp7 (op : Nat) (c : CmdCtx) (p : List Byte) (s : State) : Res :=
  match op with
  | 0x70 => execHmSound c (fld p 0 1) s
  | 0x71 => execHmStatus c s
  | 0x72 => execHmMap c s
  | 0x73 => execLogRead c (fld p 0 4) (fld p 4 1) s
  | 0x74 => execLogAdvance c (fld p 0 4) s
  | 0x75 => execHmSetState c (fld p 0 1) s
  | 0x76 => execHmScore c (fld p 0 2) (fld p 2 2) s
  | 0x77 => execHmSpares c (fld p 0 2) s
  | 0x78 => execHmExpel c (fld p 0 3) s
  | 0x79 => execHmHoldRelease c s
  | _ => .next s

/-- Carry out an opcode of class 0x8_ (R390). -/
def runOp8 (op : Nat) (c : CmdCtx) (p : List Byte) (s : State) : Res :=
  match op with
  | 0x80 => execOptStatus c (fld p 0 1) s
  | 0x81 => execOptLines c (fld p 0 1) s
  | 0x82 => execOptSwap c (fld p 0 1) (fld p 1 1) s
  | 0x83 => execOptResearch c (fld p 0 1) s
  | 0x84 => execOcsArm c (fld p 0 1) (fld p 1 1) (fld p 2 1) (fld p 3 12) (fld p 15 8) (fld p 23 2) (fld p 25 2) s
  | 0x85 => execOcsCancel c (fld p 0 1) s
  | _ => .next s

/-- Carry out an opcode of class 0x9_ (R390). -/
def runOp9 (op : Nat) (c : CmdCtx) (p : List Byte) (s : State) : Res :=
  match op with
  | 0x91 => execSessionClose c s
  | 0x92 => execGroupSession c (fld p 0 3) (fld p 3 2) (fld p 5 4) ((p.drop 9).take 32) (fld p 41 4) s
  | 0x93 => execIdCert c p s
  | 0x94 => execSignStamp c (p.take 16) (fld p 16 1) s
  | 0x95 => execLcStatus c s
  | 0x96 => execLcTransition c (fld p 0 1) (fld p 1 1) (p.drop 2) s
  | 0x97 => execKeyBind c (fld p 0 1) (fld p 1 2) (p.drop 3) s
  | _ => .next s

/-- Carry out an opcode of class 0xA_ (R390). -/
def runOpA (op : Nat) (c : CmdCtx) (p : List Byte) (s : State) : Res :=
  match op with
  | 0xA0 => execFwBegin c (fld p 0 4) (fld p 4 4) (fld p 8 4) s
  | 0xA1 => execFwChunk c (fld p 0 4) (fld p 4 2) (p.drop 6) s
  | 0xA2 => execFwStatus c s
  | 0xA3 => execFwCancel c (fld p 0 4) s
  | _ => .next s

/-- Carry out an opcode of class 0xF_ (R390). -/
def runOpF (op : Nat) (c : CmdCtx) (p : List Byte) (s : State) : Res :=
  match op with
  | 0xF0 => execDbgRead c (fld p 0 4) (fld p 4 2) s
  | 0xF1 => execDbgWrite c (fld p 0 4) (fld p 4 4) s
  | _ => .next s

/-- Carry out a request's opcode (R387 step 11, R390). -/
def runOp (op : Nat) (c : CmdCtx) (p : List Byte) (image : Option (List Byte)) (s : State) : Res :=
  match op / 16 with
  | 0 => runOp0 op c p s
  | 1 => runOp1 op c p s
  | 2 => runOp2 op c p s
  | 3 => runOp3 op c p s
  | 4 => runOp4 op c p s
  | 5 => runOp5 op c p s
  | 6 => runOp6 op c p image s
  | 7 => runOp7 op c p s
  | 8 => runOp8 op c p s
  | 9 => runOp9 op c p s
  | 10 => runOpA op c p s
  | 15 => runOpF op c p s
  | _ => .next s

-- Checks (R387).

/-- The state an outcome goes on from; no meaning of an opcode ends otherwise. -/
def resNext (s : State) : Res → State
  | .next t => t
  | _ => s

/-- SESSION_IDLE_S of a part (R376). -/
def State.idleS (s : State) : Dev → Nat
  | .lotik => s.lk.prof.sessionIdleS
  | .verard => s.vd.prof.sessionIdleS

/-- A packet fails its salt or its tag (R373): counted, logged, not answered. -/
def State.authFail (s : State) (d : Dev) (session : Nat) (reason : Byte) : State :=
  (s.bumpSat (R.CMD_CNT_AUTH_FAIL d)).logKind d 0x0D03 3 (leBytes 4 session ++ [reason])

/-- Whether a COUNTER is old or recorded (R373). -/
def Session.used (x : Session) (n : Nat) : Bool :=
  let h := x.high.toNat
  if h < n then false else decide (64 ≤ h - n) || x.seen.toNat.testBit (h - n)

/-- Record an accepted COUNTER (R373): bit i of the record stands for H − i. -/
def Session.accept (x : Session) (n : Nat) : Session :=
  let h := x.high.toNat
  if h < n then { x with high := BitVec.ofNat 64 n, seen := BitVec.ofNat 64 ((if n - h < 64 then x.seen.toNat * 2 ^ (n - h) else 0) + 1) }
  else { x with seen := BitVec.ofNat 64 (x.seen.toNat ||| 2 ^ (h - n)) }

/-- Whether a SEQUENCE is older than every stored one while 16 are stored (R374), compared modulo 2³². -/
def Session.tooOld (x : Session) (q : BitVec 32) : Bool :=
  x.answers.length == 16 && x.answers.all (fun a => decide (2 ^ 31 ≤ (q - a.seq).toNat))

/-- Requests of a session that wait for a synchronous answer: stamps, soundings, and operations held during a save (R180). -/
def State.inHand (s : State) (d : Dev) (session : BitVec 32) : List (BitVec 32) :=
  let heldOp : SyncHeld → Option CmdCtx
    | .op o => o.cmd
    | _ => none
  (((s.secRun d).stamps.map (·.1)) ++ (if d = .lotik then s.lk.hm.askers.map (·.1) ++ s.lk.sync.heldOps.filterMap heldOp else [])).filterMap
    (fun c => if c.session = session then some c.seq else none)

/-- A refusal of the life cycle or of a key before the command itself (R387, R415). -/
def State.deny (s : State) (c : CmdCtx) (op : Byte) (st : Nat) : State := (s.bumpSat (R.SEC_CNT_DENIED c.dev)).sendAnswer c 1 op (statusWord st)

/-- Steps 7 to 11 of R387: the opcode, the life cycle, the key, LENGTH, the command itself. `key` is none for an open request. -/
def State.runChecked (s : State) (c : CmdCtx) (loc : Bool) (op : Byte) (key : Option Nat) (p : List Byte) (image : Option (List Byte)) : State :=
  let o := op.toNat
  let allowed := match key with
    | some k => s.keyPermits c.dev k o p
    | none => true
  if !s.knows c.dev o ∨ o = 0x90 then s.sendAnswer c 1 op (statusWord 0x10)
  else if !s.lcAllows c.dev loc o p then s.deny c op 0x22
  else if !allowed then s.deny c op 0x24
  else if !lenOk o p then s.sendAnswer c 1 op (statusWord 0x12)
  else resNext s (runOp o c p image (s.bump (R.CMD_CNT3_EXECUTED c.dev)))

/-- Whether VERSION lies in a part's range (R389). -/
def State.versionOk (s : State) (d : Dev) (v : Byte) : Bool :=
  decide (s.get (R.CMD_STAT_VER_MIN d) ≤ v.toNat) && decide (v.toNat ≤ s.get (R.CMD_STAT_VER_MAX d))

/-- The answer to a VERSION outside the range (R389). -/
def State.badVersion (s : State) (c : CmdCtx) (type : Nat) (op : Byte) : State :=
  s.sendAnswer c type op (statusWord 0x13 ++ leBytes 1 (s.get (R.CMD_STAT_VER_MIN c.dev)) ++ leBytes 1 (s.get (R.CMD_STAT_VER_MAX c.dev)))

/-- Send a stored answer again under a new COUNTER (R374); with QUIET none that carries OK or ACCEPTED (R383). -/
def State.resend (s : State) (c : CmdCtx) (a : Answer) : State :=
  let c := { c with version := a.version }
  let silent (p : List Byte) : Bool := c.quiet && decide (leAt p 0 1 ≤ 1)
  let s := s.doIf (!silent a.reply) (fun s => s.sendAnswer c 1 a.opcode a.reply)
  match a.completion with
  | some p => s.doIf (!silent p) (fun s => s.sendAnswer c 2 a.opcode p)
  | none => s

/-- Steps 3 to 6 of R387, for a packet whose salt and tag are right. -/
def State.runSession (s : State) (c : CmdCtx) (loc : Bool) (h : PktHeader) (x : Session) (p : List Byte) (image : Option (List Byte)) : State :=
  let d := c.dev
  let n := h.counter.toNat
  if n = 2 ^ 64 - 1 then s.endSessions d (fun y => y.id == x.id)
  else if x.used n then
    let s := s.bumpSat (R.CMD_CNT_REPLAY d)
    if x.group then s else s.sendAnswer c 1 h.opcode (statusWord 0x21)
  else
    let x := { x.accept n with lastAuth := s.now d }
    let s := s.setSession d x
    let hand := s.inHand d x.id
    if !s.versionOk d h.version then s.badVersion c 1 h.opcode
    else match x.answers.find? (fun a => a.seq == h.seq) with
      | some a => s.resend c a
      | none =>
        if hand.contains h.seq then s
        else if x.tooOld h.seq then (s.bumpSat (R.CMD_CNT_REPLAY d)).sendAnswer c 1 h.opcode (statusWord 0x21)
        else if 16 ≤ x.outstanding + hand.length then s.sendAnswer c 1 h.opcode (statusWord 0x30)
        else s.runChecked c loc h.opcode (some x.keyIndex) p image

/-- Whether an open request may be executed (R377): through local ingress, whose packets have the part's own host as SOURCE (R392), and
NOP, INFO, BOOT_STATUS or PROFILE_SELECT. -/
def openOk (loc : Bool) (h : PktHeader) : Bool := loc && decide (h.opcode.toNat ≤ 3)

/-- A REQUEST or SESSION packet for this part (R372 to R377, R382, R387). -/
def State.request (s : State) (d : Dev) (loc : Bool) (k : Packet) (raw : List Byte) (image : Option (List Byte)) : State :=
  let h := k.hdr
  let mc := uaMulticast (h.target.toNat % 2 ^ 20)
  let c : CmdCtx :=
    { dev := d, src := h.source, session := h.session, seq := h.seq, version := h.version, quiet := mc && h.flags.getLsbD 0 }
  if h.session = 0 then
    if mc then s.noticeFor d h 0x23
    else if h.type = 3 then
      if !s.versionOk d h.version then s.badVersion c 3 h.opcode
      else if h.opcode ≠ 0x90 then s.sendAnswer c 3 h.opcode (statusWord 0x10)
      else resNext s (execSessionOpen c loc (raw.take 32) k.payload (s.bump (R.CMD_CNT3_EXECUTED d)))
    else if !openOk loc h then s.noticeFor d h 0x23
    else if !s.versionOk d h.version then s.badVersion c 1 h.opcode
    else s.runChecked c loc h.opcode none k.payload image
  else match s.session d h.session with
    | none => s.noticeFor d h 0x23
    | some x =>
      if mc && !x.group then s.bumpSat (R.CMD_CNT_AUTH_FAIL d)
      else if h.salt ≠ x.saltIn then s.authFail d x.id.toNat 1
      else
        let iv := (raw.drop 20).take 12
        let aad := raw.take 32
        if Config.gcmTag x.key iv aad k.payload ≠ k.tag then s.authFail d x.id.toNat 0
        else s.runSession c loc h x (Config.gcmDecrypt x.key iv aad k.payload) image

/-- A whole packet taken by the controller (R381, R387, R392). Only requests act on a part; other types end there. -/
def State.takePacket (s : State) (d : Dev) (path : Path) (raw : List Byte) (image : Option (List Byte)) : State :=
  let loc := path == .host d
  match readPkt raw with
  | none => s
  | some k =>
    let h := k.hdr
    let u := h.target.toNat % 2 ^ 20
    if 4 < h.type.toNat ∨ 4032 < h.length.toNat then s
    else if !loc && !s.uaValid d then s
    else
      -- A packet that came from a link was found to be for this part at its fragment 0.
      let (st, self, outs) := if loc then s.ways d path u else (0, true, [])
      if st ≠ 0 then s.noticeFor d h st
      else
        let s := if outs = [] then s else
          let p := s.cmd d
          let s := s.setCmd d { p with pktId := p.pktId + 1 }
          (fragments (s.ua d) p.pktId.toNat raw).foldl (fun s f => s.sendWays d outs f) s
        if !self then s
        else if h.target.toNat / 2 ^ 20 = 1 then s.toHost d raw
        else if h.type = 0 ∨ h.type = 3 then s.request d loc k raw image
        else s

/-- The order in which a controller takes packets (R384). -/
def pathRank : Path → Nat
  | .host _ => 0
  | .port .tlink => 1
  | .ring .e => 2
  | .ring .w => 3
  | .port p => 4 + p.idx

/-- The logic-domain cycle, of 1 ns, in which a packet was complete. -/
def PktIn.cycle (x : PktIn) : Nat := x.at_ / 65536

/-- The packet that the controller takes next (R384): of those complete in the cycle of the oldest, the first that comes first in the
order of the ways. -/
def nextPacket (ps : List PktIn) : Option PktIn :=
  match ps with
  | [] => none
  | x :: xs => some ((xs.filter (fun y => y.cycle == x.cycle)).foldl (fun b y => if pathRank y.path < pathRank b.path then y else b) x)

/-- Whether a part's controller takes packets: a SCRAPPED part only from its own host (R404). -/
def State.controls (s : State) (d : Dev) (path : Path) : Bool :=
  s.serves d || ((s.sec d).lc == 4 && path == .host d)

/-- PACKET_REASSEMBLED (R384, R387): the controller takes one whole packet; `image` is what host memory holds where it is a JOB_LOAD.
A packet from the mailbox leaves it FREE (R393). -/
def execPacketReassembled (d : Dev) (image : Option (List Byte)) (s : State) : Res :=
  finish (
    match nextPacket (s.cmd d).inbox with
    | none => s
    | some ⟨path, raw, at_⟩ =>
      if !s.controls d path then s
      else
        let s := s.setCmd d { s.cmd d with inbox := (s.cmd d).inbox.erase ⟨path, raw, at_⟩ }
        let s := if d = .lotik ∧ path = .host .lotik ∧ s.get R.LK_MBOX_STAT_STATE = 2 then s.logicWork.mboxFree else s
        ((s.takePacket d path raw image).showReasm d).fragsGo d)

/-- SESSION_IDLE_TIMEOUT (R376). -/
def execSessionIdleTimeout (d : Dev) (s : State) : Res :=
  finish (s.endSessions d (fun x => !x.group && decide (x.lastAuth + secSub (s.idleS d) ≤ s.now d)))

/-- COMMAND_COMPLETION (R386): an asynchronous command ends whose end no other command of the block shows: the host has taken a
slot's job image (R297, R301). -/
def execCommandCompletion (slot : Fin 2) (s : State) : Res := finish (s.complete .lotik 0x66 slot.val 0 (leBytes 4 896) true)

end Sys2Proof.Machine
end

