-- ==== Sys2Proof/Machine/Dispatch.lean ====
section
/-! DEFINITION. The dispatch: one arm for each command of the table, each a direct call of its meaning. -/

namespace Sys2Proof.Machine

open Sys2Proof

def exec (i : Instr) (s : State) : Host.Outcome State Fault Refusal :=
  match i with
  | .registerWrite bar off v => Sys2Proof.Machine.execRegisterWrite bar off v s
  | .registerReadClear bar off wide => Sys2Proof.Machine.execRegisterReadClear bar off wide s
  | .badSizeAccess bar off write size => Sys2Proof.Machine.execBadSizeAccess bar off write size s
  | .unmappedAccess bar off write => Sys2Proof.Machine.execUnmappedAccess bar off write s
  | .lotikReset prof profCmd => Sys2Proof.Machine.execLotikReset prof profCmd s
  | .hostReset => Sys2Proof.Machine.execHostReset s
  | .verardReset prof => Sys2Proof.Machine.execVerardReset prof s
  | .pcieReset => Sys2Proof.Machine.execPcieReset s
  | .verardThermalHold tj => Sys2Proof.Machine.execVerardThermalHold tj s
  | .springClockArrive => Sys2Proof.Machine.execSpringClockArrive s
  | .fuseLoadDone ok tmax => Sys2Proof.Machine.execFuseLoadDone ok tmax s
  | .thermalHoldRelease tmax => Sys2Proof.Machine.execThermalHoldRelease tmax s
  | .bootBlockReadDone err block => Sys2Proof.Machine.execBootBlockReadDone err block s
  | .profileSelectTimeout => Sys2Proof.Machine.execProfileSelectTimeout s
  | .ringStageDone => Sys2Proof.Machine.execRingStageDone s
  | .gridPllLocked => Sys2Proof.Machine.execGridPllLocked s
  | .gridPllLockTimeout => Sys2Proof.Machine.execGridPllLockTimeout s
  | .verardStageDone image area0 area1 readable => Sys2Proof.Machine.execVerardStageDone image area0 area1 readable s
  | .logicDomainSleep => Sys2Proof.Machine.execLogicDomainSleep s
  | .logicDomainWake => Sys2Proof.Machine.execLogicDomainWake s
  | .fclkLoss => Sys2Proof.Machine.execFclkLoss s
  | .timingCoreSleep => Sys2Proof.Machine.execTimingCoreSleep s
  | .timingCoreWake => Sys2Proof.Machine.execTimingCoreWake s
  | .timeLatch d v => Sys2Proof.Machine.execTimeLatch d v s
  | .timeCaptureDone d bins => Sys2Proof.Machine.execTimeCaptureDone d bins s
  | .tickSend p bins => Sys2Proof.Machine.execTickSend p bins s
  | .tickBlockRx p b bins => Sys2Proof.Machine.execTickBlockRx p b bins s
  | .timeFrameRx p f crcOk => Sys2Proof.Machine.execTimeFrameRx p f crcOk s
  | .authFrameRx p group tag => Sys2Proof.Machine.execAuthFrameRx p group tag s
  | .enumFrameRx p f => Sys2Proof.Machine.execEnumFrameRx p f s
  | .enumAckRx p ua role side => Sys2Proof.Machine.execEnumAckRx p ua role side s
  | .calFrameRx p b => Sys2Proof.Machine.execCalFrameRx p b s
  | .healthFrameRx path kind body => Sys2Proof.Machine.execHealthFrameRx path kind body s
  | .portEnableWrite p on => Sys2Proof.Machine.execPortEnableWrite p on s
  | .portRetry p => Sys2Proof.Machine.execPortRetry p s
  | .portCalNow p => Sys2Proof.Machine.execPortCalNow p s
  | .detectLightValid p => Sys2Proof.Machine.execDetectLightValid p s
  | .pinFaultDetect site code => Sys2Proof.Machine.execPinFaultDetect site code s
  | .pinFaultClear site => Sys2Proof.Machine.execPinFaultClear site s
  | .trainDone p peer => Sys2Proof.Machine.execTrainDone p peer s
  | .trainTimeout p reversed => Sys2Proof.Machine.execTrainTimeout p reversed s
  | .linkKeyAgreed p => Sys2Proof.Machine.execLinkKeyAgreed p s
  | .linkKeyFail p reason => Sys2Proof.Machine.execLinkKeyFail p reason s
  | .foldCalDone p low high => Sys2Proof.Machine.execFoldCalDone p low high s
  | .tickTimeout p => Sys2Proof.Machine.execTickTimeout p s
  | .portFaultRetry p => Sys2Proof.Machine.execPortFaultRetry p s
  | .routineRecal p => Sys2Proof.Machine.execRoutineRecal p s
  | .linkRekey p => Sys2Proof.Machine.execLinkRekey p s
  | .linkKeyExpiry p => Sys2Proof.Machine.execLinkKeyExpiry p s
  | .ringTimeSend => Sys2Proof.Machine.execRingTimeSend s
  | .ringTimeRx r src ticks phase path st wrap crcOk => Sys2Proof.Machine.execRingTimeRx r src ticks phase path st wrap crcOk s
  | .ringEchoSend r => Sys2Proof.Machine.execRingEchoSend r s
  | .ringEchoRx r seq reply tripPs crcOk => Sys2Proof.Machine.execRingEchoRx r seq reply tripPs crcOk s
  | .ringEnumStart => Sys2Proof.Machine.execRingEnumStart s
  | .ringEnumSymbol r token down conflict crcOk => Sys2Proof.Machine.execRingEnumSymbol r token down conflict crcOk s
  | .ringEnumTimeout => Sys2Proof.Machine.execRingEnumTimeout s
  | .ringStatusRx r src errPs utcOffset utcValid pod port portValid chain awake master masterState holdEst crcOk => Sys2Proof.Machine.execRingStatusRx r src errPs utcOffset utcValid pod port portValid chain awake master masterState holdEst crcOk s
  | .handoverRx r src ticks master crcOk => Sys2Proof.Machine.execHandoverRx r src ticks master crcOk s
  | .handoverEffective => Sys2Proof.Machine.execHandoverEffective s
  | .ringMasterSilent => Sys2Proof.Machine.execRingMasterSilent s
  | .wake r src dst reason crcOk => Sys2Proof.Machine.execWake r src dst reason crcOk s
  | .ringDataRx r kind ends body crc nak => Sys2Proof.Machine.execRingDataRx r kind ends body crc nak s
  | .ringClockTimeout => Sys2Proof.Machine.execRingClockTimeout s
  | .ringHopOpen r code => Sys2Proof.Machine.execRingHopOpen r code s
  | .ringHopClose r => Sys2Proof.Machine.execRingHopClose r s
  | .selectorUpdate => Sys2Proof.Machine.execSelectorUpdate s
  | .inputQualified j freqPpt => Sys2Proof.Machine.execInputQualified j freqPpt s
  | .wtrExpiry j => Sys2Proof.Machine.execWtrExpiry j s
  | .ptpMessageRx p m bins => Sys2Proof.Machine.execPtpMessageRx p m bins s
  | .ptpMessageTx p k bins => Sys2Proof.Machine.execPtpMessageTx p k bins s
  | .announceTimeout p => Sys2Proof.Machine.execAnnounceTimeout p s
  | .ppsEdge bins longHigh => Sys2Proof.Machine.execPpsEdge bins longHigh s
  | .ppsEdgeTimeout => Sys2Proof.Machine.execPpsEdgeTimeout s
  | .ref10mLoss => Sys2Proof.Machine.execRef10mLoss s
  | .bearingRefresh => Sys2Proof.Machine.execBearingRefresh s
  | .bearingResidualDone => Sys2Proof.Machine.execBearingResidualDone s
  | .refPrioWrite j prio => Sys2Proof.Machine.execRefPrioWrite j prio s
  | .refLockoutWrite j on => Sys2Proof.Machine.execRefLockoutWrite j on s
  | .ocxoWarmChange level => Sys2Proof.Machine.execOcxoWarmChange level s
  | .ocxoReadySet => Sys2Proof.Machine.execOcxoReadySet s
  | .ocxoFail => Sys2Proof.Machine.execOcxoFail s
  | .ocxoRecover => Sys2Proof.Machine.execOcxoRecover s
  | .lockAchieved d => Sys2Proof.Machine.execLockAchieved d s
  | .slewDone d => Sys2Proof.Machine.execSlewDone d s
  | .holdoverUpdate d => Sys2Proof.Machine.execHoldoverUpdate d s
  | .ppsOutPulse => Sys2Proof.Machine.execPpsOutPulse s
  | .vdOutCtrlRealign => Sys2Proof.Machine.execVdOutCtrlRealign s
  | .realignEffective => Sys2Proof.Machine.execRealignEffective s
  | .ptpTsqKeyLookup p seqId msgType => Sys2Proof.Machine.execPtpTsqKeyLookup p seqId msgType s
  | .ptpTsqPop p seqId msgType => Sys2Proof.Machine.execPtpTsqPop p seqId msgType s
  | .refStatus c => Sys2Proof.Machine.execRefStatus c s
  | .refPriority c input prio => Sys2Proof.Machine.execRefPriority c input prio s
  | .refLockout c input lock => Sys2Proof.Machine.execRefLockout c input lock s
  | .outRealign c => Sys2Proof.Machine.execOutRealign c s
  | .ptpTsqLookup c port msgType seqId => Sys2Proof.Machine.execPtpTsqLookup c port msgType seqId s
  | .measStart c v => Sys2Proof.Machine.execMeasStart c v s
  | .measAbort c v => Sys2Proof.Machine.execMeasAbort c v s
  | .measStartInstant c => Sys2Proof.Machine.execMeasStartInstant c s
  | .measEdge j falling bins => Sys2Proof.Machine.execMeasEdge j falling bins s
  | .measTimeout c => Sys2Proof.Machine.execMeasTimeout c s
  | .measGateClose c => Sys2Proof.Machine.execMeasGateClose c s
  | .measFitDone c => Sys2Proof.Machine.execMeasFitDone c s
  | .measCalNow => Sys2Proof.Machine.execMeasCalNow s
  | .measLaneCalDue j moved => Sys2Proof.Machine.execMeasLaneCalDue j moved s
  | .measLaneCalDone j => Sys2Proof.Machine.execMeasLaneCalDone j s
  | .measRun c channel ctrl gate timeout start => Sys2Proof.Machine.execMeasRun c channel ctrl gate timeout start s
  | .trigInEdge j falling bins => Sys2Proof.Machine.execTrigInEdge j falling bins s
  | .trigPop j => Sys2Proof.Machine.execTrigPop j s
  | .trigOutArm o v => Sys2Proof.Machine.execTrigOutArm o v s
  | .trigOutCancel o v => Sys2Proof.Machine.execTrigOutCancel o v s
  | .trigOutEdge o => Sys2Proof.Machine.execTrigOutEdge o s
  | .trigArm c output polRoute at_ width period => Sys2Proof.Machine.execTrigArm c output polRoute at_ width period s
  | .stepDoneWrite => Sys2Proof.Machine.execStepDoneWrite s
  | .hostAbortWrite => Sys2Proof.Machine.execHostAbortWrite s
  | .progEntryWrite n k v => Sys2Proof.Machine.execProgEntryWrite n k v s
  | .fetchBurstDone j ok wps => Sys2Proof.Machine.execFetchBurstDone j ok wps s
  | .prefetchDone j => Sys2Proof.Machine.execPrefetchDone j s
  | .prefetchTimeout j => Sys2Proof.Machine.execPrefetchTimeout j s
  | .markTimed => Sys2Proof.Machine.execMarkTimed s
  | .overrunTest => Sys2Proof.Machine.execOverrunTest s
  | .markRaise => Sys2Proof.Machine.execMarkRaise s
  | .waypointNop => Sys2Proof.Machine.execWaypointNop s
  | .waypointFreq => Sys2Proof.Machine.execWaypointFreq s
  | .waypointPowerHint => Sys2Proof.Machine.execWaypointPowerHint s
  | .waypointOptical => Sys2Proof.Machine.execWaypointOptical s
  | .waypointCapture => Sys2Proof.Machine.execWaypointCapture s
  | .waypointSounding => Sys2Proof.Machine.execWaypointSounding s
  | .waypointEnd => Sys2Proof.Machine.execWaypointEnd s
  | .gateLimitExpiry => Sys2Proof.Machine.execGateLimitExpiry s
  | .arm p m => Sys2Proof.Machine.execArm p m s
  | .armAck p m => Sys2Proof.Machine.execArmAck p m s
  | .commit p m => Sys2Proof.Machine.execCommit p m s
  | .commitAck p m => Sys2Proof.Machine.execCommitAck p m s
  | .confirm p m => Sys2Proof.Machine.execConfirm p m s
  | .abortRx p m => Sys2Proof.Machine.execAbortRx p m s
  | .teardown p m => Sys2Proof.Machine.execTeardown p m s
  | .drained p m => Sys2Proof.Machine.execDrained p m s
  | .retire p m => Sys2Proof.Machine.execRetire p m s
  | .jobFault p m => Sys2Proof.Machine.execJobFault p m s
  | .defer p m => Sys2Proof.Machine.execDefer p m s
  | .deferReq p m => Sys2Proof.Machine.execDeferReq p m s
  | .deferGatherTimer d => Sys2Proof.Machine.execDeferGatherTimer d s
  | .pause p m => Sys2Proof.Machine.execPause p m s
  | .paused p m => Sys2Proof.Machine.execPaused p m s
  | .pauseReportTimeout d => Sys2Proof.Machine.execPauseReportTimeout d s
  | .resume p m => Sys2Proof.Machine.execResume p m s
  | .checkRx p m => Sys2Proof.Machine.execCheckRx p m s
  | .ackAggregateTimer d => Sys2Proof.Machine.execAckAggregateTimer d s
  | .commitDeadline d => Sys2Proof.Machine.execCommitDeadline d s
  | .lastAbortTime j => Sys2Proof.Machine.execLastAbortTime j s
  | .jobStartT0 => Sys2Proof.Machine.execJobStartT0 s
  | .startCheckTimeout d => Sys2Proof.Machine.execStartCheckTimeout d s
  | .teardownInstant => Sys2Proof.Machine.execTeardownInstant s
  | .drainComplete => Sys2Proof.Machine.execDrainComplete s
  | .retireTimeout d => Sys2Proof.Machine.execRetireTimeout d s
  | .jobArm c gid gen prog flags limit seed => Sys2Proof.Machine.execJobArm c gid gen prog flags limit seed s
  | .jobCommit c gid gen t0 => Sys2Proof.Machine.execJobCommit c gid gen t0 s
  | .jobAbort c gid gen => Sys2Proof.Machine.execJobAbort c gid gen s
  | .jobTeardown c gid gen td => Sys2Proof.Machine.execJobTeardown c gid gen td s
  | .jobStatus c gid => Sys2Proof.Machine.execJobStatus c gid s
  | .stepRead c => Sys2Proof.Machine.execStepRead c s
  | .stepLoRead => Sys2Proof.Machine.execStepLoRead s
  | .syncSignal obj ctx core arg => Sys2Proof.Machine.execSyncSignal obj ctx core arg s
  | .syncArrive obj ctx core arg => Sys2Proof.Machine.execSyncArrive obj ctx core arg s
  | .syncReset obj ctx core arg => Sys2Proof.Machine.execSyncReset obj ctx core arg s
  | .syncReadOp obj ctx core arg => Sys2Proof.Machine.execSyncReadOp obj ctx core arg s
  | .syncWait obj ctx core cmp arg => Sys2Proof.Machine.execSyncWait obj ctx core cmp arg s
  | .syncWaitConsume obj ctx core arg => Sys2Proof.Machine.execSyncWaitConsume obj ctx core arg s
  | .syncCancel obj ctx core arg => Sys2Proof.Machine.execSyncCancel obj ctx core arg s
  | .remoteSignal r => Sys2Proof.Machine.execRemoteSignal r s
  | .feedBeat flow count => Sys2Proof.Machine.execFeedBeat flow count s
  | .pendSlotStale => Sys2Proof.Machine.execPendSlotStale s
  | .syncOpWrite obj v => Sys2Proof.Machine.execSyncOpWrite obj v s
  | .syncCfgWrite obj v => Sys2Proof.Machine.execSyncCfgWrite obj v s
  | .syncFlowResetWrite v => Sys2Proof.Machine.execSyncFlowResetWrite v s
  | .syncSaveWrite v => Sys2Proof.Machine.execSyncSaveWrite v s
  | .syncRestoreWrite v => Sys2Proof.Machine.execSyncRestoreWrite v s
  | .syncSaveDone ok => Sys2Proof.Machine.execSyncSaveDone ok s
  | .syncRestoreDone ok img => Sys2Proof.Machine.execSyncRestoreDone ok img s
  | .syncDbgSelWrite obj => Sys2Proof.Machine.execSyncDbgSelWrite obj s
  | .syncRead c obj => Sys2Proof.Machine.execSyncRead c obj s
  | .syncOp c obj op value => Sys2Proof.Machine.execSyncOp c obj op value s
  | .syncDebug c obj first => Sys2Proof.Machine.execSyncDebug c obj first s
  | .syncSave c addr first count flowFirst flowCount => Sys2Proof.Machine.execSyncSave c addr first count flowFirst flowCount s
  | .syncRestore c addr => Sys2Proof.Machine.execSyncRestore c addr s
  | .syncFlowReset c flow => Sys2Proof.Machine.execSyncFlowReset c flow s
  | .sqDoorbell q v => Sys2Proof.Machine.execSqDoorbell q v s
  | .submissionFetched q ok entry => Sys2Proof.Machine.execSubmissionFetched q ok entry s
  | .cqHeadWrite q v => Sys2Proof.Machine.execCqHeadWrite q v s
  | .gqEnableWrite q v => Sys2Proof.Machine.execGqEnableWrite q v s
  | .arriveRx p m => Sys2Proof.Machine.execArriveRx p m s
  | .partialRx p m => Sys2Proof.Machine.execPartialRx p m s
  | .completeRx p m => Sys2Proof.Machine.execCompleteRx p m s
  | .resultRx p m => Sys2Proof.Machine.execResultRx p m s
  | .faultRx p m => Sys2Proof.Machine.execFaultRx p m s
  | .pathRx p m => Sys2Proof.Machine.execPathRx p m s
  | .bind p m => Sys2Proof.Machine.execBind p m s
  | .bindAck p m => Sys2Proof.Machine.execBindAck p m s
  | .creditRx p die control up down mgmt => Sys2Proof.Machine.execCreditRx p die control up down mgmt s
  | .renewRx p m => Sys2Proof.Machine.execRenewRx p m s
  | .unbind p m => Sys2Proof.Machine.execUnbind p m s
  | .quiet p m => Sys2Proof.Machine.execQuiet p m s
  | .opLimitTimeout d => Sys2Proof.Machine.execOpLimitTimeout d s
  | .sealTimeout d => Sys2Proof.Machine.execSealTimeout d s
  | .renewTimeout d => Sys2Proof.Machine.execRenewTimeout d s
  | .creditStall d => Sys2Proof.Machine.execCreditStall d s
  | .groupCreate c gid scope acc maxElems depth limitMs => Sys2Proof.Machine.execGroupCreate c gid scope acc maxElems depth limitMs s
  | .groupAdd c gid gen entries => Sys2Proof.Machine.execGroupAdd c gid gen entries s
  | .groupSeal c gid gen => Sys2Proof.Machine.execGroupSeal c gid gen s
  | .groupRenew c gid gen => Sys2Proof.Machine.execGroupRenew c gid gen s
  | .groupDelete c gid gen => Sys2Proof.Machine.execGroupDelete c gid gen s
  | .groupStatus c gid => Sys2Proof.Machine.execGroupStatus c gid s
  | .gqBind c queue gid gen sq sqLog2 cq cqLog2 irqEn => Sys2Proof.Machine.execGqBind c queue gid gen sq sqLog2 cq cqLog2 irqEn s
  | .gqUnbind c queue => Sys2Proof.Machine.execGqUnbind c queue s
  | .gqStatus c queue => Sys2Proof.Machine.execGqStatus c queue s
  | .groupBasin c gid slot => Sys2Proof.Machine.execGroupBasin c gid slot s
  | .regionDroop r => Sys2Proof.Machine.execRegionDroop r s
  | .regionStretchRecover r => Sys2Proof.Machine.execRegionStretchRecover r s
  | .opSwitchPrepare => Sys2Proof.Machine.execOpSwitchPrepare s
  | .opSwitchCheck pgood lock => Sys2Proof.Machine.execOpSwitchCheck pgood lock s
  | .opSwitch => Sys2Proof.Machine.execOpSwitch s
  | .opSwitchFinish => Sys2Proof.Machine.execOpSwitchFinish s
  | .marginErrorEdge r => Sys2Proof.Machine.execMarginErrorEdge r s
  | .marginLowSet r => Sys2Proof.Machine.execMarginLowSet r s
  | .regionLor r => Sys2Proof.Machine.execRegionLor r s
  | .gridPllLockLoss => Sys2Proof.Machine.execGridPllLockLoss s
  | .regionRejoinTick r => Sys2Proof.Machine.execRegionRejoinTick r s
  | .fenceCore core => Sys2Proof.Machine.execFenceCore core s
  | .fenceRegion core => Sys2Proof.Machine.execFenceRegion core s
  | .csRegionCapture r => Sys2Proof.Machine.execCsRegionCapture r s
  | .csStatus c => Sys2Proof.Machine.execCsStatus c s
  | .csLedger c first regions => Sys2Proof.Machine.execCsLedger c first regions s
  | .csFence c kind number => Sys2Proof.Machine.execCsFence c kind number s
  | .csOpt c => Sys2Proof.Machine.execCsOpt c s
  | .activitySample temps => Sys2Proof.Machine.execActivitySample temps s
  | .boostRearm => Sys2Proof.Machine.execBoostRearm s
  | .pgCapWrite v => Sys2Proof.Machine.execPgCapWrite v s
  | .pgLoCapture total => Sys2Proof.Machine.execPgLoCapture total s
  | .pgRegionCapture r => Sys2Proof.Machine.execPgRegionCapture r s
  | .thermalWarning r temp => Sys2Proof.Machine.execThermalWarning r temp s
  | .twarnCeilStep => Sys2Proof.Machine.execTwarnCeilStep s
  | .twarnClear => Sys2Proof.Machine.execTwarnClear s
  | .thermalTrip r temp => Sys2Proof.Machine.execThermalTrip r temp s
  | .pgStatus c => Sys2Proof.Machine.execPgStatus c s
  | .pgCap c cap1 cap10 => Sys2Proof.Machine.execPgCap c cap1 cap10 s
  | .pgEnergy c => Sys2Proof.Machine.execPgEnergy c s
  | .pgRegions c first regions => Sys2Proof.Machine.execPgRegions c first regions s
  | .pgModel c => Sys2Proof.Machine.execPgModel c s
  | .alignRequest => Sys2Proof.Machine.execAlignRequest s
  | .alignReadyCheck ready => Sys2Proof.Machine.execAlignReadyCheck ready s
  | .digestBeat beat => Sys2Proof.Machine.execDigestBeat beat s
  | .digReqGo v => Sys2Proof.Machine.execDigReqGo v s
  | .digestRecordCapture t => Sys2Proof.Machine.execDigestRecordCapture t s
  | .seedRequest r q step => Sys2Proof.Machine.execSeedRequest r q step s
  | .seedGoWrite v => Sys2Proof.Machine.execSeedGoWrite v s
  | .timePortRequest => Sys2Proof.Machine.execTimePortRequest s
  | .detStatus c => Sys2Proof.Machine.execDetStatus c s
  | .detDigest c tag => Sys2Proof.Machine.execDetDigest c tag s
  | .detDigestCheck c tag kind => Sys2Proof.Machine.execDetDigestCheck c tag kind s
  | .detSeed c rank stream step => Sys2Proof.Machine.execDetSeed c rank stream step s
  | .jobPause c gid gen a => Sys2Proof.Machine.execJobPause c gid gen a s
  | .jobResume c gid gen tr => Sys2Proof.Machine.execJobResume c gid gen tr s
  | .jobSave c addr => Sys2Proof.Machine.execJobSave c addr s
  | .jobLoad c addr image => Sys2Proof.Machine.execJobLoad c addr image s
  | .oeEnableWrite e on => Sys2Proof.Machine.execOeEnableWrite e on s
  | .laserQualified e => Sys2Proof.Machine.execLaserQualified e s
  | .laserWaitTimeout e absent => Sys2Proof.Machine.execLaserWaitTimeout e absent s
  | .opticalSearchDone e mods drops locked => Sys2Proof.Machine.execOpticalSearchDone e mods drops locked s
  | .oeFaultRetry e => Sys2Proof.Machine.execOeFaultRetry e s
  | .oeResearch e => Sys2Proof.Machine.execOeResearch e s
  | .ringLockUpdate e errs dark temp pwr => Sys2Proof.Machine.execRingLockUpdate e errs dark temp pwr s
  | .toneCheck e tones => Sys2Proof.Machine.execToneCheck e tones s
  | .wrongLineRecovered p drop code => Sys2Proof.Machine.execWrongLineRecovered p drop code s
  | .dropRingFreezeExpiry p => Sys2Proof.Machine.execDropRingFreezeExpiry p s
  | .lineBiasAdjust e pwr => Sys2Proof.Machine.execLineBiasAdjust e pwr s
  | .linePowerFall e l => Sys2Proof.Machine.execLinePowerFall e l s
  | .spareWarm e l => Sys2Proof.Machine.execSpareWarm e l s
  | .spareSwap p => Sys2Proof.Machine.execSpareSwap p s
  | .swapConfirm e => Sys2Proof.Machine.execSwapConfirm e s
  | .swapWaitTimeout e l => Sys2Proof.Machine.execSwapWaitTimeout e l s
  | .lsStatusRx e w ready => Sys2Proof.Machine.execLsStatusRx e w ready s
  | .ocsArmWrite o v => Sys2Proof.Machine.execOcsArmWrite o v s
  | .ocsCancelWrite o v => Sys2Proof.Machine.execOcsCancelWrite o v s
  | .ocsPulse o => Sys2Proof.Machine.execOcsPulse o s
  | .ocsSwitchTimeout o => Sys2Proof.Machine.execOcsSwitchTimeout o s
  | .optStatus c e => Sys2Proof.Machine.execOptStatus c e s
  | .optLines c e => Sys2Proof.Machine.execOptLines c e s
  | .optSwap c e l => Sys2Proof.Machine.execOptSwap c e l s
  | .optResearch c port => Sys2Proof.Machine.execOptResearch c port s
  | .ocsArm c o mode up at_ ports width settle => Sys2Proof.Machine.execOcsArm c o mode up at_ ports width settle s
  | .ocsCancel c o => Sys2Proof.Machine.execOcsCancel c o s
  | .soundNow v => Sys2Proof.Machine.execSoundNow v s
  | .autoSounding => Sys2Proof.Machine.execAutoSounding s
  | .soundingDone vmarginMv eyeE eyeW rx => Sys2Proof.Machine.execSoundingDone vmarginMv eyeE eyeW rx s
  | .katStart => Sys2Proof.Machine.execKatStart s
  | .katSignature r sig => Sys2Proof.Machine.execKatSignature r sig s
  | .katTimeout => Sys2Proof.Machine.execKatTimeout s
  | .soundingRecordRx => Sys2Proof.Machine.execSoundingRecordRx s
  | .healthSilence n => Sys2Proof.Machine.execHealthSilence n s
  | .healthRecoverTick n => Sys2Proof.Machine.execHealthRecoverTick n s
  | .probationExpiry n => Sys2Proof.Machine.execProbationExpiry n s
  | .expelRateWindow => Sys2Proof.Machine.execExpelRateWindow s
  | .logRdWrite d v => Sys2Proof.Machine.execLogRdWrite d v s
  | .logSpillDone ok => Sys2Proof.Machine.execLogSpillDone ok s
  | .rateSummary d => Sys2Proof.Machine.execRateSummary d s
  | .logSelWrite v => Sys2Proof.Machine.execLogSelWrite v s
  | .hmSound c mask => Sys2Proof.Machine.execHmSound c mask s
  | .hmStatus c => Sys2Proof.Machine.execHmStatus c s
  | .hmMap c => Sys2Proof.Machine.execHmMap c s
  | .logRead c first count => Sys2Proof.Machine.execLogRead c first count s
  | .logAdvance c seq => Sys2Proof.Machine.execLogAdvance c seq s
  | .hmSetState c st => Sys2Proof.Machine.execHmSetState c st s
  | .hmScore c first count => Sys2Proof.Machine.execHmScore c first count s
  | .hmSpares c delta => Sys2Proof.Machine.execHmSpares c delta s
  | .hmExpel c ua => Sys2Proof.Machine.execHmExpel c ua s
  | .hmHoldRelease c => Sys2Proof.Machine.execHmHoldRelease c s
  | .bootStatus c => Sys2Proof.Machine.execBootStatus c s
  | .profileSelect c profile => Sys2Proof.Machine.execProfileSelect c profile s
  | .cmdFragment path f => Sys2Proof.Machine.execCmdFragment path f s
  | .packetReassembled d image => Sys2Proof.Machine.execPacketReassembled d image s
  | .reassemblyTimeout d => Sys2Proof.Machine.execReassemblyTimeout d s
  | .routeRecordExpiry d => Sys2Proof.Machine.execRouteRecordExpiry d s
  | .sessionIdleTimeout d => Sys2Proof.Machine.execSessionIdleTimeout d s
  | .commandCompletion slot => Sys2Proof.Machine.execCommandCompletion slot s
  | .mboxClaim => Sys2Proof.Machine.execMboxClaim s
  | .mboxSend => Sys2Proof.Machine.execMboxSend s
  | .mboxRelease => Sys2Proof.Machine.execMboxRelease s
  | .cmdReqDoorbell tail slots => Sys2Proof.Machine.execCmdReqDoorbell tail slots s
  | .cmdRspHeadWrite v => Sys2Proof.Machine.execCmdRspHeadWrite v s
  | .nop c data => Sys2Proof.Machine.execNop c data s
  | .info c => Sys2Proof.Machine.execInfo c s
  | .timeRead c fine => Sys2Proof.Machine.execTimeRead c fine s
  | .sessionOpen c loc hdr pay => Sys2Proof.Machine.execSessionOpen c loc hdr pay s
  | .sessionClose c => Sys2Proof.Machine.execSessionClose c s
  | .groupSession c gid gen id key salt => Sys2Proof.Machine.execGroupSession c gid gen id key salt s
  | .dbgRead c off count => Sys2Proof.Machine.execDbgRead c off count s
  | .dbgWrite c off value => Sys2Proof.Machine.execDbgWrite c off value s
  | .idCert c install => Sys2Proof.Machine.execIdCert c install s
  | .signStamp c digest fine => Sys2Proof.Machine.execSignStamp c digest fine s
  | .stampSigned d => Sys2Proof.Machine.execStampSigned d s
  | .lcStatus c => Sys2Proof.Machine.execLcStatus c s
  | .lcTransition c target force token => Sys2Proof.Machine.execLcTransition c target force token s
  | .keyBind c index mask key => Sys2Proof.Machine.execKeyBind c index mask key s
  | .fwBegin c id len ver => Sys2Proof.Machine.execFwBegin c id len ver s
  | .fwEraseDone d => Sys2Proof.Machine.execFwEraseDone d s
  | .fwChunk c id part data => Sys2Proof.Machine.execFwChunk c id part data s
  | .fwChunkProgrammed => Sys2Proof.Machine.execFwChunkProgrammed s
  | .fwStatus c => Sys2Proof.Machine.execFwStatus c s
  | .fwCancel c id => Sys2Proof.Machine.execFwCancel c id s
  | .profileProgram => Sys2Proof.Machine.execProfileProgram s
  | .profileReload => Sys2Proof.Machine.execProfileReload s
  | .profileProgramDone ok => Sys2Proof.Machine.execProfileProgramDone ok s
  | .hostResetRelease => Sys2Proof.Machine.execHostResetRelease s
  | .commitHoldDeadline j => Sys2Proof.Machine.execCommitHoldDeadline j s
  | .lorReferenceValid r => Sys2Proof.Machine.execLorReferenceValid r s
  | .detSlotBoundary r => Sys2Proof.Machine.execDetSlotBoundary r s
  | .regionClockEdge r t codes writes reads => Sys2Proof.Machine.execRegionClockEdge r t codes writes reads s
  | .activityEvent r k => Sys2Proof.Machine.execActivityEvent r k s
  | .springEdge => Sys2Proof.Machine.execSpringEdge s
  | .logCoalesceEnd seq => Sys2Proof.Machine.execLogCoalesceEnd seq s
  | .lightReturn p => Sys2Proof.Machine.execLightReturn p s

end Sys2Proof.Machine
end

