-- ==== Sys2Proof/Safety.lean ====
section
/-! DEFINITION. What a good state is, and what no command may undo. -/

namespace Sys2Proof

/-- A control message of a given kind. -/
def JobMsg.as (m : JobMsg) (kind : Nat) : JobMsg := { m with kind := BitVec.ofNat 8 kind }

/-- A group message of a given kind. -/
def GroupMsg.as (m : GroupMsg) (kind : Nat) : GroupMsg := { m with kind := BitVec.ofNat 8 kind }

end Sys2Proof

namespace Sys2Proof.Machine

open Sys2Proof

/-- The canonical form of a state: the register store and the table of ports list their keys rising, and nothing that holds its default. -/
def State.Wf (s : State) : Prop := smWf 0 s.reg = true ∧ smWf {} s.ports = true

/-- What a state `t` that grows from `b` keeps: the canonical form, the waiting commands, every output already made (outputs are
newest first), and a count of drawn free values that never goes back. -/
structure State.Grows (b t : State) : Prop where
  wf : b.Wf → t.Wf
  pending : t.pending = b.pending
  out : b.out <:+ t.out
  free : b.free ≤ t.free

/-- What a command's effect ends with: the hand-overs it made are carried out, and the messages now due are sent. -/
def State.ended (s : State) : State := (s.runMail 256).settle

/-- A register access reaches its register: the part takes bus accesses, and neither its life-cycle state nor a FAULT closes the
offset (R350, R351, R360, R363, R404). -/
def State.reaches (s : State) (sp off : Nat) : Prop :=
  s.busUp (spDev sp) = true ∧ (s.hostReq (spDev sp)).shut sp off = false ∧ (s.hostReq (spDev sp)).dark sp off = false

/-- A request at one of the die's host ports is accepted: the host is up and the part serves (R350). -/
def State.portTakes (s : State) : Prop := s.lk.hostDown = false ∧ s.serves .lotik = true

/-- No register field outside a list differs between two states. -/
def State.sameFields (s t : State) (fs : List Field) : Prop :=
  ∀ k, k ∉ fs.map Field.key → smGet 0 t.reg k = smGet 0 s.reg k

/-- Two states differ at most in register fields, in outputs made since and in which messages have been sent. -/
def State.sameBeside (s t : State) : Prop :=
  t.lkPart = s.lkPart ∧ t.vdPart = s.vdPart ∧ t.lk = s.lk ∧ t.vd = { s.vd with msixSent := t.vd.msixSent } ∧ t.ports = s.ports ∧
  t.free = s.free ∧ t.pending = s.pending

/-- A tree message arrives whole and of a kind that exists, on a way that is up, at a part that serves and has its UA (R23, R51, R60,
R138, R186, R202). -/
def State.hears (s : State) (path : Path) (m : TreeMsg) : Prop :=
  s.pathUp path = true ∧ s.serves (pathDev path) = true ∧ treeWire m = .good ∧ knownKind (treeKind m) = true ∧
  s.uaValid (pathDev path) = true

/-- A message that has been taken from its way: on a Lotik it has woken both domains (R351), and a Verard's engine has spent its cells
on it (R205). -/
def State.heard (s : State) (path : Path) (m : TreeMsg) : State :=
  match pathDev path with
  | .lotik => (s.absorbed path m).wakeAll
  | .verard => (s.absorbed path m).engine (treeCells m)

/-- A state in which a downward control message is a member's to act on: the part is no head, it holds the group's record and is a
member of the message's group and generation, and this is the first copy (R138, R139). -/
def State.memberHears (s : State) (m : JobMsg) : Prop :=
  s.get R.LK_TOPO_ROLE = 0 ∧ s.holdsGid .lotik m.gid.toNat = true ∧ (s.group .lotik m.gid.toNat).state = 3 ∧
  s.isMember (s.group .lotik m.gid.toNat) = true ∧ s.freshMsg m = true ∧ (s.group .lotik m.gid.toNat).gen = m.gen.toNat

/-- A state in which an upward control message at a Verard is its job root's to record (R137, R139). -/
def State.rootHears (s : State) (m : JobMsg) (r : JobRec) : Prop :=
  (s.group .verard m.gid.toNat).state = 3 ∧ (s.group .verard m.gid.toNat).gen = m.gen.toNat ∧
  (s.group .verard m.gid.toNat).role = 0 ∧ s.job .verard m.gid.toNat = some r ∧ r.state ≠ 0 ∧ r.gen = m.gen.toNat

/-- `k` steps one after another, while each answers a next state. -/
def steps : Nat → State → Host.Outcome State Fault Refusal
  | 0, s => .next s
  | k + 1, s =>
    match step s with
    | .next t => steps k t
    | r => r

/-- A safe outcome: a next state that grows from the state the command found; no fault and no refusal. -/
def Safe (b : State) (r : Host.Outcome State Fault Refusal) : Prop := ∃ t, r = .next t ∧ b.Grows t

/-- The inputs of one element, each a member's bits and its index, combined in the order given (R219, R225). -/
def combineAll (op ty : Nat) : List (Nat × Nat) → Elem
  | [] => {}
  | x :: xs => (xs.map (fun y => toElem op ty y.1 y.2)).foldl (Elem.combine op) (toElem op ty x.1 x.2)

end Sys2Proof.Machine
end

