-- ==== Sys2Proof/Certificates/Slice0/Obligations.lean ====
section
/-! DEFINITION. What is claimed of the block, for the provers: the queue, the invariant every step keeps, what each command does, what it
leaves alone, and the number formats. -/

open Sys2Proof Sys2Proof.Machine

-- The block as a whole.

/-- A step is the command at the front of the queue, with the queue's rest; on an empty queue the block idles (the model's choice,
notes/assumptions/2). -/
def Obligations.StepRunsFrontCommand : Prop :=
  (∀ (c : Instr) (cs : List Instr) (s : State), s.pending = c :: cs → step s = exec c { s with pending := cs }) ∧
  (∀ s : State, s.pending = [] → step s = .next s)

/-- The state after reset is canonical, with nothing waiting, nothing sent and no free value drawn. -/
def Obligations.ResetIsCanonical : Prop :=
  State.reset.Wf ∧ State.reset.pending = [] ∧ State.reset.out = [] ∧ State.reset.free = 0 ∧
  ∀ f : Field, State.reset.get f = f.reset % 2 ^ f.width

/-- Every step keeps the canonical form of the register store and of the table of ports, takes at most the front command off the queue
and puts none on it, takes back no output already made, and never reuses a free value. -/
def Obligations.EveryStepKeepsInvariant : Prop :=
  ∀ s t : State, step s = .next t →
    (s.Wf → t.Wf) ∧ t.pending = s.pending.tail ∧ s.out <:+ t.out ∧ s.free ≤ t.free

/-- The block never stops: from every state, whatever waits, a step answers a next state. -/
def Obligations.EveryStepAnswersNext : Prop := ∀ s : State, ∃ t, step s = .next t

/-- The first command of a queue can never disturb the commands behind it: after k steps, the queue is what it was without its first k. -/
def Obligations.QueueIsServedInOrder : Prop :=
  ∀ (s : State) (k : Nat), ∃ t, steps k s = .next t ∧ t.pending = s.pending.drop k ∧ (s.Wf → t.Wf)

-- Registers.

/-- A field that is written reads as what was written, modulo its width, and no field at another place changes. -/
def Obligations.FieldReadAfterWrite : Prop :=
  (∀ (s : State) (f : Field) (v : Nat), f.reset < 2 ^ f.width → (s.put f v).get f = v % 2 ^ f.width) ∧
  (∀ (s : State) (f g : Field) (v : Nat), g.key ≠ f.key → (s.put f v).get g = s.get g) ∧
  (∀ (s : State) (f : Field) (v : Nat), (s.put f v).sameBeside s ∧ (s.put f v).out = s.out)

/-- Bus accesses. A write goes to its register; a read answers the word and clears what reading clears; an access of a size or at an
offset that is not taken is discarded with one Log entry, and a discarded read returns 0. -/
def Obligations.BusAccessesComplete : Prop :=
  (∀ (bar : Fin 3) (off : BitVec 26) (v : BusData) (s : State), s.busUp (spDev bar) = true →
    exec (.registerWrite bar off v) s = .next ((s.hostReq (spDev bar)).busWrite bar off.toNat v).ended) ∧
  (∀ (bar : Fin 3) (off : BitVec 26) (wide : Bool) (s : State), s.busUp (spDev bar) = true →
    exec (.registerReadClear bar off wide) s =
      .next (((s.hostReq (spDev bar)).regRead bar off.toNat (if wide then 8 else 4)).1.emit
        (.bus (spDev bar) (BitVec.ofNat 64 ((s.hostReq (spDev bar)).regRead bar off.toNat (if wide then 8 else 4)).2))).ended) ∧
  (∀ (bar : Fin 3) (off : BitVec 26) (write : Bool) (size : BitVec 7) (s : State), s.busUp (spDev bar) = true →
    sizeOk bar off.toNat size.toNat = false →
    exec (.badSizeAccess bar off write size) s =
      .next (((s.hostReq (spDev bar)).logAccess (spDev bar) (busOff bar off.toNat) write size.toNat).emitIf (!write) (.bus (spDev bar) 0)).ended) ∧
  (∀ (bar : Fin 3) (off : BitVec 26) (write : Bool) (s : State), s.busUp (spDev bar) = true →
    sizeOk bar off.toNat 4 = true → mapped bar off.toNat = false →
    exec (.unmappedAccess bar off write) s =
      .next (((s.hostReq (spDev bar)).logAccess (spDev bar) (busOff bar off.toNat) write 4).emitIf (!write) (.bus (spDev bar) 0)).ended)

-- Reset and start-up.

/-- Resets, and the start-up of Lotik up to its profile. -/
def Obligations.LotikStartupCompletes : Prop :=
  (∀ (prof : BitVec 2) (profCmd : Bool) (s : State), exec (.lotikReset prof profCmd) s = .next (s.resetLotik prof.toNat profCmd).ended) ∧
  (∀ s : State, s.lk.hostDown = false → exec .hostReset s = .next s.hostFall.ended) ∧
  (∀ s : State, s.lk.hostDown = true → exec .hostResetRelease s = .next s.hostRise.ended) ∧
  (∀ s : State, s.get R.LK_BOOT_STAGE = 0 → exec .springClockArrive s = .next (s.lkStage 1).ended) ∧
  (∀ (tmax : BitVec 8) (s : State), s.get R.LK_BOOT_STAGE = 1 → (s.lk.wasTripped = true → tmax.toInt < s.coolC) →
    exec (.fuseLoadDone true tmax) s = .next s.fuseLoaded.ended) ∧
  (∀ (tmax : BitVec 8) (s : State), s.get R.LK_BOOT_STAGE = 1 → exec (.fuseLoadDone false tmax) s = .next (s.lkFault 2).ended) ∧
  (∀ (tmax : BitVec 8) (s : State), s.get R.LK_BOOT_STAGE = 2 → tmax.toInt < s.coolC →
    exec (.thermalHoldRelease tmax) s =
      .next (({ s with lk := { s.lk with wasTripped := false } }.lkStage 1).emit (.pin "THERM_TRIP" 0)).ended) ∧
  (∀ (err : Bool) (block : List Byte) (s : State), s.get R.LK_BOOT_STAGE = 3 →
    exec (.bootBlockReadDone err block) s =
      .next ((s.setSecRun .lotik { s.secRun .lotik with boot := some (if err then [] else block) }).emit (.pin "BOOT_REQ" 0)).tryProfile.ended) ∧
  (∀ s : State, s.get R.LK_BOOT_STAGE = 3 → (s.secRun .lotik).selected = none → (s.secRun .lotik).stageAt + secSub 1 ≤ s.now .lotik →
    exec .profileSelectTimeout s =
      .next (((s.put R.LK_BOOT_PROF_TIMEOUT 1).setSecRun .lotik
        { s.secRun .lotik with selected := some (s.sec .lotik).prof }).tryProfile).ended)

/-- The later start-up of Lotik, the sleep and waking of its domains, and the start-up of Verard. -/
def Obligations.PowerAndVerardStartupComplete : Prop :=
  (∀ s : State, s.get R.LK_BOOT_STAGE = 4 → s.get R.LK_RING_STAT_ENUM ≠ 0 → exec .ringStageDone s = .next (s.lkStage 5).ended) ∧
  (∀ s : State, s.get R.LK_BOOT_STAGE = 5 → s.getB R.LK_CS_STAT_READY = false →
    exec .gridPllLocked s =
      .next (let t := (s.put R.LK_CS_STAT_READY 1).toBaseOp
        if t.get R.LK_CS_CFG_BASE_OP = t.get R.LK_CS_STAT_CUR_OP then t.lkStage 6 else t).ended) ∧
  (∀ s : State, s.get R.LK_BOOT_STAGE = 5 → s.getB R.LK_CS_STAT_READY = false → (s.secRun .lotik).stageAt + msSub 1 ≤ s.now .lotik →
    exec .gridPllLockTimeout s = .next (s.lkFault 1).ended) ∧
  (∀ s : State, s.getB R.LK_PWR_LOGIC_AWAKE = true → s.lk.sleeping = false → s.logicBusy = false →
    s.lk.logicAt + usSub 10 ≤ s.now .lotik → exec .logicDomainSleep s =
      .next (({ s with lk := { s.lk with sleeping := true } }).emit (.pin "FCLK_REQ" 0)).ended) ∧
  (∀ s : State, s.getB R.LK_PWR_LOGIC_AWAKE = true → s.lk.sleeping = true → exec .logicDomainSleep s = .next s.sleepLogic.ended) ∧
  (∀ s : State, exec .logicDomainWake s = .next s.wakeLogic.ended) ∧
  (∀ s : State, s.getB R.LK_PWR_LOGIC_AWAKE = true → s.lk.sleeping = false →
    exec .fclkLoss s = .next (s.sleepLogic.bumpSat R.LK_PWR_FCLK_LOSS).ended) ∧
  (∀ s : State, s.tcBusy = false → s.lk.tcAt + usSub 2 ≤ s.now .lotik →
    exec .timingCoreSleep s = .next (s.put R.LK_PWR_TC_AWAKE 0).ended) ∧
  (∀ s : State, exec .timingCoreWake s = .next s.wakeTc.ended) ∧
  (∀ (prof : BitVec 2) (s : State), exec (.verardReset prof) s = .next (s.resetVerard prof.toNat).ended) ∧
  (∀ s : State, exec .pcieReset s = .next s.ended) ∧
  (∀ (tj : Byte) (s : State), s.vd.hot = false → 125 ≤ tj.toNat → exec (.verardThermalHold tj) s = .next (s.heat tj).ended) ∧
  (∀ (image area0 area1 : List Byte) (readable : BitVec 2) (s : State), s.vd.hot = false →
    (s.get R.VD_BOOT_STAGE = 0 → exec (.verardStageDone image area0 area1 readable) s =
      .next (((s.lcClose .verard).put R.VD_RAIL_IN_TOL 0x3F).vdStage 1).ended) ∧
    (s.get R.VD_BOOT_STAGE = 1 → exec (.verardStageDone image area0 area1 readable) s = .next (s.vdFirmware image readable).ended) ∧
    (s.get R.VD_BOOT_STAGE = 2 → exec (.verardStageDone image area0 area1 readable) s = .next (s.loadProfile area0 area1).ended) ∧
    (s.get R.VD_BOOT_STAGE = 3 → (∀ e < 9, s.getB (R.VD_OE_CTRL_ENABLE e) = false) →
      exec (.verardStageDone image area0 area1 readable) s = .next s.vdPortsStart.ended) ∧
    (s.get R.VD_BOOT_STAGE = 4 → exec (.verardStageDone image area0 area1 readable) s = .next (s.vdStage 5).ended))

-- Time, links and the ring.

/-- Hall time: a Spring edge adds INC to both accumulators; a latch is asked for and taken; a slew ends; a holdover estimate moves. -/
def Obligations.HallTimeCommandsComplete : Prop :=
  (∀ s : State, exec .springEdge s =
    .next ((((s.setClk .lotik (s.clk .lotik).edge).edgeVerard).deliverWakes.releaseGaps).doIf
      s.lk.ring.again State.retimeLotik)) ∧
  (∀ (d : Dev) (v : Word) (s : State), s.reaches d.sp d.timeBase → exec (.timeLatch d v) s = .next ((s.hostReq d).latch d v).ended) ∧
  (∀ (d : Dev) (bins : BitVec 12) (s : State), exec (.timeCaptureDone d bins) s = .next (s.capture d bins.toNat).ended) ∧
  (∀ (d : Dev) (s : State), (s.clk d).slewing = true → (s.clk d).slew = 0 →
    exec (.slewDone d) s = .next (((s.setClk d { s.clk d with slewing := false }).setOwn d 2).showEst d).ended) ∧
  (∀ (d : Dev) (s : State), (s.clk d).own = 3 →
    let est := estPs (s.clk d).holdE0 (s.clk d).holdF (s.clk d).holdA ((s.clk d).now - (s.clk d).holdAt)
    let u := s.setClk d { s.clk d with est := est }
    let v := (if u.specPs d < est then u.setOwn d 4 else u).showEst d
    exec (.holdoverUpdate d) s = .next (v.doIf (d == .lotik && v.isRingMaster) State.sendStatus).ended) ∧
  (∀ s : State, s.portTakes → (s.hostReq .lotik).getB R.LK_DET_STAT_DETMODE = false →
    exec .timePortRequest s =
      .next (((s.hostReq .lotik).emit (.pin "TIME_RSP" (packInstant ((s.hostReq .lotik).wrap .lotik) ((s.hostReq .lotik).now .lotik)).toNat)).emit
        (.pin "STEP_DERIVED" 0)))

/-- What a T-link port sends and takes in SERVICE, and while it is calibrated and enumerated. -/
def Obligations.LinkFramesComplete : Prop :=
  (∀ (p : PortId) (bins : BitVec 12) (s : State), exec (.tickSend p bins) s = .next (s.tickSend p bins.toNat).ended) ∧
  (∀ (p : PortId) (b : Block) (bins : BitVec 12) (s : State), s.inService p = true → b.type = btTick →
    s.strayUa p (tickOf b.content).senderUa.toNat = true →
    exec (.tickBlockRx p b bins) s = .next ((s.wrongLine p true (s.strayTone p (tickOf b.content).senderUa.toNat)).tickRx p b.type b.content bins.toNat).ended) ∧
  (∀ (p : PortId) (b : Block) (bins : BitVec 12) (s : State),
    (s.inService p = false ∨ b.type ≠ btTick ∨ s.strayUa p (tickOf b.content).senderUa.toNat = false) →
    exec (.tickBlockRx p b bins) s = .next (s.tickRx p b.type b.content bins.toNat).ended) ∧
  (∀ (p : PortId) (f : TimeFrame) (crcOk : Bool) (s : State), exec (.timeFrameRx p f crcOk) s = .next (s.timeRx p f crcOk).ended) ∧
  (∀ (p : PortId) (group : BitVec 64) (tag : List Byte) (crcOk : Bool) (s : State),
    exec (.authFrameRx p group ⟨tag, crcOk⟩) s = .next (s.authRx p group tag crcOk).ended) ∧
  (∀ (p : PortId) (f : EnumFrame) (s : State), exec (.enumFrameRx p ⟨f, true⟩) s = .next (s.enumRx p f).ended) ∧
  (∀ (p : PortId) (ua : Ua) (role : BitVec 2) (side : BitVec 1) (s : State), s.get (R.PORT_STAT_STATE p) = 5 → s.isChild p = false →
    exec (.enumAckRx p ua role ⟨side, true⟩) s = .next (s.enumAcked p ua role side).ended) ∧
  (∀ (p : PortId) (m : BitVec 24) (s : State),
    exec (.calFrameRx p ⟨.fold m, true⟩) s = .next ((s.foldHeard p m.toNat).enumSend p).ended) ∧
  (∀ (p : PortId) (tx rx fo : BitVec 16) (s : State),
    exec (.calFrameRx p ⟨.constants tx rx fo, true⟩) s =
      .next (s.setPort p { s.port p with peer := (s.port p).peer.map (fun q => { q with txDly := tx, rxDly := rx, foldDly := fo }) }).ended) ∧
  (∀ (p : PortId) (body : List Byte) (s : State),
    exec (.calFrameRx p ⟨.keyAgreement (0x4B :: body), true⟩) s = .next (s.keyPayload p body).ended) ∧
  (∀ (p : PortId) (f : EnumFrame) (ua : Ua) (role : BitVec 2) (side : BitVec 1) (b : CalBody) (s : State),
    exec (.enumFrameRx p ⟨f, false⟩) s = .next (s.frameBad p).ended ∧ exec (.enumAckRx p ua role ⟨side, false⟩) s = .next (s.frameBad p).ended ∧
    exec (.calFrameRx p ⟨b, false⟩) s = .next (s.frameBad p).ended) ∧
  (∀ (n : Fin 64) (kind : Byte) (body : List Byte) (s : State), s.pathUp (.port (.down n)) = true →
    s.vdRole ≠ 0 → exec (.healthFrameRx (.port (.down n)) kind ⟨body, true⟩) s = .next (s.takeHealth n.val kind body).ended) ∧
  (∀ (r : RingPort) (kind : Byte) (body : List Byte) (s : State), s.pathUp (.ring r) = true →
    s.wakeAll.get R.LK_TOPO_ROLE ≠ 0 → s.wakeAll.inService .tlink = true → exec (.healthFrameRx (.ring r) kind ⟨body, true⟩) s =
      .next (s.wakeAll.transmit .lotik PortId.tlink.idx 4 (cellsFor (4 + body.length)) (.health (.port .tlink) kind body)).ended) ∧
  (∀ (path : Path) (kind : Byte) (body : List Byte) (s : State), s.pathUp path = true →
    exec (.healthFrameRx path kind ⟨body, false⟩) s = .next (s.frameDrop path).ended) ∧
  (∀ (p : PortId) (low high : BitVec 24) (s : State),
    exec (.foldCalDone p low high) s = .next ((s.foldDone p (min low.toNat high.toNat)).enumSend p).ended)

/-- The state machine of a T-link port (R60): what starts, trains, faults and retries it, and the faults of the pins. -/
def Obligations.PortStateCommandsComplete : Prop :=
  (∀ (p : PortId) (on : Bool) (s : State), s.reaches p.sp p.base → exec (.portEnableWrite p on) s = .next ((s.hostReq p.dev).portEnable p on).ended) ∧
  (∀ (p : PortId) (s : State), s.reaches p.sp p.base → exec (.portRetry p) s = .next ((s.hostReq p.dev).portRetry p).ended) ∧
  (∀ (p : PortId) (s : State), s.reaches p.sp p.base → exec (.portCalNow p) s = .next ((s.hostReq p.dev).portCalNow p).ended) ∧
  (∀ (p : PortId) (s : State), s.get (R.PORT_STAT_STATE p) = 1 → s.portLit p = true → (s.port p).since + msSub 1 ≤ s.now p.dev →
    exec (.detectLightValid p) s = .next ((s.portGo p 2).emit (.train p (s.ownTrain p))).ended) ∧
  (∀ (p : PortId) (peer : TrainPeer) (s : State), exec (.trainDone p peer) s = .next (s.trainRx p peer).ended) ∧
  (∀ (p : PortId) (reversed : Bool) (s : State), s.get (R.PORT_STAT_STATE p) = 2 → (s.port p).since + msSub 20 ≤ s.now p.dev →
    exec (.trainTimeout p reversed) s = .next (s.portFault p (if reversed then 7 else 8)).ended) ∧
  (∀ (p : PortId) (s : State), s.get (R.PORT_STAT_STATE p) = 6 → (s.port p).lastTick + nsSub 4096 ≤ s.now p.dev →
    exec (.tickTimeout p) s = .next (s.portGo p 1).ended) ∧
  (∀ (p : PortId) (s : State), s.get (R.PORT_STAT_STATE p) = 8 → (s.port p).since + msSub 100 ≤ s.now p.dev →
    exec (.portFaultRetry p) s = .next (s.portGo p 1).ended) ∧
  (∀ (p : PortId) (s : State), s.get (R.PORT_STAT_STATE p) = 6 → (s.port p).calAt + secSub 60 ≤ s.now p.dev →
    exec (.routineRecal p) s = .next (s.foldStart p).ended) ∧
  (∀ (p : PortId) (code : BitVec 4) (s : State), code ∈ [2, 3, 4, 6, 7, 8, 9, 10] → s.get (R.PORT_STAT_STATE p) ≠ 0 →
    s.get (R.PORT_STAT_STATE p) ≠ 7 → s.get (R.PORT_STAT_FAULT p) ≠ code.toNat →
    exec (.pinFaultDetect (.port p) code) s = .next (s.portFault p code.toNat).ended) ∧
  (∀ (p : PortId) (code : BitVec 4) (s : State), 2 ≤ code.toNat → code.toNat ≤ 10 → s.get (R.PORT_STAT_STATE p) = 7 →
    s.get (R.PORT_STAT_FAULT p) ≠ code.toNat →
    exec (.pinFaultDetect (.port p) code) s =
      .next ((s.put (R.PORT_STAT_FAULT p) code.toNat).logChange p.dev 1 (R.PORT_STAT_STATE p)).ended) ∧
  (∀ (i : Fin 2) (code : BitVec 4) (s : State), 1 ≤ code.toNat → code.toNat ≤ 10 →
    exec (.pinFaultDetect (.trigIn i) code) s =
      .next ((s.put (R.LK_TRIGi_STAT_FAULT i) code.toNat).logChange .lotik 3 (R.LK_TRIGi_STAT_FAULT i)).ended) ∧
  (∀ (p : PortId) (s : State), s.get (R.PORT_STAT_FAULT p) ≠ 0 →
    exec (.pinFaultClear (.port p)) s = .next ((s.put (R.PORT_STAT_FAULT p) 0).logChange p.dev 1 (R.PORT_STAT_STATE p)).ended) ∧
  (∀ (i : Fin 2) (s : State), exec (.pinFaultClear (.trigIn i)) s = .next (s.put (R.LK_TRIGi_STAT_FAULT i) 0).ended)

/-- The link keys (R58, R400): an agreement is taken or fails, a re-key begins, and a key too old stops the port. -/
def Obligations.LinkKeyCommandsComplete : Prop :=
  (∀ (p : PortId) (s : State), (s.port p).keyTx ≠ [] → (s.get (R.PORT_STAT_STATE p) = 3 ∨ s.get (R.PORT_STAT_STATE p) = 6) →
    exec (.linkKeyAgreed p) s = .next (match s.keyVerdict p with | none => s.keyTake p | some why => s.keyFailed p why).ended) ∧
  (∀ (p : PortId) (reason : Fin 3) (s : State), s.get (R.PORT_STAT_STATE p) = 3 →
    exec (.linkKeyFail p reason) s = .next (s.keyFailed p reason).ended) ∧
  (∀ (p : PortId) (s : State), s.get (R.PORT_STAT_STATE p) = 6 → s.isChild p = false → (s.port p).keyTx = [] → (s.port p).rekeyFail = none →
    (s.port p).keyAt + secSub 86400 ≤ s.now p.dev → exec (.linkRekey p) s = .next (s.keySend p).ended) ∧
  (∀ (p : PortId) (s : State), s.get (R.PORT_STAT_STATE p) = 6 → (s.port p).keyAt + secSub 172800 < s.now p.dev →
    exec (.linkKeyExpiry p) s = .next ((s.logKind p.dev 0x0D04 3 [BitVec.ofNat 8 p.idx, 3]).portHold p 3).ended)

/-- The package ring: time, echoes and enumeration (R63 to R68). -/
def Obligations.RingTimeAndEnumComplete : Prop :=
  (∀ s : State, s.lk.ring.sources = true → (s.clk .lotik).ticks.toNat % 100 = 0 →
    exec .ringTimeSend s = .next (s.ringSend 0x3F
      (.time (BitVec.ofNat 40 (s.clk .lotik).ticks.toNat) (BitVec.ofNat 32 ((s.clk .lotik).phase.toNat / 2 ^ 16)) 0
        (BitVec.ofNat 3 (s.shownState .lotik)) (s.wrap .lotik)))) ∧
  (∀ (r : RingPort) (src : BitVec 5) (ticks : BitVec 40) (phase : BitVec 32) (path : BitVec 20) (st : BitVec 3) (wrap : Bool) (s : State),
    exec (.ringTimeRx r src ticks phase path st wrap true) s = .next (s.ringTimeRx r src ticks phase path st wrap).ended) ∧
  (∀ (r : RingPort) (s : State), s.ringUp r = true → (s.hop r).echoAt = none → (s.hop r).missed < 3 →
    exec (.ringEchoSend r) s =
      .next ((s.setHop r { s.hop r with echoSeq := (s.hop r).echoSeq + 1, echoAt := some (s.now .lotik) }).emit
        (ringOut r { ccw := r == .w, src := s.lk.ring.die, dst := 0x3F, body := .echo (s.hop r).echoSeq false })).ended) ∧
  (∀ (r : RingPort) (seq : BitVec 16) (trip : BitVec 24) (s : State), (s.ringGood r).ringUp r = true →
    exec (.ringEchoRx r seq false trip true) s =
      .next ((s.ringGood r).emit
        (ringOut r { ccw := r == .w, src := (s.ringGood r).lk.ring.die, dst := 0x3F, body := .echo seq true })).ended) ∧
  (∀ s : State, s.get R.LK_TOPO_ROLE = 1 → s.lk.ring.started = false → s.getB R.LK_TOPO_ROLE_CONFLICT = false →
    s.ringUp .e = true → s.ringUp .w = true → exec .ringEnumStart s = .next s.enumBegin) ∧
  (∀ (r : RingPort) (token : BitVec 6) (down : Bool) (s : State), (s.ringGood r).get R.LK_TOPO_ROLE = 1 →
    (s.ringGood r).getB R.LK_TOPO_ROLE_CONFLICT = false →
    exec (.ringEnumSymbol r token down false true) s = .next ((s.ringGood r).enumBack token down).ended) ∧
  (∀ (r : RingPort) (token : BitVec 6) (down : Bool) (s : State), (s.ringGood r).get R.LK_TOPO_ROLE ≠ 1 →
    (s.ringGood r).getB R.LK_TOPO_ROLE_CONFLICT = false →
    exec (.ringEnumSymbol r token down false true) s = .next ((s.ringGood r).enumTake r token down).ended) ∧
  (∀ s : State, s.get R.LK_TOPO_ROLE ≠ 1 → s.lk.ring.dieValid = false → s.lk.ring.startAt + msSub 10 ≤ s.now .lotik →
    exec .ringEnumTimeout s = .next ((s.put R.LK_RING_STAT_ENUM 3).logChange .lotik 1 R.LK_RING_STAT_ENUM 4)) ∧
  (∀ s : State, s.get R.LK_TOPO_ROLE = 2 → s.lk.ring.lastTime = none → s.lk.ring.sources = false →
    s.lk.ring.startAt + msSub 1 ≤ s.now .lotik →
    exec .ringClockTimeout s = .next (s.setRing { s.lk.ring with sources := true }))

/-- The package ring: STATUS, handover, WAKE, data and its hops (R64 to R69, R73). -/
def Obligations.RingStatusAndHopsComplete : Prop :=
  (∀ (r : RingPort) (src : BitVec 5) (errPs : BitVec 24) (utcOffset : BitVec 16) (utcValid : Bool) (pod port : BitVec 6)
    (portValid chain awake : Bool) (master : BitVec 5) (masterState : BitVec 3) (holdEst : BitVec 24) (s : State),
    exec (.ringStatusRx r src errPs utcOffset utcValid pod port portValid chain awake master masterState holdEst true) s =
      .next ((s.ringGood r).takeStatus r src errPs utcOffset utcValid pod port portValid chain awake master masterState holdEst).ended) ∧
  (∀ (r : RingPort) (src : BitVec 5) (ticks : BitVec 40) (master : BitVec 5) (s : State),
    exec (.handoverRx r src ticks master true) s =
      .next (let t := (s.ringGood r).ringPass r src 0x3F (.handover ticks master)
        t.setRing { t.lk.ring with
          handover := some (extendTicks (t.clk .lotik).ticks.toNat ticks.toNat, master),
          altDie := if master = 0 then t.lk.ring.altDie else master }).ended) ∧
  (∀ (t : Nat) (s : State), s.lk.ring.handover = some (t, s.lk.ring.die) → s.lk.ring.dieValid = true → t ≤ (s.clk .lotik).ticks.toNat →
    exec .handoverEffective s = .next s.masterHere.ended) ∧
  (∀ (t : Nat) (m : BitVec 5) (s : State), s.lk.ring.handover = some (t, m) → m ≠ s.lk.ring.die → t ≤ (s.clk .lotik).ticks.toNat →
    exec .handoverEffective s = .next (s.masterThere m).ended) ∧
  (∀ (t : Nat) (s : State), s.lk.ring.lastTime = some t → t + usSub 3 ≤ s.now .lotik → (s.get R.LK_TOPO_ROLE = 1 ∧ s.lk.ring.master ≠ 0 ∨ s.get R.LK_TOPO_ROLE = 2 ∧ s.lk.ring.master = 0) →
    s.isRingMaster = false → s.lk.ring.handover = none → exec .ringMasterSilent s =
      .next ((s.ringMode false).setRing { (s.ringMode false).lk.ring with
        handover := some ((((s.ringMode false).clk .lotik).ticks.toNat / 100 + 1) * 100, (s.ringMode false).lk.ring.die) }).ended) ∧
  (∀ (r : RingPort) (src : BitVec 5) (reason : BitVec 4) (s : State),
    exec (.wake r src 0x3F reason true) s =
      .next (let t := (s.ringGood r).ringPass r src 0x3F (.wake reason)
        if t.getB R.LK_PWR_LOGIC_AWAKE then t.wakeTc.sendStatus else t.wakeAll).ended) ∧
  (∀ (r : RingPort) (x : RingSymbol) (part : BitVec 96) (kind : BitVec 5) (ends : BitVec 11) (body : BitVec 96) (crc : BitVec 16) (s : State),
    symbolOk (ringWord kind ends body crc) = true → symbolOf (ringWord kind ends body crc) = some x → x.body = .data part →
    exec (.ringDataRx r kind ends body crc none) s = .next ((s.ringGood r).ringDataIn r x).ended) ∧
  (∀ (r : RingPort) (kind : BitVec 5) (ends : BitVec 11) (body : BitVec 96) (crc : BitVec 16) (s : State),
    symbolOk (ringWord kind ends body crc) = true → symbolOf (ringWord kind ends body crc) = none →
    exec (.ringDataRx r kind ends body crc none) s = .next ((s.ringGood r).bumpSat R.LK_RING_CNT_CRC_ERR).ended) ∧
  (∀ (r : RingPort) (kind : BitVec 5) (ends : BitVec 11) (body : BitVec 96) (crc : BitVec 16) (s : State), symbolOk (ringWord kind ends body crc) = false →
    exec (.ringDataRx r kind ends body crc none) s =
      .next ((s.ringBad r).emit (.pin "RING_NAK" (match r with | .e => 0 | .w => 1))).ended) ∧
  (∀ (r : RingPort) (kind : BitVec 5) (ends : BitVec 11) (body : BitVec 96) (crc : BitVec 16) (k : BitVec 6) (s : State),
    exec (.ringDataRx r kind ends body crc (some k)) s = .next (s.ringReplay r k.toNat).ended) ∧
  (∀ (r : RingPort) (code : BitVec 4) (s : State), exec (.ringHopOpen r code) s = .next (s.hopOpen r code.toNat).ended) ∧
  (∀ (r : RingPort) (s : State), s.ringUp r = false → s.get (ringStateField r) ≠ 1 → exec (.ringHopClose r) s =
    .next (((s.put (ringStateField r) 1).put (ringFaultField r) 0).logChange .lotik 1 (ringStateField r)).ended) ∧
  (∀ (r : RingPort) (s : State), s.ringUp r = false → s.get (ringStateField r) = 1 → exec (.ringHopClose r) s =
    .next (let t := s.put (ringStateField r) 2
      let t := t.setHop r { t.hop r with missed := 0, badCrc := 0, echoAt := none }
      let t := t.setRing { t.lk.ring with firstUp := some (t.lk.ring.firstUp.getD (t.now .lotik)) }
      ((t.showChain.sendStatus).logChange .lotik 1 (ringStateField r)).hopChanged).ended)

-- References, outputs and PTP.

/-- Reference inputs: what qualifies one, what rejects one, and the selection among them (R80 to R85). -/
def Obligations.ReferenceInputsComplete : Prop :=
  (∀ s : State, exec .selectorUpdate s = .next s.selectorUpdate.settle) ∧
  (∀ (i : Fin 4) (freqPpt : BitVec 32) (s : State), s.usesRefs = true →
    exec (.inputQualified i freqPpt) s =
      .next (s.setRefs { s.vd.refs with events := s.vd.refs.events ++ [.measured i freqPpt] }).settle) ∧
  (∀ (i : Fin 4) (freqPpt : BitVec 32) (t : Nat) (s : State), s.get (R.VD_REFi_ST_QUAL i) = 1 →
    (s.refIn i).goodSince = some t → t + secSub (s.get R.VD_REF_CFG_QUAL_S) ≤ s.now .verard →
    freqPpt.toInt.natAbs ≤ s.vd.prof.freqAccept → s.get (R.VD_REFi_ST_FAULT i) = 0 →
    s.takeRefEvent (.measured i freqPpt) =
      (let u := (s.put (R.VD_REFi_FREQ_FREQ_PPT i) freqPpt.toNat).setQual i 2 0
       if i.val = 2 then u else u.putSSat (R.VD_REFi_BEARING_BEARING_PS i) (u.bearing i))) ∧
  (∀ (i : Fin 4) (s : State), s.getB (R.VD_REFi_ST_WTR_RUN i) = true → s.wtrPassed i = true →
    exec (.wtrExpiry i) s = .next ((s.put (R.VD_REFi_ST_WTR_RUN i) 0).put (R.VD_REFi_TIMERS_WTR_REMAIN_S i) 0).settle) ∧
  (∀ (bins : BitVec 12) (high : Bool) (s : State), s.usesRefs = true → exec (.ppsEdge bins high) s = .next (s.pps bins high).settle) ∧
  (∀ (t : Nat) (s : State), (s.refIn 3).lastEdge = some t → t + msSub 2500 ≤ s.now .verard →
    exec .ppsEdgeTimeout s = .next ((s.setRefIn 3 { s.refIn 3 with lastEdge := none, obs := [] }).rejectInput 3 1).settle) ∧
  (∀ s : State, s.usesRefs = true → exec .ref10mLoss s = .next (s.rejectInput 2 1).assistEnd.settle) ∧
  (∀ s : State, s.usesRefs = true → exec .bearingRefresh s =
    .next ([0, 1, 3].foldl (fun s i =>
      if s.get (R.VD_REFi_ST_QUAL i) = 2 ∨ s.get (R.VD_REFi_ST_QUAL i) = 6 then
        (s.putSSat (R.VD_REFi_BEARING_BEARING_PS i) (s.bearing i)).bearingCheck i
      else s) s).settle) ∧
  (∀ s : State, s.vd.refs.working = true → (s.getS R.VD_BEARING_RES_RES_PS).natAbs ≤ s.vd.prof.bearingSlew →
    exec .bearingResidualDone s =
      .next (let u := s.putS R.VD_BEARING_RES_RES_PS 0
        let v := u.setRefs { u.vd.refs with working := false }
        v.doIf (0 != (s.clk .verard).bear && (s.clk .verard).own != 5) (fun v => v.setClk .verard { s.clk .verard with bear := 0 }.steered)).settle) ∧
  (∀ (i : Fin 4) (prio : BitVec 4) (s : State), s.reaches 1 (0x10100 + 0x20 * i.val) →
    exec (.refPrioWrite i prio) s = .next (s.setPrio i prio.toNat).settle) ∧
  (∀ (i : Fin 4) (on : Bool) (s : State), s.reaches 1 (0x10100 + 0x20 * i.val) →
    exec (.refLockoutWrite i on) s = .next (s.setLockout i on).settle)

/-- The oscillator, the lock and the PPS output (R91 to R99): what warms, locks, fails and realigns. -/
def Obligations.OscillatorAndOutputComplete : Prop :=
  (∀ s : State, s.vdRuns = true → exec (.ocxoWarmChange true) s =
    .next (let u := s.putB R.VD_REF_STAT_OCXO_WARM true
      u.setRefs { u.vd.refs with warmSince := some (u.now .verard) }).settle) ∧
  (∀ s : State, s.vdRuns = true → exec (.ocxoWarmChange false) s =
    .next (let u := s.putB R.VD_REF_STAT_OCXO_WARM false
      (u.setRefs { u.vd.refs with warmSince := none }).put R.VD_REF_STAT_OCXO_READY 0).settle) ∧
  (∀ (t : Nat) (s : State), s.vdRuns = true → s.vd.refs.warmSince = some t → s.getB R.VD_REF_STAT_OCXO_WARM = true →
    t + secSub s.vd.prof.warmSettle ≤ s.now .verard →
    exec .ocxoReadySet s = .next (s.put R.VD_REF_STAT_OCXO_READY 1).masterState.settle) ∧
  (∀ s : State, s.vdRuns = true → exec .ocxoFail s =
    .next (let t := (s.put R.VD_REF_STAT_OCXO_FAIL 1).put R.VD_REF_STAT_TOD_VALID 0
      let t := ((t.setClk .verard { t.clk .verard with hallMaster := false }).setOwn .verard 5).put R.VD_REF_STAT_REF_STATE 5
      (t.logChange .verard 2 R.VD_REF_STAT_OCXO_FAIL 4).retimeVerard).settle) ∧
  (∀ s : State, s.vdRuns = true → s.getB R.VD_REF_STAT_OCXO_FAIL = true →
    exec .ocxoRecover s =
      .next (let t := s.put R.VD_REF_STAT_OCXO_FAIL 0
        let t := (t.setClk .verard { t.clk .verard with joined := false }).setOwn .verard 0
        ((t.put R.VD_REF_STAT_REF_STATE t.refState).logChange .verard 2 R.VD_REF_STAT_OCXO_FAIL).retimeVerard).settle) ∧
  (∀ (d : Dev) (s : State), exec (.lockAchieved d) s = .next (s.lockAchieved d).settle) ∧
  (∀ s : State, s.vd.refs.pulsing = true →
    exec .ppsOutPulse s =
      .next (let u := (s.setRefs { s.vd.refs with pulses := s.vd.refs.pulses + 1 }).emitIf (s.getB R.VD_OUT_CTRL_PPS_EN) (.pin "PPS_OUT" 1)
        u.emitIf (u.getB R.VD_OUT_CTRL_F10M_EN) (.pin "F10M_OUT" 1)).settle) ∧
  (∀ s : State, s.reaches 1 0x10030 → exec .vdOutCtrlRealign s = .next s.realign.settle) ∧
  (∀ (t : Nat) (s : State), s.vd.refs.realignAt = some t → t ≤ s.now .verard →
    exec .realignEffective s =
      .next (let u := (s.setRefs { s.vd.refs with realignAt := s.vd.refs.realignThen, realignThen := none, pulsing := true }).setPpsOfs 0
        let u := u.putB R.VD_OUT_STAT_REALIGN_PENDING s.vd.refs.realignThen.isSome
        u.complete .verard 0x1B 0 0 (packedBytes (u.wrap .verard) t) true).settle)

/-- PTP messages and their time-stamp queues (R100 to R102), and the requests about references (R105). -/
def Obligations.PtpAndReferenceRequestsComplete : Prop :=
  (∀ (p : Fin 2) (m : PtpMsg) (bins : BitVec 12) (s : State), exec (.ptpMessageRx p m bins) s = .next (s.ptpRx p m bins.toNat).settle) ∧
  (∀ (p : Fin 2) (k : PtpTx) (bins : BitVec 12) (s : State), exec (.ptpMessageTx p k bins) s = .next (s.ptpTx p k bins.toNat).settle) ∧
  (∀ (p : Fin 2) (s : State), s.vdRole ≠ 1 → s.getB (R.PTP_CTRL_ENABLE p) = true → s.ptpLate p = true →
    exec (.announceTimeout p) s = .next (s.ptpSilent p (s.refIn p)).settle) ∧
  (∀ (p : Fin 2) (seqId : BitVec 16) (kind : BitVec 4) (s : State), s.reaches 1 (0x20010 + 0x100 * p.val) →
    exec (.ptpTsqKeyLookup p seqId kind) s = .next (s.tsqKey p (seqId.toNat + kind.toNat * 2 ^ 16 + 2 ^ 20)).settle) ∧
  (∀ (p : Fin 2) (seqId : BitVec 16) (kind : BitVec 4) (s : State), s.reaches 1 (0x20010 + 0x100 * p.val) →
    exec (.ptpTsqPop p seqId kind) s = .next (s.tsqKey p (seqId.toNat + kind.toNat * 2 ^ 16 + 2 ^ 21)).settle) ∧
  (∀ (c : CmdCtx) (s : State), c.dev = .verard → s.vdRole ≠ 1 → ∃ bs,
    exec (.refStatus c) s = .next ((s.answer c 0x18 0 bs).logCommand c 0x18 0).settle) ∧
  (∀ (c : CmdCtx) (input prio : Byte) (s : State), c.dev = .verard → s.vdRole ≠ 1 → input ≠ 2 → input.toNat ≤ 3 → prio.toNat ≤ 15 →
    exec (.refPriority c input prio) s =
      .next (((s.setPrio input.toNat prio.toNat).answer c 0x19 0).logCommand c 0x19 0).settle) ∧
  (∀ (c : CmdCtx) (input : Byte) (s : State), c.dev = .verard → s.vdRole ≠ 1 → input.toNat ≤ 3 →
    exec (.refLockout c input 1) s =
      .next (((s.setLockout input.toNat true).answer c 0x1A 0).logCommand c 0x1A 0).settle) ∧
  (∀ (c : CmdCtx) (port kind : Byte) (seqId : BitVec 16) (e : TsqEntry) (s : State), c.dev = .verard → s.vdRole ≠ 1 → port.toNat ≤ 1 →
    s.tsqFind port.toNat seqId (kind.setWidth 4) = some e →
    exec (.ptpTsqLookup c port kind seqId) s =
      .next (((s.tsqRemove port.toNat e).answer c 0x1C 0
        ([1, BitVec.ofNat 8 (b2n e.oneStep)] ++ packedBytes false e.stamp)).logCommand c 0x1C 0).settle) ∧
  (∀ (c : CmdCtx) (s : State), c.dev = .verard → s.vdRole ≠ 1 →
    exec (.outRealign c) s = .next ((s.accept c 0x1B 0).realign).settle)

-- Measurement and triggers.

/-- The measuring channels (R107 to R113) and MEAS_RUN (R121). -/
def Obligations.MeasurementComplete : Prop :=
  (∀ (c : Fin 4) (v : Word) (s : State), s.reaches 1 (0x30100 + 0x80 * c.val) →
    exec (.measStart c v) s = .next (s.measCtrl c (v.toNat ||| 1)).settle) ∧
  (∀ (c : Fin 4) (v : Word) (s : State), s.reaches 1 (0x30100 + 0x80 * c.val) →
    exec (.measAbort c v) s = .next (s.measCtrl c (v.toNat ||| 2)).settle) ∧
  (∀ (c : Fin 4) (s : State), s.getB (R.MEAS_STAT_ARMED c) = true → (s.meas c).beginAt ≤ s.now .verard →
    exec (.measStartInstant c) s = .next (s.measBegin c).settle) ∧
  (∀ (i : Fin 4) (falling : Bool) (bins : BitVec 12) (s : State),
    exec (.measEdge i falling bins) s = .next (s.measTake i falling (fineStamp (s.clk .verard) (s.now .verard) bins.toNat)).settle) ∧
  (∀ (c : Fin 4) (s : State), s.getB (R.MEAS_STAT_BUSY c) = true → s.getB (R.MEAS_STAT_ARMED c) = false → (s.meas c).freq = false →
    (s.meas c).t0.getD (s.meas c).beginAt + usSub (s.meas c).timeoutUs ≤ s.now .verard →
    exec (.measTimeout c) s = .next (s.measLate c).settle) ∧
  (∀ (c : Fin 4) (s : State), s.getB (R.MEAS_STAT_BUSY c) = true → s.getB (R.MEAS_STAT_ARMED c) = false → (s.meas c).freq = true →
    (s.meas c).fitting = false → (s.meas c).beginAt + usSub (s.meas c).gateUs ≤ s.now .verard →
    3 ≤ (s.meas c).stamps.length → (s.meas c).disc = (((s.markMeas.put (R.MEAS_N_N c) (s.meas c).stamps.length).put
      (R.MEAS_DECIM_K c) (s.meas c).k).clk .verard).disc →
    exec (.measGateClose c) s =
      .next (((s.markMeas.put (R.MEAS_N_N c) (s.meas c).stamps.length).put (R.MEAS_DECIM_K c) (s.meas c).k).setMeas c
        { s.meas c with fitting := true }).settle) ∧
  (∀ (c : Fin 4) (s : State), (s.meas c).fitting = true → exec (.measFitDone c) s = .next (s.fitDone c).settle) ∧
  (∀ s : State, s.reaches 1 0x30000 → exec .measCalNow s = .next s.measCalNow) ∧
  (∀ (i : Fin 4) (s : State), (s.measIn i).toCal = 0 →
    exec (.measLaneCalDue i true) s = .next (s.setMeasIn i { s.measIn i with toCal := 2 })) ∧
  (∀ (i : Fin 4) (s : State), (s.measIn i).toCal ≠ 0 → exec (.measLaneCalDone i) s = .next (s.laneDone i (s.measIn i))) ∧
  (∀ (c : CmdCtx) (channel : Byte) (ctrl gate timeout : Word) (start : Packed) (s : State), c.dev = .verard → channel.toNat ≤ 3 →
    s.getB (R.MEAS_STAT_BUSY channel.toNat) = false →
    exec (.measRun c channel ctrl gate timeout start) s = .next (s.measRun c channel.toNat ctrl gate timeout start).settle)

/-- Trigger inputs and outputs (R116 to R119) and TRIG_ARM (R121). -/
def Obligations.TriggersComplete : Prop :=
  (∀ (i : Fin 2) (falling : Bool) (bins : BitVec 12) (s : State), s.getB (R.LK_TRIGi_CTRL_ENABLE i) = true →
    (s.get (R.LK_TRIGi_CTRL_EDGE i) = 2 ∨ s.get (R.LK_TRIGi_CTRL_EDGE i) = b2n falling) →
    let fell := fineStamp (s.clk .lotik) (s.now .lotik) bins.toNat
    let t := if s.getB (R.LK_TRIGi_CTRL_FINE i) then fell else s.now .lotik
    ((∀ u, (s.trigIn i).last = some u → u + nsSub 100 ≤ fell) →
      exec (.trigInEdge i falling bins) s = .next (s.trigStamp i { s.trigIn i with last := some fell } t)) ∧
    (∀ u, (s.trigIn i).last = some u → fell < u + nsSub 100 →
      exec (.trigInEdge i falling bins) s = .next (s.bumpSat (R.LK_TRIGi_STAT_MISSED i)))) ∧
  (∀ (i : Fin 2) (s : State), s.reaches 0 (0x1208 + 0x20 * i.val) → exec (.trigPop i) s = .next ((s.hostReq .lotik).trigPop i)) ∧
  (∀ (o : Fin 2) (v : Word) (s : State), s.reaches 0 (0x1240 + 0x20 * o.val) →
    exec (.trigOutArm o v) s = .next ((s.hostReq .lotik).trigCtrl o (v.toNat ||| 1))) ∧
  (∀ (o : Fin 2) (v : Word) (s : State), s.reaches 0 (0x1240 + 0x20 * o.val) →
    exec (.trigOutCancel o v) s = .next ((s.hostReq .lotik).trigCtrl o (v.toNat ||| 2))) ∧
  (∀ (o : Fin 2) (s : State), s.getB (R.LK_TRIGo_STAT_ARMED o) = true → (s.train o).next ≤ s.now .lotik →
    (s.train o).next < (s.train o).pulseEnd →
    exec (.trigOutEdge o) s = .next ((s.bumpSat (R.LK_TRIGo_STAT_SKIPPED o)).trainNext o)) ∧
  (∀ (o : Fin 2) (s : State), s.getB (R.LK_TRIGo_STAT_ARMED o) = true → (s.train o).next ≤ s.now .lotik →
    (s.train o).pulseEnd ≤ (s.train o).next →
    exec (.trigOutEdge o) s =
      .next (let u := (s.setTrain o { s.train o with pulseEnd := (s.train o).next + (s.train o).width * tickSub }).wakeTc
        let u := u.emitIf ((s.get (R.LK_TRIGo_CTRL_ROUTE o)).testBit 0) (.pin (if o = 0 then "TRIG_OUT0" else "TRIG_OUT1") (s.trigPulse o))
        let u := u.emitIf ((s.get (R.LK_TRIGo_CTRL_ROUTE o)).testBit 1) (.pin "CTL_START" 1)
        (u.bump (R.LK_TRIGo_STAT_PULSES o)).trainNext o)) ∧
  (∀ (c : CmdCtx) (output polRoute : Byte) (at_ : Packed) (width period : BitVec 16) (s : State), c.dev = .lotik → output.toNat ≤ 1 →
    polRoute.toNat < 8 → exec (.trigArm c output polRoute at_ width period) s =
      .next (s.trigArm c output polRoute at_ width period).settle)

-- Jobs.

/-- Host writes of the job registers, prefetch and Marks (R124 to R134, R140, R153). -/
def Obligations.StepsAndMarksComplete : Prop :=
  (∀ s : State, s.reaches 0 0x2000 → exec .stepDoneWrite s = .next (s.hostReq .lotik).stepDone.ended) ∧
  (∀ s : State, s.reaches 0 0x2000 → exec .hostAbortWrite s = .next ((s.hostReq .lotik).faultActive 14).ended) ∧
  (∀ (n : Fin 8) (k : Fin 4) (v : Word) (s : State), s.reaches 0 (0x2100 + 0x10 * n.val + 4 * k.val) →
    exec (.progEntryWrite n k v) s = .next ((s.hostReq .lotik).progWrite n.val k.val v.toNat)) ∧
  (∀ (i : Fin 2) (ok : Bool) (wps : List (BitVec 128)) (s : State),
    exec (.fetchBurstDone i ok wps) s = .next (s.burstDone i.val ok wps).ended) ∧
  (∀ (i : Fin 2) (s : State), s.slotState i.val = 1 → (s.slot i.val).prefetching = true → (s.slot i.val).loading = false →
    (s.slot i.val).arming = true → s.prefetched i.val = true →
    exec (.prefetchDone i) s =
      .next ((s.setSlot i.val { s.slot i.val with prefetching := false, loading := false, arming := false }).jobAnswer i.val jkArmAck 0
        (s.slot i.val).armCseq).ended) ∧
  (∀ (i : Fin 2) (s : State), s.slotState i.val = 1 → (s.slot i.val).prefetching = true → (s.slot i.val).loading = true →
    (s.slot i.val).arming = false → s.prefetched i.val = true →
    exec (.prefetchDone i) s =
      .next (((s.setSlot i.val { s.slot i.val with prefetching := false, loading := false, arming := false }).put R.LK_DET_STAT_LOADED 1).complete
        .lotik 0x67 i.val 0 [] true).ended) ∧
  (∀ (i : Fin 2) (s : State), s.slotState i.val = 1 → (s.slot i.val).arming = true →
    (s.slot i.val).armedAt + msSub 1 ≤ s.now .lotik →
    exec (.prefetchTimeout i) s = .next (s.prefetchFail i.val).ended) ∧
  (∀ (i m : Nat) (w : BitVec 128) (s : State), s.dueMark = some (i, w, m) → markKind w = 0 →
    exec .markTimed s = .next (s.raiseMark i m).ended) ∧
  (∀ (i m : Nat) (w : BitVec 128) (s : State), s.dueMark = some (i, w, m) → exec .markRaise s = .next (s.raiseMark i m).ended) ∧
  (∀ (i t : Nat) (w : BitVec 128) (s : State), s.activeSlot = some i → s.nextMarkWp i = some w → s.nextSched i = some t →
    s.slotState i = 4 → (s.run i).ended = false → (s.slot i).overrunTested = false →
    t ≤ s.now .lotik + s.markGuard w * tickSub → s.schedLawful i w t = true → (s.slot i).stepDone = false → wpStrict w = true →
    exec .overrunTest s =
      .next (((s.setSlot i { s.slot i with overrunTested := true }).bumpSat R.LK_MARK_CNT_OVERRUN).put R.LK_STEP_IRQ_OVERRUN 1
        |>.slotFault i 5).ended) ∧
  (∀ (i : Nat) (s : State), s.activeSlot = some i → s.slotState i = 4 → (s.slot i).gateSent = true → (s.slot i).gateDone = none →
    (s.slot i).gateAt + msSub (s.slot i).gateLimit ≤ s.now .lotik →
    exec .gateLimitExpiry s = .next ((s.wakeAll.put R.LK_STEP_STAT_GATE_PENDING 0).slotFault i 4).ended)

/-- Each waypoint acts at its instant, and its turn passes to the next (R127, R128). -/
def Obligations.WaypointsComplete : Prop :=
  (∀ (i t : Nat) (w : BitVec 128) (s : State), s.dueWp 0 = some (i, w, t) → exec .waypointNop s = .next (s.wpDone i t).ended) ∧
  (∀ (i t : Nat) (w : BitVec 128) (s : State), s.dueWp 2 = some (i, w, t) → s.headPlanned i = true →
    exec .waypointFreq s =
      .next ((s.setRun i { s.run i with
        lastFreq := bits (wpArg w) 0 4
        freqAt := if bits (wpArg w) 0 4 = (s.run i).lastFreq then (s.run i).freqAt else some t }).wpDone i t).ended) ∧
  (∀ (i t : Nat) (w : BitVec 128) (s : State), s.dueWp 3 = some (i, w, t) →
    exec .waypointPowerHint s = .next ((s.powerHint i (bits (wpArg w) 0 8) (bits (wpArg w) 8 16)).wpDone i t).ended) ∧
  (∀ (i t : Nat) (w : BitVec 128) (s : State), s.dueWp 4 = some (i, w, t) → s.headPlanned i = true →
    exec .waypointOptical s =
      .next ((s.setRun i { s.run i with
        winEnd := max (s.run i).winEnd (t + bits (wpArg w) 0 32 * tickSub)
        winAny := max (s.run i).winAny (t + bits (wpArg w) 0 32 * tickSub) }).wpDone i t).ended) ∧
  (∀ (j i t : Nat) (w : BitVec 128) (s : State), s.activeSlot = some j → (s.plan j).dueWp 5 = some (i, w, t) →
    exec .waypointCapture s = .next ((s.plan j).captureWp i w t).ended) ∧
  (∀ (i t : Nat) (w : BitVec 128) (s : State), s.dueWp 6 = some (i, w, t) →
    exec .waypointSounding s = .next ((s.soundStart (bits (wpArg w) 0 4) false).wpDone i t).ended) ∧
  (∀ (i t : Nat) (w : BitVec 128) (s : State), s.dueWp 8 = some (i, w, t) →
    exec .waypointEnd s =
      .next ((((s.setRun i { s.run i with ended := true }).put R.LK_STEP_STAT_ENDED 1).put R.LK_STEP_IRQ_ENDED 1).wpDone i t).ended)

/-- A member's answer to each control message that travels down (R139 to R151, R293 to R296), and what its heads do with one. -/
def Obligations.MemberMessagesComplete : Prop :=
  ∀ (q : Path) (m : JobMsg) (s : State), pathDev q = .lotik → m.kind.toNat < 0x11 →
    (let u := s.heard q (.job (m.as jkArm))
     s.hears q (.job (m.as jkArm)) → u.memberHears (m.as jkArm) →
       exec (.arm q m) s = .next ((u.sawMsg (m.as jkArm)).memberArm (m.as jkArm)).ended) ∧
    (let u := s.heard q (.job (m.as jkCommit))
     s.hears q (.job (m.as jkCommit)) → u.memberHears (m.as jkCommit) →
       exec (.commit q m) s = .next ((u.sawMsg (m.as jkCommit)).memberCommit (m.as jkCommit)).ended) ∧
    (let u := s.heard q (.job (m.as jkConfirm))
     s.hears q (.job (m.as jkConfirm)) → u.memberHears (m.as jkConfirm) →
       exec (.confirm q m) s = .next ((u.sawMsg (m.as jkConfirm)).memberConfirm (m.as jkConfirm)).ended) ∧
    (let u := s.heard q (.job (m.as jkAbort))
     s.hears q (.job (m.as jkAbort)) → u.memberHears (m.as jkAbort) →
       exec (.abortRx q m) s = .next ((u.sawMsg (m.as jkAbort)).memberAbort (m.as jkAbort)).ended) ∧
    (let u := s.heard q (.job (m.as jkTeardown))
     s.hears q (.job (m.as jkTeardown)) → u.memberHears (m.as jkTeardown) →
       exec (.teardown q m) s = .next ((u.sawMsg (m.as jkTeardown)).memberTeardown (m.as jkTeardown)).ended) ∧
    (let u := s.heard q (.job (m.as jkDefer))
     s.hears q (.job (m.as jkDefer)) → u.memberHears (m.as jkDefer) →
       exec (.defer q m) s = .next ((u.sawMsg (m.as jkDefer)).memberDefer (m.as jkDefer)).ended) ∧
    (let u := s.heard q (.job (m.as jkPause))
     s.hears q (.job (m.as jkPause)) → u.memberHears (m.as jkPause) →
       exec (.pause q m) s = .next ((u.sawMsg (m.as jkPause)).memberPause (m.as jkPause)).ended) ∧
    (let u := s.heard q (.job (m.as jkResume))
     s.hears q (.job (m.as jkResume)) → u.memberHears (m.as jkResume) →
       exec (.resume q m) s = .next ((u.sawMsg (m.as jkResume)).memberResume (m.as jkResume)).ended) ∧
    (let u := s.heard q (.job (m.as jkRetire))
     s.hears q (.job (m.as jkRetire)) → u.get R.LK_TOPO_ROLE = 0 →
       exec (.retire q m) s = .next (u.dieRetire (m.as jkRetire)).ended) ∧
    (∀ k ∈ [(jkArm, Instr.arm), (jkCommit, .commit), (jkConfirm, .confirm), (jkAbort, .abortRx), (jkTeardown, .teardown), (jkDefer, .defer),
        (jkPause, .pause), (jkResume, .resume), (jkRetire, .retire)],
      let u := s.heard q (.job (m.as k.1))
      let g := u.group .lotik m.gid.toNat
      s.hears q (.job (m.as k.1)) → u.get R.LK_TOPO_ROLE ≠ 0 → g.gen = m.gen.toNat →
        exec (k.2 q m) s = .next (match q with
          | .port _ => ((u.ringDown (g.mask u.pkgUa) (.job (m.as k.1))).dieJob (m.as k.1)).ended
          | _ => (u.dieJob (m.as k.1)).ended))

/-- What the job root of a Verard records of each message that travels up, and that a package's head gathers it (R139, R144, R147, R151,
R272, R294). -/
def Obligations.RootMessagesComplete : Prop :=
  (∀ (p : Path) (m : JobMsg) (r : JobRec) (s : State), pathDev p = .verard → m.kind.toNat < 0x11 →
    (let u := s.heard p (.job (m.as jkArmAck))
     s.hears p (.job (m.as jkArmAck)) → u.rootHears (m.as jkArmAck) r →
       exec (.armAck p m) s = .next (u.rootAck .verard r (m.as jkArmAck)).ended) ∧
    (let u := s.heard p (.job (m.as jkCommitAck))
     s.hears p (.job (m.as jkCommitAck)) → u.rootHears (m.as jkCommitAck) r →
       exec (.commitAck p m) s = .next (u.rootAck .verard r (m.as jkCommitAck)).ended) ∧
    (let u := s.heard p (.job (m.as jkCheck))
     s.hears p (.job (m.as jkCheck)) → u.rootHears (m.as jkCheck) r →
       exec (.checkRx p m) s = .next (u.rootCheck .verard r (m.as jkCheck)).ended) ∧
    (let u := s.heard p (.job (m.as jkDrained))
     s.hears p (.job (m.as jkDrained)) → u.rootHears (m.as jkDrained) r →
       exec (.drained p m) s = .next (u.rootDrained .verard r (m.as jkDrained)).ended) ∧
    (let u := s.heard p (.job (m.as jkFault))
     s.hears p (.job (m.as jkFault)) → u.rootHears (m.as jkFault) r →
       exec (.jobFault p m) s = .next (u.rootFault .verard r (m.as jkFault)).ended) ∧
    (let u := s.heard p (.job (m.as jkDeferReq))
     s.hears p (.job (m.as jkDeferReq)) → u.rootHears (m.as jkDeferReq) r →
       exec (.deferReq p m) s = .next (u.rootDeferReq .verard r (m.as jkDeferReq)).ended) ∧
    (let u := s.heard p (.job (m.as jkPaused))
     s.hears p (.job (m.as jkPaused)) → u.rootHears (m.as jkPaused) r →
       exec (.paused p m) s = .next (u.rootPaused .verard r (m.as jkPaused)).ended)) ∧
  (∀ (p : Path) (m : JobMsg) (s : State), pathDev p = .lotik → m.kind.toNat < 0x11 →
    ∀ k ∈ [(jkArmAck, Instr.armAck), (jkCommitAck, .commitAck), (jkCheck, .checkRx), (jkDrained, .drained), (jkFault, .jobFault),
        (jkDeferReq, .deferReq), (jkPaused, .paused)],
      s.hears p (.job (m.as k.1)) →
        exec (k.2 p m) s = .next ((s.heard p (.job (m.as k.1))).headJob (m.as k.1)).ended) ∧
  (∀ (p : Path) (m : JobMsg) (s : State), s.pathUp p = true → s.serves (pathDev p) = true → m.wire ≠ .good →
    exec (.arm p m) s = .next (s.frameDrop p).ended ∧ exec (.armAck p m) s = .next (s.frameDrop p).ended)

/-- The timers of jobs, at members and roots (R139, R142, R144, R149 to R151, R272, R294). -/
def Obligations.JobTimersComplete : Prop :=
  (∀ (d : Dev) (s : State), exec (.ackAggregateTimer d) s =
    .next (((s.tree d).aggs.filter (fun a => !a.timed && decide (a.firstAt + usSub 5 ≤ s.now d))).foldl
      (fun s a => s.aggSend d { a with timed := true } false) s).ended) ∧
  (∀ (d : Dev) (s : State), exec (.commitDeadline d) s =
    .next (((s.tree d).jobs.filter (fun r => (r.round == 2 || r.round == 3) && decide (r.t0 ≤ s.now d + usSub 20))).foldl
      (fun s r => if s.isTop d (s.group d r.gid) then s.roundFail d r 0x51 0 else s) s).ended) ∧
  (∀ (d : Dev) (s : State), exec (.startCheckTimeout d) s =
    .next (((s.tree d).jobs.filter (fun r => r.state == 4 && r.checkOpen && decide (r.t0 + usSub 100 ≤ s.now d))).foldl
      (fun s r => if s.isTop d (s.group d r.gid) then s.tear d r 0 3 else s) s).ended) ∧
  (∀ (d : Dev) (s : State), exec (.retireTimeout d) s =
    .next (((s.tree d).jobs.filter (fun r => r.state == 6 && decide (r.td + msSub 1 ≤ s.now d))).foldl
      (fun s r => if s.isTop d (s.group d r.gid) then s.retire d r else s) s).ended) ∧
  (∀ (d : Dev) (s : State), exec (.deferGatherTimer d) s = .next (s.deferTimer d).ended) ∧
  (∀ (d : Dev) (s : State), exec (.pauseReportTimeout d) s = .next (s.pauseTimeout d).ended) ∧
  (∀ (i : Fin 2) (s : State), s.slotState i.val = 2 → (s.slot i.val).t0 ≤ s.now .lotik + usSub 10 →
    exec (.lastAbortTime i) s = .next (s.slotIdle i.val 2).ended) ∧
  (∀ (i : Nat) (s : State), s.activeSlot = some i → s.slotState i = 3 → (s.slot i).t0 ≤ s.now .lotik →
    exec .jobStartT0 s = .next (((s.startJob i).rootStart .lotik).rootStart .verard).ended) ∧
  (∀ (i t : Nat) (s : State), s.activeSlot = some i → s.slotState i = 5 → (s.run i).confirm = true → (s.run i).resumeAt = some t →
    t ≤ s.now .lotik → exec .jobStartT0 s = .next (((s.resumeJob i t).rootStart .lotik).rootStart .verard).ended) ∧
  (∀ (i td : Nat) (s : State), s.activeSlot = some i → (s.run i).td = some td → s.slotState i = 4 → td ≤ s.now .lotik →
    exec .teardownInstant s = .next (s.startDrain i (s.run i).drainCause).ended) ∧
  (∀ (i : Nat) (s : State), s.activeSlot = some i → s.slotState i = 6 → exec .drainComplete s = .next (s.drained i).ended)

/-- The job commands at the job's root, with operands that R154 and R301 admit. -/
def Obligations.JobCommandsComplete : Prop :=
  (∀ (c : CmdCtx) (gid : BitVec 24) (gen : BitVec 16) (prog flags : Byte) (limit : Word) (seed : BitVec 128) (g : GroupRec) (s : State),
    s.rootOf c.dev gid.toNat = some g → prog.toNat ≤ 7 → flags.toNat < 4 → limit.toNat ≠ 0 → gen.toNat < 16384 → gen.toNat = g.gen →
    s.jobLive c.dev gid.toNat = false → ((s.tree c.dev).jobs.filter (fun r => r.state != 0)).length < jobCap c.dev →
    exec (.jobArm c gid gen prog flags limit seed) s =
      .next (let r : JobRec := { gid := gid.toNat, gen := gen.toNat, cseq := (((s.job c.dev gid.toNat).map (·.cseq)).getD 0 + 1) % 65536 }
        (((s.accept c 0x20 gid.toNat).setJob c.dev r).jobDown c.dev
          { r.msg jkArm with prog := prog, flags := flags, gateLimit := limit, seed := seed }).ended)) ∧
  (∀ (c : CmdCtx) (gid : BitVec 24) (gen : BitVec 16) (t0 : Packed) (g : GroupRec) (r : JobRec) (s : State),
    s.rootJob c.dev gid.toNat gen.toNat = some (g, r) → r.state = 1 → r.round = 0 →
    s.startStatus c.dev g (unpackInstant (s.wrap c.dev) (s.now c.dev) t0) = 0 →
    exec (.jobCommit c gid gen t0) s =
      .next (let t := unpackInstant (s.wrap c.dev) (s.now c.dev) t0
        let r' : JobRec := { r.next with state := 2, round := 2, acked := [], t0 := t }
        (((s.accept c 0x21 gid.toNat).setJob c.dev r').jobDown c.dev
          { r'.msg jkCommit with instant := packInstant (s.wrap c.dev) t }).ended)) ∧
  (∀ (c : CmdCtx) (gid : BitVec 24) (gen : BitVec 16) (g : GroupRec) (r : JobRec) (s : State),
    s.rootJob c.dev gid.toNat gen.toNat = some (g, r) → r.state < 3 → r.round = 0 →
    exec (.jobAbort c gid gen) s =
      .next ((((s.jobDown c.dev (r.msg jkAbort)).setJob c.dev { r with state := 0 }).answer c 0x22 0).logCommand c 0x22 0).ended) ∧
  (∀ (c : CmdCtx) (gid : BitVec 24) (gen : BitVec 16) (g : GroupRec) (r : JobRec) (s : State),
    s.rootJob c.dev gid.toNat gen.toNat = some (g, r) → r.state < 3 → r.round ≠ 0 →
    exec (.jobAbort c gid gen) s = .next (((s.roundFail c.dev r 0x51 0).answer c 0x22 0).logCommand c 0x22 0).ended) ∧
  (∀ (c : CmdCtx) (gid : BitVec 24) (gen : BitVec 16) (g g' : GroupRec) (r : JobRec) (s : State),
    s.rootOf c.dev gid.toNat = some g → s.rootJob c.dev gid.toNat gen.toNat = some (g', r) → 3 ≤ r.state → r.state ≠ 6 →
    (s.cmd c.dev).works.any (fun w => w.opcode == 0x23 && w.tag == gid.toNat) = false →
    exec (.jobTeardown c gid gen 0) s = .next ((s.accept c 0x23 gid.toNat).tear c.dev r 0 1).ended) ∧
  (∀ (c : CmdCtx) (gid : BitVec 24) (gen : BitVec 16) (at_ : Packed) (g g' : GroupRec) (r : JobRec) (s : State),
    s.rootOf c.dev gid.toNat = some g → s.rootJob c.dev gid.toNat gen.toNat = some (g', r) → 3 ≤ r.state → r.state ≠ 6 → at_ ≠ 0 →
    (s.cmd c.dev).works.any (fun w => w.opcode == 0x23 && w.tag == gid.toNat) = false →
    let td := unpackInstant (s.wrap c.dev) (s.now c.dev) at_
    onTick td = true → s.now c.dev + usSub 20 ≤ td →
    exec (.jobTeardown c gid gen at_) s = .next ((s.accept c 0x23 gid.toNat).tear c.dev r td 1).ended) ∧
  (∀ (c : CmdCtx) (gid : BitVec 24) (g : GroupRec) (s : State), s.rootOf c.dev gid.toNat = some g → ∃ bs,
    exec (.jobStatus c gid) s = .next ((s.answer c 0x24 0 bs).logCommand c 0x24 0).ended) ∧
  (∀ (c : CmdCtx) (s : State), c.dev = .lotik →
    exec (.stepRead c) s =
      .next ((s.answer c 0x25 0 (s.captureStep.regBytes 0 ((List.range 13).map (fun k => 0x2004 + 4 * k)))).logCommand c 0x25 0).ended) ∧
  (∀ s : State, s.reaches 0 0x2008 → exec .stepLoRead s =
    .next ((s.hostReq .lotik).captureStep.emit (.bus .lotik (BitVec.ofNat 64 ((s.hostReq .lotik).captureStep.get R.LK_STEP_LO_STEP_LO))))) ∧
  (∀ (c : CmdCtx) (gid : BitVec 24) (gen : BitVec 16) (at_ : Packed) (g : GroupRec) (r : JobRec) (s : State),
    s.rootJob c.dev gid.toNat gen.toNat = some (g, r) → r.state = 4 →
    onTick (unpackInstant (s.wrap c.dev) (s.now c.dev) at_) = true →
    s.now c.dev + usSub 50 ≤ unpackInstant (s.wrap c.dev) (s.now c.dev) at_ →
    let a := r.defers.foldl (fun a x => max a x.1) (unpackInstant (s.wrap c.dev) (s.now c.dev) at_)
    let r' : JobRec := { r.next with pauseAt := some a, gathers := [] }
    exec (.jobPause c gid gen at_) s =
      .next (((s.accept c 0x64 gid.toNat).setJob c.dev r').jobDown c.dev
        { r'.msg jkPause with instant := packInstant (s.wrap c.dev) a }).ended) ∧
  (∀ (c : CmdCtx) (gid : BitVec 24) (gen : BitVec 16) (tr : Packed) (g : GroupRec) (r : JobRec) (s : State),
    s.rootJob c.dev gid.toNat gen.toNat = some (g, r) → r.state = 5 → r.round = 0 →
    s.startStatus c.dev g (unpackInstant (s.wrap c.dev) (s.now c.dev) tr) = 0 →
    let t := unpackInstant (s.wrap c.dev) (s.now c.dev) tr
    let r' : JobRec := { r.next with round := 3, acked := [], t0 := t }
    exec (.jobResume c gid gen tr) s =
      .next (((s.accept c 0x65 gid.toNat).setJob c.dev r').jobDown c.dev
        { r'.msg jkResume with instant := packInstant (s.wrap c.dev) t }).ended)

-- Synchronisation objects.

/-- The host's sync port (R157 to R166): where the host is up and the part serves, the operation is applied and answered, or waits while
a save holds its object. -/
def Obligations.SyncPortComplete : Prop :=
  ∀ (obj : Fin 16384) (ctx : BitVec 16) (core : Byte) (cmp : BitVec 2) (arg : Word) (s : State), s.portTakes →
    let v := (s.hostReq .lotik).deliverWakes
    let end_ (o : SyncOp) : State := if v.objHeld obj.val then (v.holdReq (.op o)).ended else ((v.applyOp o).1.syncReply o (v.applyOp o).2).ended
    exec (.syncSignal obj ctx core arg) s =
      .next (end_ { src := 1, op := 0, obj := obj, arg := arg.toNat, ctx := ctx, core := core }) ∧
    exec (.syncArrive obj ctx core arg) s =
      .next (end_ { src := 1, op := 1, obj := obj, arg := arg.toNat, ctx := ctx, core := core }) ∧
    exec (.syncReset obj ctx core arg) s =
      .next (end_ { src := 1, op := 2, obj := obj, arg := arg.toNat, ctx := ctx, core := core }) ∧
    exec (.syncReadOp obj ctx core arg) s =
      .next (end_ { src := 1, op := 3, obj := obj, arg := arg.toNat, ctx := ctx, core := core }) ∧
    exec (.syncWait obj ctx core cmp arg) s =
      .next (end_ { src := 1, op := 4, obj := obj, arg := arg.toNat, cmp := cmp.toNat, ctx := ctx, core := core }) ∧
    exec (.syncWaitConsume obj ctx core arg) s =
      .next (end_ { src := 1, op := 5, obj := obj, arg := arg.toNat, ctx := ctx, core := core }) ∧
    exec (.syncCancel obj ctx core arg) s =
      .next (end_ { src := 1, op := 6, obj := obj, arg := arg.toNat, ctx := ctx, core := core })

/-- Remote signals, the feed, and the registers of the sync unit (R174 to R184). -/
def Obligations.SyncUnitComplete : Prop :=
  (∀ (r : BitVec 128) (s : State), s.portTakes →
    let v := (s.hostReq .lotik).deliverWakes
    exec (.remoteSignal r) s = .next (if v.flowHeld (recFlow r) then v.holdReq (.record r) else v.takeRecord r).ended) ∧
  (∀ (flow : BitVec 12) (count : Byte) (s : State), s.portTakes →
    let v := (s.hostReq .lotik).deliverWakes
    exec (.feedBeat flow count) s =
      .next (if v.flowHeld flow.toNat then v.holdReq (.feed flow.toNat count.toNat) else v.takeFeed flow.toNat count.toNat).ended) ∧
  (∀ (p : PendSlot) (s : State), s.lk.sync.pend = [p] → p.stale = false →
    p.since + usSub (s.get R.LK_SYNC_LIMITS_PEND_LIMIT_US) < s.now .lotik →
    exec .pendSlotStale s =
      .next (((s.setSync { s.lk.sync with pend := [{ p with stale := true }] }).put R.LK_SYNC_IRQ_PEND_STALE 1).logRec
        0x0508 3 p.sig).ended) ∧
  (∀ (obj : Fin 16384) (v : Word) (s : State), s.reaches 0 (0x4000C + 16 * obj.val) →
    exec (.syncOpWrite obj v) s = .next ((s.hostReq .lotik).syncOpWrite obj v.toNat).ended) ∧
  (∀ (obj : Fin 16384) (v : Word) (s : State), s.reaches 0 (0x40004 + 16 * obj.val) →
    exec (.syncCfgWrite obj v) s = .next ((s.hostReq .lotik).syncCfgWrite obj v.toNat).ended) ∧
  (∀ (v : Word) (s : State), s.reaches 0 0x238 →
    exec (.syncFlowResetWrite v) s = .next ((s.hostReq .lotik).flowWrite (v.toNat ||| 4096)).ended) ∧
  (∀ (v : Word) (s : State), s.reaches 0 0x22C → exec (.syncSaveWrite v) s = .next ((s.hostReq .lotik).saveCtrl (v.toNat ||| 1)).ended) ∧
  (∀ (v : Word) (s : State), s.reaches 0 0x22C → exec (.syncRestoreWrite v) s = .next ((s.hostReq .lotik).saveCtrl ((v.toNat ||| 3) - 1)).ended) ∧
  (∀ s : State, s.lk.sync.saving = some false →
    exec (.syncSaveDone true) s = .next (s.saveEnd false 1 (some s.lk.sync.saveLen)).applyHeld.ended ∧
    exec (.syncSaveDone false) s = .next (s.saveEnd false 5 none).applyHeld.ended) ∧
  (∀ (img : List Byte) (s : State), s.lk.sync.saving = some true → s.imageResult img = 0 →
    exec (.syncRestoreDone true img) s = .next (((s.restoreBody img).loadImage img).saveEnd true 1 (some img.length)).applyHeld.ended) ∧
  (∀ (img : List Byte) (s : State), s.lk.sync.saving = some true → s.imageResult img ≠ 0 →
    exec (.syncRestoreDone true img) s = .next ((s.restoreBody img).saveEnd true (s.imageResult img) (some img.length)).applyHeld.ended) ∧
  (∀ (obj : BitVec 14) (s : State), s.reaches 0 0xF0000 →
    exec (.syncDbgSelWrite obj) s = .next ((s.hostReq .lotik).dbgCapture obj.toNat).ended)

/-- The sync commands at a Lotik (R185). -/
def Obligations.SyncCommandsComplete : Prop :=
  (∀ (c : CmdCtx) (obj : BitVec 16) (s : State), c.dev = .lotik → obj.toNat < 16384 →
    exec (.syncRead c obj) s =
      .next (s.answer c 0x30 0 (leBytes 4 (s.obj obj.toNat).v ++ leBytes 4 (s.obj obj.toNat).cfgWord ++ leBytes 4 (s.objStat obj.toNat))).ended) ∧
  (∀ (c : CmdCtx) (obj : BitVec 16) (op : Byte) (value : Word) (s : State), c.dev = .lotik → obj.toNat < 16384 → op.toNat ≤ 2 →
    exec (.syncOp c obj op value) s =
      .next (s.syncOp { src := 4, op := op.toNat, obj := obj.toNat, arg := value.toNat, ua := c.src.toNat % 2 ^ 20, cmd := some c }).ended) ∧
  (∀ (c : CmdCtx) (obj first : BitVec 16) (s : State), c.dev = .lotik → obj.toNat < 16384 → ∃ bs,
    exec (.syncDebug c obj first) s = .next (s.answer c 0x32 0 bs).ended) ∧
  (∀ (c : CmdCtx) (addr : DWord) (first count flowFirst flowCount : BitVec 16) (s : State), c.dev = .lotik → first.toNat < 16384 →
    flowFirst.toNat < 4096 → s.getB R.LK_SYNC_SAVE_CTRL_BUSY = false →
    exec (.syncSave c addr first count flowFirst flowCount) s =
      .next ((s.accept c 0x33 0).saveStart (addr.toNat / 64 * 64) first.toNat count.toNat flowFirst.toNat flowCount.toNat).ended) ∧
  (∀ (c : CmdCtx) (addr : DWord) (s : State), c.dev = .lotik → s.getB R.LK_SYNC_SAVE_CTRL_BUSY = false →
    exec (.syncRestore c addr) s =
      .next ((s.accept c 0x34 0).restoreStart (addr.toNat / 64 * 64)).ended) ∧
  (∀ (c : CmdCtx) (flow : BitVec 16) (s : State), c.dev = .lotik → flow.toNat < 4096 →
    exec (.syncFlowReset c flow) s =
      .next (((s.flowReset flow.toNat).1.answer c 0x35 0 (leBytes 2 (s.flowReset flow.toNat).2)).logCommand c 0x35 0).ended)

-- Groups.

/-- Group queues: the host's writes, a submission read, and the timers of groups and of credit (R193 to R208). -/
def Obligations.QueuesAndGroupTimersComplete : Prop :=
  (∀ (q : BitVec 12) (v : Word) (s : State), s.reaches 0 (0x80018 + 0x40 * q.toNat) →
    exec (.sqDoorbell q v) s = .next (((s.hostReq .lotik).setQueue q.toNat { (s.hostReq .lotik).queue q.toNat with sqTail := v.toNat % 4096 }).pumpQueue q.toNat).ended) ∧
  (∀ (q : BitVec 12) (ok : Bool) (entry : List Byte) (s : State),
    exec (.submissionFetched q ok entry) s = .next (s.fetched q.toNat ok entry).ended) ∧
  (∀ (q : BitVec 12) (v : Word) (s : State), s.reaches 0 (0x80024 + 0x40 * q.toNat) →
    exec (.cqHeadWrite q v) s = .next ((s.hostReq .lotik).cqHeadWrite q.toNat v.toNat).ended) ∧
  (∀ (q : BitVec 12) (v : Word) (s : State), s.reaches 0 (0x80000 + 0x40 * q.toNat) →
    exec (.gqEnableWrite q v) s = .next ((s.hostReq .lotik).queueCfg q.toNat v.toNat).ended) ∧
  (∀ (p : PortId) (die : BitVec 5) (control up down mgmt : BitVec 16) (s : State), s.pathUp (.port p) = true →
    exec (.creditRx (.port p) (some die) control up down mgmt) s =
      .next (s.giveCredit p.dev p.idx [control.toNat, up.toNat, down.toNat, mgmt.toNat]).ended) ∧
  (∀ (r : RingPort) (die : BitVec 5) (control up down mgmt : BitVec 16) (s : State), s.pathUp (.ring r) = true →
    exec (.creditRx (.ring r) (some die) control up down mgmt) s =
      .next (s.giveCredit .lotik (ringPeer die.toNat) [control.toNat, up.toNat, down.toNat, mgmt.toNat]).ended) ∧
  (∀ (p : PortId) (control up down mgmt : BitVec 16) (s : State), s.pathUp (.port p) = true →
    exec (.creditRx (.port p) none control up down mgmt) s = .next (s.frameDrop (.port p)).ended) ∧
  (∀ (r : RingPort) (control up down mgmt : BitVec 16) (s : State), s.pathUp (.ring r) = true →
    exec (.creditRx (.ring r) none control up down mgmt) s = .next (s.ringBad r).ended) ∧
  (∀ (d : Dev) (s : State), exec (.opLimitTimeout d) s = .next (s.opLimit d).ended) ∧
  (∀ (d : Dev) (s : State), exec (.sealTimeout d) s = .next (s.roundTimeout d true).ended) ∧
  (∀ (d : Dev) (s : State), exec (.renewTimeout d) s = .next (s.roundTimeout d false).ended) ∧
  (∀ (d : Dev) (s : State), exec (.creditStall d) s = .next (s.creditStall d).ended)

/-- Group messages at a Verard that hears them (R188 to R192, R198, R208, R313): contributions, faults, results, the messages of a round,
and what a Lotik does with any of them. -/
def Obligations.GroupMessagesComplete : Prop :=
  (∀ (p : Path) (m : GroupMsg) (s : State), pathDev p = .verard → m.kind.toNat < 0x2C →
    (let u := s.heard p (.grp (m.as 0x20))
     s.hears p (.grp (m.as 0x20)) → u.gens .verard m = true → (u.group .verard m.gid.toNat).counts = true →
       exec (.arriveRx p m) s = .next (u.contribution .verard (m.as 0x20) (some p)).ended) ∧
    (let u := s.heard p (.grp (m.as 0x21))
     s.hears p (.grp (m.as 0x21)) → u.gens .verard m = true → (u.group .verard m.gid.toNat).counts = true →
       exec (.partialRx p m) s = .next (u.contribution .verard (m.as 0x21) (some p)).ended) ∧
    (let u := s.heard p (.grp (m.as 0x24))
     s.hears p (.grp (m.as 0x24)) → u.gens .verard m = true → (u.group .verard m.gid.toNat).counts = true →
       exec (.faultRx p m) s = .next (u.nodeFault .verard m.gid.toNat m.oseq m.op.toNat m.cause.toNat m.src.toNat (some p)).ended) ∧
    (let u := s.heard p (.grp (m.as 0x25))
     s.hears p (.grp (m.as 0x25)) → exec (.pathRx p m) s = .next (u.vdPath (m.as 0x25) (some p)).ended) ∧
    (let u := s.heard p (.grp (m.as 0x26))
     s.hears p (.grp (m.as 0x26)) → exec (.bind p m) s = .next (u.vdBind (m.as 0x26) (some p)).ended) ∧
    (let u := s.heard p (.grp (m.as 0x27))
     s.hears p (.grp (m.as 0x27)) → exec (.bindAck p m) s = .next (u.nodeAck .verard (m.as 0x27) (some p)).ended) ∧
    (let u := s.heard p (.grp (m.as 0x29))
     s.hears p (.grp (m.as 0x29)) → exec (.renewRx p m) s = .next (u.vdRenew (m.as 0x29) (some p)).ended) ∧
    (let u := s.heard p (.grp (m.as 0x2A))
     s.hears p (.grp (m.as 0x2A)) → exec (.unbind p m) s = .next (u.vdUnbind (m.as 0x2A) (some p)).ended) ∧
    (let u := s.heard p (.grp (m.as 0x22))
     s.hears p (.grp (m.as 0x22)) → u.gens .verard m = true → (u.group .verard m.gid.toNat).counts = true →
       (u.group .verard m.gid.toNat).role ≠ 0 → exec (.completeRx p m) s = .next (u.passEnd .verard (m.as 0x22) (some p)).ended) ∧
    (let u := s.heard p (.grp (m.as 0x23))
     s.hears p (.grp (m.as 0x23)) → u.gens .verard m = true → (u.group .verard m.gid.toNat).counts = true →
       (u.group .verard m.gid.toNat).role ≠ 0 → exec (.resultRx p m) s = .next (u.passEnd .verard (m.as 0x23) (some p)).ended)) ∧
  (∀ (p : Path) (m : GroupMsg) (s : State), pathDev p = .lotik → m.kind.toNat < 0x2C →
    ∀ k ∈ [((0x20 : Nat), Instr.arriveRx), (0x21, .partialRx), (0x22, .completeRx), (0x23, .resultRx), (0x24, .faultRx), (0x25, .pathRx),
        (0x26, .bind), (0x27, .bindAck), (0x29, .renewRx), (0x2A, .unbind)],
      s.hears p (.grp (m.as k.1)) → exec (k.2 p m) s = .next ((s.heard p (.grp (m.as k.1))).lotikGrp p (m.as k.1)).ended) ∧
  (∀ (p : Path) (m : GroupMsg) (s : State), s.pathUp p = true → s.serves (pathDev p) = true → m.wire ≠ .good ∨ 0x2C ≤ m.kind.toNat →
    exec (.arriveRx p m) s = .next (s.frameDrop p).ended ∧ exec (.bind p m) s = .next (s.frameDrop p).ended) ∧
  (∀ (n : Fin 64) (m : GroupMsg) (start : Packed) (window : Word) (s : State), m.body = .quiet start window → m.kind.toNat < 0x2C →
    let p : Path := .port (.down n)
    let u := s.absorbed p (.grp (m.as 0x2B))
    s.hears p (.grp (m.as 0x2B)) → (u.group .verard m.gid.toNat).state = 0 ∨ u.gens .verard m = true →
    exec (.quiet p m) s = .next (u.quietTake n.val start window m).ended)

/-- The group commands at the group's top node, with operands that R190 to R193 and R215 admit. -/
def Obligations.GroupCommandsComplete : Prop :=
  (∀ (c : CmdCtx) (gid : BitVec 24) (scope acc maxElems depth : Byte) (limitMs : BitVec 16) (s : State),
    gid.toNat < 2 ^ 18 → s.topFor c.dev scope.toNat = true → acc.toNat ≤ 1 → 1 ≤ maxElems.toNat → maxElems.toNat ≤ 16 →
    1 ≤ depth.toNat → depth.toNat ≤ 4 → (s.group c.dev gid.toNat).state = 0 → (s.group c.dev gid.toNat).round = none →
    ((s.tree c.dev).groups.filter (fun x => x.2.role == 0 && (x.2.state == 1 || x.2.state == 2))).length < 16 →
    exec (.groupCreate c gid scope acc maxElems depth limitMs) s =
      .next ((((s.setGroup c.dev gid.toNat
        { state := 1, top := s.ua c.dev, scope := scope.toNat, acc := acc.toNat, maxElems := maxElems.toNat, depth := depth.toNat,
          limitMs := limitMs.toNat, gen := (s.group c.dev gid.toNat).gen,
          stale := (s.group c.dev gid.toNat).stale }).showGroups c.dev).answer c 0x40 0
        (leBytes 2 (s.group c.dev gid.toNat).gen)).logCommand c 0x40 0).ended) ∧
  (∀ (c : CmdCtx) (gid : BitVec 24) (gen : BitVec 16) (entries : List DWord) (g : GroupRec) (s : State),
    s.topGroup c.dev gid.toNat gen.toNat = (g, 0) → g.state = 1 → entries.length ≤ 500 →
    (∀ e ∈ entries, bits e.toNat 20 12 = 0 ∧ s.inScope c.dev g.scope (bits e.toNat 0 20) = true) →
    exec (.groupAdd c gid gen entries) s =
      .next (let ms := mergeAcks g.members (entries.map (fun e => (bits e.toNat 0 20, bits e.toNat 32 32)))
        ((s.setGroup c.dev gid.toNat { g with members := ms }).answer c 0x41 0 (leBytes 4 (dieCount ms))).logCommand c 0x41 0).ended) ∧
  (∀ (c : CmdCtx) (gid : BitVec 24) (gen : BitVec 16) (g : GroupRec) (s : State),
    s.topGroup c.dev gid.toNat gen.toNat = (g, 0) → g.state ≠ 1 →
    exec (.groupSeal c gid gen) s = .next (s.answer c 0x42 0x30).ended) ∧
  (∀ (c : CmdCtx) (gid : BitVec 24) (gen : BitVec 16) (g : GroupRec) (s : State),
    s.topGroup c.dev gid.toNat gen.toNat = (g, 0) → g.state = 1 → dieCount g.members ≠ 0 →
    exec (.groupSeal c gid gen) s = .next (s.sealBegin c gid.toNat g).ended) ∧
  (∀ (c : CmdCtx) (gid : BitVec 24) (gen : BitVec 16) (g : GroupRec) (s : State),
    s.topGroup c.dev gid.toNat gen.toNat = (g, 0) → g.state ≠ 0 → s.jobLive c.dev gid.toNat = false → g.round = none →
    exec (.groupRenew c gid gen) s = .next (s.renewBegin c gid.toNat g false).ended) ∧
  (∀ (c : CmdCtx) (gid : BitVec 24) (gen : BitVec 16) (g : GroupRec) (s : State),
    s.topGroup c.dev gid.toNat gen.toNat = (g, 0) → g.state ≠ 0 → s.jobLive c.dev gid.toNat = false → g.round = none →
    exec (.groupDelete c gid gen) s = .next (s.renewBegin c gid.toNat g true).ended) ∧
  (∀ (c : CmdCtx) (gid : BitVec 24) (s : State), gid.toNat < 2 ^ 18 → (s.group c.dev gid.toNat).state ≠ 0 →
    s.topFor c.dev (s.group c.dev gid.toNat).scope = true → (c.dev = .verard → (s.group c.dev gid.toNat).role = 0) → ∃ bs,
    exec (.groupStatus c gid) s = .next ((s.answer c 0x45 0 bs).logCommand c 0x45 0).ended)

/-- The queue commands at a Lotik and the read of a Basin at a Verard (R193, R215, R235). -/
def Obligations.QueueCommandsComplete : Prop :=
  (∀ (c : CmdCtx) (queue : BitVec 16) (gid : BitVec 24) (gen : BitVec 16) (sq : DWord) (sqLog2 : Byte) (cq : DWord) (cqLog2 irqEn : Byte)
    (s : State), c.dev = .lotik → s.expelled = false → queue.toNat < 4096 → sq.toNat % 256 = 0 → cq.toNat % 256 = 0 →
    gid.toNat < 2 ^ 18 → gen.toNat < 2 ^ 14 → irqEn.toNat ≤ 1 → (s.queue queue.toNat).enable = false →
    1 ≤ sqLog2.toNat → sqLog2.toNat ≤ 12 → 1 ≤ cqLog2.toNat → cqLog2.toNat ≤ 12 →
    exec (.gqBind c queue gid gen sq sqLog2 cq cqLog2 irqEn) s =
      .next (s.gqBind c queue.toNat gid gen sq sqLog2 cq cqLog2 irqEn).ended) ∧
  (∀ (c : CmdCtx) (queue : BitVec 16) (s : State), c.dev = .lotik → queue.toNat < 4096 → (s.queue queue.toNat).enable = true →
    exec (.gqUnbind c queue) s =
      .next (((s.disableQueue queue.toNat).answer c 0x47 0
        (leBytes 1 ((s.queue queue.toNat).ops.filter (fun o => o.res.isNone)).length)).logCommand c 0x47 0).ended) ∧
  (∀ (c : CmdCtx) (queue : BitVec 16) (s : State), c.dev = .lotik → queue.toNat < 4096 →
    exec (.gqStatus c queue) s =
      .next ((s.answer c 0x48 0 (([1, 10, 11, 12] : List Nat).flatMap (fun k => leBytes 4 (s.queueWord queue.toNat k)))).logCommand
        c 0x48 0).ended) ∧
  (∀ (c : CmdCtx) (gid : BitVec 24) (slot : Byte) (s : State), c.dev = .verard → slot.toNat ≤ 3 → gid.toNat < 2 ^ 18 →
    (s.group .verard gid.toNat).basin ≠ 0 → exec (.groupBasin c gid slot) s = .next (s.groupBasin c gid slot).ended)

-- The clock steward and the power governor.

/-- The regions of the clock grid (R239, R248 to R252): droop, margin, loss of resonance, rejoining, fences and captures. -/
def Obligations.RegionsComplete : Prop :=
  (∀ (r : Fin 64) (s : State), r.val < s.nr → (s.region r).stretching = false → exec (.regionDroop r) s = .next (s.droop r)) ∧
  (∀ (r : Fin 64) (s : State), r.val < s.nr → (s.region r).stretching = true →
    exec (.regionDroop r) s = .next (s.setRegion r { s.region r with periods := 0, recovered := false })) ∧
  (∀ (r : Fin 64) (s : State), (s.region r).stretching = true → 8 ≤ (s.region r).periods →
    exec (.regionStretchRecover r) s = .next (s.setRegion r { s.region r with recovered := true })) ∧
  (∀ (r : Fin 64) (s : State), (s.region r).stretching = true → (s.region r).recovered = true → (s.region r).fence = 0 →
    (s.region r).toSafe = false →
    let u := s.coreStage r
    let v := u.setRegion r { u.region r with stretching := false, recovered := false }
    s.edgeStage r = if v.regState r = 1 then v.regGo r 0 else v) ∧
  (∀ (r : Fin 64) (s : State), r.val < s.nr → s.regState r ≠ 4 → exec (.marginErrorEdge r) s = .next (s.marginErr r)) ∧
  (∀ (r : Fin 64) (t : Nat) (s : State), (s.region r).lowSince = some t → t + msSub 1 ≤ s.now .lotik →
    exec (.marginLowSet r) s = .next (s.put (R.LK_CS_REGr_STAT_MARGIN_LOW r) 1)) ∧
  (∀ (r : Fin 64) (s : State), r.val < s.nr → s.regState r ≤ 1 → exec (.regionLor r) s = .next (s.enterLor r)) ∧
  (∀ (r : Fin 64) (s : State), r.val < s.nr → s.regState r = 3 → exec (.regionLor r) s = .next (s.fenceRegion r)) ∧
  (∀ (r : Fin 64) (t : Nat) (s : State), (s.region r).rejoinAt = some t → s.regState r = 2 → t ≤ s.now .lotik →
    exec (.regionRejoinTick r) s =
      .next (((s.setRegion r { s.region r with rejoinAt := none, rejoinEdges := 4 }).put (R.LK_CS_REGr_STAT_OP r)
        (s.get R.LK_CS_STAT_CUR_OP)).regGo r 0)) ∧
  (∀ (core : Byte) (s : State), s.reaches 0 0x3080 → exec (.fenceCore core) s = .next ((s.hostReq .lotik).fenceCoreWrite core.toNat)) ∧
  (∀ (core : Byte) (s : State), s.reaches 0 0x3080 → exec (.fenceRegion core) s = .next ((s.hostReq .lotik).fenceRegionWrite core.toNat)) ∧
  (∀ (r : Fin 64) (s : State), s.reaches 0 (0x3804 + r.val * 0x20) → r.val < (s.hostReq .lotik).nr →
    exec (.csRegionCapture r) s =
      .next (((s.hostReq .lotik).captureRegion r).emit (.bus .lotik (BitVec.ofNat 64 (((s.hostReq .lotik).captureRegion r).get (R.LK_CS_REGr_CYC_LO_CYC_LO r))))))

/-- Changes of operating point (R243, R244), the loss of the grid PLL (R249) and the steward's commands (R253). -/
def Obligations.OperatingPointsComplete : Prop :=
  (∀ (c : Change) (cs : List Change) (s : State), s.lk.cs.sched = c :: cs → c.prepared = false → c.tick ≤ s.now .lotik + s.freqLead →
    exec .opSwitchPrepare s = .next (s.prepare c cs)) ∧
  (∀ (c : Change) (cs : List Change) (pgood : Bool) (s : State), s.lk.cs.sched = c :: cs → c.prepared = true →
    c.tick ≤ s.now .lotik + usSub 1 → s.changeIdx c ≠ s.get R.LK_CS_STAT_CUR_OP → exec (.opSwitchCheck pgood false) s = .next (s.dropChange cs)) ∧
  (∀ (c : Change) (cs : List Change) (s : State), s.lk.cs.sched = c :: cs → c.prepared = true →
    c.tick ≤ s.now .lotik + usSub 1 → s.get R.LK_CS_STAT_CUR_OP < s.changeIdx c →
    exec (.opSwitchCheck false true) s = .next (s.dropChange cs)) ∧
  (∀ (c : Change) (cs : List Change) (pgood : Bool) (s : State), s.lk.cs.sched = c :: cs → c.prepared = true →
    c.tick ≤ s.now .lotik + usSub 1 → s.changeIdx c ≠ s.get R.LK_CS_STAT_CUR_OP → pgood = true ∨ s.changeIdx c < s.get R.LK_CS_STAT_CUR_OP →
    exec (.opSwitchCheck pgood true) s = .next (s.setCs { s.lk.cs with sched := { c with checked := true } :: cs })) ∧
  (∀ (c : Change) (cs : List Change) (pgood lock : Bool) (s : State), s.lk.cs.sched = c :: cs →
    s.changeIdx c = s.get R.LK_CS_STAT_CUR_OP → exec (.opSwitchCheck pgood lock) s = .next s) ∧
  (∀ (c : Change) (cs : List Change) (s : State), s.lk.cs.sched = c :: cs → c.tick ≤ s.now .lotik →
    s.changeIdx c = s.get R.LK_CS_STAT_CUR_OP ∨ c.checked = true → exec .opSwitch s = .next (s.opSwitchTo c cs)) ∧
  (∀ (c : Change) (cs : List Change) (s : State), s.lk.cs.sched = c :: cs → c.tick ≤ s.now .lotik →
    s.changeIdx c ≠ s.get R.LK_CS_STAT_CUR_OP → c.checked = false → exec .opSwitch s = .next (s.dropChange cs)) ∧
  (∀ (t : Nat) (s : State), s.lk.cs.finishAt = some t → t ≤ s.now .lotik → exec .opSwitchFinish s = .next s.opSwitchEnd) ∧
  (∀ s : State, exec .gridPllLockLoss s =
    .next (let u := s.countNominal.regionNos.foldl (fun s r =>
        if s.regState r ≤ 1 then s.enterLor r
        else if s.regState r = 2 then s.setRegion r { s.region r with rejoinAt := none }
        else s) s.countNominal
      (u.setCs { u.lk.cs with requested := u.get R.LK_CS_CFG_SAFE_OP }).put R.LK_CS_STAT_CUR_OP (u.get R.LK_CS_CFG_SAFE_OP))) ∧
  (∀ (c : CmdCtx) (s : State), c.dev = .lotik →
    exec (.csStatus c) s = .next (s.answer c 0x50 0 (s.regBytes 0 [0x3008, 0x300C, 0x3010, 0x3014, 0x3018, 0x301C, 0x3020])).settle) ∧
  (∀ (c : CmdCtx) (first regions : Byte) (s : State), c.dev = .lotik → 1 ≤ regions.toNat → regions.toNat ≤ 64 →
    first.toNat + regions.toNat ≤ s.nr → exec (.csLedger c first regions) s = .next (s.csLedger c first regions).settle) ∧
  (∀ (c : CmdCtx) (number : Byte) (s : State), c.dev = .lotik → number.toNat < 4 * s.nr →
    exec (.csFence c 0 number) s = .next (s.csFence c 0 number).settle) ∧
  (∀ (c : CmdCtx) (number : Byte) (s : State), c.dev = .lotik → number.toNat < s.nr →
    exec (.csFence c 1 number) s = .next (s.csFence c 1 number).settle) ∧
  (∀ (c : CmdCtx) (s : State), c.dev = .lotik →
    exec (.csOpt c) s = .next (s.answer c 0x53 0 (s.regBytes 0 ((List.range 16).map (fun k => 0x3040 + 4 * k)))).settle)

/-- The power governor: samples, ceilings, thermal events, captures and the governor's commands (R257 to R278). -/
def Obligations.PowerGovernorComplete : Prop :=
  (∀ (temps : List (BitVec 8)) (s : State), s.lk.pg.sampleNo < s.now .lotik / sampleSub →
    exec (.activitySample temps) s = .next (s.sample (s.now .lotik / sampleSub) s.lk.pg (s.now .lotik) temps).ended) ∧
  (∀ (b : Nat) (s : State), s.lk.pg.boostAt = some b → b + secSub 1 ≤ s.now .lotik →
    exec .boostRearm s = .next (s.put R.LK_PG_STAT_BOOST_ARMED 1)) ∧
  (∀ (v : Word) (s : State), s.reaches 0 0x400C → exec (.pgCapWrite v) s = .next ((s.hostReq .lotik).pgCapWrite v.toNat)) ∧
  (∀ s : State, s.reaches 0 0x4038 →
    exec (.pgLoCapture true) s =
      .next (((s.hostReq .lotik).capturePg true).emit (.bus .lotik (BitVec.ofNat 64 (((s.hostReq .lotik).capturePg true).get R.LK_PG_TOTAL_UJ_LO_LO))))) ∧
  (∀ (r : Fin 64) (s : State), s.reaches 0 (0x4400 + r.val * 0x10) → r.val < (s.hostReq .lotik).nr →
    exec (.pgRegionCapture r) s =
      .next (((s.hostReq .lotik).capturePgRegion r).emit (.bus .lotik (BitVec.ofNat 64 (((s.hostReq .lotik).capturePgRegion r).word 0 (0x4400 + r.val * 0x10)))))) ∧
  (∀ (r : Fin 64) (temp : BitVec 8) (s : State), r.val < s.nr → (s.get R.LK_PG_CFG2_TWARN_C : Int) ≤ temp.toInt →
    exec (.thermalWarning r temp) s = .next (s.warn r temp)) ∧
  (∀ s : State, s.getB R.LK_PG_STAT_TWARN = true →
    s.regionNos.any (fun r => decide ((s.get R.LK_PG_CFG2_TWARN_C : Int) ≤ (s.region r).temp)) = true →
    s.lk.pg.ceilStep + msSub 10 ≤ s.now .lotik →
    exec .twarnCeilStep s = .next (s.setPg { s.lk.pg with ceilStep := s.now .lotik }).lowerCeil) ∧
  (∀ s : State, s.getB R.LK_PG_STAT_TWARN = true →
    s.regionNos.all (fun r => decide ((s.region r).temp < (s.get R.LK_PG_CFG2_TWARN_C : Int) - 3)) = true →
    s.lk.pg.hotAt + msSub 100 ≤ s.now .lotik →
    exec .twarnClear s = .next ((s.put R.LK_PG_STAT_TWARN 0).setPg { s.lk.pg with warnClear := s.now .lotik })) ∧
  (∀ (r : Fin 64) (temp : BitVec 8) (s : State), r.val < s.nr → (s.get R.LK_PG_TEMP_TCRIT_C : Int) ≤ temp.toInt →
    s.getB R.LK_PG_STAT_TRIPPED = false → exec (.thermalTrip r temp) s = .next (s.trip r temp).ended) ∧
  (∀ (c : CmdCtx) (s : State), c.dev = .lotik →
    exec (.pgStatus c) s = .next (s.answer c 0x54 0 (s.regBytes 0 [0x400C, 0x4010, 0x4014, 0x4018, 0x401C, 0x4020])).ended ∧
    exec (.pgEnergy c) s = .next (s.answer c 0x56 0
      (leBytes 4 (s.word 0 0x2028) ++ leBytes 8 (s.lk.pg.jobPj / 1000000) ++ leBytes 8 (s.lk.pg.totalPj / 1000000))).ended ∧
    ∃ bs, exec (.pgModel c) s = .next (s.answer c 0x58 0 bs).ended) ∧
  (∀ (c : CmdCtx) (cap1 cap10 : BitVec 16) (s : State), c.dev = .lotik → capBad cap1.toNat cap10.toNat = false →
    exec (.pgCap c cap1 cap10) s = .next (s.pgCap c cap1 cap10).ended) ∧
  (∀ (c : CmdCtx) (first regions : Byte) (s : State), c.dev = .lotik → 1 ≤ regions.toNat → regions.toNat ≤ 64 →
    first.toNat + regions.toNat ≤ s.nr → exec (.pgRegions c first regions) s = .next (s.pgRegions c first regions).ended)

/-- Deterministic mode: alignment, digests, seeds and derived time (R283 to R301), and the job's save and load (R297, R298). -/
def Obligations.DeterminismComplete : Prop :=
  (∀ (i : Nat) (s : State), s.activeSlot = some i → s.slotState i = 3 → (s.slot i).t0 ≤ s.now .lotik + usSub 2 →
    exec .alignRequest s =
      .next ((s.setDet { s.lk.det with alignFor := some (s.slot i).t0, ready := false, missed := false }).emit (.pin "ALIGN_REQ" 1))) ∧
  (∀ (i m : Nat) (s : State), s.activeSlot = some i → s.slotState i = 5 → (s.run i).resumeAt = some m → m ≤ s.now .lotik + usSub 2 →
    exec .alignRequest s =
      .next ((s.setDet { s.lk.det with alignFor := some m, ready := false, missed := false }).emit (.pin "ALIGN_REQ" 1))) ∧
  (∀ (ready : Bool) (m : Nat) (s : State), s.lk.det.alignFor = some m → m ≤ s.now .lotik + nsSub 100 →
    exec (.alignReadyCheck ready) s = .next (s.alignReady ready)) ∧
  (∀ (beat : BitVec 128) (s : State), s.portTakes → (s.hostReq .lotik).activeSlot = none →
    exec (.digestBeat beat) s = .next ((s.hostReq .lotik).bumpSat R.LK_DET_DIG_CNT_DISCARDED)) ∧
  (∀ (beat : BitVec 128) (i : Nat) (s : State), s.portTakes →
    let u := s.hostReq .lotik
    u.activeSlot = some i → u.lk.det.steps.any (fun d => d.step.toNat % 256 == bits beat.toNat 108 8) = false →
    exec (.digestBeat beat) s = .next (u.bumpSat R.LK_DET_DIG_CNT_LATE)) ∧
  (∀ (beat : BitVec 128) (i : Nat) (s : State), s.portTakes →
    let u := s.hostReq .lotik
    u.activeSlot = some i → u.lk.det.steps.any (fun d => d.step.toNat % 256 == bits beat.toNat 108 8) = true →
    exec (.digestBeat beat) s =
      .next (let t := bits beat.toNat 104 4
        let fed (d : DigStep) : DigTag :=
          (d.tag t).fold (BitVec.ofNat 64 t) (BitVec.ofNat 64 (bits beat.toNat 64 40)) (BitVec.ofNat 64 (bits beat.toNat 0 64))
        u.setDet { u.lk.det with steps := u.lk.det.steps.map (fun d =>
          if d.step.toNat % 256 == bits beat.toNat 108 8 then { d with tags := smPut {} d.tags t (fed d) } else d) })) ∧
  (∀ (v : Word) (s : State), s.reaches 0 0x5020 → exec (.digReqGo v) s = .next ((s.hostReq .lotik).digGo v).ended) ∧
  (∀ (t : Fin 16) (s : State), s.reaches 0 (0x5100 + t.val * 0x20) →
    exec (.digestRecordCapture t) s =
      .next (((s.hostReq .lotik).captureDigest t).emit (.bus .lotik (BitVec.ofNat 64 (((s.hostReq .lotik).captureDigest t).get (R.LK_DET_DIGt_Dk_D t 0)))))) ∧
  (∀ (r q : BitVec 32) (step : Option (BitVec 64)) (v : BitVec 128) (s : State), s.portTakes →
    (s.hostReq .lotik).seedFor r q step = some v →
    exec (.seedRequest r q step) s = .next ((s.hostReq .lotik).emit (.pin "SEED_RSP" v.toNat))) ∧
  (∀ (v : Word) (s : State), s.reaches 0 0x5050 → exec (.seedGoWrite v) s = .next ((s.hostReq .lotik).seedWrite (v.toNat ||| 1))) ∧
  (∀ (i : Nat) (s : State), s.portTakes →
    let u := s.hostReq .lotik
    u.getB R.LK_DET_STAT_DETMODE = true → u.activeSlot = some i →
    exec .timePortRequest s =
      .next ((u.emit (.pin "TIME_RSP" (packInstant false (u.lk.jobs.step.toNat * (u.run i).period * 65536)).toNat)).emit
        (.pin "STEP_DERIVED" 1))) ∧
  (∀ (c : CmdCtx) (s : State), c.dev = .lotik →
    exec (.detStatus c) s =
      .next ((s.answer c 0x60 0 (s.regBytes 0 [0x5000, 0x5004, 0x5008, 0x500C, 0x5010, 0x5014, 0x5018, 0x501C])).logCommand c 0x60 0).settle) ∧
  (∀ (c : CmdCtx) (tag : Byte) (s : State), c.dev = .lotik → tag.toNat ≤ 15 →
    exec (.detDigest c tag) s =
      .next ((s.answer c 0x61 0 ((s.captureDigest tag.toNat).regBytes 0
        ((List.range 8).map (fun k => 0x5100 + tag.toNat * 0x20 + 4 * k)))).logCommand c 0x61 0).settle) ∧
  (∀ (c : CmdCtx) (tag kind : Byte) (s : State), c.dev = .lotik → tag.toNat ≤ 15 → kind.toNat ≤ 1 →
    s.getB R.LK_DET_DIG_REQ_BUSY = false →
    exec (.detDigestCheck c tag kind) s = .next ((s.accept c 0x62 0).digStart tag.toNat kind.toNat).ended) ∧
  (∀ (c : CmdCtx) (rank stream : Word) (step : DWord) (v : BitVec 128) (s : State), c.dev = .lotik → step ≠ 0xFFFFFFFFFFFFFFFF →
    s.seedFor rank stream (some step) = some v →
    exec (.detSeed c rank stream step) s = .next ((s.answer c 0x63 0 (leBytes 16 v.toNat)).logCommand c 0x63 0).settle) ∧
  (∀ (c : CmdCtx) (addr : DWord) (i : Nat) (s : State), c.dev = .lotik → s.slotIn 5 = some i →
    exec (.jobSave c addr) s =
      .next ((s.accept c 0x66 i).emit (.hostWrite .lotik (addr.toNat / 64 * 64) (s.jobImage i))).ended) ∧
  (∀ (c : CmdCtx) (addr : DWord) (b : List Byte) (s : State), c.dev = .lotik → s.slotState 0 = 1 →
    ((s.accept c 0x67 0).emit (.hostRead .lotik (addr.toNat / 64 * 64) 896)).imageFits 0 b = true →
    exec (.jobLoad c addr (some b)) s =
      .next (((s.accept c 0x67 0).emit (.hostRead .lotik (addr.toNat / 64 * 64) 896)).loadJobImage 0 b).ended)

-- The optical engines and the circuit switch.

/-- The engines, their rings and their lines (R305 to R312, R355). -/
def Obligations.OpticalEnginesComplete : Prop :=
  (∀ (e : Fin 9) (on : Bool) (s : State), s.reaches 1 (0x60000 + 0x200 * e.val) →
    exec (.oeEnableWrite e on) s = .next (s.oeEnable e on).ended) ∧
  (∀ (e : Fin 9) (s : State), s.get (R.VD_OE_STAT_STATE e) = 1 → (s.oe e).since + msSub 100 ≤ s.now .verard →
    exec (.laserQualified e) s = .next (s.laserOk e).ended) ∧
  (∀ (e : Fin 9) (absent : BitVec 10) (s : State), s.get (R.VD_OE_STAT_STATE e) = 1 → (s.oe e).since + secSub 1 ≤ s.now .verard →
    exec (.laserWaitTimeout e absent) s = .next (s.laserLate e absent).ended) ∧
  (∀ (e : Fin 9) (mods drops : List (BitVec 16)) (locked : BitVec 16) (s : State),
    exec (.opticalSearchDone e mods drops locked) s = .next (s.searchDone e mods drops locked.toNat).ended) ∧
  (∀ (e : Fin 9) (s : State), s.get (R.VD_OE_STAT_STATE e) = 5 → (s.oe e).since + secSub 10 ≤ s.now .verard →
    exec (.oeFaultRetry e) s = .next ((s.oeGo e 1).oeLight e).ended) ∧
  (∀ (e : Fin 9) (s : State), s.reaches 1 (0x60000 + 0x200 * e.val) → exec (.oeResearch e) s = .next (s.oeResearch e).ended) ∧
  (∀ (e : Fin 9) (errs : List (BitVec 16)) (dark : BitVec 16) (temp : BitVec 8) (pwr : List (BitVec 32)) (s : State),
    periodOver (s.oe e).lockAt (usSub 100) (s.now .verard) = true →
    let u := s.setOe e { s.oe e with lockAt := some (s.now .verard) }
    let u := (u.put (R.VD_OE_STAT_SLEW_LIMITED e) 0).put (R.VD_OE_STAT_TEMP_C e) temp.toNat
    let u := ((oePorts e).zip pwr).foldl (fun s x =>
      (s.put (R.PORT_OPT_PWR_RX_PWR x.1) (bits x.2.toNat 0 16)).put (R.PORT_OPT_PWR_TX_PWR x.1) (bits x.2.toNat 16 16)) u
    exec (.ringLockUpdate e errs dark temp pwr) s =
      .next (if 2 ≤ s.get (R.VD_OE_STAT_STATE e) ∧ s.get (R.VD_OE_STAT_STATE e) ≤ 4 then
          u.ringsUpdate e errs dark (s.get (R.VD_OE_STAT_STATE e)) (s.now .verard / msSub 1)
        else u).ended) ∧
  (∀ (e : Fin 9) (tones : List (BitVec 16)) (s : State), exec (.toneCheck e tones) s =
    .next ((oePorts e).foldl (fun s p =>
      let s := s.toneRead p false ((tones[s.get (R.PORT_OPT_STAT_MOD_RING p)]?).getD 0).toNat
      s.toneRead p true ((tones[8 + s.get (R.PORT_OPT_STAT_DROP_RING p)]?).getD 0).toNat) s).ended) ∧
  (∀ (p : PortId) (drop : Bool) (code : BitVec 12) (s : State), p ≠ .tlink → s.ostate p = 3 →
    exec (.wrongLineRecovered p drop code) s = .next (s.lineBack p drop code).ended) ∧
  (∀ (p : PortId) (t : Nat) (s : State), p ≠ .tlink → (s.ostate p = 2 ∨ s.ostate p = 5) → (s.oring (oePlace p).1 (8 + s.get (R.PORT_OPT_STAT_DROP_RING p))).darkAt = some t →
    t + secSub 1 ≤ s.now .verard →
    exec (.dropRingFreezeExpiry p) s = .next (s.searchAgain p).ended) ∧
  (∀ (e : Fin 9) (w : Word) (ready : Bool) (s : State), bits w.toNat 24 8 = crc8 (w.toNat % 2 ^ 24) → bits w.toNat 4 4 = 8 →
    w.toNat % 16 < 10 →
    exec (.lsStatusRx e w ready) s =
      .next ((List.range 9).foldl (fun (s : State) e => s.oeStart e)
        ({ s with vd := { s.vd with lsReady := ready } }.put (R.VD_OE_LINEl_PWR_PWR e (w.toNat % 16)) (bits w.toNat 8 16))).ended)

/-- Laser lines and their spares (R312 to R316). -/
def Obligations.LaserLinesComplete : Prop :=
  (∀ (e : Fin 9) (pwr : List (BitVec 16)) (s : State), periodOver (s.oe e).biasAt (secSub 10) (s.now .verard) = true →
    exec (.lineBiasAdjust e pwr) s =
      .next ((pwr.take 10).zipIdx.foldl (fun s x => s.lineAdjust e x.2 x.1)
        (s.setOe e { s.oe e with biasAt := some (s.now .verard) })).ended) ∧
  (∀ (e : Fin 9) (l : Fin 10) (s : State), s.lineState e l = 1 → exec (.linePowerFall e l) s = .next (s.lineFail e l).ended) ∧
  (∀ (e : Fin 9) (l : Fin 10) (s : State), s.lineState e l = 5 → (s.line e l).lit = true →
    (s.line e l).litSince + msSub 20 ≤ s.now .verard →
    exec (.spareWarm e l) s =
      .next ((List.range (if e.val < 8 then 8 else 4)).foldl
        (fun s k => if (busSpares e k).contains l.val then s.swapFailed e k else s) (s.lineGo e l 6)).ended) ∧
  (∀ (p : PortId) (w : OeSwap) (s : State), p ≠ .tlink → (s.oe (oePlace p).1).swap = some w → w.port = p.idx → w.restore = true →
    exec (.spareSwap p) s = .next (s.swapRestore (oePlace p).1 (oePlace p).2 w).ended) ∧
  (∀ (p : PortId) (l sp : Nat) (s : State), p ≠ .tlink → (s.oe (oePlace p).1).swap = none →
    s.workLine (oePlace p).1 (oePlace p).2 = some l → s.spareIn (oePlace p).1 (oePlace p).2 6 = some sp →
    s.swapFree (oePlace p).1 = true → s.ostate p = 2 → s.swapNow (oePlace p).1 l p.idx = true →
    exec (.spareSwap p) s = .next (s.swapGo (oePlace p).1 (oePlace p).2 l sp).ended) ∧
  (∀ (e : Fin 9) (w : OeSwap) (s : State), (s.oe e).swap = some w → w.restore = false → w.at_ + msSub 1 ≤ s.now .verard →
    exec (.swapConfirm e) s = .next (s.swapEnd e w).ended) ∧
  (∀ (e : Fin 9) (l : Fin 10) (s : State), s.lineState e l = 3 →
    (s.line e l).dueAt + secSub (s.get R.VD_OPT_CFG3_SWAP_WAIT_S) ≤ s.now .verard →
    exec (.swapWaitTimeout e l) s = .next (s.setLine e l { s.line e l with waited := true }).ended)

/-- The circuit switch's outputs (R319, R320) and the optical commands (R323). -/
def Obligations.SwitchAndOpticalCommandsComplete : Prop :=
  (∀ (o : Fin 4) (v : Word) (s : State), s.reaches 1 (0x61300 + 0x20 * o.val) →
    exec (.ocsArmWrite o v) s = .next (s.ocsCtrl o (v.toNat ||| 1)).ended) ∧
  (∀ (o : Fin 4) (v : Word) (s : State), s.reaches 1 (0x61300 + 0x20 * o.val) →
    exec (.ocsCancelWrite o v) s = .next (s.ocsCtrl o (v.toNat ||| 2)).ended) ∧
  (∀ (o : Fin 4) (t : Nat) (s : State), (s.ocs o).at_ = some t → s.getB (R.VD_OCSo_STAT_ARMED o) = true → t ≤ s.now .verard →
    exec (.ocsPulse o) s = .next (s.ocsFire o (s.ocs o) t).ended) ∧
  (∀ (o : Fin 4) (t : Nat) (s : State), (s.ocs o).firedAt = some t →
    t + msSub (s.get (R.VD_OCSo_TIMING_SETTLE_MS o) + 200) ≤ s.now .verard →
    exec (.ocsSwitchTimeout o) s = .next (s.ocsEnd o (s.ocs o)).ended) ∧
  (∀ (c : CmdCtx) (e : Byte) (s : State), c.dev = .verard → e.toNat ≤ 8 →
    exec (.optStatus c e) s =
      .next ((s.answer c 0x80 0 (s.regBytes 1 ((List.range 6).map (fun k => 0x60000 + e.toNat * 0x200 + 4 * k)))).logCommand c 0x80 0).settle ∧
    exec (.optLines c e) s =
      .next ((s.answer c 0x81 0 ((s.showLit e.toNat).regBytes 1
        ((List.range 40).map (fun k => 0x60040 + e.toNat * 0x200 + 4 * k)))).logCommand c 0x81 0).settle) ∧
  (∀ (c : CmdCtx) (e l : Byte) (k : Nat) (s : State), c.dev = .verard → e.toNat ≤ 8 → l.toNat ≤ 9 → (s.oe e.toNat).swap = none →
    s.lineplace e.toNat l.toNat = some k → (s.spareIn e.toNat k 6).isSome = true →
    exec (.optSwap c e l) s = .next (s.optSwap c e l k).ended) ∧
  (∀ (c : CmdCtx) (port : Byte) (s : State), c.dev = .verard → port.toNat ≤ 65 →
    exec (.optResearch c port) s = .next (s.optResearch c port).ended) ∧
  (∀ (c : CmdCtx) (o mode up : Byte) (at_ : Packed) (ports : BitVec 64) (width settle : BitVec 16) (s : State), c.dev = .verard →
    o.toNat ≤ 3 → exec (.ocsArm c o mode up at_ ports width settle) s = .next (s.ocsArmCmd c o mode up at_ ports width settle).ended) ∧
  (∀ (c : CmdCtx) (o : Byte) (s : State), c.dev = .verard → o.toNat ≤ 3 →
    exec (.ocsCancel c o) s = .next (((s.ocsCancel o.toNat).answer c 0x85 0).logCommand c 0x85 0).ended)

-- Health and the Log.

/-- Soundings, known-answer tests and the records a Verard takes (R325 to R333). -/
def Obligations.HealthComplete : Prop :=
  (∀ (v : Word) (s : State), s.reaches 0 0x6008 → exec (.soundNow v) s = .next ((s.hostReq .lotik).soundWrite (v.toNat ||| 1)).ended) ∧
  (∀ s : State, s.activeSlot = none → s.lk.hm.lastAt + secSub (s.get R.LK_HM_CFG_SOUND_PERIOD_S) ≤ s.now .lotik →
    exec .autoSounding s = .next (s.soundStart 7 true).ended) ∧
  (∀ (mv : BitVec 16) (eyeE eyeW : BitVec 4) (rx : BitVec 16) (s : State),
    exec (.soundingDone mv eyeE eyeW rx) s = .next (s.soundDone mv.toInt eyeE.toNat eyeW.toNat rx.toNat).ended) ∧
  (∀ s : State, s.getB R.LK_HM_STAT_KAT_PENDING = true → s.activeSlot = none → exec .katStart s = .next s.katBegin.ended) ∧
  (∀ (r : BitVec 6) (sig : BitVec 64) (k : Kat) (s : State), s.portTakes →
    let u := s.hostReq .lotik
    let k' : Kat := { k with sigs := k.sigs ++ [(r.toNat, sig)] }
    u.lk.hm.kat = some k → k.sigs.any (fun x => x.1 == r.toNat) = false →
    exec (.katSignature r sig) s =
      .next (if u.regionNos.all (fun x => u.regState x == 4 || k'.sigs.any (fun y => y.1 == x)) then u.katEnd k'
        else u.setHm { u.lk.hm with kat := some k' }).ended) ∧
  (∀ (k : Kat) (s : State), s.lk.hm.kat = some k → k.since + usSub (s.get R.LK_HM_CFG2_KAT_LIMIT_US) ≤ s.now .lotik →
    exec .katTimeout s = .next (s.katEnd k).ended) ∧
  (∀ (p : Nat) (body : List Byte) (rest : List (Nat × Byte × List Byte)) (s : State), s.vd.hm.inbox = (p, 1, body) :: rest →
    exec .soundingRecordRx s =
      .next ((s.setHu { s.vd.hm with inbox := rest }).applyRecord (p * 32 + leAt body 2 3 % 32) body).ended) ∧
  (∀ (n : BitVec 11) (s : State), s.get (R.VD_HM_DIEn_HSTATE n.toNat) ≠ 0 → s.getB (R.VD_HM_DIEn_SILENT n.toNat) = false →
    s.inService (downPort (n.toNat / 32)) = true →
    (s.die n.toNat).lastRec + secSub (3 * s.get R.LK_HM_CFG_SOUND_PERIOD_S) ≤ s.now .verard →
    exec (.healthSilence n) s =
      .next (((((s.put (R.VD_HM_DIEn_SILENT n.toNat) 1).put R.VD_HM_IRQ_SILENT 1).penalty n.toNat 11 16).hmJudge n.toNat 4).expelPending
        2048).ended) ∧
  (∀ (n : BitVec 11) (s : State), s.get (R.VD_HM_DIEn_HSTATE n.toNat) ≠ 0 →
    (s.die n.toNat).cleanSince + secSub (60 * s.get R.VD_HM_CFG2_RECOVER_MIN) ≤ s.now .verard →
    exec (.healthRecoverTick n) s =
      .next ((((s.setDie n.toNat { s.die n.toNat with cleanSince := s.now .verard }).bumpSat (R.VD_HM_DIEn_SCORE n.toNat)).hmJudge
        n.toNat 4).expelPending 2048).ended) ∧
  (∀ (n : BitVec 11) (s : State), s.get (R.VD_HM_DIEn_HSTATE n.toNat) = 2 → s.decides n.toNat = true →
    (s.die n.toNat).probSince + s.get R.VD_HM_CFG2_PROB_H * hourSub ≤ s.now .verard →
    exec (.probationExpiry n) s = .next (s.candidate n.toNat).ended) ∧
  (∀ s : State, exec .expelRateWindow s = .next (s.showHm.expelPending 2048).ended)

/-- The Log's registers and its spill (R337, R341, R346, R347). -/
def Obligations.LogComplete : Prop :=
  (∀ (d : Dev) (v : Word) (s : State), s.reaches d.sp (match d with | .lotik => 0x620C | .verard => 0x80008) →
    exec (.logRdWrite d v) s = .next ((s.hostReq d).logAdvance d v.toNat).ended) ∧
  (∀ (seq n : Nat) (s : State), (s.log .lotik).spilling = some (seq, n) →
    exec (.logSpillDone true) s =
      .next (let u := s.logicWork.setLog .lotik { s.log .lotik with
          spilling := none, rd := if (s.log .lotik).rd = seq then (seq + n) % 2 ^ 32 else (s.log .lotik).rd }
        (((u.put R.LK_LOG_SPILL_TAIL_TAIL (u.get R.LK_LOG_SPILL_TAIL_TAIL + n)).showLog .lotik).payLoss .lotik).spillNext.ended)) ∧
  (∀ (seq n : Nat) (s : State), (s.log .lotik).spilling = some (seq, n) → ∃ e : Report, e.kind = 0x0B00 ∧ e.depth = 1 ∧
    exec (.logSpillDone false) s =
      .next ((((s.logicWork.setLog .lotik { s.log .lotik with spilling := none }).put R.LK_LOG_STAT_SPILL_ERR 1).put R.LK_HM_IRQ_SPILL_ERR 1).report
        .lotik e).ended) ∧
  (∀ (d : Dev) (s : State), (s.log d).noFwd ≠ 0 → periodOver (s.log d).sumAt (secSub 1) (s.now d) = true →
    exec (.rateSummary d) s =
      .next ((s.setLog d { s.log d with noFwd := 0, sumAt := some (s.now d) }).logKind d 0x0B07 3 (leBytes 4 (s.log d).noFwd)).ended) ∧
  (∀ (v : Word) (s : State), s.reaches 1 0x80010 → exec (.logSelWrite v) s = .next (s.logSelWrite v.toNat).ended) ∧
  (∀ (c : CmdCtx) (first : Word) (count : Byte) (s : State), count ≠ 0 → count.toNat ≤ 62 → ∃ bs,
    exec (.logRead c first count) s = .next (s.answer c 0x73 0 bs).ended) ∧
  (∀ (c : CmdCtx) (seq : Word) (s : State), (s.log c.dev).inside seq.toNat = true →
    exec (.logAdvance c seq) s = .next ((s.logAdvance c.dev seq.toNat).answer c 0x74 0).ended)

/-- The health commands (R347). -/
def Obligations.HealthCommandsComplete : Prop :=
  (∀ (c : CmdCtx) (mask : Byte) (s : State), c.dev = .lotik → mask ≠ 0 → mask.toNat < 16 →
    exec (.hmSound c mask) s =
      .next ((s.setHm { s.lk.hm with askers := s.lk.hm.askers ++ [(c, mask.toNat)] }).soundStart mask.toNat false).ended) ∧
  (∀ (c : CmdCtx) (s : State), c.dev = .lotik →
    exec (.hmStatus c) s =
      .next (s.answer c 0x71 0 (s.regBytes 0 [0x600C, 0x6010, 0x6020, 0x6204, 0x6208, 0x620C, 0x6210])).ended ∧
    exec (.hmMap c) s = .next (s.answer c 0x72 0 (s.regBytes 0 ((List.range 32).map (fun k => 0x6100 + 4 * k)))).ended) ∧
  (∀ (c : CmdCtx) (st : Byte) (s : State), c.dev = .lotik → s.fromPodVerard c.src.toNat = true → st.toNat < 5 → s.get R.LK_HM_STAT_HSTATE ≠ 4 → st.toNat ≠ s.get R.LK_HM_STAT_HSTATE →
    exec (.hmSetState c st) s =
      .next ((((s.put R.LK_HM_STAT_HSTATE st.toNat).put R.LK_HM_IRQ_HSTATE 1).answer c 0x75 0
        [BitVec.ofNat 8 (s.get R.LK_HM_STAT_HSTATE)]).logCommand c 0x75 0).ended) ∧
  (∀ (c : CmdCtx) (first count : BitVec 16) (s : State), c.dev = .verard → count ≠ 0 → count.toNat ≤ 1000 →
    first.toNat + count.toNat ≤ 2048 →
    exec (.hmScore c first count) s =
      .next (s.answer c 0x76 0 (s.regBytes 1 ((List.range count.toNat).map (fun k => 0x71000 + 4 * (first.toNat + k))))).ended) ∧
  (∀ (c : CmdCtx) (delta : BitVec 16) (v : Nat) (s : State), c.dev = .verard → (s.get R.VD_HM_SPARES_AVAIL : Int) + delta.toInt = v →
    v ≤ 65535 →
    exec (.hmSpares c delta) s =
      .next (((((s.put R.VD_HM_SPARES_AVAIL v).showHm).answer c 0x77 0 (leBytes 2 v)).logCommand c 0x77 0).expelPending 2048).ended) ∧
  (∀ (c : CmdCtx) (ua : BitVec 24) (s : State), c.dev = .verard → ua.toNat < 2 ^ 20 → uaClass ua.toNat = 0 →
    uaPod ua.toNat = uaPod (s.ua .verard) → s.vdRole ≠ 0 → s.get (R.VD_HM_DIEn_HSTATE (ua.toNat % 2048)) ≠ 0 →
    s.get (R.VD_HM_DIEn_HSTATE (ua.toNat % 2048)) ≠ 4 →
    exec (.hmExpel c ua) s =
      .next (let u := s.expel (ua.toNat % 2048) true true
        (((if u.decides (ua.toNat % 2048) then u else u.sendSetState (ua.toNat % 2048)).answer c 0x78 0 [4]).logCommand c 0x78 0)).ended) ∧
  (∀ (c : CmdCtx) (s : State), c.dev = .verard →
    exec (.hmHoldRelease c) s =
      .next ((((s.put R.VD_HM_STAT_HOLD 0).answer c 0x79 0).logCommand c 0x79 0).expelPending 2048).ended)

-- Boot, security and firmware.

/-- Lotik's profile command and the life cycle, identity and key commands (R364, R395 to R406). -/
def Obligations.SecurityCommandsComplete : Prop :=
  (∀ (c : CmdCtx) (s : State), exec (.bootStatus c) s = .next (s.answer c 0x02 0 (s.regBytes c.dev.sp [0, 4, 8])).ended) ∧
  (∀ (c : CmdCtx) (profile : Byte) (s : State), c.dev = .lotik → profile.toNat ≤ 3 → s.get R.LK_BOOT_STAGE ≠ 3 →
    exec (.profileSelect c profile) s =
      .next (let u := (s.answer c 0x03 0 [BitVec.ofNat 8 (s.get R.LK_BOOT_STAGE)]).logCommand c 0x03 0
        ((u.setSec .lotik { u.sec .lotik with nextProf := some profile.toNat }).put R.LK_BOOT_NEXT_PROF profile.toNat).ended)) ∧
  (∀ (c : CmdCtx) (install : List Byte) (s : State), install.length = 512 → (s.sec c.dev).idKey ≠ [] →
    (install.drop 12).take 97 = (s.sec c.dev).idKey →
    exec (.idCert c install) s =
      .next (((s.setSec c.dev { s.sec c.dev with certs := install }).showSec c.dev).answer c 0x93 0 install).ended) ∧
  (∀ (c : CmdCtx) (digest : List Byte) (fine : Byte) (s : State), fine.toNat ≤ 1 → (s.secRun c.dev).stamps.length < 8 →
    exec (.signStamp c digest fine) s = .next (s.stampQueue c digest fine).ended) ∧
  (∀ (d : Dev) (c : CmdCtx) (body : List Byte) (rest : List (CmdCtx × List Byte)) (s : State),
    (s.secRun d).stamps = (c, body) :: rest → ∃ sig : List Byte,
    exec (.stampSigned d) s =
      .next (((s.setSecRun d { s.secRun d with stamps := rest, stamped := (s.secRun d).stamped + 1 }).put (R.SEC_CNT_STAMPS d)
        ((s.secRun d).stamped + 1)).answer c 0x94 0
        (body ++ leBytes 4 (s.secRun d).stamped ++ [0, 0, 0, 0] ++ sig)).ended) ∧
  (∀ (c : CmdCtx) (s : State),
    let ch := padTo 32 (Config.freeBytes s.free)
    let u := (s.drawn).setSecRun c.dev { s.secRun c.dev with challenge := ch }
    let w := u.word c.dev.sp c.dev.secBase
    exec (.lcStatus c) s =
      .next (u.answer c 0x95 0 ([BitVec.ofNat 8 (bits w 0 3), BitVec.ofNat 8 (bits w 3 4), BitVec.ofNat 8 (bits w 7 7),
        BitVec.ofNat 8 (bits w 15 6)] ++ leBytes 8 (Config.serial c.dev).toNat ++ ch)).ended) ∧
  (∀ (c : CmdCtx) (target : Byte) (key : Nat) (s : State), (s.session c.dev c.session).map (·.keyIndex) = some key →
    lcRow (s.sec c.dev) key target.toNat = some (true, true) → (s.sec c.dev).target = none → s.lcBusy c.dev = false →
    (s.sec c.dev).used < 31 → exec (.lcTransition c target 0 []) s = .next (s.lcBegin c target.toNat key).ended) ∧
  (∀ (c : CmdCtx) (token : List Byte) (s : State), token.length = 136 → (s.sec c.dev).lc = 3 →
    (s.session c.dev c.session).map (·.keyIndex) = some 0 →
    exec (.lcTransition c 3 0 token) s = .next (s.takeToken c token).ended) ∧
  (∀ (c : CmdCtx) (mask : BitVec 16) (key : List Byte) (s : State), key.length = 32 →
    key.all (fun b => b == 0) = false →
    exec (.keyBind c 0xFD mask key) s =
      .next ((((s.setSec c.dev { s.sec c.dev with profKey := key }).showSec c.dev).logKind c.dev 0x0D02 2
        ([0xFD] ++ leBytes 2 mask.toNat ++ [1])).answer c 0x97 0 |>.logCommand c 0x97 0).ended)

/-- The firmware commands (R410, R416) and Verard's profile store (R425). -/
def Obligations.FirmwareCommandsComplete : Prop :=
  (∀ (c : CmdCtx) (id len ver : Word) (s : State), 320 ≤ len.toNat → len.toNat ≤ bankBytes c.dev → (s.sec c.dev).staging.state = 0 →
    exec (.fwBegin c id len ver) s =
      .next ((s.accept c 0xA0 0).setBank c.dev { state := 1, xfer := id.toNat, ver := ver.toNat, len := len.toNat }).ended) ∧
  (∀ (d : Dev) (s : State), (s.sec d).staging.state = 1 →
    exec (.fwEraseDone d) s =
      .next ((s.setBank d { (s.sec d).staging with state := 2 }).complete d 0xA0 0 0
        ({ (s.sec d).staging with state := 2 } : Bank).report true).ended) ∧
  (∀ (c : CmdCtx) (id : Word) (part : BitVec 16) (data : List Byte) (s : State), c.dev = .lotik → 2 ≤ (s.sec .lotik).staging.state →
    (s.sec .lotik).staging.xfer = id.toNat → part.toNat < partCount (s.sec .lotik).staging.len →
    data.length = partLen (s.sec .lotik).staging.len part.toNat →
    (s.sec .lotik).staging.parts.any (fun e => e.1 == part.toNat) = false →
    exec (.fwChunk c id part data) s = .next ((s.fwTake .lotik part.toNat data).answer c 0xA1 0).ended) ∧
  (∀ (c : CmdCtx) (id p : Nat) (data : List Byte) (rest : List (CmdCtx × Nat × Nat × List Byte)) (s : State),
    (s.secRun .verard).writes = (c, id, p, data) :: rest →
    exec .fwChunkProgrammed s = .next (s.chunkDone (s.secRun .verard) c id p data rest).ended) ∧
  (∀ (c : CmdCtx) (s : State), ∃ bs, exec (.fwStatus c) s = .next (s.answer c 0xA2 0 bs).ended) ∧
  (∀ (c : CmdCtx) (id : Word) (s : State), 2 ≤ (s.sec c.dev).staging.state → (s.sec c.dev).staging.xfer = id.toNat →
    exec (.fwCancel c id) s = .next (((s.setBank c.dev {}).answer c 0xA3 0).logCommand c 0xA3 0).ended) ∧
  (∀ s : State, s.reaches 1 0xA2000 → exec .profileProgram s = .next s.profProgram.ended) ∧
  (∀ s : State, s.reaches 1 0xA2000 → exec .profileReload s = .next s.profReload.ended) ∧
  (∀ (ok : Bool) (s : State), s.getB R.VD_PROF_CTRL_BUSY = true → exec (.profileProgramDone ok) s = .next (s.profDone ok).ended)

-- The command path.

/-- Packets on their way in: fragments, reassembly, the mailbox and the rings (R379 to R394). -/
def Obligations.PacketPathComplete : Prop :=
  (∀ (path : Path) (f : Fragment) (s : State), s.pathUp path = true → s.serves (pathDev path) = true → fragOk f = true →
    let u := if pathDev path = .lotik then s.wakeAll else s
    (u.cmd (pathDev path)).waiting.any (fun x => x.1 == path) = false → f.index ≠ 0 ∨ u.fragRoom (pathDev path) path f = true →
    exec (.cmdFragment path ⟨f, true⟩) s =
      .next ((if f.index = 0 then u.fragFirst (pathDev path) path f else u.fragNext (pathDev path) path f).fragsGo (pathDev path)).ended) ∧
  (∀ (path : Path) (f : Fragment) (s : State), s.pathUp path = true → s.serves (pathDev path) = true → fragOk f = true →
    let u := if pathDev path = .lotik then s.wakeAll else s
    (u.cmd (pathDev path)).waiting.any (fun x => x.1 == path) = true ∨ f.index = 0 ∧ u.fragRoom (pathDev path) path f = false →
    exec (.cmdFragment path ⟨f, true⟩) s =
      .next (u.setCmd (pathDev path)
        { u.cmd (pathDev path) with waiting := (u.cmd (pathDev path)).waiting ++ [(path, f)] }).ended) ∧
  (∀ (path : Path) (f : Fragment) (s : State), s.pathUp path = true → s.serves (pathDev path) = true →
    exec (.cmdFragment path ⟨f, false⟩) s = .next (s.frameDrop path).ended) ∧
  (∀ (d : Dev) (image : Option (List Byte)) (x : PktIn) (s : State),
    nextPacket (s.cmd d).inbox = some x → s.controls d x.path = true →
    exec (.packetReassembled d image) s =
      .next (let u := s.setCmd d { s.cmd d with inbox := (s.cmd d).inbox.erase x }
        let u := if d = .lotik ∧ x.path = .host .lotik ∧ u.get R.LK_MBOX_STAT_STATE = 2 then u.logicWork.mboxFree else u
        (((u.takePacket d x.path x.bytes image).showReasm d).fragsGo d).ended)) ∧
  (∀ (d : Dev) (s : State),
    let late (r : Reasm) : Bool := decide (r.startAt + msSub 1 ≤ s.now d)
    exec (.reassemblyTimeout d) s =
      .next (((s.setCmd d { s.cmd d with reasm := (s.cmd d).reasm.filter (fun r => !late r) }).bumpSat (R.CMD_CNT2_REASM_DROP d)
        ((s.cmd d).reasm.filter late).length).showReasm d |>.fragsGo d).ended) ∧
  (∀ (d : Dev) (s : State), exec (.routeRecordExpiry d) s =
    .next (s.setCmd d { s.cmd d with routes := (s.cmd d).routes.filter (fun r => decide (s.now d < r.startAt + msSub 1)) } |>.fragsGo d).ended) ∧
  (∀ s : State, s.reaches 0 0x7000 → exec .mboxClaim s = .next (s.hostReq .lotik).mboxClaim.ended ∧ exec .mboxSend s = .next (s.hostReq .lotik).mboxSend.ended ∧
    exec .mboxRelease s = .next (s.hostReq .lotik).mboxRelease.ended) ∧
  (∀ (tail : BitVec 10) (slots : List (List Byte)) (s : State), s.reaches 1 0x9000C →
    exec (.cmdReqDoorbell tail slots) s =
      .next ((slots.take (s.reqTail tail.toNat).reqWaiting).foldl State.reqTake (s.reqTail tail.toNat)).ended) ∧
  (∀ (v : BitVec 10) (s : State), s.reaches 1 0x90024 → exec (.cmdRspHeadWrite v) s = .next (s.rspHead v.toNat).ended)

/-- The commands every part knows (R391), the sessions (R372 to R376), and a save's completion (R297, R386). -/
def Obligations.SessionsAndBasicCommandsComplete : Prop :=
  (∀ (c : CmdCtx) (data : List Byte) (s : State), exec (.nop c data) s = .next (s.answer c 0x00 0 data).ended) ∧
  (∀ (c : CmdCtx) (s : State), ∃ bs, exec (.info c) s = .next (s.answer c 0x01 0 bs).ended) ∧
  (∀ (c : CmdCtx) (fine : Byte) (s : State), fine.toNat ≤ 1 →
    exec (.timeRead c fine) s =
      .next ((s.readTime c.dev (fine == 1)).1.answer c 0x10 0 ((s.readTime c.dev (fine == 1)).2 ++
        (leBytes 2 (s.clk c.dev).disc.toNat ++ leBytes 3 (s.errPs c.dev) ++ leBytes 1 (s.get (R.TIME_STAT_STATE c.dev))))).ended) ∧
  (∀ (c : CmdCtx) (s : State), exec (.sessionClose c) s =
    .next (((s.answer c 0x91 0).logCommand c 0x91 0).endSessions c.dev (fun x => x.id == c.session)).ended) ∧
  (∀ (d : Dev) (s : State), exec (.sessionIdleTimeout d) s =
    .next (s.endSessions d (fun x => !x.group && decide (x.lastAuth + secSub (s.idleS d) ≤ s.now d))).ended) ∧
  (∀ (c : CmdCtx) (loc : Bool) (hdr pay : List Byte) (s : State), pay.length = 229 →
    s.openAllows c.dev loc (pay.headD 0).toNat = true → (pay.headD 0).toNat ≠ 0xFF →
    (s.sec c.dev).sessionKey (pay.headD 0).toNat ≠ [] →
    ((s.cmd c.dev).sessions.filter (fun y => !y.group)).length < sessionCap c.dev →
    exec (.sessionOpen c loc hdr pay) s =
      .next (if Config.onCurve ((pay.drop 4).take 97) = false then s.refuseOpen c 0x11
        else if Config.ecdsaVerify ((s.sec c.dev).sessionKey (pay.headD 0).toNat) (hdr.take 20 ++ pay.take 133) (pay.drop 133) = false then
          (s.logKind c.dev 0x0D03 3 [0, 0, 0, 0, 2]).refuseOpen c 0x20
        else s.openSession c (pay.headD 0).toNat pay).ended) ∧
  (∀ (c : CmdCtx) (gid : BitVec 24) (gen : BitVec 16) (id : Word) (key : List Byte) (salt : Word) (x : Session) (s : State),
    c.dev = .lotik → id.getLsbD 31 = true → salt.toNat / 2 ^ 20 ≠ 0xFFF → gid.toNat < 2 ^ 18 →
    s.session .lotik c.session = some x → x.group = false →
    s.lk.queues.any (fun q => q.2.enable && q.2.gid == gid.toNat && q.2.gen == gen.toNat) = true →
    (((s.cmd .lotik).sessions.filter (fun x => x.id != id)).filter (fun x => x.group)).length < 8 →
    exec (.groupSession c gid gen id key salt) s =
      .next (s.groupSession c x ((s.cmd .lotik).sessions.filter (fun x => x.id != id)) gid gen id key salt).ended) ∧
  (∀ (c : CmdCtx) (off : Word) (count : BitVec 16) (s : State), 1 ≤ count.toNat → count.toNat ≤ 1000 →
    (dbgPlace c.dev off.toNat).2 % 4 = 0 →
    (List.range count.toNat).all (fun k => mapped (dbgPlace c.dev off.toNat).1 ((dbgPlace c.dev off.toNat).2 + 4 * k)) = true →
    exec (.dbgRead c off count) s =
      .next ((s.dbgWords (dbgPlace c.dev off.toNat).1 (dbgPlace c.dev off.toNat).2 count.toNat).1.answer c 0xF0 0
        (s.dbgWords (dbgPlace c.dev off.toNat).1 (dbgPlace c.dev off.toNat).2 count.toNat).2).ended) ∧
  (∀ (c : CmdCtx) (off value : Word) (s : State), (dbgPlace c.dev off.toNat).2 % 4 = 0 →
    mapped (dbgPlace c.dev off.toNat).1 (dbgPlace c.dev off.toNat).2 = true →
    exec (.dbgWrite c off value) s =
      .next (((s.regWrite (dbgPlace c.dev off.toNat).1 (dbgPlace c.dev off.toNat).2 value.toNat).answer c 0xF1 0).logCommand
        c 0xF1 0).ended) ∧
  (∀ (slot : Fin 2) (s : State), exec (.commandCompletion slot) s =
    .next (s.complete .lotik 0x66 slot.val 0 (leBytes 4 896) true).ended)

/-- What is left: edges and events of a die's regions, an acknowledgement that was held back, and the end of a Log entry's coalescing
(R141, R240, R249, R254, R263, R317, R340). -/
def Obligations.DieEventsComplete : Prop :=
  (∀ (i : Fin 2) (s : State), (s.run i.val).commitHeld.isSome = true → (s.slot i.val).t0 ≤ s.now .lotik + usSub 20 →
    exec (.commitHoldDeadline i) s =
      .next ((s.setRun i.val { s.run i.val with commitHeld := none }).jobAnswer i.val jkCommitAck 0x30 (s.run i.val).commitCseq.toNat).ended) ∧
  (∀ (r : Fin 64) (s : State), s.regState r = 2 → (s.region r).lorStuck = false → (s.region r).rejoinAt = none →
    exec (.lorReferenceValid r) s =
      .next (s.setRegion r { s.region r with
        rejoinAt := some (freeTick s.freqLead false s.lk.cs.sched s.lk.cs.sched.length (s.now .lotik + s.freqLead)) })) ∧
  (∀ (r : Fin 64) (s : State), s.getB R.LK_DET_STAT_DETMODE = true → (s.region r).slots < (s.region r).frame / slotCycles →
    exec (.detSlotBoundary r) s =
      .next (s.setRegion r { s.region r with applied := (s.region r).nMax, nMax := 0, slots := (s.region r).frame / slotCycles })) ∧
  (∀ (r : Fin 64) (t : Nat) (codes : Word) (writes : List (Fin 64 × BitVec 64)) (reads : List (Fin 64)) (s : State), r.val < s.nr →
    s.regState r ≠ 4 → s.getB R.LK_PG_STAT_TRIPPED = false → (s.edgeStage r).regState r ≠ 4 →
    exec (.regionClockEdge r t codes writes reads) s = .next ((s.edgeStage r).edgeCount r t codes writes reads)) ∧
  (∀ (r : Fin 64) (k : Fin 32) (s : State), r.val < s.nr →
    exec (.activityEvent r k) s =
      .next (s.setRegion r { s.region r with
        counts := smPut 0 (s.region r).counts k.val (min (smGet 0 (s.region r).counts k.val + 1) 65535) })) ∧
  (∀ (seq : Word) (e : LogEntry) (s : State), (s.log .lotik).entries.find? (fun x => x.seq == seq.toNat) = some e →
    (s.log .lotik).open_ (s.now .lotik) e = false → e.sent = true →
    exec (.logCoalesceEnd seq) s =
      .next (let u := if e.coalesced then s.forward e else s
        (u.setLog .lotik ((u.log .lotik).markSent seq.toNat false)).spillNext).ended) ∧
  (∀ (p : PortId) (s : State), exec (.lightReturn p) s = .next s)

-- What the numbered rules say of the values.

/-- R30 and R37: the accumulator grows by INC on every Spring edge, INC is nominally 1.0 tick, and the three fields of hall time follow
from TICKS and PHASE, packed at bits 95 to 48, 47 to 16 and 15 to 0 and carried little-endian. -/
def Obligations.HallTimeFields : Prop :=
  (∀ c : Clock, c.edge.ticks.toNat * 2 ^ 48 + c.edge.phase.toNat =
    (c.ticks.toNat * 2 ^ 48 + c.phase.toNat +
      (if c.slew = 0 then c.inc.toNat else clampSlew c.rate.toNat (c.rate.toNat - c.slew))) % 2 ^ 112) ∧
  (∀ s : State, s.lk.ring.again = false →
    ∃ t, exec .springEdge s = .next t ∧ t.clk .lotik = (s.clk .lotik).edge ∧
      t.clk .verard = if s.vd.hot then s.clk .verard else (s.clk .verard).edge) ∧
  (State.reset.clk .lotik).inc.toNat = 2 ^ 48 ∧
  (∀ c : Clock, c.now = c.ticks.toNat * 10 * 65536 + (c.phase.toNat * 10 * 65536) / 2 ^ 48) ∧
  (∀ c : Clock, ((packInstant false c.now).extractLsb' 48 48).toNat = c.now / (1000000000 * 65536)) ∧
  (∀ c : Clock, ((packInstant false c.now).extractLsb' 16 32).toNat = c.now / 65536 - c.now / (1000000000 * 65536) * 1000000000) ∧
  (∀ c : Clock, (packInstant true c.now).extractLsb' 48 48 = 0) ∧
  (∀ c : Clock, ((packInstant true c.now).extractLsb' 16 32).toNat = c.now / 65536 % 4294967296) ∧
  (∀ (wrap : Bool) (c : Clock), ((packInstant wrap c.now).extractLsb' 0 16).toNat = c.now % 65536) ∧
  (∀ (wrap : Bool) (t i : Nat), i < 12 →
    (packedBytes wrap t)[i]? = some ((packInstant wrap t).extractLsb' (8 * i) 8))

/-- R36: a 32-bit NS names the instant nearest to the present; an instant that would lie before the origin of hall time is taken as the
origin (the model's choice, notes/assumptions/36). An instant of the EPOCH range survives packing whole. -/
def Obligations.InstantsUnpack : Prop :=
  (∀ (now : Nat) (p : Packed), 2 ^ 31 ≤ now / 65536 →
    unpackInstant true now p / 65536 % 2 ^ 32 = (p.extractLsb' 16 32).toNat ∧
    unpackInstant true now p % 65536 = (p.extractLsb' 0 16).toNat ∧
    now / 65536 ≤ unpackInstant true now p / 65536 + 2 ^ 31 ∧ unpackInstant true now p / 65536 < now / 65536 + 2 ^ 31) ∧
  (∀ (now : Nat) (p : Packed), now / 65536 < 2 ^ 31 →
    unpackInstant true now p / 65536 =
      if (p.extractLsb' 16 32).toNat < now / 65536 + 2 ^ 31 then (p.extractLsb' 16 32).toNat else 0) ∧
  (∀ now t : Nat, t / 65536 / 1000000000 < 2 ^ 48 → unpackInstant false now (packInstant false t) = t)

/-- R5: which accesses a register space takes, and what a discarded one does: a Log entry with the offset and the write bit, and a read
answers 0. -/
def Obligations.DiscardedAccesses : Prop :=
  (∀ bar off size : Nat, sizeOk bar off size = true ↔ (size = 4 ∧ off % 4 = 0) ∨ (bar = 2 ∧ size = 8 ∧ off % 8 = 0)) ∧
  (∀ (bar : Fin 3) (off : BitVec 26) (size : BitVec 7) (s : State), s.busUp (spDev bar) = true →
    ¬((size.toNat = 4 ∧ off.toNat % 4 = 0) ∨ (bar = 2 ∧ size.toNat = 8 ∧ off.toNat % 8 = 0)) →
    let u := s.hostReq (spDev bar)
    exec (.badSizeAccess bar off true size) s = .next (u.report (spDev bar)
      { kind := 0x0F01, sev := 3, ua := u.ua (spDev bar), step := u.stepCount (spDev bar),
        arg := leBytes 4 (busOff bar off.toNat) ++ [BitVec.ofNat 8 (1 + 2 * size.toNat)] }).ended ∧
    exec (.badSizeAccess bar off false size) s = .next ((u.report (spDev bar)
      { kind := 0x0F01, sev := 3, ua := u.ua (spDev bar), step := u.stepCount (spDev bar),
        arg := leBytes 4 (busOff bar off.toNat) ++ [BitVec.ofNat 8 (2 * size.toNat)] }).emit (.bus (spDev bar) 0)).ended)

/-- R160: a consume wait is served at once only where no consume waiter queues and V covers it, else it queues behind those there; a
context's second wait is rejected with BAD_OP, so that a context never has two. -/
def Obligations.OneWaitPerContext : Prop :=
  (∀ (s : State) (o : SyncOp), o.op = 5 → o.ok = true → (s.obj o.obj).enable = true →
    s.lk.sync.waiters.any (fun w => w.ctx == o.ctx) = false →
    ((s.applyOp o).2 = 0 ↔ s.lk.sync.waiters.any (fun w => w.obj == o.obj && w.consume) = false ∧ o.arg ≤ (s.obj o.obj).v) ∧
    (s.lk.sync.waiters.length < 4096 →
      ¬(s.lk.sync.waiters.any (fun w => w.obj == o.obj && w.consume) = false ∧ o.arg ≤ (s.obj o.obj).v) →
      (s.applyOp o).2 = 1 ∧ (s.applyOp o).1.lk.sync.waiters = s.lk.sync.waiters ++
        [{ obj := o.obj, ctx := o.ctx, core := o.core, consume := true, cmp := o.cmp, arg := o.arg }])) ∧
  (∀ (s : State) (o : SyncOp), (o.op = 4 ∨ o.op = 5) → (s.obj o.obj).enable = true →
    s.lk.sync.waiters.any (fun w => w.ctx == o.ctx) = true → s.applyOp o = (s, 8)) ∧
  (∀ (s : State) (o : SyncOp), (s.lk.sync.waiters.map (·.ctx)).Nodup → ((s.applyOp o).1.lk.sync.waiters.map (·.ctx)).Nodup)

/-- R162 and R163: what a strict object does with an operation out of range, and what a saturating one does: V, the object's flags, the
fault registers, the interrupt bit, the Log entry with its ARG, and the release pass; and, of R172, the arrival at a round that is HELD,
whose entry has the same layout. -/
def Obligations.StrictAndSaturatingObjects : Prop :=
  ∀ (s : State) (o : SyncOp), o.ok = true → (s.obj o.obj).enable = true →
    (let x := s.obj o.obj
     let entry (u : State) (kind sev : Nat) : State := u.report .lotik
       { kind := kind, sev := sev, ua := if o.src = 3 ∨ o.src = 4 then o.ua else u.ua .lotik, step := u.stepCount .lotik,
         arg := leBytes 2 o.obj ++ [BitVec.ofNat 8 o.src, BitVec.ofNat 8 o.op] ++
           leBytes 2 (if o.src = 1 then o.ctx.toNat else if o.src = 3 then o.flow else 0) ++ leBytes 4 o.arg ++ leBytes 4 x.v ++ [0, 0] }
     (o.op = 1 → x.held = false → x.sat = false → x.v < o.arg → s.applyOp o =
       (entry ((((s.setObj o.obj { x with faulted := true, lastFault := 2 }).put R.LK_SYNC_FAULT_OBJECT o.obj).put
         R.LK_SYNC_FAULT_CODE 2).put R.LK_SYNC_IRQ_UNDERFLOW 1) 0x0501 4, 2)) ∧
     (o.op = 0 → x.sat = false → 2 ^ 31 - 1 < x.v + o.arg → s.applyOp o =
       (entry ((((s.setObj o.obj { x with faulted := true, lastFault := 3 }).put R.LK_SYNC_FAULT_OBJECT o.obj).put
         R.LK_SYNC_FAULT_CODE 3).put R.LK_SYNC_IRQ_OVERFLOW 1) 0x0502 4, 3)) ∧
     (o.op = 0 → x.sat = true → 2 ^ 31 - 1 < x.v + o.arg → s.applyOp o =
       ((entry (((s.setObj o.obj { x with v := 2 ^ 31 - 1, satHit := true }).signedBy o).put R.LK_SYNC_IRQ_SATURATED 1)
         0x0503 3).releasePass o.obj, 4)) ∧
     (o.op = 1 → x.held = false → x.sat = true → x.v < o.arg → s.applyOp o =
       (let u := entry (((s.setObj o.obj { x with v := 0, satHit := true }).signedBy o).put R.LK_SYNC_IRQ_SATURATED 1) 0x0503 3
        (if x.reload = 0 then u else u.roundEnd o.obj).releasePass o.obj, 4)) ∧
     (o.op = 1 → x.held = true → s.applyOp o = (entry (s.put R.LK_SYNC_IRQ_AHEAD 1) 0x0504 4, 6)))

/-- R171: the arrival that ends a round of a linked object submits one arrival on its queue; the next round counts down meanwhile, and its
end is held; the group barrier's completion advances ROUND, and a held end submits the next arrival at once. -/
def Obligations.LinkedRounds : Prop :=
  (∀ (s : State) (o : SyncOp), o.op = 1 → o.ok = true →
    (s.obj o.obj).enable = true → (s.obj o.obj).link = true → (s.obj o.obj).reload ≠ 0 → (s.obj o.obj).held = false →
    (s.obj o.obj).v = o.arg → (s.obj o.obj).linkPending = false →
    ∃ u : State, s.applyOp o = (u.releasePass o.obj, 0) ∧ (u.obj o.obj).v = (s.obj o.obj).reload ∧
      (u.obj o.obj).linkPending = true ∧ (u.obj o.obj).round = (s.obj o.obj).round ∧
      u.lk.mail = s.lk.mail ++ [.link o.obj (s.obj o.obj).queue]) ∧
  (∀ (s : State) (o : SyncOp), o.op = 1 → o.ok = true →
    (s.obj o.obj).enable = true → (s.obj o.obj).link = true → (s.obj o.obj).reload ≠ 0 → (s.obj o.obj).held = false →
    (s.obj o.obj).linkPending = true → o.arg ≤ (s.obj o.obj).v →
    ∃ u : State, s.applyOp o = (u.releasePass o.obj, 0) ∧ (u.obj o.obj).v = (s.obj o.obj).v - o.arg ∧
      (u.obj o.obj).held = decide ((s.obj o.obj).v = o.arg) ∧ (u.obj o.obj).round = (s.obj o.obj).round ∧ u.lk.mail = s.lk.mail) ∧
  (∀ (s : State) (n : Nat), (s.obj n).linkPending = true → (s.obj n).held = false →
    let sig : LastSig := { src := 5, op := 1, step := s.lk.jobs.step, ticks := (s.clk .lotik).ticks }
    let u := (s.setObj n { s.obj n with round := (s.obj n).round + 1, linkPending := false, ls := sig }).releasePass n
    s.linkEnd n 0 = u) ∧
  (∀ (s : State) (n : Nat), (s.obj n).linkPending = true → (s.obj n).held = true →
    let sig : LastSig := { src := 5, op := 1, step := s.lk.jobs.step, ticks := (s.clk .lotik).ticks }
    let u := (s.setObj n { s.obj n with round := (s.obj n).round + 1, linkPending := false, ls := sig }).releasePass n
    s.linkEnd n 0 =
      (u.setObj n { u.obj n with v := (u.obj n).reload, linkPending := true, held := false }).mailTo (.link n (u.obj n).queue))

/-- R259: a lowered cap clips every stored bin of its window to the cap times the bin length, and a raised one leaves the bins; a cap of
0 is no cap, so that it counts as the highest. -/
def Obligations.CapsClipBins : Prop :=
  ∀ (s : State) (v : Word), s.reaches 0 0x400C → capBad (bits v.toNat 0 16) (bits v.toNat 16 16) = false →
    let u := s.hostReq .lotik
    ∃ t, exec (.pgCapWrite v) s = .next t ∧
      (let old := u.get R.LK_PG_CAP_CAP_1S
       let new := bits v.toNat 0 16
       t.lk.pg.bins1 = if new ≠ 0 ∧ (old = 0 ∨ new < old) then u.lk.pg.bins1.map (fun e => min e ((new * eighthW * 500 : Nat) : Int)) else u.lk.pg.bins1) ∧
      (let old := u.get R.LK_PG_CAP_CAP_10S
       let new := bits v.toNat 16 16
       t.lk.pg.bins10 = if new ≠ 0 ∧ (old = 0 ∨ new < old) then u.lk.pg.bins10.map (fun e => min e ((new * eighthW * 5000 : Nat) : Int)) else u.lk.pg.bins10) ∧
      t.get R.LK_PG_CAP_CAP_1S = bits v.toNat 0 16 ∧ t.get R.LK_PG_CAP_CAP_10S = bits v.toNat 16 16

/-- R229: what TOP delivers for the integer types: INT32 (7), INT64 (8) and UINT64 (9). -/
def Obligations.IntegerResults : Prop :=
  ∀ (ty mode : Nat) (e : Elem), ty = 7 ∨ ty = 8 ∨ ty = 9 →
    let w := 8 * tyBytes ty
    let lo : Int := if ty = 9 then 0 else -(2 ^ (w - 1))
    let hi : Int := if ty = 9 then 2 ^ w - 1 else 2 ^ (w - 1) - 1
    let out : Nat := if lo ≤ e.v ∧ e.v ≤ hi then 0 else 4
    (((finishElem 1 ty mode e).1 : Int) = e.v % 2 ^ w ∧ (finishElem 1 ty mode e).2.1 = out) ∧
    (((finishElem 2 ty mode e).1 : Int) = (if e.v < lo then lo else if hi < e.v then hi else e.v) % 2 ^ w ∧
      (finishElem 2 ty mode e).2.1 = out) ∧
    (∀ op, op = 5 ∨ op = 6 ∨ op = 7 → (finishElem op ty mode e).1 = e.key % 2 ^ w)

/-- A reduction is what its inputs are: in whatever order the contributions arrive, and however a tree groups them, the combined element
is the same, for every operation and type. -/
def Obligations.ReductionIgnoresOrder : Prop :=
  (∀ (op ty : Nat) (xs ys : List (Nat × Nat)), 1 ≤ op → op ≤ 9 → xs.Perm ys → combineAll op ty xs = combineAll op ty ys) ∧
  (∀ (op ty : Nat) (xs ys : List (Nat × Nat)), 1 ≤ op → op ≤ 9 → xs ≠ [] → ys ≠ [] →
    combineAll op ty (xs ++ ys) = Elem.combine op (combineAll op ty xs) (combineAll op ty ys))

/-- The Fold-128 digest of a step and tag depends only on which pairs are fed and how often, not on their order; and nothing fed gives 0. -/
def Obligations.DigestIgnoresOrder : Prop :=
  (∀ (d : DigTag) (tag : BitVec 64) (xs ys : List (BitVec 64 × BitVec 64)), xs.Perm ys →
    xs.foldl (fun d x => d.fold tag x.1 x.2) d = ys.foldl (fun d x => d.fold tag x.1 x.2) d) ∧
  (∀ (d : DigTag) (tag : Nat), d.count = 0 → d.digest tag = 0)

/-- The mailbox (R393): CLAIM takes it where it is FREE, SEND hands its packet on where it is CLAIMED, RELEASE frees it where it is
DELIVERED; elsewhere CLAIM is ignored, and SEND and RELEASE set ERR; outside CLAIMED its buffer keeps its contents. -/
def Obligations.MailboxStates : Prop :=
  (∀ s : State, s.reaches 0 0x7000 →
    let u := s.hostReq .lotik
    exec .mboxClaim s = .next (if u.get R.LK_MBOX_STAT_STATE = 0 then u.put R.LK_MBOX_STAT_STATE 1 else u).ended ∧
    (u.get R.LK_MBOX_STAT_STATE ≠ 1 → exec .mboxSend s = .next (u.put R.LK_MBOX_IRQ_ERR 1).ended) ∧
    (u.get R.LK_MBOX_STAT_STATE = 1 → u.ingressOk .lotik u.mboxBytes = true →
      exec .mboxSend s = .next ((u.put R.LK_MBOX_STAT_STATE 2).enqueue .lotik (.host .lotik) (pktIn u.mboxBytes)).ended) ∧
    (u.get R.LK_MBOX_STAT_STATE ≠ 3 → exec .mboxRelease s = .next (u.put R.LK_MBOX_IRQ_ERR 1).ended) ∧
    (u.get R.LK_MBOX_STAT_STATE = 3 → exec .mboxRelease s = .next ((u.put R.LK_MBOX_STAT_STATE 0).drainHost .lotik 8).ended)) ∧
  (∀ (s : State) (k v : Nat), s.get R.LK_MBOX_STAT_STATE ≠ 1 → s.mboxWrite k v = s)

/-- What simple commands leave alone: every register field but those named, and where said every other piece of state. -/
def Obligations.SimpleCommandFrames : Prop :=
  (∀ s : State,
    let u := s.hostReq .lotik
    s.sameFields u [R.LK_PWR_LOGIC_AWAKE, R.LK_WAKES_LOGIC] ∧ u.lkPart = s.lkPart ∧ u.vdPart = s.vdPart ∧
    u.lk = { s.lk with logicAt := s.now .lotik, sleeping := false } ∧ u.vd = s.vd ∧ u.ports = s.ports ∧ u.free = s.free ∧ u.pending = s.pending ∧
    s.out <:+ u.out) ∧
  (∀ (r : Fin 64) (s t : State), exec (.marginLowSet r) s = .next t →
    s.sameFields t [R.LK_CS_REGr_STAT_MARGIN_LOW r] ∧ s.sameBeside t ∧ t.out = s.out) ∧
  (∀ s t : State, exec .boostRearm s = .next t → s.sameFields t [R.LK_PG_STAT_BOOST_ARMED] ∧ s.sameBeside t ∧ t.out = s.out) ∧
  (∀ (n : Fin 8) (k : Fin 4) (v : Word) (s t : State), s.reaches 0 (0x2100 + 0x10 * n.val + 4 * k.val) →
    exec (.progEntryWrite n k v) s = .next t →
    (s.hostReq .lotik).sameFields t [R.LK_PROGn_BASE_LO_BASE_LO n, R.LK_PROGn_BASE_HI_BASE_HI n, R.LK_PROGn_LEN_LEN n, R.LK_PROGn_LEN_VALID n,
      R.LK_STEP_STAT_PROG_WR_ERR] ∧ (s.hostReq .lotik).sameBeside t ∧ t.out = (s.hostReq .lotik).out) ∧
  (∀ (s t : State), s.lk.mail = [] → exec .logicDomainSleep s = .next t →
    s.sameFields t [R.LK_PWR_LOGIC_AWAKE] ∧ ({ s with lk := { s.lk with sleeping := t.lk.sleeping } }).sameBeside t ∧ s.out <:+ t.out) ∧
  (∀ (s t : State), s.lk.mail = [] → exec .timingCoreSleep s = .next t →
    s.sameFields t [R.LK_PWR_TC_AWAKE] ∧ s.sameBeside t ∧ s.out <:+ t.out) ∧
  (∀ (s t : State), s.lk.mail = [] → exec .fclkLoss s = .next t →
    s.sameFields t [R.LK_PWR_LOGIC_AWAKE, R.LK_PWR_FCLK_LOSS] ∧ s.sameBeside t ∧ s.out <:+ t.out) ∧
  (∀ (r : Fin 64) (k : Fin 32) (s t : State), exec (.activityEvent r k) s = .next t →
    t.reg = s.reg ∧ t.vd = s.vd ∧ t.ports = s.ports ∧ t.out = s.out ∧ t.free = s.free ∧ t.pending = s.pending ∧
    t.lk.jobs = s.lk.jobs ∧ t.lk.sync = s.lk.sync ∧ ∀ j, j ≠ r.val → t.region j = s.region j) ∧
  (∀ (s t : State), s.lk.ring.again = false → exec .springEdge s = .next t →
    t.reg = s.reg ∧ ((∀ e ∈ s.vd.oe, e.2.gap = none) → t.ports = s.ports) ∧ s.out <:+ t.out ∧ t.free = s.free ∧ t.pending = s.pending ∧ t.lk.jobs = s.lk.jobs ∧
    t.lk.queues = s.lk.queues ∧ t.lk.sync.objs = s.lk.sync.objs ∧ t.lk.sync.waiters = s.lk.sync.waiters)
end

