-- ==== Sys2Proof/Laws/Maps.lean ====
section
/-! SUPPORT. The laws of the sparse tables: read after write, and the canonical form kept by a write. -/

namespace Sys2Proof.Machine

theorem smInsert_mem {α : Type} (k : Nat) (v : α) (m : List (Nat × α)) (e : Nat × α) :
    e ∈ smInsert k v m ↔ e = (k, v) ∨ e ∈ m := by
  induction m with
  | nil => simp [smInsert]
  | cons a m ih =>
    unfold smInsert
    split
    · simp
    · simp only [List.mem_cons, ih]; tauto

theorem smInsert_sorted {α : Type} (k : Nat) (v : α) (m : List (Nat × α))
    (h : (m.map Prod.fst).Pairwise (· < ·)) (hk : ∀ e ∈ m, e.1 ≠ k) :
    ((smInsert k v m).map Prod.fst).Pairwise (· < ·) := by
  induction m with
  | nil => simp [smInsert]
  | cons a m ih =>
    simp only [List.map_cons, List.pairwise_cons, List.mem_map, forall_exists_index, and_imp, forall_apply_eq_imp_iff₂] at h
    have ha := hk a (by simp)
    unfold smInsert
    split
    · rename_i hlt
      simp only [List.map_cons, List.pairwise_cons, List.mem_cons, List.mem_map, forall_eq_or_imp, forall_exists_index, and_imp,
        forall_apply_eq_imp_iff₂]
      exact ⟨⟨hlt, fun e he => Nat.lt_trans hlt (h.1 e he)⟩, h.1, h.2⟩
    · rename_i hlt
      simp only [List.map_cons, List.pairwise_cons, List.mem_map, forall_exists_index, and_imp, forall_apply_eq_imp_iff₂]
      refine ⟨fun e he => ?_, ih h.2 fun e he => hk e (by simp [he])⟩
      rcases (smInsert_mem k v m e).1 he with rfl | he
      · show a.1 < k; omega
      · exact h.1 e he

theorem smWf_filter {α : Type} [DecidableEq α] (d : α) (m : List (Nat × α)) (p : Nat × α → Bool) (h : smWf d m = true) :
    smWf d (m.filter p) = true := by
  simp only [smWf, Bool.and_eq_true, decide_eq_true_eq, List.all_eq_true] at h ⊢
  exact ⟨h.1.sublist (List.filter_sublist.map _), fun e he => h.2 e (List.mem_of_mem_filter he)⟩

/-- A write keeps the canonical form. -/
theorem smPut_wf {α : Type} [DecidableEq α] (d : α) (m : List (Nat × α)) (k : Nat) (v : α) (h : smWf d m = true) :
    smWf d (smPut d m k v) = true := by
  unfold smPut
  split
  · exact smWf_filter d m _ h
  · rename_i hv
    have h := smWf_filter d m (fun e => e.1 != k) h
    simp only [smWf, Bool.and_eq_true, decide_eq_true_eq, List.all_eq_true] at h ⊢
    refine ⟨smInsert_sorted k v _ h.1 fun e he => by simpa using List.of_mem_filter he, fun e he => ?_⟩
    rcases (smInsert_mem k v _ e).1 he with rfl | he
    · exact hv
    · exact h.2 e he

theorem smGet_smInsert_ne {α : Type} (d : α) (k : Nat) (v : α) (m : List (Nat × α)) (j : Nat) (h : j ≠ k) :
    smGet d (smInsert k v m) j = smGet d m j := by
  have hb : (k == j) = false := by simp; omega
  induction m with
  | nil => simp [smInsert, smGet, hb]
  | cons a m ih =>
    unfold smInsert
    split
    · simp [smGet, hb]
    · unfold smGet at ih ⊢
      simp only [List.find?_cons]
      cases a.1 == j
      · exact ih
      · rfl

theorem smGet_smInsert_same {α : Type} (d : α) (k : Nat) (v : α) (m : List (Nat × α)) (h : ∀ e ∈ m, e.1 ≠ k) :
    smGet d (smInsert k v m) k = v := by
  induction m with
  | nil => simp [smInsert, smGet]
  | cons a m ih =>
    have ha : (a.1 == k) = false := by simpa using h a (by simp)
    unfold smInsert
    split
    · simp [smGet]
    · have := ih fun e he => h e (by simp [he])
      unfold smGet at this ⊢
      simpa [List.find?_cons, ha] using this

theorem smGet_filter_ne {α : Type} (d : α) (k : Nat) (m : List (Nat × α)) (j : Nat) (h : j ≠ k) :
    smGet d (m.filter (fun e => e.1 != k)) j = smGet d m j := by
  unfold smGet
  rw [List.find?_filter]
  congr 2
  funext e
  by_cases he : e.1 = j <;> simp [he, h]

theorem smGet_filter_same {α : Type} (d : α) (k : Nat) (m : List (Nat × α)) :
    smGet d (m.filter (fun e => e.1 != k)) k = d := by
  have : (m.filter (fun e => e.1 != k)).find? (fun e => e.1 == k) = none := by
    simp [List.find?_eq_none]
  simp [smGet, this]

/-- Read after write at the same key. -/
@[simp] theorem smGet_smPut_same {α : Type} [DecidableEq α] (d : α) (m : List (Nat × α)) (k : Nat) (v : α) :
    smGet d (smPut d m k v) k = v := by
  unfold smPut
  split
  · rename_i h; rw [h]; exact smGet_filter_same d k m
  · exact smGet_smInsert_same d k v _ fun e he => by simpa using List.of_mem_filter he

/-- A write leaves every other key alone. -/
theorem smGet_smPut_ne {α : Type} [DecidableEq α] (d : α) (m : List (Nat × α)) (k : Nat) (v : α) (j : Nat) (h : j ≠ k) :
    smGet d (smPut d m k v) j = smGet d m j := by
  unfold smPut
  split
  · exact smGet_filter_ne d k m j h
  · rw [smGet_smInsert_ne d k v _ j h]; exact smGet_filter_ne d k m j h

end Sys2Proof.Machine
end

