-- ==== Sys2Proof/Laws/Grows.lean ====
section
/-! SUPPORT. `State.Grows`: a preorder that every way of changing a state respects. -/

namespace Sys2Proof.Machine

open Sys2Proof

theorem State.Grows.rfl {b : State} : b.Grows b := ⟨id, .refl _, List.suffix_refl _, Nat.le_refl _⟩

theorem State.Grows.trans {a b c : State} (h : a.Grows b) (h' : b.Grows c) : a.Grows c :=
  ⟨h'.wf ∘ h.wf, h'.pending.trans h.pending, h.out.trans h'.out, h.free.trans h'.free⟩

/-- A change of anything but the register store, the ports, the outputs, the free values and the queue. -/
theorem mk_grows {b s : State} {l v l' v'} (h : b.Grows s) :
    b.Grows { reg := s.reg, lkPart := l, vdPart := v, lk := l', vd := v', ports := s.ports, out := s.out, free := s.free, pending := s.pending } :=
  ⟨h.wf, h.pending, h.out, h.free⟩

theorem filter_grows {b s : State} {p q l v l' v'} (h : b.Grows s) :
    b.Grows { reg := s.reg.filter p, lkPart := l, vdPart := v, lk := l', vd := v', ports := s.ports.filter q, out := s.out,
              free := s.free, pending := s.pending } :=
  ⟨fun hb => ⟨smWf_filter _ _ _ (h.wf hb).1, smWf_filter _ _ _ (h.wf hb).2⟩, h.pending, h.out, h.free⟩

theorem State.put_grows {b s : State} {f v} (h : b.Grows s) : b.Grows (s.put f v) :=
  ⟨fun hb => ⟨smPut_wf _ _ _ _ (h.wf hb).1, (h.wf hb).2⟩, h.pending, h.out, h.free⟩

theorem State.setPort_grows {b s : State} {p t} (h : b.Grows s) : b.Grows (s.setPort p t) :=
  ⟨fun hb => ⟨(h.wf hb).1, smPut_wf _ _ _ _ (h.wf hb).2⟩, h.pending, h.out, h.free⟩

theorem State.emit_grows {b s : State} {o} (h : b.Grows s) : b.Grows (s.emit o) :=
  ⟨h.wf, h.pending, h.out.trans (List.suffix_cons _ _), h.free⟩

theorem State.emits_grows {b s : State} {os} (h : b.Grows s) : b.Grows (s.emits os) :=
  ⟨h.wf, h.pending, h.out.trans (List.suffix_append _ _), h.free⟩

theorem State.drawn_grows {b s : State} (h : b.Grows s) : b.Grows s.drawn :=
  ⟨h.wf, h.pending, h.out, Nat.le_succ_of_le h.free⟩

theorem ite_grows {b s t : State} {c : Prop} [Decidable c] (h : b.Grows s) (h' : b.Grows t) : b.Grows (if c then s else t) := by
  split <;> assumption

theorem fst_ite_grows {α : Type} {b : State} {s t : State × α} {c : Prop} [Decidable c] (h : b.Grows s.1) (h' : b.Grows t.1) :
    b.Grows (if c then s else t).1 := by
  split <;> assumption

theorem foldl_grows {α : Type} {b s : State} {f : State → α → State} {l : List α} (h : b.Grows s)
    (hf : ∀ s x, b.Grows s → b.Grows (f s x)) : b.Grows (l.foldl f s) := by
  induction l generalizing s with
  | nil => exact h
  | cons x l ih => exact ih (hf s x h)

theorem fst_foldl_grows {α β : Type} {b : State} {p : State × β} {f : State × β → α → State × β} {l : List α} (h : b.Grows p.1)
    (hf : ∀ p x, b.Grows p.1 → b.Grows (f p x).1) : b.Grows (l.foldl f p).1 := by
  induction l generalizing p with
  | nil => exact h
  | cons x l ih => exact ih (hf p x h)

theorem State.doIf_grows {b s : State} {c : Bool} {f : State → State} (h : b.Grows s) (hf : ∀ s, b.Grows s → b.Grows (f s)) :
    b.Grows (s.doIf c f) := by
  unfold State.doIf; split
  · exact hf s h
  · exact h

theorem repeatN_grows {b s : State} {f : State → State} {k : Nat} (h : b.Grows s) (hf : ∀ s, b.Grows s → b.Grows (f s)) :
    b.Grows (repeatN f k s) := by
  induction k generalizing s with
  | zero => exact h
  | succ k ih => exact ih (hf s h)

theorem ite_safe {b : State} {r r' : Host.Outcome State Fault Refusal} {c : Prop} [Decidable c] (h : Safe b r) (h' : Safe b r') :
    Safe b (if c then r else r') := by
  split <;> assumption

theorem next_safe {b s : State} (h : b.Grows s) : Safe b (.next s) := ⟨s, rfl, h⟩

end Sys2Proof.Machine
end

