-- ==== Sys2Proof/Laws/GrowsOps.lean ====
section
/-! SUPPORT. Every operation and meaning of Machine/Ops.lean grows the state it is given: one lemma each. -/

namespace Sys2Proof.Machine

open Sys2Proof

theorem State.putS_grows {b₀ : State} {s : State} {f : Field} {v : Int} (h0 : b₀.Grows s) : b₀.Grows (State.putS s f v) := by
  delta State.putS
  with_reducible repeat' first
    | assumption | apply State.put_grows

theorem State.putSat_grows {b₀ : State} {s : State} {f : Field} {v : Nat} (h0 : b₀.Grows s) : b₀.Grows (State.putSat s f v) := by
  delta State.putSat
  with_reducible repeat' first
    | assumption | apply State.put_grows

theorem State.putSSat_grows {b₀ : State} {s : State} {f : Field} {v : Int} (h0 : b₀.Grows s) :
    b₀.Grows (State.putSSat s f v) := by
  delta State.putSSat
  with_reducible repeat' first
    | assumption | apply State.putS_grows

theorem State.putB_grows {b₀ : State} {s : State} {f : Field} {b : Bool} (h0 : b₀.Grows s) : b₀.Grows (State.putB s f b) := by
  delta State.putB
  with_reducible repeat' first
    | assumption | apply State.put_grows

theorem State.bump_grows {b₀ : State} {s : State} {f : Field} (h0 : b₀.Grows s) : b₀.Grows (State.bump s f) := by
  delta State.bump
  with_reducible repeat' first
    | assumption | apply State.put_grows

theorem State.bumpSat_grows {b₀ : State} {s : State} {f : Field} {n : Nat} (h0 : b₀.Grows s) :
    b₀.Grows (State.bumpSat s f n) := by
  delta State.bumpSat
  with_reducible repeat' first
    | assumption | apply State.putSat_grows

theorem State.setPart_grows {b₀ : State} {s : State} {d : Dev} {p : Part} (h0 : b₀.Grows s) : b₀.Grows (State.setPart s d p) := by
  delta State.setPart
  with_reducible repeat' first
    | assumption | fail_if_no_progress apply mk_grows | split

theorem State.setClk_grows {b₀ : State} {s : State} {d : Dev} {c : Clock} (h0 : b₀.Grows s) : b₀.Grows (State.setClk s d c) := by
  delta State.setClk
  with_reducible repeat' first
    | assumption | apply State.setPart_grows

theorem State.setLog_grows {b₀ : State} {s : State} {d : Dev} {l : Log} (h0 : b₀.Grows s) : b₀.Grows (State.setLog s d l) := by
  delta State.setLog
  with_reducible repeat' first
    | assumption | apply State.setPart_grows

theorem State.setRing_grows {b₀ : State} {s : State} {r : Ring} (h0 : b₀.Grows s) : b₀.Grows (State.setRing s r) := by
  delta State.setRing
  with_reducible repeat' first
    | assumption | fail_if_no_progress apply mk_grows

theorem State.setHop_grows {b₀ : State} {s : State} {p : RingPort} {h : Hop} (h0 : b₀.Grows s) :
    b₀.Grows (State.setHop s p h) := by
  delta State.setHop
  with_reducible repeat' first
    | assumption | apply State.setRing_grows | fail_if_no_progress apply mk_grows | split

theorem State.setRefs_grows {b₀ : State} {s : State} {r : Refs} (h0 : b₀.Grows s) : b₀.Grows (State.setRefs s r) := by
  delta State.setRefs
  with_reducible repeat' first
    | assumption | fail_if_no_progress apply mk_grows

theorem State.emitIf_grows {b₀ : State} {s : State} {b : Bool} {o : Out} (h0 : b₀.Grows s) : b₀.Grows (State.emitIf s b o) := by
  delta State.emitIf
  with_reducible repeat' first
    | assumption | apply State.emit_grows | apply ite_grows

theorem State.putFree_grows {b₀ : State} {s : State} {fs : List Field} (h0 : b₀.Grows s) : b₀.Grows (State.putFree s fs) := by
  delta State.putFree
  repeat' first
    | with_reducible assumption | intro _ | with_reducible apply State.put_grows
    | with_reducible apply State.drawn_grows | with_reducible apply foldl_grows

theorem State.settle_grows {b₀ : State} {s : State} (h0 : b₀.Grows s) : b₀.Grows (State.settle s) := by
  delta State.settle
  with_reducible repeat' first
    | assumption
    | ((try lift_lets -underBinder); intro x; first | (refine (have _ : b₀.Grows x := ?_; ?_); (on_goal 2 => clear_value x); (on_goal 1 => dsimp only [x]; clear x)) | clear_value x)
    | apply State.emits_grows | fail_if_no_progress apply mk_grows

theorem State.setOe_grows {b₀ : State} {s : State} {e : Nat} {x : Oe} (h0 : b₀.Grows s) : b₀.Grows (State.setOe s e x) := by
  delta State.setOe
  with_reducible repeat' first
    | assumption | fail_if_no_progress apply mk_grows

theorem done_grows {b₀ : State} {s : State} (h0 : b₀.Grows s) : Safe b₀ (done s) := by
  delta done
  with_reducible repeat' first
    | assumption | apply State.settle_grows | apply ite_safe | apply next_safe

end Sys2Proof.Machine
end

