-- ==== Sys2Proof/Laws/GrowsWire.lean ====
section
/-! SUPPORT. Every operation and meaning of Machine/Wire.lean grows the state it is given: one lemma each. -/

namespace Sys2Proof.Machine

open Sys2Proof

theorem State.putFrame_grows {b₀ : State} {s : State} {o : Out} (h0 : b₀.Grows s) : b₀.Grows (State.putFrame s o) := by
  delta State.putFrame
  with_reducible repeat' first
    | assumption
    | ((try lift_lets -underBinder); intro x; first | (refine (have _ : b₀.Grows x := ?_; ?_); (on_goal 2 => clear_value x); (on_goal 1 => dsimp only [x]; clear x)) | clear_value x)
    | apply State.setPort_grows | apply State.emit_grows | fail_if_no_progress apply mk_grows | split

theorem State.emitFrame_grows {b₀ : State} {s : State} {o : Out} (h0 : b₀.Grows s) : b₀.Grows (State.emitFrame s o) := by
  delta State.emitFrame
  with_reducible repeat' first
    | assumption | apply State.setPort_grows | apply State.putFrame_grows | fail_if_no_progress apply mk_grows
    | apply ite_grows | split

theorem State.emitFrameIf_grows {b₀ : State} {s : State} {b : Bool} {o : Out} (h0 : b₀.Grows s) :
    b₀.Grows (State.emitFrameIf s b o) := by
  delta State.emitFrameIf
  with_reducible repeat' first
    | assumption | apply State.emitFrame_grows | apply ite_grows

theorem State.ringFrame_grows {b₀ : State} {s : State} {r : RingPort} {dst : BitVec 6} {o : Out} (h0 : b₀.Grows s) :
    b₀.Grows (State.ringFrame s r dst o) := by
  delta State.ringFrame
  with_reducible repeat' first
    | assumption
    | ((try lift_lets -underBinder); intro x; first | (refine (have _ : b₀.Grows x := ?_; ?_); (on_goal 2 => clear_value x); (on_goal 1 => dsimp only [x]; clear x)) | clear_value x)
    | apply State.setHop_grows | apply State.emits_grows | apply State.emit_grows | fail_if_no_progress apply mk_grows
    | split

end Sys2Proof.Machine
end

