-- ==== Sys2Proof/Laws/GrowsTx.lean ====
section
/-! SUPPORT. Every operation and meaning of Machine/Tx.lean grows the state it is given: one lemma each. -/

namespace Sys2Proof.Machine

open Sys2Proof

theorem State.setTree_grows {b₀ : State} {s : State} {d : Dev} {t : Tree} (h0 : b₀.Grows s) : b₀.Grows (State.setTree s d t) := by
  delta State.setTree
  with_reducible repeat' first
    | assumption | apply State.setPart_grows

theorem State.showCred_grows {b₀ : State} {s : State} {p : PortId} (h0 : b₀.Grows s) : b₀.Grows (State.showCred s p) := by
  delta State.showCred
  with_reducible repeat' first
    | assumption | ((try lift_lets -underBinder); intro x; clear_value x) | apply State.put_grows | apply ite_grows

theorem State.showResv_grows {b₀ : State} {s : State} (h0 : b₀.Grows s) : b₀.Grows (State.showResv s) := by
  delta State.showResv
  with_reducible repeat' first
    | assumption | apply State.put_grows

theorem State.showTx_grows {b₀ : State} {s : State} {d : Dev} {peer : Nat} (h0 : b₀.Grows s) :
    b₀.Grows (State.showTx s d peer) := by
  delta State.showTx
  with_reducible repeat' first
    | assumption | apply State.showCred_grows | apply State.showResv_grows | apply ite_grows | split

theorem State.useCredit_grows {b₀ : State} {s : State} {d : Dev} {peer cls cells : Nat} (h0 : b₀.Grows s) :
    b₀.Grows (State.useCredit s d peer cls cells) := by
  delta State.useCredit
  with_reducible repeat' first
    | assumption | apply State.setTree_grows | fail_if_no_progress apply mk_grows | apply ite_grows

theorem State.ringTo_grows {b₀ : State} {s : State} {die : Nat} {o : Out} (h0 : b₀.Grows s) :
    b₀.Grows (State.ringTo s die o) := by
  delta State.ringTo
  with_reducible repeat' first
    | assumption
    | ((try lift_lets -underBinder); intro x; first | (refine (have _ : b₀.Grows x := ?_; ?_); (on_goal 2 => clear_value x); (on_goal 1 => dsimp only [x]; clear x)) | clear_value x)
    | apply State.ringFrame_grows | apply State.setRing_grows | apply State.emit_grows
    | fail_if_no_progress apply mk_grows | apply ite_grows

theorem State.sendTo_grows {b₀ : State} {s : State} {peer : Nat} {o : Out} (h0 : b₀.Grows s) :
    b₀.Grows (State.sendTo s peer o) := by
  delta State.sendTo
  with_reducible repeat' first
    | assumption | apply State.ringTo_grows | apply State.emitFrame_grows | apply ite_grows

theorem State.transmit_grows {b₀ : State} {s : State} {d : Dev} {peer cls cells : Nat} {o : Out} (h0 : b₀.Grows s) :
    b₀.Grows (State.transmit s d peer cls cells o) := by
  delta State.transmit
  with_reducible repeat' first
    | assumption | ((try lift_lets -underBinder); intro x; clear_value x) | apply State.useCredit_grows
    | apply State.sendTo_grows | apply State.showTx_grows | apply State.setTree_grows
    | fail_if_no_progress apply mk_grows | apply ite_grows

theorem State.drainTx_grows {b₀ : State} {s : State} {d : Dev} {peer : Nat} {x₀ : Nat} (h0 : b₀.Grows s) :
    b₀.Grows (State.drainTx s d peer x₀) := by
  induction x₀ generalizing s with
  | zero => unfold State.drainTx; with_reducible repeat' first
    | assumption
    | ((try lift_lets -underBinder); intro x; first | (refine (have _ : b₀.Grows x := ?_; ?_); (on_goal 2 => clear_value x); (on_goal 1 => dsimp only [x]; clear x)) | clear_value x)
  | succ n ih =>
    unfold State.drainTx
    with_reducible repeat' first
    | assumption
    | ((try lift_lets -underBinder); intro x; first | (refine (have _ : b₀.Grows x := ?_; ?_); (on_goal 2 => clear_value x); (on_goal 1 => dsimp only [x]; clear x)) | clear_value x)
    | apply ih | apply State.setTree_grows | apply State.useCredit_grows | apply State.sendTo_grows
    | fail_if_no_progress apply mk_grows | apply ite_grows | split

theorem State.giveCredit_grows {b₀ : State} {s : State} {d : Dev} {peer : Nat} {counts : List Nat} (h0 : b₀.Grows s) :
    b₀.Grows (State.giveCredit s d peer counts) := by
  delta State.giveCredit
  repeat' first
    | with_reducible assumption | (intro x; fail_if_success clear_value x)
    | ((try lift_lets -underBinder); intro x; first | (refine (have _ : b₀.Grows x := ?_; ?_); (on_goal 2 => clear_value x); (on_goal 1 => dsimp only [x]; clear x)) | (refine (have _ : b₀.Grows x.1 := ?_; ?_); (on_goal 2 => clear_value x); (on_goal 1 => dsimp only [x]; clear x)))
    | intro _ | with_reducible apply State.setTree_grows | with_reducible apply State.drainTx_grows
    | with_reducible apply State.showTx_grows | with_reducible fail_if_no_progress apply mk_grows
    | with_reducible apply foldl_grows

theorem State.resetCredit_grows {b₀ : State} {s : State} {d : Dev} {peer : Nat} (h0 : b₀.Grows s) :
    b₀.Grows (State.resetCredit s d peer) := by
  delta State.resetCredit
  with_reducible repeat' first
    | assumption | ((try lift_lets -underBinder); intro x; clear_value x) | apply State.setTree_grows
    | apply State.showTx_grows

theorem State.freshCredit_grows {b₀ : State} {s : State} {d : Dev} {peer : Nat} (h0 : b₀.Grows s) :
    b₀.Grows (State.freshCredit s d peer) := by
  delta State.freshCredit
  with_reducible repeat' first
    | assumption
    | ((try lift_lets -underBinder); intro x; first | (refine (have _ : b₀.Grows x := ?_; ?_); (on_goal 2 => clear_value x); (on_goal 1 => dsimp only [x]; clear x)) | clear_value x)
    | apply State.setTree_grows | apply State.drainTx_grows | apply State.showTx_grows

theorem State.releaseGaps_grows {b₀ : State} {s : State} (h0 : b₀.Grows s) : b₀.Grows (State.releaseGaps s) := by
  delta State.releaseGaps
  repeat' first
    | with_reducible assumption | (intro x; fail_if_success clear_value x)
    | ((try lift_lets -underBinder); intro x; first | (refine (have _ : b₀.Grows x := ?_; ?_); (on_goal 2 => clear_value x); (on_goal 1 => dsimp only [x]; clear x)) | clear_value x)
    | intro _ | with_reducible apply State.setOe_grows | with_reducible apply State.setPort_grows
    | with_reducible apply State.putFrame_grows | with_reducible fail_if_no_progress apply mk_grows
    | with_reducible apply ite_grows | with_reducible apply fst_ite_grows | with_reducible apply foldl_grows
    | with_reducible apply fst_foldl_grows | split

theorem State.engine_grows {b₀ : State} {s : State} {cells : Nat} (h0 : b₀.Grows s) : b₀.Grows (State.engine s cells) := by
  delta State.engine
  with_reducible repeat' first
    | assumption
    | ((try lift_lets -underBinder); intro x; first | (refine (have _ : b₀.Grows x := ?_; ?_); (on_goal 2 => clear_value x); (on_goal 1 => dsimp only [x]; clear x)) | clear_value x)
    | apply State.setTree_grows | apply State.put_grows | fail_if_no_progress apply mk_grows | apply ite_grows

theorem State.showEngine_grows {b₀ : State} {s : State} (h0 : b₀.Grows s) : b₀.Grows (State.showEngine s) := by
  delta State.showEngine
  with_reducible repeat' first
    | assumption | ((try lift_lets -underBinder); intro x; clear_value x) | apply State.put_grows | apply ite_grows

end Sys2Proof.Machine
end

