-- ==== Sys2Proof/Laws/GrowsLog.lean ====
section
/-! SUPPORT. Every operation and meaning of Machine/Log.lean grows the state it is given: one lemma each. -/

namespace Sys2Proof.Machine

open Sys2Proof

theorem State.countLoss_grows {b₀ : State} {s : State} {d : Dev} {sev : Nat} (h0 : b₀.Grows s) :
    b₀.Grows (State.countLoss s d sev) := by
  delta State.countLoss
  with_reducible repeat' first
    | assumption | apply State.bumpSat_grows | apply ite_grows | split

theorem State.showLog_grows {b₀ : State} {s : State} {d : Dev} (h0 : b₀.Grows s) : b₀.Grows (State.showLog s d) := by
  delta State.showLog
  with_reducible repeat' first
    | assumption | ((try lift_lets -underBinder); intro x; clear_value x) | apply State.put_grows | split

theorem State.sendHealth_grows {b₀ : State} {s : State} {kind : Byte} {body : List Byte} (h0 : b₀.Grows s) :
    b₀.Grows (State.sendHealth s kind body) := by
  delta State.sendHealth
  repeat' first
    | with_reducible assumption | (intro x; fail_if_success clear_value x)
    | ((try lift_lets -underBinder); intro x; first | (refine (have _ : b₀.Grows x := ?_; ?_); (on_goal 2 => clear_value x); (on_goal 1 => dsimp only [x]; clear x)) | clear_value x)
    | intro _ | with_reducible apply State.transmit_grows | with_reducible apply ite_grows
    | with_reducible apply foldl_grows

theorem State.forward_grows {b₀ : State} {s : State} {e : LogEntry} (h0 : b₀.Grows s) : b₀.Grows (State.forward s e) := by
  delta State.forward
  with_reducible repeat' first
    | assumption | ((try lift_lets -underBinder); intro x; clear_value x) | apply State.bumpSat_grows
    | apply State.setLog_grows | apply State.sendHealth_grows | fail_if_no_progress apply mk_grows | apply ite_grows

theorem State.showSpill_grows {b₀ : State} {s : State} (h0 : b₀.Grows s) : b₀.Grows (State.showSpill s) := by
  delta State.showSpill
  with_reducible repeat' first
    | assumption | ((try lift_lets -underBinder); intro x; clear_value x) | apply State.putB_grows

theorem State.spillNext_grows {b₀ : State} {s : State} (h0 : b₀.Grows s) : b₀.Grows (State.spillNext s) := by
  delta State.spillNext
  repeat' first
    | with_reducible assumption | (intro x; fail_if_success clear_value x)
    | ((try lift_lets -underBinder); intro x; first | (refine (have _ : b₀.Grows x := ?_; ?_); (on_goal 2 => clear_value x); (on_goal 1 => dsimp only [x]; clear x)) | clear_value x)
    | intro _ | with_reducible apply State.showSpill_grows | with_reducible apply State.setLog_grows
    | with_reducible apply State.emit_grows | with_reducible fail_if_no_progress apply mk_grows
    | with_reducible apply ite_grows | with_reducible apply foldl_grows | split

theorem State.lossIrq_grows {b₀ : State} {s : State} {d : Dev} {l : Log} (h0 : b₀.Grows s) : b₀.Grows (State.lossIrq s d l) := by
  delta State.lossIrq
  with_reducible repeat' first
    | assumption | apply State.setLog_grows | apply State.showLog_grows | apply State.put_grows

theorem State.loseReport_grows {b₀ : State} {s : State} {d : Dev} {r : Report} (h0 : b₀.Grows s) :
    b₀.Grows (State.loseReport s d r) := by
  delta State.loseReport
  with_reducible repeat' first
    | assumption | apply State.setLog_grows | apply State.showLog_grows | apply State.countLoss_grows

theorem State.payLoss_grows {b₀ : State} {s : State} {d : Dev} (h0 : b₀.Grows s) : b₀.Grows (State.payLoss s d) := by
  delta State.payLoss
  with_reducible repeat' first
    | assumption
    | ((try lift_lets -underBinder); intro x; first | (refine (have _ : b₀.Grows x := ?_; ?_); (on_goal 2 => clear_value x); (on_goal 1 => dsimp only [x]; clear x)) | clear_value x)
    | apply State.lossIrq_grows | apply State.forward_grows | fail_if_no_progress apply mk_grows | apply ite_grows
    | split

theorem State.report_grows {b₀ : State} {s : State} {d : Dev} {r : Report} (h0 : b₀.Grows s) : b₀.Grows (State.report s d r) := by
  delta State.report
  with_reducible repeat' first
    | assumption
    | ((try lift_lets -underBinder); intro x; first | (refine (have _ : b₀.Grows x := ?_; ?_); (on_goal 2 => clear_value x); (on_goal 1 => dsimp only [x]; clear x)) | clear_value x)
    | apply State.setLog_grows | apply State.showLog_grows | apply State.loseReport_grows | apply State.payLoss_grows
    | apply State.forward_grows | apply State.spillNext_grows | fail_if_no_progress apply mk_grows | apply ite_grows
    | split

theorem State.nestLimit_grows {b₀ : State} {s : State} {d : Dev} {r : Report} (h0 : b₀.Grows s) :
    b₀.Grows (State.nestLimit s d r) := by
  delta State.nestLimit
  with_reducible repeat' first
    | assumption
    | ((try lift_lets -underBinder); intro x; (refine (have _ : b₀.Grows x := ?_; ?_); (on_goal 2 => clear_value x); (on_goal 1 => dsimp only [x]; clear x)))
    | apply State.report_grows | apply State.put_grows | fail_if_no_progress apply mk_grows | split

theorem State.logChange_grows {b₀ : State} {s : State} {d : Dev} {source : Nat} {f : Field} {sev : Nat} {depth : Nat} (h0 : b₀.Grows s) :
    b₀.Grows (State.logChange s d source f sev depth) := by
  delta State.logChange
  with_reducible repeat' first
    | assumption | apply State.report_grows

theorem State.logKind_grows {b₀ : State} {s : State} {d : Dev} {kind sev : Nat} {arg : List Byte} (h0 : b₀.Grows s) :
    b₀.Grows (State.logKind s d kind sev arg) := by
  delta State.logKind
  with_reducible repeat' first
    | assumption | apply State.report_grows

theorem State.logAccess_grows {b₀ : State} {s : State} {d : Dev} {off : Nat} {write : Bool} {size : Nat} (h0 : b₀.Grows s) :
    b₀.Grows (State.logAccess s d off write size) := by
  delta State.logAccess
  with_reducible repeat' first
    | assumption | apply State.logKind_grows

end Sys2Proof.Machine
end

