-- ==== Sys2Proof/Laws/GrowsCmd.lean ====
section
/-! SUPPORT. Every operation and meaning of Machine/Cmd.lean grows the state it is given: one lemma each. -/

namespace Sys2Proof.Machine

open Sys2Proof

theorem State.setCmd_grows {b₀ : State} {s : State} {d : Dev} {c : CmdPath} (h0 : b₀.Grows s) :
    b₀.Grows (State.setCmd s d c) := by
  delta State.setCmd
  with_reducible repeat' first
    | assumption | apply State.setPart_grows

theorem State.mboxDeliver_grows {b₀ : State} {s : State} {pkt : List Byte} (h0 : b₀.Grows s) :
    b₀.Grows (State.mboxDeliver s pkt) := by
  delta State.mboxDeliver
  repeat' first
    | with_reducible assumption | (intro x; fail_if_success clear_value x)
    | ((try lift_lets -underBinder); intro x; first | (refine (have _ : b₀.Grows x := ?_; ?_); (on_goal 2 => clear_value x); (on_goal 1 => dsimp only [x]; clear x)) | clear_value x)
    | intro _ | with_reducible apply State.put_grows | with_reducible apply foldl_grows

theorem State.cmdIrq_grows {b₀ : State} {s : State} {f : Field} {bit : Nat} (h0 : b₀.Grows s) :
    b₀.Grows (State.cmdIrq s f bit) := by
  delta State.cmdIrq
  with_reducible repeat' first
    | assumption | apply State.put_grows | apply State.emitIf_grows

theorem State.rspDeliver_grows {b₀ : State} {s : State} {pkt : List Byte} (h0 : b₀.Grows s) :
    b₀.Grows (State.rspDeliver s pkt) := by
  delta State.rspDeliver
  with_reducible repeat' first
    | assumption
    | ((try lift_lets -underBinder); intro x; first | (refine (have _ : b₀.Grows x := ?_; ?_); (on_goal 2 => clear_value x); (on_goal 1 => dsimp only [x]; clear x)) | clear_value x)
    | apply State.emit_grows | apply State.put_grows | apply State.cmdIrq_grows

theorem State.drainHost_grows {b₀ : State} {s : State} {d : Dev} {x₀ : Nat} (h0 : b₀.Grows s) :
    b₀.Grows (State.drainHost s d x₀) := by
  induction x₀ generalizing s with
  | zero => unfold State.drainHost; repeat' first
    | with_reducible assumption
    | ((try lift_lets -underBinder); intro x; first | (refine (have hf : ∀ a, b₀.Grows a → b₀.Grows (x a) := ?_; ?_); (on_goal 2 => clear_value x); (on_goal 1 => dsimp only [x]; clear x)) | (refine (have _ : b₀.Grows x := ?_; ?_); (on_goal 2 => clear_value x); (on_goal 1 => dsimp only [x]; clear x)) | clear_value x)
  | succ n ih =>
    unfold State.drainHost
    repeat' first
    | with_reducible assumption
    | ((try lift_lets -underBinder); intro x; first | (refine (have hf : ∀ a, b₀.Grows a → b₀.Grows (x a) := ?_; ?_); (on_goal 2 => clear_value x); (on_goal 1 => dsimp only [x]; clear x)) | (refine (have _ : b₀.Grows x := ?_; ?_); (on_goal 2 => clear_value x); (on_goal 1 => dsimp only [x]; clear x)) | clear_value x)
    | intro _ | with_reducible apply ih | with_reducible apply State.setCmd_grows
    | with_reducible apply State.mboxDeliver_grows | with_reducible apply State.put_grows
    | with_reducible apply State.rspDeliver_grows | with_reducible fail_if_no_progress apply mk_grows
    | with_reducible apply ite_grows | with_reducible apply hf | split

theorem State.toHost_grows {b₀ : State} {s : State} {d : Dev} {pkt : List Byte} (h0 : b₀.Grows s) :
    b₀.Grows (State.toHost s d pkt) := by
  delta State.toHost
  with_reducible repeat' first
    | assumption
    | ((try lift_lets -underBinder); intro x; first | (refine (have _ : b₀.Grows x := ?_; ?_); (on_goal 2 => clear_value x); (on_goal 1 => dsimp only [x]; clear x)) | clear_value x)
    | apply State.setCmd_grows | apply State.put_grows | apply State.drainHost_grows | apply State.cmdIrq_grows
    | fail_if_no_progress apply mk_grows | apply ite_grows | split

theorem State.sendFrag_grows {b₀ : State} {s : State} {d : Dev} {path : Path} {target : Nat} {f : Fragment} (h0 : b₀.Grows s) :
    b₀.Grows (State.sendFrag s d path target f) := by
  delta State.sendFrag
  with_reducible repeat' first
    | assumption | ((try lift_lets -underBinder); intro x; clear_value x) | apply State.transmit_grows
    | apply State.emit_grows | apply ite_grows | split

theorem State.sendPacket_grows {b₀ : State} {s : State} {d : Dev} {p : Packet} (h0 : b₀.Grows s) :
    b₀.Grows (State.sendPacket s d p) := by
  delta State.sendPacket
  repeat' first
    | with_reducible assumption | (intro x; fail_if_success clear_value x)
    | ((try lift_lets -underBinder); intro x; first | (refine (have _ : b₀.Grows x := ?_; ?_); (on_goal 2 => clear_value x); (on_goal 1 => dsimp only [x]; clear x)) | clear_value x)
    | intro _ | with_reducible apply State.toHost_grows | with_reducible apply State.setCmd_grows
    | with_reducible apply State.sendFrag_grows | with_reducible fail_if_no_progress apply mk_grows
    | with_reducible apply ite_grows | with_reducible apply foldl_grows | split

theorem State.setSession_grows {b₀ : State} {s : State} {d : Dev} {x : Session} (h0 : b₀.Grows s) :
    b₀.Grows (State.setSession s d x) := by
  delta State.setSession
  with_reducible repeat' first
    | assumption | apply State.setCmd_grows

theorem State.showSessions_grows {b₀ : State} {s : State} {d : Dev} (h0 : b₀.Grows s) : b₀.Grows (State.showSessions s d) := by
  delta State.showSessions
  with_reducible repeat' first
    | assumption | ((try lift_lets -underBinder); intro x; clear_value x) | apply State.put_grows

theorem State.endSessions_grows {b₀ : State} {s : State} {d : Dev} {bad : Session → Bool} (h0 : b₀.Grows s) :
    b₀.Grows (State.endSessions s d bad) := by
  delta State.endSessions
  with_reducible repeat' first
    | assumption | apply State.setCmd_grows | apply State.showSessions_grows

theorem State.sendAnswer_grows {b₀ : State} {s : State} {c : CmdCtx} {type : Nat} {opcode : Byte} {payload : List Byte} (h0 : b₀.Grows s) :
    b₀.Grows (State.sendAnswer s c type opcode payload) := by
  delta State.sendAnswer
  with_reducible repeat' first
    | assumption | ((try lift_lets -underBinder); intro x; clear_value x) | apply State.sendPacket_grows
    | apply State.endSessions_grows | apply State.setSession_grows | fail_if_no_progress apply mk_grows
    | apply ite_grows | split

theorem State.storeAnswer_grows {b₀ : State} {s : State} {c : CmdCtx} {a : Answer} (h0 : b₀.Grows s) :
    b₀.Grows (State.storeAnswer s c a) := by
  delta State.storeAnswer
  with_reducible repeat' first
    | assumption | apply State.setSession_grows | fail_if_no_progress apply mk_grows | split

theorem State.logCommand_grows {b₀ : State} {s : State} {c : CmdCtx} {opcode : Byte} {status : Nat} (h0 : b₀.Grows s) :
    b₀.Grows (State.logCommand s c opcode status) := by
  delta State.logCommand
  with_reducible repeat' first
    | assumption | apply State.report_grows

theorem State.answer_grows {b₀ : State} {s : State} {c : CmdCtx} {opcode : Byte} {status : Nat} {fields : List Byte} (h0 : b₀.Grows s) :
    b₀.Grows (State.answer s c opcode status fields) := by
  delta State.answer
  with_reducible repeat' first
    | assumption
    | ((try lift_lets -underBinder); intro x; first | (refine (have _ : b₀.Grows x := ?_; ?_); (on_goal 2 => clear_value x); (on_goal 1 => dsimp only [x]; clear x)) | clear_value x)
    | apply State.storeAnswer_grows | apply State.sendAnswer_grows | apply ite_grows

theorem State.accept_grows {b₀ : State} {s : State} {c : CmdCtx} {opcode : Byte} {tag : Nat} (h0 : b₀.Grows s) :
    b₀.Grows (State.accept s c opcode tag) := by
  delta State.accept
  with_reducible repeat' first
    | assumption
    | ((try lift_lets -underBinder); intro x; first | (refine (have _ : b₀.Grows x := ?_; ?_); (on_goal 2 => clear_value x); (on_goal 1 => dsimp only [x]; clear x)) | clear_value x)
    | apply State.storeAnswer_grows | apply State.setCmd_grows | apply State.setSession_grows
    | apply State.sendAnswer_grows | fail_if_no_progress apply mk_grows | apply ite_grows | split

theorem State.completeWork_grows {b₀ : State} {s : State} {w : Work} {status : Nat} {fields : List Byte} {log : Bool} (h0 : b₀.Grows s) :
    b₀.Grows (State.completeWork s w status fields log) := by
  delta State.completeWork
  repeat' first
    | with_reducible assumption | (intro x; fail_if_success clear_value x)
    | ((try lift_lets -underBinder); intro x; first | (refine (have _ : b₀.Grows x := ?_; ?_); (on_goal 2 => clear_value x); (on_goal 1 => dsimp only [x]; clear x)) | clear_value x)
    | intro _ | with_reducible apply State.setCmd_grows | with_reducible apply State.setSession_grows
    | with_reducible apply State.doIf_grows | with_reducible apply State.logCommand_grows
    | with_reducible apply State.sendAnswer_grows | with_reducible fail_if_no_progress apply mk_grows
    | with_reducible apply ite_grows | split

theorem State.complete_grows {b₀ : State} {s : State} {d : Dev} {opcode : Byte} {tag : Nat} {status : Nat} {fields : List Byte} {log : Bool} (h0 : b₀.Grows s) :
    b₀.Grows (State.complete s d opcode tag status fields log) := by
  delta State.complete
  repeat' first
    | with_reducible assumption | intro _ | with_reducible apply State.completeWork_grows
    | with_reducible apply foldl_grows

theorem State.endGroupSessions_grows {b₀ : State} {s : State} {gid gen : Nat} (h0 : b₀.Grows s) :
    b₀.Grows (State.endGroupSessions s gid gen) := by
  delta State.endGroupSessions
  with_reducible repeat' first
    | assumption | apply State.endSessions_grows

theorem State.notice_grows {b₀ : State} {s : State} {d : Dev} {h : PktHeader} {status : Nat} (h0 : b₀.Grows s) :
    b₀.Grows (State.notice s d h status) := by
  delta State.notice
  with_reducible repeat' first
    | assumption | ((try lift_lets -underBinder); intro x; clear_value x) | apply State.bumpSat_grows
    | apply State.sendPacket_grows

end Sys2Proof.Machine
end

