-- ==== Sys2Proof/Laws/GrowsJobOps.lean ====
section
/-! SUPPORT. Every operation and meaning of Machine/JobOps.lean grows the state it is given: one lemma each. -/

namespace Sys2Proof.Machine

open Sys2Proof

theorem State.setJobs_grows {b₀ : State} {s : State} {j : Jobs} (h0 : b₀.Grows s) : b₀.Grows (State.setJobs s j) := by
  delta State.setJobs
  with_reducible repeat' first
    | assumption | fail_if_no_progress apply mk_grows

theorem State.setSlot_grows {b₀ : State} {s : State} {i : Nat} {x : Slot} (h0 : b₀.Grows s) : b₀.Grows (State.setSlot s i x) := by
  delta State.setSlot
  with_reducible repeat' first
    | assumption | apply State.setJobs_grows

theorem State.setRun_grows {b₀ : State} {s : State} {i : Nat} {x : SlotRun} (h0 : b₀.Grows s) :
    b₀.Grows (State.setRun s i x) := by
  delta State.setRun
  with_reducible repeat' first
    | assumption | apply State.setJobs_grows

theorem State.showJob_grows {b₀ : State} {s : State} (h0 : b₀.Grows s) : b₀.Grows (State.showJob s) := by
  delta State.showJob
  with_reducible repeat' first
    | assumption
    | ((try lift_lets -underBinder); intro x; first | (refine (have _ : b₀.Grows x := ?_; ?_); (on_goal 2 => clear_value x); (on_goal 1 => dsimp only [x]; clear x)) | clear_value x)
    | apply State.put_grows | apply ite_grows | split

theorem State.slotGo_grows {b₀ : State} {s : State} {i st cause : Nat} (h0 : b₀.Grows s) :
    b₀.Grows (State.slotGo s i st cause) := by
  delta State.slotGo
  with_reducible repeat' first
    | assumption
    | ((try lift_lets -underBinder); intro x; first | (refine (have _ : b₀.Grows x := ?_; ?_); (on_goal 2 => clear_value x); (on_goal 1 => dsimp only [x]; clear x)) | clear_value x)
    | apply State.put_grows | apply State.logChange_grows | apply State.showJob_grows | apply ite_grows

theorem State.mailTo_grows {b₀ : State} {s : State} {m : Mail} (h0 : b₀.Grows s) : b₀.Grows (State.mailTo s m) := by
  delta State.mailTo
  with_reducible repeat' first
    | assumption | fail_if_no_progress apply mk_grows

theorem State.ringTree_grows {b₀ : State} {s : State} {die : Nat} {m : TreeMsg} (h0 : b₀.Grows s) :
    b₀.Grows (State.ringTree s die m) := by
  delta State.ringTree
  with_reducible repeat' first
    | assumption | apply State.transmit_grows

theorem State.sendUp_grows {b₀ : State} {s : State} {m : TreeMsg} (h0 : b₀.Grows s) : b₀.Grows (State.sendUp s m) := by
  delta State.sendUp
  repeat' first
    | with_reducible assumption | (intro x; fail_if_success clear_value x)
    | ((try lift_lets -underBinder); intro x; first | (refine (have _ : b₀.Grows x := ?_; ?_); (on_goal 2 => clear_value x); (on_goal 1 => dsimp only [x]; clear x)) | (refine (have _ : b₀.Grows x.1 := ?_; ?_); (on_goal 2 => clear_value x); (on_goal 1 => dsimp only [x]; clear x)))
    | intro _ | with_reducible apply State.ringTree_grows | with_reducible apply State.mailTo_grows
    | with_reducible apply ite_grows | with_reducible apply foldl_grows

theorem State.sendJobUp_grows {b₀ : State} {s : State} {m : JobMsg} (h0 : b₀.Grows s) : b₀.Grows (State.sendJobUp s m) := by
  delta State.sendJobUp
  with_reducible repeat' first
    | assumption | apply State.sendUp_grows

theorem State.jobAnswer_grows {b₀ : State} {s : State} {i kind status cseq : Nat} (h0 : b₀.Grows s) :
    b₀.Grows (State.jobAnswer s i kind status cseq) := by
  delta State.jobAnswer
  with_reducible repeat' first
    | assumption | apply State.sendJobUp_grows

theorem State.commitOk_grows {b₀ : State} {s : State} {i : Nat} (h0 : b₀.Grows s) : b₀.Grows (State.commitOk s i) := by
  delta State.commitOk
  with_reducible repeat' first
    | assumption
    | ((try lift_lets -underBinder); intro x; first | (refine (have _ : b₀.Grows x := ?_; ?_); (on_goal 2 => clear_value x); (on_goal 1 => dsimp only [x]; clear x)) | clear_value x)
    | apply State.setRun_grows | apply State.slotGo_grows | apply State.jobAnswer_grows

theorem State.releaseHeld_grows {b₀ : State} {s : State} {j : Nat} (h0 : b₀.Grows s) : b₀.Grows (State.releaseHeld s j) := by
  delta State.releaseHeld
  with_reducible repeat' first
    | assumption | apply State.commitOk_grows | apply ite_grows

theorem State.slotIdle_grows {b₀ : State} {s : State} {i cause : Nat} (h0 : b₀.Grows s) :
    b₀.Grows (State.slotIdle s i cause) := by
  delta State.slotIdle
  repeat' first
    | with_reducible assumption | (intro x; fail_if_success clear_value x)
    | ((try lift_lets -underBinder); intro x; (refine (have _ : b₀.Grows x := ?_; ?_); (on_goal 2 => clear_value x); (on_goal 1 => dsimp only [x]; clear x)))
    | intro _ | with_reducible apply State.put_grows | with_reducible apply State.doIf_grows
    | with_reducible apply State.complete_grows | with_reducible apply State.setSlot_grows
    | with_reducible apply State.setRun_grows | with_reducible apply State.slotGo_grows
    | with_reducible apply State.releaseHeld_grows | with_reducible apply ite_grows

theorem State.setTrain_grows {b₀ : State} {s : State} {o : Nat} {t : Train} (h0 : b₀.Grows s) :
    b₀.Grows (State.setTrain s o t) := by
  delta State.setTrain
  with_reducible repeat' first
    | assumption | fail_if_no_progress apply mk_grows

theorem State.cancelTrain_grows {b₀ : State} {s : State} {o : Nat} (h0 : b₀.Grows s) : b₀.Grows (State.cancelTrain s o) := by
  delta State.cancelTrain
  with_reducible repeat' first
    | assumption | apply State.setTrain_grows | apply State.put_grows

theorem State.cancelJobTrains_grows {b₀ : State} {s : State} (h0 : b₀.Grows s) : b₀.Grows (State.cancelJobTrains s) := by
  delta State.cancelJobTrains
  repeat' first
    | with_reducible assumption | intro _ | with_reducible apply State.cancelTrain_grows
    | with_reducible apply ite_grows | with_reducible apply foldl_grows

theorem State.skipTrains_grows {b₀ : State} {s : State} {t : Nat} (h0 : b₀.Grows s) : b₀.Grows (State.skipTrains s t) := by
  delta State.skipTrains
  repeat' first
    | with_reducible assumption | (intro x; fail_if_success clear_value x)
    | ((try lift_lets -underBinder); intro x; clear_value x) | intro _ | with_reducible apply State.cancelTrain_grows
    | with_reducible apply State.bumpSat_grows | with_reducible apply State.setTrain_grows
    | with_reducible fail_if_no_progress apply mk_grows | with_reducible apply ite_grows
    | with_reducible apply foldl_grows

theorem State.setCs_grows {b₀ : State} {s : State} {x : Steward} (h0 : b₀.Grows s) : b₀.Grows (State.setCs s x) := by
  delta State.setCs
  with_reducible repeat' first
    | assumption | fail_if_no_progress apply mk_grows

theorem State.showSched_grows {b₀ : State} {s : State} (h0 : b₀.Grows s) : b₀.Grows (State.showSched s) := by
  delta State.showSched
  with_reducible repeat' first
    | assumption
    | ((try lift_lets -underBinder); intro x; first | (refine (have _ : b₀.Grows x := ?_; ?_); (on_goal 2 => clear_value x); (on_goal 1 => dsimp only [x]; clear x)) | clear_value x)
    | apply State.put_grows | split

theorem State.schedule_grows {b₀ : State} {s : State} {c : Change} (h0 : b₀.Grows s) : b₀.Grows (State.schedule s c) := by
  delta State.schedule
  with_reducible repeat' first
    | assumption | apply State.setCs_grows | apply State.showSched_grows

theorem State.unschedule_grows {b₀ : State} {s : State} (h0 : b₀.Grows s) : b₀.Grows (State.unschedule s) := by
  delta State.unschedule
  with_reducible repeat' first
    | assumption | apply State.setCs_grows | apply State.showSched_grows

theorem State.startDrain_grows {b₀ : State} {s : State} {i cause : Nat} (h0 : b₀.Grows s) :
    b₀.Grows (State.startDrain s i cause) := by
  delta State.startDrain
  with_reducible repeat' first
    | assumption
    | ((try lift_lets -underBinder); intro x; first | (refine (have _ : b₀.Grows x := ?_; ?_); (on_goal 2 => clear_value x); (on_goal 1 => dsimp only [x]; clear x)) | clear_value x)
    | apply State.setSlot_grows | apply State.setRun_grows | apply State.put_grows | apply State.cancelJobTrains_grows
    | apply State.unschedule_grows | apply State.slotGo_grows | fail_if_no_progress apply mk_grows

theorem State.slotFault_grows {b₀ : State} {s : State} {i cause : Nat} (h0 : b₀.Grows s) :
    b₀.Grows (State.slotFault s i cause) := by
  delta State.slotFault
  with_reducible repeat' first
    | assumption
    | ((try lift_lets -underBinder); intro x; first | (refine (have _ : b₀.Grows x := ?_; ?_); (on_goal 2 => clear_value x); (on_goal 1 => dsimp only [x]; clear x)) | clear_value x)
    | apply State.setRun_grows | apply State.report_grows | apply State.nestLimit_grows | apply State.put_grows
    | apply State.sendJobUp_grows | apply State.jobAnswer_grows | apply State.logKind_grows
    | apply State.startDrain_grows | apply State.slotIdle_grows | fail_if_no_progress apply mk_grows | apply ite_grows

theorem State.faultActive_grows {b₀ : State} {s : State} {cause : Nat} (h0 : b₀.Grows s) :
    b₀.Grows (State.faultActive s cause) := by
  delta State.faultActive
  with_reducible repeat' first
    | assumption | apply State.slotFault_grows | split

theorem State.faultDiscont_grows {b₀ : State} {s : State} (h0 : b₀.Grows s) : b₀.Grows (State.faultDiscont s) := by
  delta State.faultDiscont
  repeat' first
    | with_reducible assumption | intro _ | with_reducible apply State.slotFault_grows
    | with_reducible apply ite_grows | with_reducible apply foldl_grows

theorem State.jobTimeState_grows {b₀ : State} {s : State} (h0 : b₀.Grows s) : b₀.Grows (State.jobTimeState s) := by
  delta State.jobTimeState
  with_reducible repeat' first
    | assumption | ((try lift_lets -underBinder); intro x; clear_value x) | apply State.slotFault_grows
    | apply ite_grows | split

theorem State.moveJob_grows {b₀ : State} {s : State} {i m t : Nat} (h0 : b₀.Grows s) : b₀.Grows (State.moveJob s i m t) := by
  delta State.moveJob
  with_reducible repeat' first
    | assumption | ((try lift_lets -underBinder); intro x; clear_value x) | apply State.setSlot_grows
    | apply State.setRun_grows

end Sys2Proof.Machine
end

