-- ==== Sys2Proof/Laws/GrowsTime.lean ====
section
/-! SUPPORT. Every operation and meaning of Machine/Time.lean grows the state it is given: one lemma each. -/

namespace Sys2Proof.Machine

open Sys2Proof

theorem State.markMeas_grows {b₀ : State} {s : State} (h0 : b₀.Grows s) : b₀.Grows (State.markMeas s) := by
  delta State.markMeas
  repeat' first
    | with_reducible assumption | (intro x; fail_if_success clear_value x)
    | ((try lift_lets -underBinder); intro x; first | (refine (have _ : b₀.Grows x := ?_; ?_); (on_goal 2 => clear_value x); (on_goal 1 => dsimp only [x]; clear x)) | clear_value x)
    | intro _ | with_reducible apply State.put_grows | with_reducible apply ite_grows
    | with_reducible apply foldl_grows

theorem State.showState_grows {b₀ : State} {s : State} {d : Dev} (h0 : b₀.Grows s) : b₀.Grows (State.showState s d) := by
  delta State.showState
  with_reducible repeat' first
    | assumption
    | ((try lift_lets -underBinder); intro x; first | (refine (have _ : b₀.Grows x := ?_; ?_); (on_goal 2 => clear_value x); (on_goal 1 => dsimp only [x]; clear x)) | clear_value x)
    | apply State.put_grows | apply State.putB_grows | apply State.logChange_grows | apply State.jobTimeState_grows
    | apply State.markMeas_grows | apply ite_grows | split

theorem State.realign_grows {b₀ : State} {s : State} (h0 : b₀.Grows s) : b₀.Grows (State.realign s) := by
  delta State.realign
  with_reducible repeat' first
    | assumption
    | ((try lift_lets -underBinder); intro x; first | (refine (have _ : b₀.Grows x := ?_; ?_); (on_goal 2 => clear_value x); (on_goal 1 => dsimp only [x]; clear x)) | clear_value x)
    | apply State.put_grows | apply State.setRefs_grows | fail_if_no_progress apply mk_grows | apply ite_grows | split

theorem State.setOwn_grows {b₀ : State} {s : State} {d : Dev} {st : Nat} (h0 : b₀.Grows s) : b₀.Grows (State.setOwn s d st) := by
  delta State.setOwn
  with_reducible repeat' first
    | assumption
    | ((try lift_lets -underBinder); intro x; first | (refine (have _ : b₀.Grows x := ?_; ?_); (on_goal 2 => clear_value x); (on_goal 1 => dsimp only [x]; clear x)) | clear_value x)
    | apply State.setClk_grows | apply State.showState_grows | apply State.doIf_grows | apply State.realign_grows

theorem State.setPpsOfs_grows {b₀ : State} {s : State} {v : Int} (h0 : b₀.Grows s) : b₀.Grows (State.setPpsOfs s v) := by
  delta State.setPpsOfs
  with_reducible repeat' first
    | assumption
    | ((try lift_lets -underBinder); intro x; first | (refine (have _ : b₀.Grows x := ?_; ?_); (on_goal 2 => clear_value x); (on_goal 1 => dsimp only [x]; clear x)) | clear_value x)
    | apply State.setRefs_grows | apply State.putSSat_grows | apply State.putB_grows

theorem State.shiftSpans_grows {b₀ : State} {s : State} {dev : Dev} {d : Int} (h0 : b₀.Grows s) :
    b₀.Grows (State.shiftSpans s dev d) := by
  delta State.shiftSpans
  with_reducible repeat' first
    | assumption
    | ((try lift_lets -underBinder); intro x; first | (refine (have _ : b₀.Grows x := ?_; ?_); (on_goal 2 => clear_value x); (on_goal 1 => dsimp only [x]; clear x)) | clear_value x)
    | apply State.setRefs_grows | fail_if_no_progress apply mk_grows | split

theorem State.stepTime_grows {b₀ : State} {s : State} {d : Dev} {t : Nat} (h0 : b₀.Grows s) :
    b₀.Grows (State.stepTime s d t) := by
  delta State.stepTime
  with_reducible repeat' first
    | assumption
    | ((try lift_lets -underBinder); intro x; first | (refine (have _ : b₀.Grows x := ?_; ?_); (on_goal 2 => clear_value x); (on_goal 1 => dsimp only [x]; clear x)) | clear_value x)
    | apply State.setClk_grows | apply State.shiftSpans_grows | apply State.logChange_grows
    | apply State.skipTrains_grows | apply State.faultDiscont_grows | apply State.setPpsOfs_grows
    | fail_if_no_progress apply mk_grows | apply ite_grows | split

theorem State.showEst_grows {b₀ : State} {s : State} {d : Dev} (h0 : b₀.Grows s) : b₀.Grows (State.showEst s d) := by
  delta State.showEst
  with_reducible repeat' first
    | assumption
    | ((try lift_lets -underBinder); intro x; first | (refine (have _ : b₀.Grows x := ?_; ?_); (on_goal 2 => clear_value x); (on_goal 1 => dsimp only [x]; clear x)) | clear_value x)
    | apply State.putSat_grows | apply State.put_grows | apply ite_grows | apply fst_ite_grows | split

theorem State.enterHoldover_grows {b₀ : State} {s : State} {d : Dev} (h0 : b₀.Grows s) : b₀.Grows (State.enterHoldover s d) := by
  delta State.enterHoldover
  with_reducible repeat' first
    | assumption | ((try lift_lets -underBinder); intro x; clear_value x) | apply State.drawn_grows
    | apply State.setClk_grows | apply State.showState_grows | apply State.showEst_grows

theorem State.loseParent_grows {b₀ : State} {s : State} {d : Dev} (h0 : b₀.Grows s) : b₀.Grows (State.loseParent s d) := by
  delta State.loseParent
  with_reducible repeat' first
    | assumption | ((try lift_lets -underBinder); intro x; clear_value x) | apply State.enterHoldover_grows
    | apply State.setOwn_grows | apply State.setClk_grows | apply State.showState_grows | apply ite_grows

theorem State.steer_grows {b₀ : State} {s : State} {d : Dev} {ofs : Int} (h0 : b₀.Grows s) : b₀.Grows (State.steer s d ofs) := by
  delta State.steer
  with_reducible repeat' first
    | assumption
    | ((try lift_lets -underBinder); intro x; first | (refine (have _ : b₀.Grows x := ?_; ?_); (on_goal 2 => clear_value x); (on_goal 1 => dsimp only [x]; clear x)) | clear_value x)
    | apply State.setClk_grows | apply State.putSSat_grows | fail_if_no_progress apply mk_grows | apply ite_grows
    | apply fst_ite_grows | split

theorem State.feedLoop_grows {b₀ : State} {s : State} {d : Dev} {ofs : Int} (h0 : b₀.Grows s) :
    b₀.Grows (State.feedLoop s d ofs) := by
  delta State.feedLoop
  with_reducible repeat' first
    | assumption | ((try lift_lets -underBinder); intro x; clear_value x) | apply State.setClk_grows
    | apply State.setOwn_grows | apply State.steer_grows | apply State.stepTime_grows | apply State.showEst_grows
    | apply State.showState_grows | fail_if_no_progress apply mk_grows | apply ite_grows

theorem State.tcWork_grows {b₀ : State} {s : State} (h0 : b₀.Grows s) : b₀.Grows (State.tcWork s) := by
  delta State.tcWork
  with_reducible repeat' first
    | assumption | fail_if_no_progress apply mk_grows

theorem State.logicWork_grows {b₀ : State} {s : State} (h0 : b₀.Grows s) : b₀.Grows (State.logicWork s) := by
  delta State.logicWork
  with_reducible repeat' first
    | assumption
    | ((try lift_lets -underBinder); intro x; first | (refine (have _ : b₀.Grows x := ?_; ?_); (on_goal 2 => clear_value x); (on_goal 1 => dsimp only [x]; clear x)) | clear_value x)
    | apply State.emit_grows | fail_if_no_progress apply mk_grows | apply ite_grows

theorem State.latch_grows {b₀ : State} {s : State} {d : Dev} {v : Word} (h0 : b₀.Grows s) : b₀.Grows (State.latch s d v) := by
  delta State.latch
  with_reducible repeat' first
    | assumption
    | ((try lift_lets -underBinder); intro x; first | (refine (have _ : b₀.Grows x := ?_; ?_); (on_goal 2 => clear_value x); (on_goal 1 => dsimp only [x]; clear x)) | clear_value x)
    | apply State.put_grows | apply State.doIf_grows | apply State.tcWork_grows | apply State.setClk_grows
    | fail_if_no_progress apply mk_grows | apply ite_grows

theorem State.stampDeferred_grows {b₀ : State} {s : State} (h0 : b₀.Grows s) : b₀.Grows (State.stampDeferred s) := by
  delta State.stampDeferred
  with_reducible repeat' first
    | assumption | ((try lift_lets -underBinder); intro x; clear_value x) | apply State.setClk_grows
    | fail_if_no_progress apply mk_grows | apply ite_grows

theorem State.wakeTc_grows {b₀ : State} {s : State} (h0 : b₀.Grows s) : b₀.Grows (State.wakeTc s) := by
  delta State.wakeTc
  with_reducible repeat' first
    | assumption
    | ((try lift_lets -underBinder); intro x; (refine (have _ : b₀.Grows x := ?_; ?_); (on_goal 2 => clear_value x); (on_goal 1 => dsimp only [x]; clear x)))
    | apply State.tcWork_grows | apply State.put_grows | apply State.bumpSat_grows | apply State.stampDeferred_grows
    | apply ite_grows

theorem State.ringSend_grows {b₀ : State} {s : State} {dst : BitVec 6} {b : RingBody} (h0 : b₀.Grows s) :
    b₀.Grows (State.ringSend s dst b) := by
  delta State.ringSend
  with_reducible repeat' first
    | assumption
    | ((try lift_lets -underBinder); intro x; (refine (have _ : b₀.Grows x := ?_; ?_); (on_goal 2 => clear_value x); (on_goal 1 => dsimp only [x]; clear x)))
    | apply State.emitIf_grows

theorem State.sendStatus_grows {b₀ : State} {s : State} (h0 : b₀.Grows s) : b₀.Grows (State.sendStatus s) := by
  delta State.sendStatus
  with_reducible repeat' first
    | assumption | apply State.ringSend_grows

theorem State.wakeLogic_grows {b₀ : State} {s : State} (h0 : b₀.Grows s) : b₀.Grows (State.wakeLogic s) := by
  delta State.wakeLogic
  with_reducible repeat' first
    | assumption
    | ((try lift_lets -underBinder); intro x; first | (refine (have _ : b₀.Grows x := ?_; ?_); (on_goal 2 => clear_value x); (on_goal 1 => dsimp only [x]; clear x)) | clear_value x)
    | apply State.logicWork_grows | apply State.put_grows | apply State.bumpSat_grows | apply State.emit_grows
    | apply State.sendStatus_grows | fail_if_no_progress apply mk_grows | apply ite_grows

theorem State.sleepLogic_grows {b₀ : State} {s : State} (h0 : b₀.Grows s) : b₀.Grows (State.sleepLogic s) := by
  delta State.sleepLogic
  with_reducible repeat' first
    | assumption | apply State.put_grows | apply State.sendStatus_grows

theorem State.hostReq_grows {b₀ : State} {s : State} {x₀ : Dev} (h0 : b₀.Grows s) : b₀.Grows (State.hostReq s x₀) := by
  delta State.hostReq
  with_reducible repeat' first
    | assumption | apply State.wakeLogic_grows | split

theorem State.atPort_grows {b₀ : State} {s : State} {f : State → State} (h0 : b₀.Grows s) (h1 : ∀ x0, b₀.Grows x0 → b₀.Grows (f x0)) :
    b₀.Grows (State.atPort s f) := by
  delta State.atPort
  with_reducible repeat' first
    | assumption | apply h1 | apply State.hostReq_grows | apply ite_grows

theorem State.viaBus_grows {b₀ : State} {s : State} {sp off : Nat} {f : State → State} (h0 : b₀.Grows s) (h1 : ∀ x0, b₀.Grows x0 → b₀.Grows (f x0)) :
    b₀.Grows (State.viaBus s sp off f) := by
  delta State.viaBus
  with_reducible repeat' first
    | assumption
    | ((try lift_lets -underBinder); intro x; (refine (have _ : b₀.Grows x := ?_; ?_); (on_goal 2 => clear_value x); (on_goal 1 => dsimp only [x]; clear x)))
    | apply h1 | apply State.hostReq_grows | apply State.logAccess_grows | apply ite_grows

theorem State.viaRead_grows {b₀ : State} {s : State} {sp off size : Nat} {f : State → State × Nat} (h0 : b₀.Grows s) (h1 : ∀ x0, b₀.Grows x0 → b₀.Grows (f x0).1) :
    b₀.Grows (State.viaRead s sp off size f) := by
  delta State.viaRead
  with_reducible repeat' first
    | assumption
    | ((try lift_lets -underBinder); intro x; (refine (have _ : b₀.Grows x := ?_; ?_); (on_goal 2 => clear_value x); (on_goal 1 => dsimp only [x]; clear x)))
    | apply h1 | apply State.hostReq_grows | apply State.logAccess_grows | apply State.emit_grows | apply ite_grows

theorem State.wakeAll_grows {b₀ : State} {s : State} (h0 : b₀.Grows s) : b₀.Grows (State.wakeAll s) := by
  delta State.wakeAll
  with_reducible repeat' first
    | assumption | apply State.wakeTc_grows | apply State.wakeLogic_grows

theorem State.capture_grows {b₀ : State} {s : State} {d : Dev} {bins : Nat} (h0 : b₀.Grows s) :
    b₀.Grows (State.capture s d bins) := by
  delta State.capture
  with_reducible repeat' first
    | assumption
    | ((try lift_lets -underBinder); intro x; first | (refine (have _ : b₀.Grows x := ?_; ?_); (on_goal 2 => clear_value x); (on_goal 1 => dsimp only [x]; clear x)) | clear_value x)
    | apply State.setClk_grows | apply State.put_grows | apply State.putB_grows | apply State.doIf_grows
    | apply State.tcWork_grows | fail_if_no_progress apply mk_grows | apply ite_grows

theorem State.showUncal_grows {b₀ : State} {s : State} {d : Dev} (h0 : b₀.Grows s) : b₀.Grows (State.showUncal s d) := by
  delta State.showUncal
  with_reducible repeat' first
    | assumption | apply State.put_grows | apply ite_grows | split

end Sys2Proof.Machine
end

