-- ==== Sys2Proof/Laws/GrowsMeasure.lean ====
section
/-! SUPPORT. Every operation and meaning of Machine/Measure.lean grows the state it is given: one lemma each. -/

namespace Sys2Proof.Machine

open Sys2Proof

theorem State.setMeas_grows {b₀ : State} {s : State} {c : Nat} {x : MeasCh} (h0 : b₀.Grows s) :
    b₀.Grows (State.setMeas s c x) := by
  delta State.setMeas
  with_reducible repeat' first
    | assumption | fail_if_no_progress apply mk_grows

theorem State.setMeasIn_grows {b₀ : State} {s : State} {c : Nat} {x : MeasIn} (h0 : b₀.Grows s) :
    b₀.Grows (State.setMeasIn s c x) := by
  delta State.setMeasIn
  with_reducible repeat' first
    | assumption | fail_if_no_progress apply mk_grows

theorem State.put2_grows {b₀ : State} {s : State} {lo hi : Field} {v : Nat} (h0 : b₀.Grows s) :
    b₀.Grows (State.put2 s lo hi v) := by
  delta State.put2
  with_reducible repeat' first
    | assumption | apply State.put_grows

theorem State.measEnd_grows {b₀ : State} {s : State} {c result : Nat} (h0 : b₀.Grows s) :
    b₀.Grows (State.measEnd s c result) := by
  delta State.measEnd
  with_reducible repeat' first
    | assumption
    | ((try lift_lets -underBinder); intro x; (refine (have _ : b₀.Grows x := ?_; ?_); (on_goal 2 => clear_value x); (on_goal 1 => dsimp only [x]; clear x)))
    | apply State.put_grows | apply State.setMeas_grows | apply State.complete_grows

theorem State.measClear_grows {b₀ : State} {s : State} {c : Nat} (h0 : b₀.Grows s) : b₀.Grows (State.measClear s c) := by
  delta State.measClear
  repeat' first
    | with_reducible assumption | intro _ | with_reducible apply State.put_grows | with_reducible apply foldl_grows

theorem State.measBegin_grows {b₀ : State} {s : State} {c : Nat} (h0 : b₀.Grows s) : b₀.Grows (State.measBegin s c) := by
  delta State.measBegin
  with_reducible repeat' first
    | assumption
    | ((try lift_lets -underBinder); intro x; first | (refine (have _ : b₀.Grows x := ?_; ?_); (on_goal 2 => clear_value x); (on_goal 1 => dsimp only [x]; clear x)) | clear_value x)
    | apply State.setMeas_grows | apply State.put_grows | apply State.markMeas_grows

theorem State.measStart_grows {b₀ : State} {s : State} {c sub : Nat} (h0 : b₀.Grows s) : b₀.Grows (State.measStart s c sub) := by
  delta State.measStart
  with_reducible repeat' first
    | assumption
    | ((try lift_lets -underBinder); intro x; first | (refine (have _ : b₀.Grows x := ?_; ?_); (on_goal 2 => clear_value x); (on_goal 1 => dsimp only [x]; clear x)) | clear_value x)
    | apply State.measClear_grows | apply State.put_grows | apply State.measEnd_grows | apply State.setMeas_grows
    | apply State.measBegin_grows | apply ite_grows

theorem State.measCtrl_grows {b₀ : State} {s : State} {c v : Nat} {sub : Nat} (h0 : b₀.Grows s) :
    b₀.Grows (State.measCtrl s c v sub) := by
  delta State.measCtrl
  with_reducible repeat' first
    | assumption
    | ((try lift_lets -underBinder); intro x; first | (refine (have _ : b₀.Grows x := ?_; ?_); (on_goal 2 => clear_value x); (on_goal 1 => dsimp only [x]; clear x)) | clear_value x)
    | apply State.put_grows | apply State.measEnd_grows | apply State.measStart_grows | apply ite_grows

theorem execMeasStart_grows {b₀ : State} {c : Fin 4} {v : Word} {s : State} (h0 : b₀.Grows s) :
    Safe b₀ (execMeasStart c v s) := by
  delta execMeasStart
  repeat' first
    | with_reducible assumption | intro _ | with_reducible apply done_grows | with_reducible apply State.viaBus_grows
    | with_reducible apply State.measCtrl_grows

theorem execMeasAbort_grows {b₀ : State} {c : Fin 4} {v : Word} {s : State} (h0 : b₀.Grows s) :
    Safe b₀ (execMeasAbort c v s) := by
  delta execMeasAbort
  repeat' first
    | with_reducible assumption | intro _ | with_reducible apply done_grows | with_reducible apply State.viaBus_grows
    | with_reducible apply State.measCtrl_grows

theorem execMeasStartInstant_grows {b₀ : State} {c : Fin 4} {s : State} (h0 : b₀.Grows s) :
    Safe b₀ (execMeasStartInstant c s) := by
  delta execMeasStartInstant
  with_reducible repeat' first
    | assumption | apply done_grows | apply State.measBegin_grows | apply ite_safe | apply next_safe | apply ite_grows

theorem State.measT0_grows {b₀ : State} {s : State} {c t : Nat} (h0 : b₀.Grows s) : b₀.Grows (State.measT0 s c t) := by
  delta State.measT0
  with_reducible repeat' first
    | assumption
    | ((try lift_lets -underBinder); intro x; first | (refine (have _ : b₀.Grows x := ?_; ?_); (on_goal 2 => clear_value x); (on_goal 1 => dsimp only [x]; clear x)) | clear_value x)
    | apply State.put_grows

theorem State.measStop_grows {b₀ : State} {s : State} {c t0 t : Nat} (h0 : b₀.Grows s) : b₀.Grows (State.measStop s c t0 t) := by
  delta State.measStop
  with_reducible repeat' first
    | assumption
    | ((try lift_lets -underBinder); intro x; first | (refine (have _ : b₀.Grows x := ?_; ?_); (on_goal 2 => clear_value x); (on_goal 1 => dsimp only [x]; clear x)) | clear_value x)
    | apply State.put_grows | apply State.put2_grows | apply State.markMeas_grows | apply State.measEnd_grows
    | apply ite_grows

theorem State.measLate_grows {b₀ : State} {s : State} {c : Nat} (h0 : b₀.Grows s) : b₀.Grows (State.measLate s c) := by
  delta State.measLate
  with_reducible repeat' first
    | assumption | apply State.put_grows | apply State.measEnd_grows

theorem State.measOpen_grows {b₀ : State} {s : State} {c t : Nat} (h0 : b₀.Grows s) : b₀.Grows (State.measOpen s c t) := by
  delta State.measOpen
  repeat' first
    | with_reducible assumption | intro _ | with_reducible apply State.doIf_grows
    | with_reducible apply State.measBegin_grows

theorem State.measOwn_grows {b₀ : State} {s : State} {c : Nat} {falling : Bool} {t : Nat} (h0 : b₀.Grows s) :
    b₀.Grows (State.measOwn s c falling t) := by
  delta State.measOwn
  with_reducible repeat' first
    | assumption
    | ((try lift_lets -underBinder); intro x; first | (refine (have _ : b₀.Grows x := ?_; ?_); (on_goal 2 => clear_value x); (on_goal 1 => dsimp only [x]; clear x)) | clear_value x)
    | apply State.measOpen_grows | apply State.measLate_grows | apply State.setMeas_grows | apply State.measEnd_grows
    | apply State.measT0_grows | apply State.markMeas_grows | fail_if_no_progress apply mk_grows | apply ite_grows

theorem State.measTake_grows {b₀ : State} {s : State} {i : Nat} {falling : Bool} {t : Nat} (h0 : b₀.Grows s) :
    b₀.Grows (State.measTake s i falling t) := by
  delta State.measTake
  repeat' first
    | with_reducible assumption | (intro x; fail_if_success clear_value x)
    | ((try lift_lets -underBinder); intro x; first | (refine (have _ : b₀.Grows x := ?_; ?_); (on_goal 2 => clear_value x); (on_goal 1 => dsimp only [x]; clear x)) | clear_value x)
    | intro _ | with_reducible apply State.markMeas_grows | with_reducible apply State.measLate_grows
    | with_reducible apply State.measStop_grows | with_reducible apply State.measOwn_grows
    | with_reducible apply ite_grows | with_reducible apply foldl_grows | split

theorem execMeasEdge_grows {b₀ : State} {i : Fin 4} {falling : Bool} {bins : BitVec 12} {s : State} (h0 : b₀.Grows s) :
    Safe b₀ (execMeasEdge i falling bins s) := by
  delta execMeasEdge
  with_reducible repeat' first
    | assumption | ((try lift_lets -underBinder); intro x; clear_value x) | apply done_grows
    | apply State.measTake_grows

theorem execMeasTimeout_grows {b₀ : State} {c : Fin 4} {s : State} (h0 : b₀.Grows s) : Safe b₀ (execMeasTimeout c s) := by
  delta execMeasTimeout
  with_reducible repeat' first
    | assumption | ((try lift_lets -underBinder); intro x; clear_value x) | apply done_grows
    | apply State.measLate_grows | apply ite_safe | apply next_safe | apply ite_grows

theorem execMeasGateClose_grows {b₀ : State} {c : Fin 4} {s : State} (h0 : b₀.Grows s) : Safe b₀ (execMeasGateClose c s) := by
  delta execMeasGateClose
  with_reducible repeat' first
    | assumption
    | ((try lift_lets -underBinder); intro x; first | (refine (have _ : b₀.Grows x := ?_; ?_); (on_goal 2 => clear_value x); (on_goal 1 => dsimp only [x]; clear x)) | clear_value x)
    | apply done_grows | apply State.markMeas_grows | apply State.put_grows | apply State.measEnd_grows
    | apply State.setMeas_grows | apply ite_safe | apply next_safe | fail_if_no_progress apply mk_grows
    | apply ite_grows

theorem State.fitDone_grows {b₀ : State} {s : State} {c : Nat} (h0 : b₀.Grows s) : b₀.Grows (State.fitDone s c) := by
  delta State.fitDone
  with_reducible repeat' first
    | assumption | ((try lift_lets -underBinder); intro x; clear_value x) | apply State.put2_grows
    | apply State.putSat_grows | apply State.measEnd_grows

theorem execMeasFitDone_grows {b₀ : State} {c : Fin 4} {s : State} (h0 : b₀.Grows s) : Safe b₀ (execMeasFitDone c s) := by
  delta execMeasFitDone
  with_reducible repeat' first
    | assumption | ((try lift_lets -underBinder); intro x; clear_value x) | apply done_grows
    | apply State.fitDone_grows | apply ite_safe | apply next_safe | apply ite_grows

theorem State.measCalNow_grows {b₀ : State} {s : State} (h0 : b₀.Grows s) : b₀.Grows (State.measCalNow s) := by
  delta State.measCalNow
  repeat' first
    | with_reducible assumption | intro _ | with_reducible apply State.setMeasIn_grows
    | with_reducible fail_if_no_progress apply mk_grows | with_reducible apply foldl_grows

theorem execMeasCalNow_grows {b₀ : State} {s : State} (h0 : b₀.Grows s) : Safe b₀ (execMeasCalNow s) := by
  delta execMeasCalNow
  with_reducible repeat' first
    | assumption | apply State.viaBus_grows | apply State.measCalNow_grows | apply ite_safe | apply next_safe

theorem execMeasLaneCalDue_grows {b₀ : State} {i : Fin 4} {moved : Bool} {s : State} (h0 : b₀.Grows s) :
    Safe b₀ (execMeasLaneCalDue i moved s) := by
  delta execMeasLaneCalDue
  with_reducible repeat' first
    | assumption | ((try lift_lets -underBinder); intro x; clear_value x) | apply State.setMeasIn_grows
    | apply ite_safe | apply next_safe | fail_if_no_progress apply mk_grows | apply ite_grows

theorem State.laneDone_grows {b₀ : State} {s : State} {i : Fin 4} {x : MeasIn} (h0 : b₀.Grows s) :
    b₀.Grows (State.laneDone s i x) := by
  delta State.laneDone
  with_reducible repeat' first
    | assumption
    | ((try lift_lets -underBinder); intro x; first | (refine (have _ : b₀.Grows x := ?_; ?_); (on_goal 2 => clear_value x); (on_goal 1 => dsimp only [x]; clear x)) | clear_value x)
    | apply State.setMeasIn_grows | apply State.bump_grows | apply State.put_grows
    | fail_if_no_progress apply mk_grows | apply ite_grows

theorem execMeasLaneCalDone_grows {b₀ : State} {i : Fin 4} {s : State} (h0 : b₀.Grows s) : Safe b₀ (execMeasLaneCalDone i s) := by
  delta execMeasLaneCalDone
  with_reducible repeat' first
    | assumption | ((try lift_lets -underBinder); intro x; clear_value x) | apply State.laneDone_grows
    | apply ite_safe | apply next_safe | apply ite_grows

theorem State.measRun_grows {b₀ : State} {s : State} {c : CmdCtx} {n : Nat} {ctrl gate timeout : Word} {start : Packed} (h0 : b₀.Grows s) :
    b₀.Grows (State.measRun s c n ctrl gate timeout start) := by
  delta State.measRun
  with_reducible repeat' first
    | assumption
    | ((try lift_lets -underBinder); intro x; first | (refine (have _ : b₀.Grows x := ?_; ?_); (on_goal 2 => clear_value x); (on_goal 1 => dsimp only [x]; clear x)) | clear_value x)
    | apply State.put_grows | apply State.accept_grows | apply State.measCtrl_grows

theorem execMeasRun_grows {b₀ : State} {c : CmdCtx} {channel : Byte} {ctrl gate timeout : Word} {start : Packed} {s : State} (h0 : b₀.Grows s) :
    Safe b₀ (execMeasRun c channel ctrl gate timeout start s) := by
  delta execMeasRun
  with_reducible repeat' first
    | assumption | ((try lift_lets -underBinder); intro x; clear_value x) | apply done_grows
    | apply State.answer_grows | apply State.measRun_grows | apply ite_safe | apply next_safe | apply ite_grows

theorem State.setTrigIn_grows {b₀ : State} {s : State} {i : Nat} {x : TrigIn} (h0 : b₀.Grows s) :
    b₀.Grows (State.setTrigIn s i x) := by
  delta State.setTrigIn
  with_reducible repeat' first
    | assumption | apply State.put_grows | fail_if_no_progress apply mk_grows

theorem State.takeCaptures_grows {b₀ : State} {s : State} {i t : Nat} (h0 : b₀.Grows s) :
    b₀.Grows (State.takeCaptures s i t) := by
  delta State.takeCaptures
  repeat' first
    | with_reducible assumption | (intro x; fail_if_success clear_value x)
    | ((try lift_lets -underBinder); intro x; first | (refine (have _ : b₀.Grows x := ?_; ?_); (on_goal 2 => clear_value x); (on_goal 1 => dsimp only [x]; clear x)) | clear_value x)
    | intro _ | with_reducible apply State.logKind_grows | with_reducible fail_if_no_progress apply mk_grows
    | with_reducible apply foldl_grows

theorem State.trigStamp_grows {b₀ : State} {s : State} {i : Fin 2} {x : TrigIn} {t : Nat} (h0 : b₀.Grows s) :
    b₀.Grows (State.trigStamp s i x t) := by
  delta State.trigStamp
  with_reducible repeat' first
    | assumption
    | ((try lift_lets -underBinder); intro x; first | (refine (have _ : b₀.Grows x := ?_; ?_); (on_goal 2 => clear_value x); (on_goal 1 => dsimp only [x]; clear x)) | clear_value x)
    | apply State.emitIf_grows | apply State.takeCaptures_grows | apply State.setTrigIn_grows | apply State.put_grows
    | fail_if_no_progress apply mk_grows | apply ite_grows

theorem execTrigInEdge_grows {b₀ : State} {i : Fin 2} {falling : Bool} {bins : BitVec 12} {s : State} (h0 : b₀.Grows s) :
    Safe b₀ (execTrigInEdge i falling bins s) := by
  delta execTrigInEdge
  with_reducible repeat' first
    | assumption | ((try lift_lets -underBinder); intro x; clear_value x) | apply State.bumpSat_grows
    | apply State.trigStamp_grows | apply ite_safe | apply next_safe | fail_if_no_progress apply mk_grows
    | apply ite_grows

theorem State.trigInCtrl_grows {b₀ : State} {s : State} {i v : Nat} (h0 : b₀.Grows s) : b₀.Grows (State.trigInCtrl s i v) := by
  delta State.trigInCtrl
  with_reducible repeat' first
    | assumption
    | ((try lift_lets -underBinder); intro x; first | (refine (have _ : b₀.Grows x := ?_; ?_); (on_goal 2 => clear_value x); (on_goal 1 => dsimp only [x]; clear x)) | clear_value x)
    | apply State.put_grows | apply State.tcWork_grows | apply State.doIf_grows | apply State.wakeTc_grows

theorem State.trigPop_grows {b₀ : State} {s : State} {i : Nat} (h0 : b₀.Grows s) : b₀.Grows (State.trigPop s i) := by
  delta State.trigPop
  with_reducible repeat' first
    | assumption
    | ((try lift_lets -underBinder); intro x; first | (refine (have _ : b₀.Grows x := ?_; ?_); (on_goal 2 => clear_value x); (on_goal 1 => dsimp only [x]; clear x)) | clear_value x)
    | apply State.put_grows | apply State.setTrigIn_grows | apply State.putB_grows
    | fail_if_no_progress apply mk_grows | split

theorem execTrigPop_grows {b₀ : State} {i : Fin 2} {s : State} (h0 : b₀.Grows s) : Safe b₀ (execTrigPop i s) := by
  delta execTrigPop
  repeat' first
    | with_reducible assumption | intro _ | with_reducible apply State.viaBus_grows
    | with_reducible apply State.trigPop_grows | with_reducible apply ite_safe | with_reducible apply next_safe

theorem State.armTrain_grows {b₀ : State} {s : State} {o t width period : Nat} {byJob : Bool} (h0 : b₀.Grows s) :
    b₀.Grows (State.armTrain s o t width period byJob) := by
  delta State.armTrain
  with_reducible repeat' first
    | assumption
    | ((try lift_lets -underBinder); intro x; (refine (have _ : b₀.Grows x := ?_; ?_); (on_goal 2 => clear_value x); (on_goal 1 => dsimp only [x]; clear x)))
    | apply State.put_grows | apply State.setTrain_grows | apply ite_grows

theorem State.trigCtrl_grows {b₀ : State} {s : State} {o v : Nat} (h0 : b₀.Grows s) : b₀.Grows (State.trigCtrl s o v) := by
  delta State.trigCtrl
  with_reducible repeat' first
    | assumption
    | ((try lift_lets -underBinder); intro x; (refine (have _ : b₀.Grows x := ?_; ?_); (on_goal 2 => clear_value x); (on_goal 1 => dsimp only [x]; clear x)))
    | apply State.put_grows | apply State.cancelTrain_grows | apply State.armTrain_grows | apply ite_grows

theorem execTrigOutArm_grows {b₀ : State} {o : Fin 2} {v : Word} {s : State} (h0 : b₀.Grows s) :
    Safe b₀ (execTrigOutArm o v s) := by
  delta execTrigOutArm
  repeat' first
    | with_reducible assumption | intro _ | with_reducible apply State.viaBus_grows
    | with_reducible apply State.trigCtrl_grows | with_reducible apply ite_safe | with_reducible apply next_safe

theorem execTrigOutCancel_grows {b₀ : State} {o : Fin 2} {v : Word} {s : State} (h0 : b₀.Grows s) :
    Safe b₀ (execTrigOutCancel o v s) := by
  delta execTrigOutCancel
  repeat' first
    | with_reducible assumption | intro _ | with_reducible apply State.viaBus_grows
    | with_reducible apply State.trigCtrl_grows | with_reducible apply ite_safe | with_reducible apply next_safe

theorem State.trainNext_grows {b₀ : State} {s : State} {o : Nat} (h0 : b₀.Grows s) : b₀.Grows (State.trainNext s o) := by
  delta State.trainNext
  with_reducible repeat' first
    | assumption | ((try lift_lets -underBinder); intro x; clear_value x) | apply State.cancelTrain_grows
    | apply State.setTrain_grows | fail_if_no_progress apply mk_grows | apply ite_grows

theorem execTrigOutEdge_grows {b₀ : State} {o : Fin 2} {s : State} (h0 : b₀.Grows s) : Safe b₀ (execTrigOutEdge o s) := by
  delta execTrigOutEdge
  with_reducible repeat' first
    | assumption
    | ((try lift_lets -underBinder); intro x; first | (refine (have _ : b₀.Grows x := ?_; ?_); (on_goal 2 => clear_value x); (on_goal 1 => dsimp only [x]; clear x)) | clear_value x)
    | apply State.bumpSat_grows | apply State.trainNext_grows | apply State.setTrain_grows | apply State.wakeTc_grows
    | apply State.emitIf_grows | apply State.bump_grows | apply ite_safe | apply next_safe
    | fail_if_no_progress apply mk_grows | apply ite_grows

theorem State.trigArm_grows {b₀ : State} {s : State} {c : CmdCtx} {output polRoute : Byte} {at_ : Packed} {width period : BitVec 16} (h0 : b₀.Grows s) :
    b₀.Grows (State.trigArm s c output polRoute at_ width period) := by
  delta State.trigArm
  with_reducible repeat' first
    | assumption
    | ((try lift_lets -underBinder); intro x; first | (refine (have _ : b₀.Grows x := ?_; ?_); (on_goal 2 => clear_value x); (on_goal 1 => dsimp only [x]; clear x)) | clear_value x)
    | apply State.put_grows | apply State.armTrain_grows | apply State.answer_grows | apply State.logCommand_grows
    | apply ite_grows

theorem execTrigArm_grows {b₀ : State} {c : CmdCtx} {output polRoute : Byte} {at_ : Packed} {width period : BitVec 16} {s : State} (h0 : b₀.Grows s) :
    Safe b₀ (execTrigArm c output polRoute at_ width period s) := by
  delta execTrigArm
  with_reducible repeat' first
    | assumption | apply done_grows | apply State.answer_grows | apply State.trigArm_grows | apply ite_safe
    | apply next_safe | apply ite_grows

end Sys2Proof.Machine
end

