-- ==== Sys2Proof/Laws/GrowsSteward.lean ====
section
/-! SUPPORT. Every operation and meaning of Machine/Steward.lean grows the state it is given: one lemma each. -/

namespace Sys2Proof.Machine

open Sys2Proof

theorem State.setRegion_grows {b₀ : State} {s : State} {r : Nat} {x : Region} (h0 : b₀.Grows s) :
    b₀.Grows (State.setRegion s r x) := by
  delta State.setRegion
  with_reducible repeat' first
    | assumption | apply State.setCs_grows

theorem State.showGrid_grows {b₀ : State} {s : State} (h0 : b₀.Grows s) : b₀.Grows (State.showGrid s) := by
  delta State.showGrid
  with_reducible repeat' first
    | assumption | apply State.put_grows

theorem State.regGo_grows {b₀ : State} {s : State} {r st : Nat} (h0 : b₀.Grows s) : b₀.Grows (State.regGo s r st) := by
  delta State.regGo
  with_reducible repeat' first
    | assumption
    | ((try lift_lets -underBinder); intro x; first | (refine (have _ : b₀.Grows x := ?_; ?_); (on_goal 2 => clear_value x); (on_goal 1 => dsimp only [x]; clear x)) | clear_value x)
    | apply State.put_grows | apply State.showGrid_grows | apply State.emitIf_grows | apply State.logChange_grows
    | apply ite_grows

theorem State.toBaseOp_grows {b₀ : State} {s : State} (h0 : b₀.Grows s) : b₀.Grows (State.toBaseOp s) := by
  delta State.toBaseOp
  with_reducible repeat' first
    | assumption | ((try lift_lets -underBinder); intro x; clear_value x) | apply State.schedule_grows

theorem State.requestVolt_grows {b₀ : State} {s : State} {i : Nat} (h0 : b₀.Grows s) : b₀.Grows (State.requestVolt s i) := by
  delta State.requestVolt
  with_reducible repeat' first
    | assumption | apply State.setCs_grows | apply State.emit_grows

theorem State.countNominal_grows {b₀ : State} {s : State} (h0 : b₀.Grows s) : b₀.Grows (State.countNominal s) := by
  delta State.countNominal
  with_reducible repeat' first
    | assumption | ((try lift_lets -underBinder); intro x; clear_value x) | apply State.setCs_grows

theorem State.lose_grows {b₀ : State} {s : State} {r n : Nat} (h0 : b₀.Grows s) : b₀.Grows (State.lose s r n) := by
  delta State.lose
  with_reducible repeat' first
    | assumption | ((try lift_lets -underBinder); intro x; clear_value x) | apply State.setRegion_grows

theorem State.prepare_grows {b₀ : State} {s : State} {c : Change} {cs : List Change} (h0 : b₀.Grows s) :
    b₀.Grows (State.prepare s c cs) := by
  delta State.prepare
  with_reducible repeat' first
    | assumption
    | ((try lift_lets -underBinder); intro x; first | (refine (have _ : b₀.Grows x := ?_; ?_); (on_goal 2 => clear_value x); (on_goal 1 => dsimp only [x]; clear x)) | clear_value x)
    | apply State.setCs_grows | apply State.showSched_grows | apply State.requestVolt_grows
    | fail_if_no_progress apply mk_grows | apply ite_grows

theorem execOpSwitchPrepare_grows {b₀ : State} {s : State} (h0 : b₀.Grows s) : Safe b₀ (execOpSwitchPrepare s) := by
  delta execOpSwitchPrepare
  with_reducible repeat' first
    | assumption | apply State.prepare_grows | apply ite_safe | apply next_safe | apply ite_grows | split

theorem State.dropChange_grows {b₀ : State} {s : State} {cs : List Change} (h0 : b₀.Grows s) :
    b₀.Grows (State.dropChange s cs) := by
  delta State.dropChange
  with_reducible repeat' first
    | assumption
    | ((try lift_lets -underBinder); intro x; first | (refine (have _ : b₀.Grows x := ?_; ?_); (on_goal 2 => clear_value x); (on_goal 1 => dsimp only [x]; clear x)) | clear_value x)
    | apply State.setCs_grows | apply State.put_grows | apply State.showSched_grows | apply State.bumpSat_grows
    | apply State.logChange_grows | fail_if_no_progress apply mk_grows | apply ite_grows

theorem execOpSwitchCheck_grows {b₀ : State} {pgood lock : Bool} {s : State} (h0 : b₀.Grows s) :
    Safe b₀ (execOpSwitchCheck pgood lock s) := by
  delta execOpSwitchCheck
  with_reducible repeat' first
    | assumption | apply State.setCs_grows | apply State.dropChange_grows | apply ite_safe | apply next_safe
    | fail_if_no_progress apply mk_grows | apply ite_grows | split

theorem State.opSwitchTo_grows {b₀ : State} {s : State} {c : Change} {cs : List Change} (h0 : b₀.Grows s) :
    b₀.Grows (State.opSwitchTo s c cs) := by
  delta State.opSwitchTo
  repeat' first
    | with_reducible assumption | (intro x; fail_if_success clear_value x)
    | ((try lift_lets -underBinder); intro x; clear_value x) | intro _ | with_reducible apply State.put_grows
    | with_reducible apply State.putB_grows | with_reducible apply State.logChange_grows
    | with_reducible apply State.countNominal_grows | with_reducible apply State.setCs_grows
    | with_reducible apply State.showSched_grows | with_reducible apply State.lose_grows
    | with_reducible fail_if_no_progress apply mk_grows | with_reducible apply ite_grows
    | with_reducible apply foldl_grows | split

theorem execOpSwitch_grows {b₀ : State} {s : State} (h0 : b₀.Grows s) : Safe b₀ (execOpSwitch s) := by
  delta execOpSwitch
  with_reducible repeat' first
    | assumption | apply State.dropChange_grows | apply State.opSwitchTo_grows | apply ite_safe | apply next_safe
    | apply ite_grows | split

theorem State.opSwitchEnd_grows {b₀ : State} {s : State} (h0 : b₀.Grows s) : b₀.Grows (State.opSwitchEnd s) := by
  delta State.opSwitchEnd
  with_reducible repeat' first
    | assumption
    | ((try lift_lets -underBinder); intro x; first | (refine (have _ : b₀.Grows x := ?_; ?_); (on_goal 2 => clear_value x); (on_goal 1 => dsimp only [x]; clear x)) | clear_value x)
    | apply State.requestVolt_grows | apply State.setCs_grows | apply State.put_grows | apply State.bump_grows
    | fail_if_no_progress apply mk_grows | apply ite_grows

theorem execOpSwitchFinish_grows {b₀ : State} {s : State} (h0 : b₀.Grows s) : Safe b₀ (execOpSwitchFinish s) := by
  delta execOpSwitchFinish
  with_reducible repeat' first
    | assumption | apply State.opSwitchEnd_grows | apply ite_safe | apply next_safe | apply ite_grows | split

theorem State.droop_grows {b₀ : State} {s : State} {r : Nat} (h0 : b₀.Grows s) : b₀.Grows (State.droop s r) := by
  delta State.droop
  with_reducible repeat' first
    | assumption | ((try lift_lets -underBinder); intro x; clear_value x) | apply State.setRegion_grows
    | apply State.regGo_grows | fail_if_no_progress apply mk_grows | split

theorem execRegionDroop_grows {b₀ : State} {r : Fin 64} {s : State} (h0 : b₀.Grows s) : Safe b₀ (execRegionDroop r s) := by
  delta execRegionDroop
  with_reducible repeat' first
    | assumption | ((try lift_lets -underBinder); intro x; clear_value x) | apply State.setRegion_grows
    | apply State.droop_grows | apply ite_safe | apply next_safe | fail_if_no_progress apply mk_grows
    | apply ite_grows

theorem execRegionStretchRecover_grows {b₀ : State} {r : Fin 64} {s : State} (h0 : b₀.Grows s) :
    Safe b₀ (execRegionStretchRecover r s) := by
  delta execRegionStretchRecover
  with_reducible repeat' first
    | assumption | ((try lift_lets -underBinder); intro x; clear_value x) | apply State.setRegion_grows
    | apply ite_safe | apply next_safe | fail_if_no_progress apply mk_grows | apply ite_grows

theorem State.setCrossing_grows {b₀ : State} {s : State} {a b : Nat} {x : Crossing} (h0 : b₀.Grows s) :
    b₀.Grows (State.setCrossing s a b x) := by
  delta State.setCrossing
  with_reducible repeat' first
    | assumption | apply State.setCs_grows

theorem State.crossWrite_grows {b₀ : State} {s : State} {t a b : Nat} {v : BitVec 64} (h0 : b₀.Grows s) :
    b₀.Grows (State.crossWrite s t a b v) := by
  delta State.crossWrite
  with_reducible repeat' first
    | assumption | ((try lift_lets -underBinder); intro x; clear_value x) | apply State.bumpSat_grows
    | apply State.setCrossing_grows | fail_if_no_progress apply mk_grows | apply ite_grows

theorem State.crossRead_grows {b₀ : State} {s : State} {t a b : Nat} {take : Bool} (h0 : b₀.Grows s) :
    b₀.Grows (State.crossRead s t a b take) := by
  delta State.crossRead
  with_reducible repeat' first
    | assumption
    | ((try lift_lets -underBinder); intro x; first | (refine (have _ : b₀.Grows x := ?_; ?_); (on_goal 2 => clear_value x); (on_goal 1 => dsimp only [x]; clear x)) | clear_value x)
    | apply State.setCrossing_grows | apply State.emit_grows | fail_if_no_progress apply mk_grows | apply ite_grows
    | split

theorem State.fenceStop_grows {b₀ : State} {s : State} {r : Nat} (h0 : b₀.Grows s) : b₀.Grows (State.fenceStop s r) := by
  delta State.fenceStop
  with_reducible repeat' first
    | assumption
    | ((try lift_lets -underBinder); intro x; first | (refine (have _ : b₀.Grows x := ?_; ?_); (on_goal 2 => clear_value x); (on_goal 1 => dsimp only [x]; clear x)) | clear_value x)
    | apply State.put_grows | apply State.setRegion_grows | apply State.regGo_grows
    | fail_if_no_progress apply mk_grows | apply ite_grows

theorem State.markFenced_grows {b₀ : State} {s : State} {cores : List Nat} (h0 : b₀.Grows s) :
    b₀.Grows (State.markFenced s cores) := by
  delta State.markFenced
  repeat' first
    | with_reducible assumption | intro _ | with_reducible apply State.put_grows | with_reducible apply foldl_grows

theorem State.tellFence_grows {b₀ : State} {s : State} {cores : List Nat} (h0 : b₀.Grows s) :
    b₀.Grows (State.tellFence s cores) := by
  delta State.tellFence
  with_reducible repeat' first
    | assumption
    | ((try lift_lets -underBinder); intro x; first | (refine (have _ : b₀.Grows x := ?_; ?_); (on_goal 2 => clear_value x); (on_goal 1 => dsimp only [x]; clear x)) | (refine (have _ : b₀.Grows x.1 := ?_; ?_); (on_goal 2 => clear_value x); (on_goal 1 => dsimp only [x]; clear x)))
    | apply State.emit_grows | apply State.put_grows | apply State.logChange_grows

theorem State.fenceCores_grows {b₀ : State} {s : State} {cores : List Nat} (h0 : b₀.Grows s) :
    b₀.Grows (State.fenceCores s cores) := by
  delta State.fenceCores
  repeat' first
    | with_reducible assumption | (intro x; fail_if_success clear_value x)
    | ((try lift_lets -underBinder); intro x; first | (refine (have _ : b₀.Grows x := ?_; ?_); (on_goal 2 => clear_value x); (on_goal 1 => dsimp only [x]; clear x)) | clear_value x)
    | intro _ | with_reducible apply State.setRegion_grows | with_reducible apply State.markFenced_grows
    | with_reducible apply State.tellFence_grows | with_reducible fail_if_no_progress apply mk_grows
    | with_reducible apply ite_grows | with_reducible apply foldl_grows

theorem State.fenceRegion_grows {b₀ : State} {s : State} {r : Nat} (h0 : b₀.Grows s) : b₀.Grows (State.fenceRegion s r) := by
  delta State.fenceRegion
  with_reducible repeat' first
    | assumption | ((try lift_lets -underBinder); intro x; clear_value x) | apply State.setRegion_grows
    | apply State.markFenced_grows | apply State.tellFence_grows | fail_if_no_progress apply mk_grows
    | apply ite_grows

theorem State.enterLor_grows {b₀ : State} {s : State} {r : Nat} (h0 : b₀.Grows s) : b₀.Grows (State.enterLor s r) := by
  delta State.enterLor
  with_reducible repeat' first
    | assumption
    | ((try lift_lets -underBinder); intro x; first | (refine (have _ : b₀.Grows x := ?_; ?_); (on_goal 2 => clear_value x); (on_goal 1 => dsimp only [x]; clear x)) | clear_value x)
    | apply State.setRegion_grows | apply State.bumpSat_grows | apply State.put_grows | apply State.regGo_grows

theorem State.marginFault_grows {b₀ : State} {s : State} {r : Nat} (h0 : b₀.Grows s) : b₀.Grows (State.marginFault s r) := by
  delta State.marginFault
  with_reducible repeat' first
    | assumption
    | ((try lift_lets -underBinder); intro x; first | (refine (have _ : b₀.Grows x := ?_; ?_); (on_goal 2 => clear_value x); (on_goal 1 => dsimp only [x]; clear x)) | clear_value x)
    | apply State.put_grows | apply State.fenceRegion_grows | apply State.setRegion_grows
    | fail_if_no_progress apply mk_grows | apply ite_grows

theorem State.sinkInto_grows {b₀ : State} {s : State} {r : Nat} (h0 : b₀.Grows s) : b₀.Grows (State.sinkInto s r) := by
  delta State.sinkInto
  repeat' first
    | with_reducible assumption | (intro x; fail_if_success clear_value x)
    | ((try lift_lets -underBinder); intro x; first | (refine (have _ : b₀.Grows x := ?_; ?_); (on_goal 2 => clear_value x); (on_goal 1 => dsimp only [x]; clear x)) | (refine (have _ : b₀.Grows x.1 := ?_; ?_); (on_goal 2 => clear_value x); (on_goal 1 => dsimp only [x]; clear x)))
    | intro _ | with_reducible apply State.bumpSat_grows | with_reducible apply State.setCrossing_grows
    | with_reducible apply foldl_grows

theorem State.coreStage_grows {b₀ : State} {s : State} {r : Nat} (h0 : b₀.Grows s) : b₀.Grows (State.coreStage s r) := by
  delta State.coreStage
  with_reducible repeat' first
    | assumption
    | ((try lift_lets -underBinder); intro x; first | (refine (have _ : b₀.Grows x := ?_; ?_); (on_goal 2 => clear_value x); (on_goal 1 => dsimp only [x]; clear x)) | clear_value x)
    | apply State.setRegion_grows | apply State.emitIf_grows | apply State.sinkInto_grows
    | fail_if_no_progress apply mk_grows | apply ite_grows

theorem State.edgeStage_grows {b₀ : State} {s : State} {r : Nat} (h0 : b₀.Grows s) : b₀.Grows (State.edgeStage s r) := by
  delta State.edgeStage
  with_reducible repeat' first
    | assumption
    | ((try lift_lets -underBinder); intro x; first | (refine (have _ : b₀.Grows x := ?_; ?_); (on_goal 2 => clear_value x); (on_goal 1 => dsimp only [x]; clear x)) | clear_value x)
    | apply State.fenceStop_grows | apply State.setRegion_grows | apply State.sinkInto_grows
    | apply State.coreStage_grows | apply State.regGo_grows | apply State.fenceRegion_grows | apply State.put_grows
    | fail_if_no_progress apply mk_grows | apply ite_grows

theorem State.edgeCount_grows {b₀ : State} {s : State} {r : Nat} {t : Nat} {codes : Word} {writes : List (Fin 64 × BitVec 64)} {reads : List (Fin 64)} (h0 : b₀.Grows s) :
    b₀.Grows (State.edgeCount s r t codes writes reads) := by
  delta State.edgeCount
  repeat' first
    | with_reducible assumption | (intro x; fail_if_success clear_value x)
    | ((try lift_lets -underBinder); intro x; first | (refine (have _ : b₀.Grows x := ?_; ?_); (on_goal 2 => clear_value x); (on_goal 1 => dsimp only [x]; clear x)) | clear_value x)
    | intro _ | with_reducible apply State.setRegion_grows | with_reducible apply State.lose_grows
    | with_reducible apply State.put_grows | with_reducible apply State.crossRead_grows
    | with_reducible apply State.setCrossing_grows | with_reducible apply State.crossWrite_grows
    | with_reducible fail_if_no_progress apply mk_grows | with_reducible apply ite_grows
    | with_reducible apply fst_ite_grows | with_reducible apply foldl_grows

theorem execRegionClockEdge_grows {b₀ : State} {r : Fin 64} {t : Nat} {codes : Word} {writes : List (Fin 64 × BitVec 64)} {reads : List (Fin 64)} {s : State} (h0 : b₀.Grows s) :
    Safe b₀ (execRegionClockEdge r t codes writes reads s) := by
  delta execRegionClockEdge
  with_reducible repeat' first
    | assumption
    | ((try lift_lets -underBinder); intro x; (refine (have _ : b₀.Grows x := ?_; ?_); (on_goal 2 => clear_value x); (on_goal 1 => dsimp only [x]; clear x)))
    | apply State.edgeStage_grows | apply State.edgeCount_grows | apply ite_safe | apply next_safe | apply ite_grows

theorem State.marginErr_grows {b₀ : State} {s : State} {r : Nat} (h0 : b₀.Grows s) : b₀.Grows (State.marginErr s r) := by
  delta State.marginErr
  with_reducible repeat' first
    | assumption
    | ((try lift_lets -underBinder); intro x; first | (refine (have _ : b₀.Grows x := ?_; ?_); (on_goal 2 => clear_value x); (on_goal 1 => dsimp only [x]; clear x)) | clear_value x)
    | apply State.lose_grows | apply State.bumpSat_grows | apply State.setRegion_grows | apply State.marginFault_grows
    | fail_if_no_progress apply mk_grows | apply ite_grows

theorem execMarginErrorEdge_grows {b₀ : State} {r : Fin 64} {s : State} (h0 : b₀.Grows s) :
    Safe b₀ (execMarginErrorEdge r s) := by
  delta execMarginErrorEdge
  with_reducible repeat' first
    | assumption | apply State.marginErr_grows | apply ite_safe | apply next_safe | apply ite_grows

theorem execMarginLowSet_grows {b₀ : State} {r : Fin 64} {s : State} (h0 : b₀.Grows s) : Safe b₀ (execMarginLowSet r s) := by
  delta execMarginLowSet
  with_reducible repeat' first
    | assumption | apply State.put_grows | apply ite_safe | apply next_safe | apply ite_grows | split

theorem execRegionLor_grows {b₀ : State} {r : Fin 64} {s : State} (h0 : b₀.Grows s) : Safe b₀ (execRegionLor r s) := by
  delta execRegionLor
  with_reducible repeat' first
    | assumption | apply State.enterLor_grows | apply State.fenceRegion_grows | apply ite_safe | apply next_safe
    | apply ite_grows

theorem execGridPllLockLoss_grows {b₀ : State} {s : State} (h0 : b₀.Grows s) : Safe b₀ (execGridPllLockLoss s) := by
  delta execGridPllLockLoss
  repeat' first
    | with_reducible assumption | (intro x; fail_if_success clear_value x)
    | ((try lift_lets -underBinder); intro x; first | (refine (have _ : b₀.Grows x := ?_; ?_); (on_goal 2 => clear_value x); (on_goal 1 => dsimp only [x]; clear x)) | clear_value x)
    | intro _ | with_reducible apply State.countNominal_grows | with_reducible apply State.enterLor_grows
    | with_reducible apply State.setRegion_grows | with_reducible apply State.setCs_grows
    | with_reducible apply State.put_grows | with_reducible apply ite_safe | with_reducible apply next_safe
    | with_reducible fail_if_no_progress apply mk_grows | with_reducible apply ite_grows
    | with_reducible apply foldl_grows

theorem execLorReferenceValid_grows {b₀ : State} {r : Fin 64} {s : State} (h0 : b₀.Grows s) :
    Safe b₀ (execLorReferenceValid r s) := by
  delta execLorReferenceValid
  with_reducible repeat' first
    | assumption | ((try lift_lets -underBinder); intro x; clear_value x) | apply State.setRegion_grows
    | apply ite_safe | apply next_safe | fail_if_no_progress apply mk_grows | apply ite_grows

theorem execRegionRejoinTick_grows {b₀ : State} {r : Fin 64} {s : State} (h0 : b₀.Grows s) :
    Safe b₀ (execRegionRejoinTick r s) := by
  delta execRegionRejoinTick
  with_reducible repeat' first
    | assumption | ((try lift_lets -underBinder); intro x; clear_value x) | apply State.setRegion_grows
    | apply State.put_grows | apply State.regGo_grows | apply ite_safe | apply next_safe
    | fail_if_no_progress apply mk_grows | apply ite_grows | split

theorem State.fenceCoreWrite_grows {b₀ : State} {s : State} {core : Nat} (h0 : b₀.Grows s) :
    b₀.Grows (State.fenceCoreWrite s core) := by
  delta State.fenceCoreWrite
  with_reducible repeat' first
    | assumption
    | ((try lift_lets -underBinder); intro x; (refine (have _ : b₀.Grows x := ?_; ?_); (on_goal 2 => clear_value x); (on_goal 1 => dsimp only [x]; clear x)))
    | apply State.put_grows | apply State.fenceCores_grows | apply ite_grows

theorem State.fenceRegionWrite_grows {b₀ : State} {s : State} {core : Nat} (h0 : b₀.Grows s) :
    b₀.Grows (State.fenceRegionWrite s core) := by
  delta State.fenceRegionWrite
  with_reducible repeat' first
    | assumption
    | ((try lift_lets -underBinder); intro x; (refine (have _ : b₀.Grows x := ?_; ?_); (on_goal 2 => clear_value x); (on_goal 1 => dsimp only [x]; clear x)))
    | apply State.put_grows | apply State.fenceRegion_grows | apply ite_grows

theorem execFenceCore_grows {b₀ : State} {core : Byte} {s : State} (h0 : b₀.Grows s) : Safe b₀ (execFenceCore core s) := by
  delta execFenceCore
  repeat' first
    | with_reducible assumption | intro _ | with_reducible apply State.viaBus_grows
    | with_reducible apply State.fenceCoreWrite_grows | with_reducible apply ite_safe | with_reducible apply next_safe

theorem execFenceRegion_grows {b₀ : State} {core : Byte} {s : State} (h0 : b₀.Grows s) : Safe b₀ (execFenceRegion core s) := by
  delta execFenceRegion
  repeat' first
    | with_reducible assumption | intro _ | with_reducible apply State.viaBus_grows
    | with_reducible apply State.fenceRegionWrite_grows | with_reducible apply ite_safe
    | with_reducible apply next_safe

theorem State.captureRegion_grows {b₀ : State} {s : State} {r : Nat} (h0 : b₀.Grows s) : b₀.Grows (State.captureRegion s r) := by
  delta State.captureRegion
  with_reducible repeat' first
    | assumption
    | ((try lift_lets -underBinder); intro x; first | (refine (have _ : b₀.Grows x := ?_; ?_); (on_goal 2 => clear_value x); (on_goal 1 => dsimp only [x]; clear x)) | clear_value x)
    | apply State.put_grows

theorem execCsRegionCapture_grows {b₀ : State} {r : Fin 64} {s : State} (h0 : b₀.Grows s) :
    Safe b₀ (execCsRegionCapture r s) := by
  delta execCsRegionCapture
  repeat' first
    | with_reducible assumption | intro _ | with_reducible apply State.viaRead_grows
    | with_reducible apply State.captureRegion_grows | with_reducible apply ite_safe | with_reducible apply next_safe
    | with_reducible apply ite_grows | split

theorem State.ledgerMark_grows {b₀ : State} {s : State} {zero : Bool} (h0 : b₀.Grows s) : b₀.Grows (State.ledgerMark s zero) := by
  delta State.ledgerMark
  repeat' first
    | with_reducible assumption | (intro x; fail_if_success clear_value x)
    | ((try lift_lets -underBinder); intro x; first | (refine (have _ : b₀.Grows x := ?_; ?_); (on_goal 2 => clear_value x); (on_goal 1 => dsimp only [x]; clear x)) | clear_value x)
    | intro _ | with_reducible apply State.countNominal_grows | with_reducible apply State.setRegion_grows
    | with_reducible apply State.put_grows | with_reducible apply State.setCs_grows
    | with_reducible apply State.logKind_grows | with_reducible fail_if_no_progress apply mk_grows
    | with_reducible apply ite_grows | with_reducible apply foldl_grows

theorem execCsStatus_grows {b₀ : State} {c : CmdCtx} {s : State} (h0 : b₀.Grows s) : Safe b₀ (execCsStatus c s) := by
  delta execCsStatus
  with_reducible repeat' first
    | assumption | apply done_grows | apply State.answer_grows | apply ite_safe | apply next_safe | apply ite_grows

theorem State.csLedger_grows {b₀ : State} {s : State} {c : CmdCtx} {first regions : Byte} (h0 : b₀.Grows s) :
    b₀.Grows (State.csLedger s c first regions) := by
  delta State.csLedger
  with_reducible repeat' first
    | assumption
    | ((try lift_lets -underBinder); intro x; first | (refine (have _ : b₀.Grows x := ?_; ?_); (on_goal 2 => clear_value x); (on_goal 1 => dsimp only [x]; clear x)) | clear_value x)
    | apply State.captureRegion_grows | apply State.answer_grows | apply foldl_grows

theorem execCsLedger_grows {b₀ : State} {c : CmdCtx} {first regions : Byte} {s : State} (h0 : b₀.Grows s) :
    Safe b₀ (execCsLedger c first regions s) := by
  delta execCsLedger
  with_reducible repeat' first
    | assumption | apply done_grows | apply State.answer_grows | apply State.csLedger_grows | apply ite_safe
    | apply next_safe | apply ite_grows

theorem State.csFence_grows {b₀ : State} {s : State} {c : CmdCtx} {kind number : Byte} (h0 : b₀.Grows s) :
    b₀.Grows (State.csFence s c kind number) := by
  delta State.csFence
  with_reducible repeat' first
    | assumption
    | ((try lift_lets -underBinder); intro x; first | (refine (have _ : b₀.Grows x := ?_; ?_); (on_goal 2 => clear_value x); (on_goal 1 => dsimp only [x]; clear x)) | clear_value x)
    | apply State.fenceCores_grows | apply State.fenceRegion_grows | apply State.answer_grows
    | apply State.logCommand_grows | apply ite_grows

theorem execCsFence_grows {b₀ : State} {c : CmdCtx} {kind number : Byte} {s : State} (h0 : b₀.Grows s) :
    Safe b₀ (execCsFence c kind number s) := by
  delta execCsFence
  with_reducible repeat' first
    | assumption | ((try lift_lets -underBinder); intro x; clear_value x) | apply done_grows
    | apply State.answer_grows | apply State.csFence_grows | apply ite_safe | apply next_safe | apply ite_grows

theorem execCsOpt_grows {b₀ : State} {c : CmdCtx} {s : State} (h0 : b₀.Grows s) : Safe b₀ (execCsOpt c s) := by
  delta execCsOpt
  with_reducible repeat' first
    | assumption | apply done_grows | apply State.answer_grows | apply ite_safe | apply next_safe | apply ite_grows

end Sys2Proof.Machine
end

