-- ==== Sys2Proof/Laws/GrowsPower.lean ====
section
/-! SUPPORT. Every operation and meaning of Machine/Power.lean grows the state it is given: one lemma each. -/

namespace Sys2Proof.Machine

open Sys2Proof

theorem State.setPg_grows {b₀ : State} {s : State} {x : Power} (h0 : b₀.Grows s) : b₀.Grows (State.setPg s x) := by
  delta State.setPg
  with_reducible repeat' first
    | assumption | fail_if_no_progress apply mk_grows

theorem State.sampleRegion_grows {b₀ : State} {s : State} {lim : Option Int} {r : Nat} {temp : Int} (h0 : b₀.Grows s) :
    b₀.Grows (State.sampleRegion s lim r temp) := by
  delta State.sampleRegion
  with_reducible repeat' first
    | assumption
    | ((try lift_lets -underBinder); intro x; first | (refine (have _ : b₀.Grows x := ?_; ?_); (on_goal 2 => clear_value x); (on_goal 1 => dsimp only [x]; clear x)) | clear_value x)
    | apply State.setRegion_grows | apply State.putSat_grows | apply State.putB_grows

theorem State.setDensity_grows {b₀ : State} {s : State} {r : Nat} (h0 : b₀.Grows s) : b₀.Grows (State.setDensity s r) := by
  delta State.setDensity
  with_reducible repeat' first
    | assumption
    | ((try lift_lets -underBinder); intro x; first | (refine (have _ : b₀.Grows x := ?_; ?_); (on_goal 2 => clear_value x); (on_goal 1 => dsimp only [x]; clear x)) | clear_value x)
    | apply State.setRegion_grows | apply State.put_grows

theorem State.decideCeil_grows {b₀ : State} {s : State} {n : Nat} (h0 : b₀.Grows s) : b₀.Grows (State.decideCeil s n) := by
  delta State.decideCeil
  with_reducible repeat' first
    | assumption | ((try lift_lets -underBinder); intro x; clear_value x) | apply State.schedule_grows
    | apply ite_grows

theorem State.lowerCeil_grows {b₀ : State} {s : State} (h0 : b₀.Grows s) : b₀.Grows (State.lowerCeil s) := by
  delta State.lowerCeil
  with_reducible repeat' first
    | assumption | ((try lift_lets -underBinder); intro x; clear_value x) | apply State.decideCeil_grows
    | apply ite_grows

theorem State.boost_grows {b₀ : State} {s : State} {d : Nat} (h0 : b₀.Grows s) : b₀.Grows (State.boost s d) := by
  delta State.boost
  with_reducible repeat' first
    | assumption | ((try lift_lets -underBinder); intro x; clear_value x) | apply State.put_grows
    | apply State.setPg_grows | apply State.putB_grows | fail_if_no_progress apply mk_grows | apply ite_grows | split

theorem State.floorTest_grows {b₀ : State} {s : State} {lim : Option Int} (h0 : b₀.Grows s) :
    b₀.Grows (State.floorTest s lim) := by
  delta State.floorTest
  with_reducible repeat' first
    | assumption
    | ((try lift_lets -underBinder); intro x; first | (refine (have _ : b₀.Grows x := ?_; ?_); (on_goal 2 => clear_value x); (on_goal 1 => dsimp only [x]; clear x)) | clear_value x)
    | apply State.putSat_grows | apply State.setPg_grows | apply State.put_grows | apply State.logKind_grows
    | fail_if_no_progress apply mk_grows | apply ite_grows

theorem State.ceilTest_grows {b₀ : State} {s : State} {lim : Option Int} {total : Nat} (h0 : b₀.Grows s) :
    b₀.Grows (State.ceilTest s lim total) := by
  delta State.ceilTest
  with_reducible repeat' first
    | assumption
    | ((try lift_lets -underBinder); intro x; first | (refine (have _ : b₀.Grows x := ?_; ?_); (on_goal 2 => clear_value x); (on_goal 1 => dsimp only [x]; clear x)) | clear_value x)
    | apply State.setPg_grows | apply State.lowerCeil_grows | apply State.decideCeil_grows
    | fail_if_no_progress apply mk_grows | apply ite_grows | split

theorem State.askDefer_grows {b₀ : State} {s : State} {i step m d : Nat} (h0 : b₀.Grows s) :
    b₀.Grows (State.askDefer s i step m d) := by
  delta State.askDefer
  with_reducible repeat' first
    | assumption
    | ((try lift_lets -underBinder); intro x; first | (refine (have _ : b₀.Grows x := ?_; ?_); (on_goal 2 => clear_value x); (on_goal 1 => dsimp only [x]; clear x)) | clear_value x)
    | apply State.setPg_grows | apply State.put_grows | apply State.bumpSat_grows | apply State.sendJobUp_grows
    | fail_if_no_progress apply mk_grows | apply ite_grows

theorem State.deferRequest_grows {b₀ : State} {s : State} (h0 : b₀.Grows s) : b₀.Grows (State.deferRequest s) := by
  delta State.deferRequest
  with_reducible repeat' first
    | assumption | ((try lift_lets -underBinder); intro x; clear_value x) | apply State.askDefer_grows
    | apply foldl_grows | split

theorem State.hintRequests_grows {b₀ : State} {s : State} (h0 : b₀.Grows s) : b₀.Grows (State.hintRequests s) := by
  delta State.hintRequests
  repeat' first
    | with_reducible assumption | (intro x; fail_if_success clear_value x)
    | ((try lift_lets -underBinder); intro x; clear_value x) | intro _ | with_reducible apply State.askDefer_grows
    | with_reducible apply ite_grows | with_reducible apply fst_ite_grows | with_reducible apply foldl_grows
    | with_reducible apply fst_foldl_grows | split

theorem State.showTemp_grows {b₀ : State} {s : State} (h0 : b₀.Grows s) : b₀.Grows (State.showTemp s) := by
  delta State.showTemp
  with_reducible repeat' first
    | assumption
    | ((try lift_lets -underBinder); intro x; first | (refine (have _ : b₀.Grows x := ?_; ?_); (on_goal 2 => clear_value x); (on_goal 1 => dsimp only [x]; clear x)) | clear_value x)
    | apply State.putS_grows | apply State.put_grows | apply ite_grows

theorem State.powerHint_grows {b₀ : State} {s : State} {i level ahead : Nat} (h0 : b₀.Grows s) :
    b₀.Grows (State.powerHint s i level ahead) := by
  delta State.powerHint
  with_reducible repeat' first
    | assumption
    | ((try lift_lets -underBinder); intro x; first | (refine (have _ : b₀.Grows x := ?_; ?_); (on_goal 2 => clear_value x); (on_goal 1 => dsimp only [x]; clear x)) | clear_value x)
    | apply State.logKind_grows | apply State.logChange_grows | apply State.setRun_grows | apply State.putB_grows
    | fail_if_no_progress apply mk_grows | apply ite_grows

theorem State.hintMark_grows {b₀ : State} {s : State} {i : Nat} (h0 : b₀.Grows s) : b₀.Grows (State.hintMark s i) := by
  delta State.hintMark
  with_reducible repeat' first
    | assumption
    | ((try lift_lets -underBinder); intro x; first | (refine (have _ : b₀.Grows x := ?_; ?_); (on_goal 2 => clear_value x); (on_goal 1 => dsimp only [x]; clear x)) | clear_value x)
    | apply State.setRun_grows | apply State.putB_grows

theorem State.setCaps_grows {b₀ : State} {s : State} {c1 c10 : Nat} (h0 : b₀.Grows s) : b₀.Grows (State.setCaps s c1 c10) := by
  delta State.setCaps
  with_reducible repeat' first
    | assumption | ((try lift_lets -underBinder); intro x; clear_value x) | apply State.setPg_grows
    | apply State.put_grows

theorem State.pgCapWrite_grows {b₀ : State} {s : State} {v : Nat} (h0 : b₀.Grows s) : b₀.Grows (State.pgCapWrite s v) := by
  delta State.pgCapWrite
  with_reducible repeat' first
    | assumption | apply State.put_grows | apply State.setCaps_grows | apply ite_grows

theorem State.capturePg_grows {b₀ : State} {s : State} {total : Bool} (h0 : b₀.Grows s) : b₀.Grows (State.capturePg s total) := by
  delta State.capturePg
  with_reducible repeat' first
    | assumption | ((try lift_lets -underBinder); intro x; clear_value x) | apply State.put_grows | apply ite_grows

theorem State.capturePgRegion_grows {b₀ : State} {s : State} {r : Nat} (h0 : b₀.Grows s) :
    b₀.Grows (State.capturePgRegion s r) := by
  delta State.capturePgRegion
  with_reducible repeat' first
    | assumption
    | ((try lift_lets -underBinder); intro x; first | (refine (have _ : b₀.Grows x := ?_; ?_); (on_goal 2 => clear_value x); (on_goal 1 => dsimp only [x]; clear x)) | clear_value x)
    | apply State.putSat_grows | apply State.putS_grows | apply State.put_grows

end Sys2Proof.Machine
end

