-- ==== Sys2Proof/Laws/GrowsDet.lean ====
section
/-! SUPPORT. Every operation and meaning of Machine/Det.lean grows the state it is given: one lemma each. -/

namespace Sys2Proof.Machine

open Sys2Proof

theorem State.setDet_grows {b₀ : State} {s : State} {x : Det} (h0 : b₀.Grows s) : b₀.Grows (State.setDet s x) := by
  delta State.setDet
  with_reducible repeat' first
    | assumption | fail_if_no_progress apply mk_grows

theorem State.closeStep_grows {b₀ : State} {s : State} {x : DigStep} (h0 : b₀.Grows s) : b₀.Grows (State.closeStep s x) := by
  delta State.closeStep
  repeat' first
    | with_reducible assumption | (intro x; fail_if_success clear_value x)
    | ((try lift_lets -underBinder); intro x; first | (refine (have _ : b₀.Grows x := ?_; ?_); (on_goal 2 => clear_value x); (on_goal 1 => dsimp only [x]; clear x)) | clear_value x)
    | intro _ | with_reducible apply State.report_grows | with_reducible apply State.setDet_grows
    | with_reducible fail_if_no_progress apply mk_grows | with_reducible apply ite_grows
    | with_reducible apply foldl_grows

theorem State.openStep_grows {b₀ : State} {s : State} {step : BitVec 64} (h0 : b₀.Grows s) :
    b₀.Grows (State.openStep s step) := by
  delta State.openStep
  with_reducible repeat' first
    | assumption
    | ((try lift_lets -underBinder); intro x; first | (refine (have _ : b₀.Grows x := ?_; ?_); (on_goal 2 => clear_value x); (on_goal 1 => dsimp only [x]; clear x)) | clear_value x)
    | apply State.closeStep_grows | apply State.setDet_grows | fail_if_no_progress apply mk_grows | apply foldl_grows

theorem State.closeAll_grows {b₀ : State} {s : State} (h0 : b₀.Grows s) : b₀.Grows (State.closeAll s) := by
  delta State.closeAll
  with_reducible repeat' first
    | assumption
    | ((try lift_lets -underBinder); intro x; first | (refine (have _ : b₀.Grows x := ?_; ?_); (on_goal 2 => clear_value x); (on_goal 1 => dsimp only [x]; clear x)) | clear_value x)
    | apply State.closeStep_grows | apply State.setDet_grows | fail_if_no_progress apply mk_grows | apply foldl_grows

theorem State.captureDigest_grows {b₀ : State} {s : State} {t : Nat} (h0 : b₀.Grows s) : b₀.Grows (State.captureDigest s t) := by
  delta State.captureDigest
  repeat' first
    | with_reducible assumption | (intro x; fail_if_success clear_value x)
    | ((try lift_lets -underBinder); intro x; first | (refine (have _ : b₀.Grows x := ?_; ?_); (on_goal 2 => clear_value x); (on_goal 1 => dsimp only [x]; clear x)) | clear_value x)
    | intro _ | with_reducible apply State.put_grows | with_reducible apply foldl_grows

theorem State.digStart_grows {b₀ : State} {s : State} {tag kind : Nat} (h0 : b₀.Grows s) :
    b₀.Grows (State.digStart s tag kind) := by
  delta State.digStart
  with_reducible repeat' first
    | assumption
    | ((try lift_lets -underBinder); intro x; first | (refine (have _ : b₀.Grows x := ?_; ?_); (on_goal 2 => clear_value x); (on_goal 1 => dsimp only [x]; clear x)) | clear_value x)
    | apply State.setDet_grows | apply State.put_grows | apply State.mailTo_grows | fail_if_no_progress apply mk_grows
    | apply ite_grows

theorem State.digReqWrite_grows {b₀ : State} {s : State} {v : Nat} (h0 : b₀.Grows s) : b₀.Grows (State.digReqWrite s v) := by
  delta State.digReqWrite
  with_reducible repeat' first
    | assumption
    | ((try lift_lets -underBinder); intro x; (refine (have _ : b₀.Grows x := ?_; ?_); (on_goal 2 => clear_value x); (on_goal 1 => dsimp only [x]; clear x)))
    | apply State.put_grows | apply State.digStart_grows | apply ite_grows

theorem State.digDone_grows {b₀ : State} {s : State} {result : Nat} (h0 : b₀.Grows s) : b₀.Grows (State.digDone s result) := by
  delta State.digDone
  with_reducible repeat' first
    | assumption
    | ((try lift_lets -underBinder); intro x; (refine (have _ : b₀.Grows x := ?_; ?_); (on_goal 2 => clear_value x); (on_goal 1 => dsimp only [x]; clear x)))
    | apply State.put_grows | apply State.complete_grows

theorem State.digCompare_grows {b₀ : State} {s : State} {a body : List Byte} (h0 : b₀.Grows s) :
    b₀.Grows (State.digCompare s a body) := by
  delta State.digCompare
  with_reducible repeat' first
    | assumption
    | ((try lift_lets -underBinder); intro x; first | (refine (have _ : b₀.Grows x := ?_; ?_); (on_goal 2 => clear_value x); (on_goal 1 => dsimp only [x]; clear x)) | clear_value x)
    | apply State.digDone_grows | apply State.put_grows | apply ite_grows

theorem State.digCombine_grows {b₀ : State} {s : State} {body : List Byte} (h0 : b₀.Grows s) :
    b₀.Grows (State.digCombine s body) := by
  delta State.digCombine
  repeat' first
    | with_reducible assumption | (intro x; fail_if_success clear_value x)
    | ((try lift_lets -underBinder); intro x; first | (refine (have _ : b₀.Grows x := ?_; ?_); (on_goal 2 => clear_value x); (on_goal 1 => dsimp only [x]; clear x)) | clear_value x)
    | intro _ | with_reducible apply State.put_grows | with_reducible apply State.digDone_grows
    | with_reducible apply ite_grows | with_reducible apply fst_ite_grows | with_reducible apply foldl_grows

theorem State.digEnd_grows {b₀ : State} {s : State} {stage status : Nat} {body : List Byte} (h0 : b₀.Grows s) :
    b₀.Grows (State.digEnd s stage status body) := by
  delta State.digEnd
  with_reducible repeat' first
    | assumption
    | ((try lift_lets -underBinder); intro x; first | (refine (have _ : b₀.Grows x := ?_; ?_); (on_goal 2 => clear_value x); (on_goal 1 => dsimp only [x]; clear x)) | clear_value x)
    | apply State.setDet_grows | apply State.digDone_grows | apply State.digCombine_grows
    | apply State.digCompare_grows | fail_if_no_progress apply mk_grows | apply ite_grows

theorem State.seedWrite_grows {b₀ : State} {s : State} {v : Nat} (h0 : b₀.Grows s) : b₀.Grows (State.seedWrite s v) := by
  delta State.seedWrite
  repeat' first
    | with_reducible assumption | (intro x; fail_if_success clear_value x)
    | ((try lift_lets -underBinder); intro x; first | (refine (have _ : b₀.Grows x := ?_; ?_); (on_goal 2 => clear_value x); (on_goal 1 => dsimp only [x]; clear x)) | clear_value x)
    | intro _ | with_reducible apply State.put_grows | with_reducible apply State.putB_grows
    | with_reducible apply ite_grows | with_reducible apply foldl_grows

theorem State.digGo_grows {b₀ : State} {s : State} {v : Word} (h0 : b₀.Grows s) : b₀.Grows (State.digGo s v) := by
  delta State.digGo
  with_reducible repeat' first
    | assumption | apply State.digReqWrite_grows

theorem State.showCanon_grows {b₀ : State} {s : State} {det : Bool} (h0 : b₀.Grows s) : b₀.Grows (State.showCanon s det) := by
  delta State.showCanon
  with_reducible repeat' first
    | assumption | ((try lift_lets -underBinder); intro x; clear_value x) | apply State.putB_grows
    | apply State.put_grows | apply State.emit_grows

theorem State.detBegin_grows {b₀ : State} {s : State} {i : Nat} (h0 : b₀.Grows s) : b₀.Grows (State.detBegin s i) := by
  delta State.detBegin
  with_reducible repeat' first
    | assumption
    | ((try lift_lets -underBinder); intro x; (refine (have _ : b₀.Grows x := ?_; ?_); (on_goal 2 => clear_value x); (on_goal 1 => dsimp only [x]; clear x)))
    | apply State.showCanon_grows | apply State.put_grows | apply ite_grows

theorem State.detEnd_grows {b₀ : State} {s : State} (h0 : b₀.Grows s) : b₀.Grows (State.detEnd s) := by
  delta State.detEnd
  with_reducible repeat' first
    | assumption | apply State.showCanon_grows | apply State.put_grows | apply ite_grows

theorem State.detMark_grows {b₀ : State} {s : State} (h0 : b₀.Grows s) : b₀.Grows (State.detMark s) := by
  delta State.detMark
  repeat' first
    | with_reducible assumption | intro _ | with_reducible apply State.setRegion_grows
    | with_reducible fail_if_no_progress apply mk_grows | with_reducible apply ite_grows
    | with_reducible apply foldl_grows

theorem State.missRun_grows {b₀ : State} {s : State} (h0 : b₀.Grows s) : b₀.Grows (State.missRun s) := by
  delta State.missRun
  with_reducible repeat' first
    | assumption | apply State.setRun_grows | fail_if_no_progress apply mk_grows | split

theorem State.alignMissed_grows {b₀ : State} {s : State} (h0 : b₀.Grows s) : b₀.Grows (State.alignMissed s) := by
  delta State.alignMissed
  with_reducible repeat' first
    | assumption | apply State.put_grows | apply State.bumpSat_grows | apply State.missRun_grows
    | apply State.logChange_grows

theorem State.alignMark_grows {b₀ : State} {s : State} (h0 : b₀.Grows s) : b₀.Grows (State.alignMark s) := by
  delta State.alignMark
  repeat' first
    | with_reducible assumption | (intro x; fail_if_success clear_value x)
    | ((try lift_lets -underBinder); intro x; first | (refine (have _ : b₀.Grows x := ?_; ?_); (on_goal 2 => clear_value x); (on_goal 1 => dsimp only [x]; clear x)) | clear_value x)
    | intro _ | with_reducible apply State.emit_grows | with_reducible apply State.setDet_grows
    | with_reducible apply State.put_grows | with_reducible apply State.doIf_grows
    | with_reducible apply State.alignMissed_grows | with_reducible apply State.setCrossing_grows
    | with_reducible fail_if_no_progress apply mk_grows | with_reducible apply ite_grows
    | with_reducible apply foldl_grows

end Sys2Proof.Machine
end

