-- ==== Sys2Proof/Laws/GrowsSyncOps.lean ====
section
/-! SUPPORT. Every operation and meaning of Machine/SyncOps.lean grows the state it is given: one lemma each. -/

namespace Sys2Proof.Machine

open Sys2Proof

theorem State.setSync_grows {b₀ : State} {s : State} {x : Sync} (h0 : b₀.Grows s) : b₀.Grows (State.setSync s x) := by
  delta State.setSync
  with_reducible repeat' first
    | assumption | fail_if_no_progress apply mk_grows

theorem State.setObj_grows {b₀ : State} {s : State} {n : Nat} {x : SyncObj} (h0 : b₀.Grows s) :
    b₀.Grows (State.setObj s n x) := by
  delta State.setObj
  with_reducible repeat' first
    | assumption | apply State.setSync_grows

theorem State.setFlow_grows {b₀ : State} {s : State} {f : Nat} {x : Flow} (h0 : b₀.Grows s) : b₀.Grows (State.setFlow s f x) := by
  delta State.setFlow
  with_reducible repeat' first
    | assumption | apply State.setSync_grows

theorem State.showSync_grows {b₀ : State} {s : State} (h0 : b₀.Grows s) : b₀.Grows (State.showSync s) := by
  delta State.showSync
  with_reducible repeat' first
    | assumption
    | ((try lift_lets -underBinder); intro x; first | (refine (have _ : b₀.Grows x := ?_; ?_); (on_goal 2 => clear_value x); (on_goal 1 => dsimp only [x]; clear x)) | clear_value x)
    | apply State.put_grows

theorem State.release_grows {b₀ : State} {s : State} {w : Waiter} {status : Nat} (h0 : b₀.Grows s) :
    b₀.Grows (State.release s w status) := by
  delta State.release
  with_reducible repeat' first
    | assumption | ((try lift_lets -underBinder); intro x; clear_value x) | apply State.setSync_grows

theorem State.releasePlain_grows {b₀ : State} {s : State} {n : Nat} (h0 : b₀.Grows s) : b₀.Grows (State.releasePlain s n) := by
  delta State.releasePlain
  repeat' first
    | with_reducible assumption | intro _ | with_reducible apply State.release_grows | with_reducible apply ite_grows
    | with_reducible apply foldl_grows

theorem State.releaseConsume_grows {b₀ : State} {s : State} {n src : Nat} {x₀ : List Waiter} (h0 : b₀.Grows s) :
    b₀.Grows (State.releaseConsume s n src x₀) := by
  induction x₀ generalizing s with
  | nil => unfold State.releaseConsume; with_reducible repeat' first
    | assumption
    | ((try lift_lets -underBinder); intro x; first | (refine (have _ : b₀.Grows x := ?_; ?_); (on_goal 2 => clear_value x); (on_goal 1 => dsimp only [x]; clear x)) | clear_value x)
  | cons w ws ih =>
    unfold State.releaseConsume
    with_reducible repeat' first
    | assumption | ((try lift_lets -underBinder); intro x; clear_value x) | apply ih | apply State.setObj_grows
    | apply State.release_grows | fail_if_no_progress apply mk_grows | apply ite_grows

theorem State.releasePass_grows {b₀ : State} {s : State} {n : Nat} {src : Nat} (h0 : b₀.Grows s) :
    b₀.Grows (State.releasePass s n src) := by
  delta State.releasePass
  with_reducible repeat' first
    | assumption
    | ((try lift_lets -underBinder); intro x; (refine (have _ : b₀.Grows x := ?_; ?_); (on_goal 2 => clear_value x); (on_goal 1 => dsimp only [x]; clear x)))
    | apply State.releasePlain_grows | apply State.releaseConsume_grows | apply State.showSync_grows

theorem State.deliverWakes_grows {b₀ : State} {s : State} (h0 : b₀.Grows s) : b₀.Grows (State.deliverWakes s) := by
  delta State.deliverWakes
  with_reducible repeat' first
    | assumption
    | ((try lift_lets -underBinder); intro x; first | (refine (have _ : b₀.Grows x := ?_; ?_); (on_goal 2 => clear_value x); (on_goal 1 => dsimp only [x]; clear x)) | clear_value x)
    | apply State.doIf_grows | apply State.logicWork_grows | apply State.setSync_grows | apply State.emits_grows
    | fail_if_no_progress apply mk_grows | apply ite_grows

theorem State.logSync_grows {b₀ : State} {s : State} {o : SyncOp} {kind sev v : Nat} (h0 : b₀.Grows s) :
    b₀.Grows (State.logSync s o kind sev v) := by
  delta State.logSync
  with_reducible repeat' first
    | assumption | apply State.report_grows

theorem State.syncFault_grows {b₀ : State} {s : State} {o : SyncOp} {code kind : Nat} {irq : Field} (h0 : b₀.Grows s) :
    b₀.Grows (State.syncFault s o code kind irq) := by
  delta State.syncFault
  with_reducible repeat' first
    | assumption
    | ((try lift_lets -underBinder); intro x; first | (refine (have _ : b₀.Grows x := ?_; ?_); (on_goal 2 => clear_value x); (on_goal 1 => dsimp only [x]; clear x)) | clear_value x)
    | apply State.setObj_grows | apply State.put_grows | apply State.logSync_grows

theorem State.signedBy_grows {b₀ : State} {s : State} {o : SyncOp} (h0 : b₀.Grows s) : b₀.Grows (State.signedBy s o) := by
  delta State.signedBy
  with_reducible repeat' first
    | assumption | ((try lift_lets -underBinder); intro x; clear_value x) | apply State.setObj_grows

theorem State.roundEnd_grows {b₀ : State} {s : State} {n : Nat} (h0 : b₀.Grows s) : b₀.Grows (State.roundEnd s n) := by
  delta State.roundEnd
  with_reducible repeat' first
    | assumption | ((try lift_lets -underBinder); intro x; clear_value x) | apply State.setObj_grows
    | apply State.mailTo_grows | fail_if_no_progress apply mk_grows | apply ite_grows

theorem State.doSignal_grows {b₀ : State} {s : State} {o : SyncOp} (h0 : b₀.Grows s) : b₀.Grows (State.doSignal s o).1 := by
  delta State.doSignal
  with_reducible repeat' first
    | assumption
    | ((try lift_lets -underBinder); intro x; first | (refine (have _ : b₀.Grows x := ?_; ?_); (on_goal 2 => clear_value x); (on_goal 1 => dsimp only [x]; clear x)) | clear_value x)
    | apply State.setObj_grows | apply State.signedBy_grows | apply State.releasePass_grows | apply State.put_grows
    | apply State.logSync_grows | apply State.syncFault_grows | fail_if_no_progress apply mk_grows | apply ite_grows
    | apply fst_ite_grows

theorem State.doArrive_grows {b₀ : State} {s : State} {o : SyncOp} (h0 : b₀.Grows s) : b₀.Grows (State.doArrive s o).1 := by
  delta State.doArrive
  with_reducible repeat' first
    | assumption
    | ((try lift_lets -underBinder); intro x; first | (refine (have _ : b₀.Grows x := ?_; ?_); (on_goal 2 => clear_value x); (on_goal 1 => dsimp only [x]; clear x)) | clear_value x)
    | apply State.put_grows | apply State.logSync_grows | apply State.syncFault_grows | apply State.setObj_grows
    | apply State.signedBy_grows | apply State.roundEnd_grows | apply State.releasePass_grows
    | fail_if_no_progress apply mk_grows | apply ite_grows | apply fst_ite_grows

theorem State.doReset_grows {b₀ : State} {s : State} {o : SyncOp} (h0 : b₀.Grows s) : b₀.Grows (State.doReset s o).1 := by
  delta State.doReset
  with_reducible repeat' first
    | assumption | ((try lift_lets -underBinder); intro x; clear_value x) | apply State.setObj_grows
    | apply State.signedBy_grows | apply State.releasePass_grows | fail_if_no_progress apply mk_grows
    | apply ite_grows | apply fst_ite_grows

theorem State.registerWait_grows {b₀ : State} {s : State} {o : SyncOp} {consume : Bool} (h0 : b₀.Grows s) :
    b₀.Grows (State.registerWait s o consume).1 := by
  delta State.registerWait
  with_reducible repeat' first
    | assumption | ((try lift_lets -underBinder); intro x; clear_value x) | apply State.put_grows
    | apply State.setSync_grows | apply State.showSync_grows | fail_if_no_progress apply mk_grows | apply ite_grows
    | apply fst_ite_grows

theorem State.doWait_grows {b₀ : State} {s : State} {o : SyncOp} (h0 : b₀.Grows s) : b₀.Grows (State.doWait s o).1 := by
  delta State.doWait
  with_reducible repeat' first
    | assumption | ((try lift_lets -underBinder); intro x; clear_value x) | apply State.registerWait_grows
    | apply ite_grows | apply fst_ite_grows

theorem State.doConsume_grows {b₀ : State} {s : State} {o : SyncOp} (h0 : b₀.Grows s) : b₀.Grows (State.doConsume s o).1 := by
  delta State.doConsume
  with_reducible repeat' first
    | assumption | ((try lift_lets -underBinder); intro x; clear_value x) | apply State.setObj_grows
    | apply State.signedBy_grows | apply State.releasePass_grows | apply State.registerWait_grows
    | fail_if_no_progress apply mk_grows | apply ite_grows | apply fst_ite_grows

theorem State.doCancel_grows {b₀ : State} {s : State} {o : SyncOp} (h0 : b₀.Grows s) : b₀.Grows (State.doCancel s o).1 := by
  delta State.doCancel
  with_reducible repeat' first
    | assumption | apply State.release_grows | apply State.showSync_grows | apply ite_grows | apply fst_ite_grows
    | split

theorem State.applyOp_grows {b₀ : State} {s : State} {o : SyncOp} (h0 : b₀.Grows s) : b₀.Grows (State.applyOp s o).1 := by
  delta State.applyOp
  with_reducible repeat' first
    | assumption | apply State.doSignal_grows | apply State.doArrive_grows | apply State.doReset_grows
    | apply State.doWait_grows | apply State.doConsume_grows | apply State.doCancel_grows | apply ite_grows
    | apply fst_ite_grows | split

theorem State.syncReply_grows {b₀ : State} {s : State} {o : SyncOp} {st : Nat} (h0 : b₀.Grows s) :
    b₀.Grows (State.syncReply s o st) := by
  delta State.syncReply
  with_reducible repeat' first
    | assumption | ((try lift_lets -underBinder); intro x; clear_value x) | apply State.emit_grows
    | apply State.put_grows | apply State.answer_grows | apply State.logCommand_grows | split

theorem State.holdReq_grows {b₀ : State} {s : State} {h : SyncHeld} (h0 : b₀.Grows s) : b₀.Grows (State.holdReq s h) := by
  delta State.holdReq
  with_reducible repeat' first
    | assumption | apply State.setSync_grows

theorem State.syncOp_grows {b₀ : State} {s : State} {o : SyncOp} (h0 : b₀.Grows s) : b₀.Grows (State.syncOp s o) := by
  delta State.syncOp
  with_reducible repeat' first
    | assumption
    | ((try lift_lets -underBinder); intro x; first | (refine (have _ : b₀.Grows x := ?_; ?_); (on_goal 2 => clear_value x); (on_goal 1 => dsimp only [x]; clear x)) | (refine (have _ : b₀.Grows x.1 := ?_; ?_); (on_goal 2 => clear_value x); (on_goal 1 => dsimp only [x]; clear x)) | clear_value x)
    | apply State.deliverWakes_grows | apply State.holdReq_grows | apply State.applyOp_grows
    | apply State.syncReply_grows | apply ite_grows

theorem State.portOp_grows {b₀ : State} {s : State} {o : SyncOp} (h0 : b₀.Grows s) : b₀.Grows (State.portOp s o) := by
  delta State.portOp
  repeat' first
    | with_reducible assumption | intro _ | with_reducible apply State.atPort_grows
    | with_reducible apply State.syncOp_grows

theorem State.syncOpWrite_grows {b₀ : State} {s : State} {n v : Nat} (h0 : b₀.Grows s) : b₀.Grows (State.syncOpWrite s n v) := by
  delta State.syncOpWrite
  with_reducible repeat' first
    | assumption | apply State.syncOp_grows

theorem State.syncCfgWrite_grows {b₀ : State} {s : State} {n v : Nat} (h0 : b₀.Grows s) :
    b₀.Grows (State.syncCfgWrite s n v) := by
  delta State.syncCfgWrite
  with_reducible repeat' first
    | assumption
    | ((try lift_lets -underBinder); intro x; first | (refine (have _ : b₀.Grows x := ?_; ?_); (on_goal 2 => clear_value x); (on_goal 1 => dsimp only [x]; clear x)) | clear_value x)
    | apply State.setObj_grows | apply State.put_grows | fail_if_no_progress apply mk_grows | apply ite_grows

theorem State.syncStatWrite_grows {b₀ : State} {s : State} {n v : Nat} (h0 : b₀.Grows s) :
    b₀.Grows (State.syncStatWrite s n v) := by
  delta State.syncStatWrite
  with_reducible repeat' first
    | assumption | ((try lift_lets -underBinder); intro x; clear_value x) | apply State.setObj_grows

theorem State.linkEnd_grows {b₀ : State} {s : State} {n status : Nat} (h0 : b₀.Grows s) :
    b₀.Grows (State.linkEnd s n status) := by
  delta State.linkEnd
  repeat' first
    | with_reducible assumption | (intro x; fail_if_success clear_value x)
    | ((try lift_lets -underBinder); intro x; first | (refine (have _ : b₀.Grows x := ?_; ?_); (on_goal 2 => clear_value x); (on_goal 1 => dsimp only [x]; clear x)) | clear_value x)
    | intro _ | with_reducible apply State.setObj_grows | with_reducible apply State.releasePass_grows
    | with_reducible apply State.mailTo_grows | with_reducible apply State.release_grows
    | with_reducible apply State.showSync_grows | with_reducible apply State.put_grows
    | with_reducible apply State.report_grows | with_reducible fail_if_no_progress apply mk_grows
    | with_reducible apply ite_grows | with_reducible apply foldl_grows

theorem State.logRec_grows {b₀ : State} {s : State} {kind sev : Nat} {r : BitVec 128} (h0 : b₀.Grows s) :
    b₀.Grows (State.logRec s kind sev r) := by
  delta State.logRec
  with_reducible repeat' first
    | assumption | apply State.report_grows

theorem State.applyFlow_grows {b₀ : State} {s : State} {f : Nat} {x₀ : Nat} (h0 : b₀.Grows s) :
    b₀.Grows (State.applyFlow s f x₀) := by
  induction x₀ generalizing s with
  | zero => unfold State.applyFlow; with_reducible repeat' first
    | assumption
    | ((try lift_lets -underBinder); intro x; first | (refine (have _ : b₀.Grows x := ?_; ?_); (on_goal 2 => clear_value x); (on_goal 1 => dsimp only [x]; clear x)) | (refine (have _ : b₀.Grows x.1 := ?_; ?_); (on_goal 2 => clear_value x); (on_goal 1 => dsimp only [x]; clear x)) | clear_value x)
  | succ n ih =>
    unfold State.applyFlow
    with_reducible repeat' first
    | assumption
    | ((try lift_lets -underBinder); intro x; first | (refine (have _ : b₀.Grows x := ?_; ?_); (on_goal 2 => clear_value x); (on_goal 1 => dsimp only [x]; clear x)) | clear_value x)
    | apply ih | apply State.setSync_grows | apply State.applyOp_grows | fail_if_no_progress apply mk_grows
    | apply ite_grows | apply fst_ite_grows | split

theorem State.sequence_grows {b₀ : State} {s : State} {f : Nat} {x₀ : Nat} (h0 : b₀.Grows s) :
    b₀.Grows (State.sequence s f x₀) := by
  induction x₀ generalizing s with
  | zero => unfold State.sequence; with_reducible repeat' first
    | assumption
    | ((try lift_lets -underBinder); intro x; first | (refine (have _ : b₀.Grows x := ?_; ?_); (on_goal 2 => clear_value x); (on_goal 1 => dsimp only [x]; clear x)) | clear_value x)
  | succ n ih =>
    unfold State.sequence
    with_reducible repeat' first
    | assumption
    | ((try lift_lets -underBinder); intro x; first | (refine (have _ : b₀.Grows x := ?_; ?_); (on_goal 2 => clear_value x); (on_goal 1 => dsimp only [x]; clear x)) | clear_value x)
    | apply ih | apply State.setFlow_grows | apply State.setSync_grows | fail_if_no_progress apply mk_grows
    | apply ite_grows | split

theorem State.refuseRec_grows {b₀ : State} {s : State} {r : BitVec 128} (h0 : b₀.Grows s) : b₀.Grows (State.refuseRec s r) := by
  delta State.refuseRec
  with_reducible repeat' first
    | assumption | apply State.setSync_grows

theorem State.enterRecord_grows {b₀ : State} {s : State} {r : BitVec 128} (h0 : b₀.Grows s) :
    b₀.Grows (State.enterRecord s r) := by
  delta State.enterRecord
  with_reducible repeat' first
    | assumption
    | ((try lift_lets -underBinder); intro x; first | (refine (have _ : b₀.Grows x := ?_; ?_); (on_goal 2 => clear_value x); (on_goal 1 => dsimp only [x]; clear x)) | clear_value x)
    | apply State.logRec_grows | apply State.setFlow_grows | apply State.applyOp_grows | apply State.setSync_grows
    | apply State.sequence_grows | apply State.applyFlow_grows | fail_if_no_progress apply mk_grows | apply ite_grows

theorem State.reoffer_grows {b₀ : State} {s : State} {x₀ : Nat} (h0 : b₀.Grows s) : b₀.Grows (State.reoffer s x₀) := by
  induction x₀ generalizing s with
  | zero => unfold State.reoffer; with_reducible repeat' first
    | assumption
  | succ n ih =>
    unfold State.reoffer
    with_reducible repeat' first
    | assumption | apply ih | apply State.setSync_grows | apply State.enterRecord_grows
    | fail_if_no_progress apply mk_grows | apply ite_grows | split

theorem State.slotsMoved_grows {b₀ : State} {s : State} (h0 : b₀.Grows s) : b₀.Grows (State.slotsMoved s) := by
  delta State.slotsMoved
  with_reducible repeat' first
    | assumption | apply State.reoffer_grows | apply State.showSync_grows

theorem State.takeRecord_grows {b₀ : State} {s : State} {r : BitVec 128} (h0 : b₀.Grows s) : b₀.Grows (State.takeRecord s r) := by
  delta State.takeRecord
  with_reducible repeat' first
    | assumption | apply State.refuseRec_grows | apply State.enterRecord_grows | apply State.slotsMoved_grows
    | apply ite_grows

theorem State.takeFeed_grows {b₀ : State} {s : State} {f n : Nat} (h0 : b₀.Grows s) : b₀.Grows (State.takeFeed s f n) := by
  delta State.takeFeed
  with_reducible repeat' first
    | assumption | ((try lift_lets -underBinder); intro x; clear_value x) | apply State.setFlow_grows
    | apply State.applyFlow_grows | apply State.slotsMoved_grows

theorem State.flowReset_grows {b₀ : State} {s : State} {f : Nat} (h0 : b₀.Grows s) : b₀.Grows (State.flowReset s f).1 := by
  delta State.flowReset
  repeat' first
    | with_reducible assumption | (intro x; fail_if_success clear_value x)
    | ((try lift_lets -underBinder); intro x; first | (refine (have _ : b₀.Grows x := ?_; ?_); (on_goal 2 => clear_value x); (on_goal 1 => dsimp only [x]; clear x)) | clear_value x)
    | intro _ | with_reducible apply State.setFlow_grows | with_reducible apply State.setSync_grows
    | with_reducible apply State.logRec_grows | with_reducible apply State.slotsMoved_grows
    | with_reducible fail_if_no_progress apply mk_grows | with_reducible apply foldl_grows

theorem State.flowWrite_grows {b₀ : State} {s : State} {v : Nat} (h0 : b₀.Grows s) : b₀.Grows (State.flowWrite s v) := by
  delta State.flowWrite
  with_reducible repeat' first
    | assumption
    | ((try lift_lets -underBinder); intro x; first | (refine (have _ : b₀.Grows x := ?_; ?_); (on_goal 2 => clear_value x); (on_goal 1 => dsimp only [x]; clear x)) | (refine (have _ : b₀.Grows x.1 := ?_; ?_); (on_goal 2 => clear_value x); (on_goal 1 => dsimp only [x]; clear x)))
    | apply State.put_grows | apply State.flowReset_grows | apply ite_grows

theorem State.saveEnd_grows {b₀ : State} {s : State} {restore : Bool} {result : Nat} {len : Option Nat} (h0 : b₀.Grows s) :
    b₀.Grows (State.saveEnd s restore result len) := by
  delta State.saveEnd
  with_reducible repeat' first
    | assumption
    | ((try lift_lets -underBinder); intro x; (refine (have _ : b₀.Grows x := ?_; ?_); (on_goal 2 => clear_value x); (on_goal 1 => dsimp only [x]; clear x)))
    | apply State.put_grows | apply State.complete_grows | apply ite_grows | split

theorem State.saveStart_grows {b₀ : State} {s : State} {base first count ff fc : Nat} (h0 : b₀.Grows s) :
    b₀.Grows (State.saveStart s base first count ff fc) := by
  delta State.saveStart
  with_reducible repeat' first
    | assumption
    | ((try lift_lets -underBinder); intro x; first | (refine (have _ : b₀.Grows x := ?_; ?_); (on_goal 2 => clear_value x); (on_goal 1 => dsimp only [x]; clear x)) | clear_value x)
    | apply State.saveEnd_grows | apply State.setSync_grows | apply State.put_grows | apply State.emit_grows
    | fail_if_no_progress apply mk_grows | apply ite_grows

theorem State.restoreStart_grows {b₀ : State} {s : State} {base : Nat} (h0 : b₀.Grows s) :
    b₀.Grows (State.restoreStart s base) := by
  delta State.restoreStart
  with_reducible repeat' first
    | assumption
    | ((try lift_lets -underBinder); intro x; first | (refine (have _ : b₀.Grows x := ?_; ?_); (on_goal 2 => clear_value x); (on_goal 1 => dsimp only [x]; clear x)) | clear_value x)
    | apply State.setSync_grows | apply State.put_grows | apply State.emit_grows

theorem State.restoreBody_grows {b₀ : State} {s : State} {img : List Byte} (h0 : b₀.Grows s) :
    b₀.Grows (State.restoreBody s img) := by
  delta State.restoreBody
  with_reducible repeat' first
    | assumption | apply State.emit_grows | apply ite_grows

theorem State.saveByRegs_grows {b₀ : State} {s : State} (h0 : b₀.Grows s) : b₀.Grows (State.saveByRegs s) := by
  delta State.saveByRegs
  with_reducible repeat' first
    | assumption | apply State.saveStart_grows

theorem State.saveCtrl_grows {b₀ : State} {s : State} {v : Nat} (h0 : b₀.Grows s) : b₀.Grows (State.saveCtrl s v) := by
  delta State.saveCtrl
  with_reducible repeat' first
    | assumption
    | ((try lift_lets -underBinder); intro x; (refine (have _ : b₀.Grows x := ?_; ?_); (on_goal 2 => clear_value x); (on_goal 1 => dsimp only [x]; clear x)))
    | apply State.put_grows | apply State.saveByRegs_grows | apply State.restoreStart_grows | apply ite_grows

theorem State.applyHeld_grows {b₀ : State} {s : State} (h0 : b₀.Grows s) : b₀.Grows (State.applyHeld s) := by
  delta State.applyHeld
  repeat' first
    | with_reducible assumption | (intro x; fail_if_success clear_value x)
    | ((try lift_lets -underBinder); intro x; first | (refine (have _ : b₀.Grows x := ?_; ?_); (on_goal 2 => clear_value x); (on_goal 1 => dsimp only [x]; clear x)) | clear_value x)
    | intro _ | with_reducible apply State.logicWork_grows | with_reducible apply State.setSync_grows
    | with_reducible apply State.syncOp_grows | with_reducible apply State.takeFeed_grows
    | with_reducible apply State.takeRecord_grows | with_reducible apply State.applyFlow_grows
    | with_reducible apply State.slotsMoved_grows | with_reducible fail_if_no_progress apply mk_grows
    | with_reducible apply foldl_grows | with_reducible apply fst_foldl_grows | split

theorem State.loadObj_grows {b₀ : State} {s : State} {n : Nat} {r : List Byte} (h0 : b₀.Grows s) :
    b₀.Grows (State.loadObj s n r) := by
  delta State.loadObj
  with_reducible repeat' first
    | assumption | ((try lift_lets -underBinder); intro x; clear_value x) | apply State.setObj_grows

theorem State.renumber_grows {b₀ : State} {s : State} (h0 : b₀.Grows s) : b₀.Grows (State.renumber s) := by
  delta State.renumber
  with_reducible repeat' first
    | assumption | ((try lift_lets -underBinder); intro x; clear_value x) | apply State.setSync_grows

theorem State.placePend_grows {b₀ : State} {s : State} {ps : List PendSlot} (h0 : b₀.Grows s) :
    b₀.Grows (State.placePend s ps) := by
  delta State.placePend
  with_reducible repeat' first
    | assumption | ((try lift_lets -underBinder); intro x; clear_value x) | apply State.setSync_grows

theorem State.loadImage_grows {b₀ : State} {s : State} {img : List Byte} (h0 : b₀.Grows s) :
    b₀.Grows (State.loadImage s img) := by
  delta State.loadImage
  repeat' first
    | with_reducible assumption | (intro x; fail_if_success clear_value x)
    | ((try lift_lets -underBinder); intro x; first | (refine (have _ : b₀.Grows x := ?_; ?_); (on_goal 2 => clear_value x); (on_goal 1 => dsimp only [x]; clear x)) | clear_value x)
    | intro _ | with_reducible apply State.loadObj_grows | with_reducible apply State.setSync_grows
    | with_reducible apply State.placePend_grows | with_reducible apply State.setFlow_grows
    | with_reducible apply State.releasePass_grows | with_reducible apply State.renumber_grows
    | with_reducible apply State.showSync_grows | with_reducible fail_if_no_progress apply mk_grows
    | with_reducible apply foldl_grows

theorem State.dbgCapture_grows {b₀ : State} {s : State} {n : Nat} (h0 : b₀.Grows s) : b₀.Grows (State.dbgCapture s n) := by
  delta State.dbgCapture
  repeat' first
    | with_reducible assumption | (intro x; fail_if_success clear_value x)
    | ((try lift_lets -underBinder); intro x; first | (refine (have _ : b₀.Grows x := ?_; ?_); (on_goal 2 => clear_value x); (on_goal 1 => dsimp only [x]; clear x)) | clear_value x)
    | intro _ | with_reducible apply State.put_grows | with_reducible apply foldl_grows

end Sys2Proof.Machine
end

