-- ==== Sys2Proof/Laws/GrowsJobRun.lean ====
section
/-! SUPPORT. Every operation and meaning of Machine/JobRun.lean grows the state it is given: one lemma each. -/

namespace Sys2Proof.Machine

open Sys2Proof

theorem State.fetchMany_grows {b₀ : State} {s : State} {i : Nat} {x₀ : Nat} (h0 : b₀.Grows s) :
    b₀.Grows (State.fetchMany s i x₀) := by
  induction x₀ generalizing s with
  | zero => unfold State.fetchMany; with_reducible repeat' first
    | assumption
    | ((try lift_lets -underBinder); intro x; first | (refine (have _ : b₀.Grows x := ?_; ?_); (on_goal 2 => clear_value x); (on_goal 1 => dsimp only [x]; clear x)) | clear_value x)
  | succ n ih =>
    unfold State.fetchMany
    with_reducible repeat' first
    | assumption | ((try lift_lets -underBinder); intro x; clear_value x) | apply ih | apply State.setSlot_grows
    | apply State.emit_grows | fail_if_no_progress apply mk_grows | apply ite_grows

theorem State.fetchMore_grows {b₀ : State} {s : State} {i : Nat} (h0 : b₀.Grows s) : b₀.Grows (State.fetchMore s i) := by
  delta State.fetchMore
  with_reducible repeat' first
    | assumption | apply State.fetchMany_grows

theorem State.fixInstants_grows {b₀ : State} {s : State} {i : Nat} {old : List (Option Nat)} (h0 : b₀.Grows s) :
    b₀.Grows (State.fixInstants s i old) := by
  delta State.fixInstants
  with_reducible repeat' first
    | assumption | ((try lift_lets -underBinder); intro x; clear_value x) | apply State.setSlot_grows

theorem State.fixAll_grows {b₀ : State} {s : State} {i : Nat} (h0 : b₀.Grows s) : b₀.Grows (State.fixAll s i) := by
  delta State.fixAll
  with_reducible repeat' first
    | assumption | apply State.fixInstants_grows

theorem State.sendQuiet_grows {b₀ : State} {s : State} {i t window : Nat} (h0 : b₀.Grows s) :
    b₀.Grows (State.sendQuiet s i t window) := by
  delta State.sendQuiet
  with_reducible repeat' first
    | assumption | ((try lift_lets -underBinder); intro x; clear_value x) | apply State.transmit_grows
    | apply ite_grows

theorem State.planOne_grows {b₀ : State} {s : State} {i : Nat} {w : BitVec 128} {t : Nat} (h0 : b₀.Grows s) :
    b₀.Grows (State.planOne s i w t).1 := by
  delta State.planOne
  with_reducible repeat' first
    | assumption | ((try lift_lets -underBinder); intro x; clear_value x) | apply State.schedule_grows
    | apply State.sendQuiet_grows | apply State.put_grows | apply State.armTrain_grows
    | fail_if_no_progress apply mk_grows | apply ite_grows | apply fst_ite_grows | split

theorem State.plan_grows {b₀ : State} {s : State} {i : Nat} (h0 : b₀.Grows s) : b₀.Grows (State.plan s i) := by
  delta State.plan
  repeat' first
    | with_reducible assumption | (intro x; fail_if_success clear_value x)
    | ((try lift_lets -underBinder); intro x; first | (refine (have _ : b₀.Grows x := ?_; ?_); (on_goal 2 => clear_value x); (on_goal 1 => dsimp only [x]; clear x)) | (refine (have _ : b₀.Grows x.1 := ?_; ?_); (on_goal 2 => clear_value x); (on_goal 1 => dsimp only [x]; clear x)) | clear_value x)
    | intro _ | with_reducible apply State.planOne_grows | with_reducible apply State.setSlot_grows
    | with_reducible fail_if_no_progress apply mk_grows | with_reducible apply ite_grows
    | with_reducible apply fst_ite_grows | with_reducible apply foldl_grows | with_reducible apply fst_foldl_grows
    | split

theorem State.replan_grows {b₀ : State} {s : State} {i : Nat} {old : List (BufWp × Option Nat)} (h0 : b₀.Grows s) :
    b₀.Grows (State.replan s i old) := by
  delta State.replan
  with_reducible repeat' first
    | assumption | ((try lift_lets -underBinder); intro x; clear_value x) | apply State.setCs_grows
    | apply State.showSched_grows | apply State.setSlot_grows | apply State.plan_grows

theorem State.gateTry_grows {b₀ : State} {s : State} {i : Nat} (h0 : b₀.Grows s) : b₀.Grows (State.gateTry s i) := by
  delta State.gateTry
  with_reducible repeat' first
    | assumption
    | ((try lift_lets -underBinder); intro x; first | (refine (have _ : b₀.Grows x := ?_; ?_); (on_goal 2 => clear_value x); (on_goal 1 => dsimp only [x]; clear x)) | clear_value x)
    | apply State.setSlot_grows | apply State.put_grows | apply State.mailTo_grows
    | fail_if_no_progress apply mk_grows | apply ite_grows | split

theorem State.advance_grows {b₀ : State} {s : State} {i : Nat} (h0 : b₀.Grows s) : b₀.Grows (State.advance s i) := by
  delta State.advance
  with_reducible repeat' first
    | assumption
    | ((try lift_lets -underBinder); intro x; first | (refine (have _ : b₀.Grows x := ?_; ?_); (on_goal 2 => clear_value x); (on_goal 1 => dsimp only [x]; clear x)) | clear_value x)
    | apply State.setSlot_grows | apply State.showJob_grows | apply State.slotFault_grows | apply State.gateTry_grows
    | fail_if_no_progress apply mk_grows | apply ite_grows | split

theorem State.wpDone_grows {b₀ : State} {s : State} {i t : Nat} (h0 : b₀.Grows s) : b₀.Grows (State.wpDone s i t) := by
  delta State.wpDone
  with_reducible repeat' first
    | assumption
    | ((try lift_lets -underBinder); intro x; first | (refine (have _ : b₀.Grows x := ?_; ?_); (on_goal 2 => clear_value x); (on_goal 1 => dsimp only [x]; clear x)) | clear_value x)
    | apply State.setSlot_grows | apply State.wakeAll_grows | apply State.setRun_grows | apply State.fetchMore_grows
    | apply State.showJob_grows | apply State.advance_grows

theorem State.afterMark_grows {b₀ : State} {s : State} {i m : Nat} {zero : Bool} (h0 : b₀.Grows s) :
    b₀.Grows (State.afterMark s i m zero) := by
  delta State.afterMark
  with_reducible repeat' first
    | assumption
    | ((try lift_lets -underBinder); intro x; first | (refine (have _ : b₀.Grows x := ?_; ?_); (on_goal 2 => clear_value x); (on_goal 1 => dsimp only [x]; clear x)) | clear_value x)
    | apply State.wakeAll_grows | apply State.setRun_grows | apply State.setSlot_grows | apply State.setJobs_grows
    | apply State.emit_grows | apply State.ledgerMark_grows | apply State.openStep_grows | apply State.hintMark_grows
    | apply State.detMark_grows | apply State.logKind_grows | apply State.showJob_grows | apply State.fetchMore_grows
    | apply State.plan_grows | apply State.advance_grows | fail_if_no_progress apply mk_grows | apply ite_grows

theorem State.pauseTake_grows {b₀ : State} {s : State} {i m : Nat} (h0 : b₀.Grows s) : b₀.Grows (State.pauseTake s i m) := by
  delta State.pauseTake
  repeat' first
    | with_reducible assumption | (intro x; fail_if_success clear_value x)
    | ((try lift_lets -underBinder); intro x; first | (refine (have _ : b₀.Grows x := ?_; ?_); (on_goal 2 => clear_value x); (on_goal 1 => dsimp only [x]; clear x)) | clear_value x)
    | intro _ | with_reducible apply State.unschedule_grows | with_reducible apply State.setSlot_grows
    | with_reducible apply State.setRun_grows | with_reducible apply State.put_grows
    | with_reducible apply State.cancelTrain_grows | with_reducible apply State.fetchMore_grows
    | with_reducible apply State.slotGo_grows | with_reducible apply State.sendJobUp_grows
    | with_reducible fail_if_no_progress apply mk_grows | with_reducible apply ite_grows
    | with_reducible apply foldl_grows

theorem State.raiseMark_grows {b₀ : State} {s : State} {i m : Nat} (h0 : b₀.Grows s) : b₀.Grows (State.raiseMark s i m) := by
  delta State.raiseMark
  with_reducible repeat' first
    | assumption
    | ((try lift_lets -underBinder); intro x; first | (refine (have _ : b₀.Grows x := ?_; ?_); (on_goal 2 => clear_value x); (on_goal 1 => dsimp only [x]; clear x)) | clear_value x)
    | apply State.pauseTake_grows | apply State.setSlot_grows | apply State.setJobs_grows
    | apply State.afterMark_grows | fail_if_no_progress apply mk_grows | apply ite_grows

theorem State.markLate_grows {b₀ : State} {s : State} {m placed : Nat} (h0 : b₀.Grows s) :
    b₀.Grows (State.markLate s m placed) := by
  delta State.markLate
  with_reducible repeat' first
    | assumption
    | ((try lift_lets -underBinder); intro x; (refine (have _ : b₀.Grows x := ?_; ?_); (on_goal 2 => clear_value x); (on_goal 1 => dsimp only [x]; clear x)))
    | apply State.bumpSat_grows | apply State.put_grows | apply State.report_grows

theorem State.gateEnd_grows {b₀ : State} {s : State} {i : Nat} {ok : Bool} {tc arrival : Nat} (h0 : b₀.Grows s) :
    b₀.Grows (State.gateEnd s i ok tc arrival) := by
  delta State.gateEnd
  with_reducible repeat' first
    | assumption
    | ((try lift_lets -underBinder); intro x; first | (refine (have _ : b₀.Grows x := ?_; ?_); (on_goal 2 => clear_value x); (on_goal 1 => dsimp only [x]; clear x)) | clear_value x)
    | apply State.wakeAll_grows | apply State.put_grows | apply State.slotFault_grows | apply State.markLate_grows
    | apply State.setSlot_grows | apply State.setJobs_grows | apply State.fixInstants_grows | apply State.plan_grows
    | fail_if_no_progress apply mk_grows | apply ite_grows | split

theorem State.stepDone_grows {b₀ : State} {s : State} (h0 : b₀.Grows s) : b₀.Grows (State.stepDone s) := by
  delta State.stepDone
  with_reducible repeat' first
    | assumption | apply State.setSlot_grows | apply State.gateTry_grows | fail_if_no_progress apply mk_grows
    | apply ite_grows | split

theorem State.sawMsg_grows {b₀ : State} {s : State} {m : JobMsg} (h0 : b₀.Grows s) : b₀.Grows (State.sawMsg s m) := by
  delta State.sawMsg
  with_reducible repeat' first
    | assumption
    | ((try lift_lets -underBinder); intro x; first | (refine (have _ : b₀.Grows x := ?_; ?_); (on_goal 2 => clear_value x); (on_goal 1 => dsimp only [x]; clear x)) | clear_value x)
    | apply State.setJobs_grows | apply State.setSlot_grows | fail_if_no_progress apply mk_grows | split

theorem State.setGroup_grows {b₀ : State} {s : State} {d : Dev} {gid : Nat} {g : GroupRec} (h0 : b₀.Grows s) :
    b₀.Grows (State.setGroup s d gid g) := by
  delta State.setGroup
  with_reducible repeat' first
    | assumption | apply State.setTree_grows

theorem State.bareAnswer_grows {b₀ : State} {s : State} {m : JobMsg} {kind status : Nat} (h0 : b₀.Grows s) :
    b₀.Grows (State.bareAnswer s m kind status) := by
  delta State.bareAnswer
  with_reducible repeat' first
    | assumption | apply State.sendJobUp_grows

theorem State.memberArm_grows {b₀ : State} {s : State} {m : JobMsg} (h0 : b₀.Grows s) : b₀.Grows (State.memberArm s m) := by
  delta State.memberArm
  with_reducible repeat' first
    | assumption
    | ((try lift_lets -underBinder); intro x; first | (refine (have _ : b₀.Grows x := ?_; ?_); (on_goal 2 => clear_value x); (on_goal 1 => dsimp only [x]; clear x)) | clear_value x)
    | apply State.bareAnswer_grows | apply State.setSlot_grows | apply State.setRun_grows | apply State.slotGo_grows
    | apply State.fetchMore_grows | fail_if_no_progress apply mk_grows | apply ite_grows | split

theorem State.memberCommit_grows {b₀ : State} {s : State} {m : JobMsg} (h0 : b₀.Grows s) : b₀.Grows (State.memberCommit s m) := by
  delta State.memberCommit
  with_reducible repeat' first
    | assumption
    | ((try lift_lets -underBinder); intro x; first | (refine (have _ : b₀.Grows x := ?_; ?_); (on_goal 2 => clear_value x); (on_goal 1 => dsimp only [x]; clear x)) | clear_value x)
    | apply State.jobAnswer_grows | apply State.setSlot_grows | apply State.setRun_grows | apply State.commitOk_grows
    | fail_if_no_progress apply mk_grows | apply ite_grows | split

theorem State.memberConfirm_grows {b₀ : State} {s : State} {m : JobMsg} (h0 : b₀.Grows s) :
    b₀.Grows (State.memberConfirm s m) := by
  delta State.memberConfirm
  with_reducible repeat' first
    | assumption | apply State.slotGo_grows | apply State.fixAll_grows | apply State.plan_grows
    | apply State.setRun_grows | fail_if_no_progress apply mk_grows | apply ite_grows | split

theorem State.memberAbort_grows {b₀ : State} {s : State} {m : JobMsg} (h0 : b₀.Grows s) : b₀.Grows (State.memberAbort s m) := by
  delta State.memberAbort
  with_reducible repeat' first
    | assumption | ((try lift_lets -underBinder); intro x; clear_value x) | apply State.slotIdle_grows
    | apply State.setRun_grows | apply State.replan_grows | fail_if_no_progress apply mk_grows | apply ite_grows
    | split

theorem State.marksAfter_grows {b₀ : State} {s : State} {i td : Nat} (h0 : b₀.Grows s) : b₀.Grows (State.marksAfter s i td) := by
  delta State.marksAfter
  repeat' first
    | with_reducible assumption | (intro x; fail_if_success clear_value x)
    | ((try lift_lets -underBinder); intro x; clear_value x) | intro _ | with_reducible apply State.report_grows
    | with_reducible apply foldl_grows

theorem State.memberTeardown_grows {b₀ : State} {s : State} {m : JobMsg} (h0 : b₀.Grows s) :
    b₀.Grows (State.memberTeardown s m) := by
  delta State.memberTeardown
  with_reducible repeat' first
    | assumption | ((try lift_lets -underBinder); intro x; clear_value x) | apply State.marksAfter_grows
    | apply State.startDrain_grows | apply State.setRun_grows | fail_if_no_progress apply mk_grows | apply ite_grows
    | split

theorem State.memberDefer_grows {b₀ : State} {s : State} {m : JobMsg} (h0 : b₀.Grows s) : b₀.Grows (State.memberDefer s m) := by
  delta State.memberDefer
  with_reducible repeat' first
    | assumption | ((try lift_lets -underBinder); intro x; clear_value x) | apply State.slotFault_grows
    | apply State.bumpSat_grows | apply State.setRun_grows | apply State.replan_grows | apply State.showJob_grows
    | fail_if_no_progress apply mk_grows | apply ite_grows | split

theorem State.memberPause_grows {b₀ : State} {s : State} {m : JobMsg} (h0 : b₀.Grows s) : b₀.Grows (State.memberPause s m) := by
  delta State.memberPause
  with_reducible repeat' first
    | assumption | ((try lift_lets -underBinder); intro x; clear_value x) | apply State.slotFault_grows
    | apply State.setRun_grows | apply State.put_grows | fail_if_no_progress apply mk_grows | apply ite_grows | split

theorem State.memberResume_grows {b₀ : State} {s : State} {m : JobMsg} (h0 : b₀.Grows s) : b₀.Grows (State.memberResume s m) := by
  delta State.memberResume
  with_reducible repeat' first
    | assumption
    | ((try lift_lets -underBinder); intro x; first | (refine (have _ : b₀.Grows x := ?_; ?_); (on_goal 2 => clear_value x); (on_goal 1 => dsimp only [x]; clear x)) | clear_value x)
    | apply State.setRun_grows | apply State.jobAnswer_grows | fail_if_no_progress apply mk_grows | apply ite_grows
    | split

theorem State.sendCheck_grows {b₀ : State} {s : State} {i : Nat} (h0 : b₀.Grows s) : b₀.Grows (State.sendCheck s i) := by
  delta State.sendCheck
  with_reducible repeat' first
    | assumption | ((try lift_lets -underBinder); intro x; clear_value x) | apply State.sendJobUp_grows

theorem State.startJob_grows {b₀ : State} {s : State} {i : Nat} (h0 : b₀.Grows s) : b₀.Grows (State.startJob s i) := by
  delta State.startJob
  with_reducible repeat' first
    | assumption
    | ((try lift_lets -underBinder); intro x; first | (refine (have _ : b₀.Grows x := ?_; ?_); (on_goal 2 => clear_value x); (on_goal 1 => dsimp only [x]; clear x)) | clear_value x)
    | apply State.setJobs_grows | apply State.slotGo_grows | apply State.put_grows | apply State.setPg_grows
    | apply State.setDet_grows | apply State.setRun_grows | apply State.alignMark_grows | apply State.detBegin_grows
    | apply State.sendCheck_grows | apply State.afterMark_grows | apply State.jobTimeState_grows
    | fail_if_no_progress apply mk_grows | apply ite_grows

theorem State.resumeJob_grows {b₀ : State} {s : State} {i t : Nat} (h0 : b₀.Grows s) : b₀.Grows (State.resumeJob s i t) := by
  delta State.resumeJob
  with_reducible repeat' first
    | assumption
    | ((try lift_lets -underBinder); intro x; first | (refine (have _ : b₀.Grows x := ?_; ?_); (on_goal 2 => clear_value x); (on_goal 1 => dsimp only [x]; clear x)) | clear_value x)
    | apply State.moveJob_grows | apply State.setRun_grows | apply State.put_grows | apply State.setJobs_grows
    | apply State.slotGo_grows | apply State.alignMark_grows | apply State.detBegin_grows
    | apply State.sendCheck_grows | apply State.afterMark_grows | apply State.jobTimeState_grows
    | fail_if_no_progress apply mk_grows | split

end Sys2Proof.Machine
end

