-- ==== Sys2Proof/Laws/GrowsQueues.lean ====
section
/-! SUPPORT. Every operation and meaning of Machine/Queues.lean grows the state it is given: one lemma each. -/

namespace Sys2Proof.Machine

open Sys2Proof

theorem State.showBound_grows {b₀ : State} {s : State} (h0 : b₀.Grows s) : b₀.Grows (State.showBound s) := by
  delta State.showBound
  with_reducible repeat' first
    | assumption | apply State.put_grows

theorem State.setQueue_grows {b₀ : State} {s : State} {n : Nat} {q : Queue} (h0 : b₀.Grows s) :
    b₀.Grows (State.setQueue s n q) := by
  delta State.setQueue
  with_reducible repeat' first
    | assumption | apply State.showBound_grows | fail_if_no_progress apply mk_grows

theorem State.queueErr_grows {b₀ : State} {s : State} {n cause : Nat} (h0 : b₀.Grows s) :
    b₀.Grows (State.queueErr s n cause) := by
  delta State.queueErr
  with_reducible repeat' first
    | assumption | apply State.put_grows

theorem State.ringAll_grows {b₀ : State} {s : State} {m : GroupMsg} (h0 : b₀.Grows s) : b₀.Grows (State.ringAll s m) := by
  delta State.ringAll
  repeat' first
    | with_reducible assumption | intro _ | with_reducible apply State.doIf_grows
    | with_reducible apply State.ringFrame_grows | with_reducible apply foldl_grows

theorem State.memberFault_grows {b₀ : State} {s : State} {q : Queue} {o : QOp} {cause : Nat} (h0 : b₀.Grows s) :
    b₀.Grows (State.memberFault s q o cause) := by
  delta State.memberFault
  with_reducible repeat' first
    | assumption | ((try lift_lets -underBinder); intro x; clear_value x) | apply State.ringAll_grows
    | apply State.sendUp_grows | fail_if_no_progress apply mk_grows | apply ite_grows

theorem State.countDone_grows {b₀ : State} {s : State} {n st cause ua : Nat} (h0 : b₀.Grows s) :
    b₀.Grows (State.countDone s n st cause ua) := by
  delta State.countDone
  with_reducible repeat' first
    | assumption
    | ((try lift_lets -underBinder); intro x; first | (refine (have _ : b₀.Grows x := ?_; ?_); (on_goal 2 => clear_value x); (on_goal 1 => dsimp only [x]; clear x)) | clear_value x)
    | apply State.setQueue_grows | apply State.put_grows | fail_if_no_progress apply mk_grows | apply ite_grows

theorem State.writeEntry_grows {b₀ : State} {s : State} {n st cause oseq tag tc ua : Nat} {area : List Byte} (h0 : b₀.Grows s) :
    b₀.Grows (State.writeEntry s n st cause oseq tag tc ua area) := by
  delta State.writeEntry
  with_reducible repeat' first
    | assumption
    | ((try lift_lets -underBinder); intro x; first | (refine (have _ : b₀.Grows x := ?_; ?_); (on_goal 2 => clear_value x); (on_goal 1 => dsimp only [x]; clear x)) | clear_value x)
    | apply State.emit_grows | apply State.setQueue_grows | apply State.countDone_grows

theorem State.deliver_grows {b₀ : State} {s : State} {n : Nat} {o : QOp} {st cause ua tc : Nat} {body : List Byte} (h0 : b₀.Grows s) :
    b₀.Grows (State.deliver s n o st cause ua tc body) := by
  delta State.deliver
  with_reducible repeat' first
    | assumption | apply State.writeEntry_grows | apply State.countDone_grows | apply State.mailTo_grows
    | apply State.gateEnd_grows | apply State.linkEnd_grows | apply ite_grows | split

theorem State.flushQueue_grows {b₀ : State} {s : State} {n : Nat} {x₀ : Nat} (h0 : b₀.Grows s) :
    b₀.Grows (State.flushQueue s n x₀) := by
  induction x₀ generalizing s with
  | zero => unfold State.flushQueue; with_reducible repeat' first
    | assumption
    | ((try lift_lets -underBinder); intro x; first | (refine (have _ : b₀.Grows x := ?_; ?_); (on_goal 2 => clear_value x); (on_goal 1 => dsimp only [x]; clear x)) | clear_value x)
  | succ n ih =>
    unfold State.flushQueue
    with_reducible repeat' first
    | assumption | ((try lift_lets -underBinder); intro x; clear_value x) | apply ih | apply State.setQueue_grows
    | apply done_grows | apply State.deliver_grows | fail_if_no_progress apply mk_grows | split

theorem State.endOp_grows {b₀ : State} {s : State} {n : Nat} {oseq : BitVec 16} {st cause ua tc : Nat} {body : List Byte} (h0 : b₀.Grows s) :
    b₀.Grows (State.endOp s n oseq st cause ua tc body) := by
  delta State.endOp
  with_reducible repeat' first
    | assumption | ((try lift_lets -underBinder); intro x; clear_value x) | apply State.setQueue_grows
    | apply State.flushQueue_grows | apply done_grows | apply State.bumpSat_grows | apply State.put_grows
    | fail_if_no_progress apply mk_grows | apply ite_grows | apply fst_ite_grows | split

theorem State.pkgCount_grows {b₀ : State} {s : State} {n : Nat} {oseq : BitVec 16} {die stamp : Nat} (h0 : b₀.Grows s) :
    b₀.Grows (State.pkgCount s n oseq die stamp) := by
  delta State.pkgCount
  with_reducible repeat' first
    | assumption
    | ((try lift_lets -underBinder); intro x; first | (refine (have _ : b₀.Grows x := ?_; ?_); (on_goal 2 => clear_value x); (on_goal 1 => dsimp only [x]; clear x)) | clear_value x)
    | apply done_grows | apply State.setQueue_grows | apply State.endOp_grows | fail_if_no_progress apply mk_grows
    | apply ite_grows

theorem State.sendOp_grows {b₀ : State} {s : State} {n : Nat} {o : QOp} {es : List Elem} (h0 : b₀.Grows s) :
    b₀.Grows (State.sendOp s n o es) := by
  delta State.sendOp
  repeat' first
    | with_reducible assumption | (intro x; fail_if_success clear_value x)
    | ((try lift_lets -underBinder); intro x; clear_value x) | intro _ | with_reducible apply State.setQueue_grows
    | with_reducible apply State.endOp_grows | with_reducible apply State.ringAll_grows
    | with_reducible apply State.pkgCount_grows | with_reducible apply State.sendUp_grows
    | with_reducible fail_if_no_progress apply mk_grows | with_reducible apply ite_grows
    | with_reducible apply fst_ite_grows | with_reducible apply foldl_grows | with_reducible apply fst_foldl_grows
    | split

theorem State.acceptOp_grows {b₀ : State} {s : State} {n : Nat} {o : QOp} {es : List Elem} (h0 : b₀.Grows s) :
    b₀.Grows (State.acceptOp s n o es) := by
  delta State.acceptOp
  with_reducible repeat' first
    | assumption | ((try lift_lets -underBinder); intro x; clear_value x) | apply State.setQueue_grows
    | apply State.sendOp_grows

theorem State.pumpQueue_grows {b₀ : State} {s : State} {n : Nat} (h0 : b₀.Grows s) : b₀.Grows (State.pumpQueue s n) := by
  delta State.pumpQueue
  with_reducible repeat' first
    | assumption
    | ((try lift_lets -underBinder); intro x; first | (refine (have _ : b₀.Grows x := ?_; ?_); (on_goal 2 => clear_value x); (on_goal 1 => dsimp only [x]; clear x)) | clear_value x)
    | apply State.setQueue_grows | apply State.emitIf_grows | fail_if_no_progress apply mk_grows | apply ite_grows

theorem State.admitQueue_grows {b₀ : State} {s : State} {n : Nat} {x₀ : Nat} (h0 : b₀.Grows s) :
    b₀.Grows (State.admitQueue s n x₀) := by
  induction x₀ generalizing s with
  | zero => unfold State.admitQueue; with_reducible repeat' first
    | assumption
    | ((try lift_lets -underBinder); intro x; first | (refine (have _ : b₀.Grows x := ?_; ?_); (on_goal 2 => clear_value x); (on_goal 1 => dsimp only [x]; clear x)) | clear_value x)
    | apply ih | apply State.pumpQueue_grows
  | succ n ih =>
    unfold State.admitQueue
    with_reducible repeat' first
    | assumption
    | ((try lift_lets -underBinder); intro x; first | (refine (have _ : b₀.Grows x := ?_; ?_); (on_goal 2 => clear_value x); (on_goal 1 => dsimp only [x]; clear x)) | clear_value x)
    | apply ih | apply State.pumpQueue_grows | apply State.setQueue_grows | apply State.acceptOp_grows
    | fail_if_no_progress apply mk_grows | apply ite_grows | split

theorem State.bounce_grows {b₀ : State} {s : State} {src ref : Nat} (h0 : b₀.Grows s) : b₀.Grows (State.bounce s src ref) := by
  delta State.bounce
  with_reducible repeat' first
    | assumption | apply State.mailTo_grows | apply State.gateEnd_grows | apply State.linkEnd_grows | split

theorem State.internalOp_grows {b₀ : State} {s : State} {n src ref : Nat} {entry : List Byte} (h0 : b₀.Grows s) :
    b₀.Grows (State.internalOp s n src ref entry) := by
  delta State.internalOp
  with_reducible repeat' first
    | assumption | ((try lift_lets -underBinder); intro x; clear_value x) | apply State.bounce_grows
    | apply State.setQueue_grows | apply State.admitQueue_grows | fail_if_no_progress apply mk_grows | apply ite_grows

theorem State.finishOp_grows {b₀ : State} {s : State} {n : Nat} {oseq : BitVec 16} {st cause ua tc : Nat} {body : List Byte} (h0 : b₀.Grows s) :
    b₀.Grows (State.finishOp s n oseq st cause ua tc body) := by
  delta State.finishOp
  with_reducible repeat' first
    | assumption | apply State.endOp_grows | apply State.admitQueue_grows

theorem State.digestOp_grows {b₀ : State} {s : State} {stage : Nat} (h0 : b₀.Grows s) : b₀.Grows (State.digestOp s stage) := by
  delta State.digestOp
  with_reducible repeat' first
    | assumption | ((try lift_lets -underBinder); intro x; clear_value x) | apply State.digDone_grows
    | apply State.internalOp_grows | apply ite_grows

theorem State.endAll_grows {b₀ : State} {s : State} {n : Nat} {fault : Bool} (h0 : b₀.Grows s) :
    b₀.Grows (State.endAll s n fault) := by
  delta State.endAll
  repeat' first
    | with_reducible assumption | (intro x; fail_if_success clear_value x)
    | ((try lift_lets -underBinder); intro x; first | (refine (have _ : b₀.Grows x := ?_; ?_); (on_goal 2 => clear_value x); (on_goal 1 => dsimp only [x]; clear x)) | clear_value x)
    | intro _ | with_reducible apply State.memberFault_grows | with_reducible apply State.setQueue_grows
    | with_reducible apply State.bounce_grows | with_reducible apply State.flushQueue_grows
    | with_reducible fail_if_no_progress apply mk_grows | with_reducible apply ite_grows
    | with_reducible apply fst_ite_grows | with_reducible apply foldl_grows

theorem State.enableQueue_grows {b₀ : State} {s : State} {n : Nat} (h0 : b₀.Grows s) : b₀.Grows (State.enableQueue s n).1 := by
  delta State.enableQueue
  with_reducible repeat' first
    | assumption | ((try lift_lets -underBinder); intro x; clear_value x) | apply State.queueErr_grows
    | apply done_grows | apply State.setQueue_grows | fail_if_no_progress apply mk_grows | apply ite_grows
    | apply fst_ite_grows

theorem State.disableQueue_grows {b₀ : State} {s : State} {n : Nat} (h0 : b₀.Grows s) : b₀.Grows (State.disableQueue s n) := by
  delta State.disableQueue
  with_reducible repeat' first
    | assumption
    | ((try lift_lets -underBinder); intro x; first | (refine (have _ : b₀.Grows x := ?_; ?_); (on_goal 2 => clear_value x); (on_goal 1 => dsimp only [x]; clear x)) | clear_value x)
    | apply State.endAll_grows | apply State.setQueue_grows

theorem State.queueCfg_grows {b₀ : State} {s : State} {n v : Nat} (h0 : b₀.Grows s) : b₀.Grows (State.queueCfg s n v) := by
  delta State.queueCfg
  with_reducible repeat' first
    | assumption
    | ((try lift_lets -underBinder); intro x; first | (refine (have _ : b₀.Grows x := ?_; ?_); (on_goal 2 => clear_value x); (on_goal 1 => dsimp only [x]; clear x)) | clear_value x)
    | apply State.disableQueue_grows | apply State.setQueue_grows | apply State.enableQueue_grows
    | fail_if_no_progress apply mk_grows | apply ite_grows

theorem State.fetched_grows {b₀ : State} {s : State} {n : Nat} {ok : Bool} {e : List Byte} (h0 : b₀.Grows s) :
    b₀.Grows (State.fetched s n ok e) := by
  delta State.fetched
  with_reducible repeat' first
    | assumption
    | ((try lift_lets -underBinder); intro x; first | (refine (have _ : b₀.Grows x := ?_; ?_); (on_goal 2 => clear_value x); (on_goal 1 => dsimp only [x]; clear x)) | clear_value x)
    | apply State.logicWork_grows | apply State.setQueue_grows | apply State.pumpQueue_grows
    | apply State.queueErr_grows | apply State.writeEntry_grows | apply State.acceptOp_grows
    | apply State.admitQueue_grows | fail_if_no_progress apply mk_grows | apply ite_grows | split

theorem State.cqHeadWrite_grows {b₀ : State} {s : State} {n v : Nat} (h0 : b₀.Grows s) : b₀.Grows (State.cqHeadWrite s n v) := by
  delta State.cqHeadWrite
  with_reducible repeat' first
    | assumption | ((try lift_lets -underBinder); intro x; clear_value x) | apply State.setQueue_grows
    | apply State.pumpQueue_grows

theorem State.renewQueue_grows {b₀ : State} {s : State} {gid gen : Nat} (h0 : b₀.Grows s) :
    b₀.Grows (State.renewQueue s gid gen) := by
  delta State.renewQueue
  with_reducible repeat' first
    | assumption
    | ((try lift_lets -underBinder); intro x; first | (refine (have _ : b₀.Grows x := ?_; ?_); (on_goal 2 => clear_value x); (on_goal 1 => dsimp only [x]; clear x)) | clear_value x)
    | apply State.endGroupSessions_grows | apply State.setQueue_grows | apply State.endAll_grows | apply done_grows
    | apply State.pumpQueue_grows | fail_if_no_progress apply mk_grows | apply ite_grows | split

theorem State.unsealQueue_grows {b₀ : State} {s : State} {gid : Nat} (h0 : b₀.Grows s) : b₀.Grows (State.unsealQueue s gid) := by
  delta State.unsealQueue
  with_reducible repeat' first
    | assumption
    | ((try lift_lets -underBinder); intro x; first | (refine (have _ : b₀.Grows x := ?_; ?_); (on_goal 2 => clear_value x); (on_goal 1 => dsimp only [x]; clear x)) | clear_value x)
    | apply State.setQueue_grows | apply State.endAll_grows | apply done_grows | fail_if_no_progress apply mk_grows
    | split

theorem State.bindQueue_grows {b₀ : State} {s : State} {gid gen depth : Nat} (h0 : b₀.Grows s) :
    b₀.Grows (State.bindQueue s gid gen depth).1 := by
  delta State.bindQueue
  with_reducible repeat' first
    | assumption | ((try lift_lets -underBinder); intro x; clear_value x) | apply State.setQueue_grows
    | apply State.admitQueue_grows | fail_if_no_progress apply mk_grows | apply ite_grows | apply fst_ite_grows
    | split

end Sys2Proof.Machine
end

