-- ==== Sys2Proof/Laws/GrowsWindows.lean ====
section
/-! SUPPORT. Every operation and meaning of Machine/Windows.lean grows the state it is given: one lemma each. -/

namespace Sys2Proof.Machine

open Sys2Proof

theorem State.setWindows_grows {b₀ : State} {s : State} {ws : List Window} (h0 : b₀.Grows s) :
    b₀.Grows (State.setWindows s ws) := by
  delta State.setWindows
  with_reducible repeat' first
    | assumption | fail_if_no_progress apply mk_grows

theorem State.showWindows_grows {b₀ : State} {s : State} {p : PortId} (h0 : b₀.Grows s) : b₀.Grows (State.showWindows s p) := by
  delta State.showWindows
  with_reducible repeat' first
    | assumption
    | ((try lift_lets -underBinder); intro x; first | (refine (have _ : b₀.Grows x := ?_; ?_); (on_goal 2 => clear_value x); (on_goal 1 => dsimp only [x]; clear x)) | clear_value x)
    | apply State.putB_grows | apply State.put_grows | split

theorem State.setOcs_grows {b₀ : State} {s : State} {o : Nat} {x : Ocs} (h0 : b₀.Grows s) : b₀.Grows (State.setOcs s o x) := by
  delta State.setOcs
  with_reducible repeat' first
    | assumption | fail_if_no_progress apply mk_grows

theorem State.ocsAwait_grows {b₀ : State} {s : State} {o : Nat} (h0 : b₀.Grows s) : b₀.Grows (State.ocsAwait s o) := by
  delta State.ocsAwait
  with_reducible repeat' first
    | assumption | apply State.setOcs_grows | apply State.put_grows | fail_if_no_progress apply mk_grows
    | apply ite_grows | split

theorem State.windowsMoved_grows {b₀ : State} {s : State} {ports : List Nat} (h0 : b₀.Grows s) :
    b₀.Grows (State.windowsMoved s ports) := by
  delta State.windowsMoved
  repeat' first
    | with_reducible assumption | (intro x; fail_if_success clear_value x)
    | ((try lift_lets -underBinder); intro x; first | (refine (have _ : b₀.Grows x := ?_; ?_); (on_goal 2 => clear_value x); (on_goal 1 => dsimp only [x]; clear x)) | (refine (have _ : b₀.Grows x.1 := ?_; ?_); (on_goal 2 => clear_value x); (on_goal 1 => dsimp only [x]; clear x)))
    | intro _ | with_reducible apply State.showWindows_grows | with_reducible apply State.ocsAwait_grows
    | with_reducible apply foldl_grows

theorem State.dropWindows_grows {b₀ : State} {s : State} {word : Nat} (h0 : b₀.Grows s) :
    b₀.Grows (State.dropWindows s word) := by
  delta State.dropWindows
  with_reducible repeat' first
    | assumption | ((try lift_lets -underBinder); intro x; clear_value x) | apply State.setWindows_grows
    | apply State.windowsMoved_grows | apply ite_grows

theorem State.keepWindow_grows {b₀ : State} {s : State} {w : Window} (h0 : b₀.Grows s) : b₀.Grows (State.keepWindow s w) := by
  delta State.keepWindow
  with_reducible repeat' first
    | assumption | ((try lift_lets -underBinder); intro x; clear_value x) | apply State.setWindows_grows
    | apply State.windowsMoved_grows

theorem State.showSwitching_grows {b₀ : State} {s : State} {p : PortId} (h0 : b₀.Grows s) :
    b₀.Grows (State.showSwitching s p) := by
  delta State.showSwitching
  with_reducible repeat' first
    | assumption | ((try lift_lets -underBinder); intro x; clear_value x) | apply State.put_grows | apply ite_grows

theorem State.switchBack_grows {b₀ : State} {s : State} {p : PortId} (h0 : b₀.Grows s) : b₀.Grows (State.switchBack s p) := by
  delta State.switchBack
  with_reducible repeat' first
    | assumption | apply State.showSwitching_grows | fail_if_no_progress apply mk_grows | apply ite_grows

theorem State.switchLoss_grows {b₀ : State} {s : State} {p : PortId} (h0 : b₀.Grows s) : b₀.Grows (State.switchLoss s p) := by
  delta State.switchLoss
  repeat' first
    | with_reducible assumption | (intro x; fail_if_success clear_value x)
    | ((try lift_lets -underBinder); intro x; clear_value x) | intro _ | with_reducible apply State.setOcs_grows
    | with_reducible apply State.logKind_grows | with_reducible fail_if_no_progress apply mk_grows
    | with_reducible apply ite_grows | with_reducible apply foldl_grows

end Sys2Proof.Machine
end

