-- ==== Sys2Proof/Laws/GrowsTree.lean ====
section
/-! SUPPORT. Every operation and meaning of Machine/Tree.lean grows the state it is given: one lemma each. -/

namespace Sys2Proof.Machine

open Sys2Proof

theorem State.sendPort_grows {b₀ : State} {s : State} {d : Dev} {p : PortId} {m : TreeMsg} (h0 : b₀.Grows s) :
    b₀.Grows (State.sendPort s d p m) := by
  delta State.sendPort
  with_reducible repeat' first
    | assumption | apply State.transmit_grows

theorem State.sendDown_grows {b₀ : State} {s : State} {g : GroupRec} {arrived : Option Path} {m : TreeMsg} (h0 : b₀.Grows s) :
    b₀.Grows (State.sendDown s g arrived m) := by
  delta State.sendDown
  repeat' first
    | with_reducible assumption | intro _ | with_reducible apply State.sendPort_grows
    | with_reducible apply foldl_grows

theorem State.ringDown_grows {b₀ : State} {s : State} {mask : Nat} {m : TreeMsg} (h0 : b₀.Grows s) :
    b₀.Grows (State.ringDown s mask m) := by
  delta State.ringDown
  repeat' first
    | with_reducible assumption | intro _ | with_reducible apply State.ringTree_grows
    | with_reducible apply foldl_grows

theorem State.carries_grows {b₀ : State} {s : State} {p : PortId} {m : TreeMsg} (h0 : b₀.Grows s) :
    b₀.Grows (State.carries s p m) := by
  delta State.carries
  with_reducible repeat' first
    | assumption | apply State.setGroup_grows | apply ite_grows | split

theorem State.sendTop_grows {b₀ : State} {s : State} {d : Dev} {g : GroupRec} {arrived : Option Path} {m : TreeMsg} (h0 : b₀.Grows s) :
    b₀.Grows (State.sendTop s d g arrived m).1 := by
  delta State.sendTop
  with_reducible repeat' first
    | assumption | apply State.sendPort_grows | apply State.carries_grows | apply ite_grows | apply fst_ite_grows
    | split

theorem State.returnCredit_grows {b₀ : State} {s : State} {path : Path} {die cls cells : Nat} (h0 : b₀.Grows s) :
    b₀.Grows (State.returnCredit s path die cls cells) := by
  delta State.returnCredit
  with_reducible repeat' first
    | assumption | ((try lift_lets -underBinder); intro x; clear_value x) | apply State.emitFrame_grows
    | apply State.emit_grows | fail_if_no_progress apply mk_grows | apply ite_grows | split

theorem State.staleMsg_grows {b₀ : State} {s : State} {d : Dev} {path : Option Path} {gid : Nat} (h0 : b₀.Grows s) :
    b₀.Grows (State.staleMsg s d path gid) := by
  delta State.staleMsg
  with_reducible repeat' first
    | assumption
    | ((try lift_lets -underBinder); intro x; first | (refine (have _ : b₀.Grows x := ?_; ?_); (on_goal 2 => clear_value x); (on_goal 1 => dsimp only [x]; clear x)) | clear_value x)
    | apply State.bumpSat_grows | apply State.put_grows | apply State.setGroup_grows
    | fail_if_no_progress apply mk_grows | apply ite_grows | split

theorem State.endHere_grows {b₀ : State} {s : State} {d : Dev} {gid : Nat} {oseq : BitVec 16} {x : Nat × Nat × Nat} {cause ua : Nat} {body : GroupBody} (h0 : b₀.Grows s) :
    b₀.Grows (State.endHere s d gid oseq x cause ua body) := by
  delta State.endHere
  with_reducible repeat' first
    | assumption
    | ((try lift_lets -underBinder); intro x; first | (refine (have _ : b₀.Grows x := ?_; ?_); (on_goal 2 => clear_value x); (on_goal 1 => dsimp only [x]; clear x)) | clear_value x)
    | apply State.drawn_grows | apply State.setGroup_grows | apply State.ringDown_grows | apply State.mailTo_grows
    | apply State.sendDown_grows | split

theorem State.nodeFault_grows {b₀ : State} {s : State} {d : Dev} {gid : Nat} {oseq : BitVec 16} {op cause ua : Nat} {arrived : Option Path} (h0 : b₀.Grows s) :
    b₀.Grows (State.nodeFault s d gid oseq op cause ua arrived) := by
  delta State.nodeFault
  with_reducible repeat' first
    | assumption
    | ((try lift_lets -underBinder); intro x; first | (refine (have _ : b₀.Grows x := ?_; ?_); (on_goal 2 => clear_value x); (on_goal 1 => dsimp only [x]; clear x)) | (refine (have _ : b₀.Grows x.1 := ?_; ?_); (on_goal 2 => clear_value x); (on_goal 1 => dsimp only [x]; clear x)) | clear_value x)
    | apply State.endHere_grows | apply State.setGroup_grows | apply State.setSlot_grows | apply State.sendTop_grows
    | fail_if_no_progress apply mk_grows | apply ite_grows

theorem State.sendContribution_grows {b₀ : State} {s : State} {d : Dev} {gid : Nat} {oseq : BitVec 16} (h0 : b₀.Grows s) :
    b₀.Grows (State.sendContribution s d gid oseq) := by
  delta State.sendContribution
  repeat' first
    | with_reducible assumption | (intro x; fail_if_success clear_value x)
    | ((try lift_lets -underBinder); intro x; first | (refine (have _ : b₀.Grows x := ?_; ?_); (on_goal 2 => clear_value x); (on_goal 1 => dsimp only [x]; clear x)) | (refine (have _ : b₀.Grows x.1 := ?_; ?_); (on_goal 2 => clear_value x); (on_goal 1 => dsimp only [x]; clear x)) | clear_value x)
    | intro _ | with_reducible apply State.setGroup_grows | with_reducible apply State.setSlot_grows
    | with_reducible apply State.sendTop_grows | with_reducible apply State.nodeFault_grows
    | with_reducible fail_if_no_progress apply mk_grows | with_reducible apply ite_grows
    | with_reducible apply fst_ite_grows | with_reducible apply foldl_grows | with_reducible apply fst_foldl_grows

theorem State.topDone_grows {b₀ : State} {s : State} {d : Dev} {gid : Nat} {oseq : BitVec 16} (h0 : b₀.Grows s) :
    b₀.Grows (State.topDone s d gid oseq) := by
  delta State.topDone
  with_reducible repeat' first
    | assumption | ((try lift_lets -underBinder); intro x; clear_value x) | apply State.endHere_grows

theorem State.trySlot_grows {b₀ : State} {s : State} {d : Dev} {gid : Nat} {oseq : BitVec 16} (h0 : b₀.Grows s) :
    b₀.Grows (State.trySlot s d gid oseq) := by
  delta State.trySlot
  with_reducible repeat' first
    | assumption | ((try lift_lets -underBinder); intro x; clear_value x) | apply State.topDone_grows
    | apply State.sendContribution_grows | apply ite_grows | split

theorem State.relayUp_grows {b₀ : State} {s : State} {gid : Nat} {m : GroupMsg} {arrived : Option Path} (h0 : b₀.Grows s) :
    b₀.Grows (State.relayUp s gid m arrived) := by
  delta State.relayUp
  with_reducible repeat' first
    | assumption
    | ((try lift_lets -underBinder); intro x; first | (refine (have _ : b₀.Grows x := ?_; ?_); (on_goal 2 => clear_value x); (on_goal 1 => dsimp only [x]; clear x)) | (refine (have _ : b₀.Grows x.1 := ?_; ?_); (on_goal 2 => clear_value x); (on_goal 1 => dsimp only [x]; clear x)) | clear_value x)
    | apply State.sendTop_grows | apply State.nodeFault_grows | fail_if_no_progress apply mk_grows | apply ite_grows

theorem State.contribution_grows {b₀ : State} {s : State} {d : Dev} {m : GroupMsg} {arrived : Option Path} (h0 : b₀.Grows s) :
    b₀.Grows (State.contribution s d m arrived) := by
  delta State.contribution
  with_reducible repeat' first
    | assumption
    | ((try lift_lets -underBinder); intro x; first | (refine (have _ : b₀.Grows x := ?_; ?_); (on_goal 2 => clear_value x); (on_goal 1 => dsimp only [x]; clear x)) | clear_value x)
    | apply State.carries_grows | apply State.relayUp_grows | apply State.setGroup_grows | apply State.trySlot_grows
    | apply State.nodeFault_grows | apply ite_grows | split

theorem State.passEnd_grows {b₀ : State} {s : State} {d : Dev} {m : GroupMsg} {arrived : Option Path} (h0 : b₀.Grows s) :
    b₀.Grows (State.passEnd s d m arrived) := by
  delta State.passEnd
  with_reducible repeat' first
    | assumption
    | ((try lift_lets -underBinder); intro x; first | (refine (have _ : b₀.Grows x := ?_; ?_); (on_goal 2 => clear_value x); (on_goal 1 => dsimp only [x]; clear x)) | clear_value x)
    | apply State.setGroup_grows | apply State.sendDown_grows | apply ite_grows | split

theorem State.memberEnd_grows {b₀ : State} {s : State} {m : GroupMsg} (h0 : b₀.Grows s) : b₀.Grows (State.memberEnd s m) := by
  delta State.memberEnd
  with_reducible repeat' first
    | assumption | apply State.finishOp_grows | apply ite_grows | split

theorem State.faultPath_grows {b₀ : State} {s : State} {d : Dev} {ops : List (Nat × OpSlot)} (h0 : b₀.Grows s) :
    b₀.Grows (State.faultPath s d ops) := by
  delta State.faultPath
  repeat' first
    | with_reducible assumption | intro _ | with_reducible apply State.nodeFault_grows
    | with_reducible apply foldl_grows

theorem State.retryAll_grows {b₀ : State} {s : State} (h0 : b₀.Grows s) : b₀.Grows (State.retryAll s) := by
  delta State.retryAll
  repeat' first
    | with_reducible assumption | intro _ | with_reducible apply State.trySlot_grows
    | with_reducible apply foldl_grows

theorem State.setActive_grows {b₀ : State} {s : State} {p : PortId} {b : Bool} (h0 : b₀.Grows s) :
    b₀.Grows (State.setActive s p b) := by
  delta State.setActive
  repeat' first
    | with_reducible assumption | (intro x; fail_if_success clear_value x)
    | ((try lift_lets -underBinder); intro x; first | (refine (have _ : b₀.Grows x := ?_; ?_); (on_goal 2 => clear_value x); (on_goal 1 => dsimp only [x]; clear x)) | (refine (have _ : b₀.Grows x.1 := ?_; ?_); (on_goal 2 => clear_value x); (on_goal 1 => dsimp only [x]; clear x)))
    | intro _ | with_reducible apply State.putB_grows | with_reducible apply ite_grows
    | with_reducible apply foldl_grows | split

theorem State.vdPortDown_grows {b₀ : State} {s : State} {p : PortId} (h0 : b₀.Grows s) : b₀.Grows (State.vdPortDown s p) := by
  delta State.vdPortDown
  with_reducible repeat' first
    | assumption | ((try lift_lets -underBinder); intro x; clear_value x) | apply State.setActive_grows
    | apply State.resetCredit_grows | apply State.faultPath_grows | apply State.retryAll_grows

theorem State.putAgg_grows {b₀ : State} {s : State} {d : Dev} {a : AckAgg} (h0 : b₀.Grows s) : b₀.Grows (State.putAgg s d a) := by
  delta State.putAgg
  with_reducible repeat' first
    | assumption | apply State.setTree_grows

theorem State.aggSend_grows {b₀ : State} {s : State} {d : Dev} {a : AckAgg} {again : Bool} (h0 : b₀.Grows s) :
    b₀.Grows (State.aggSend s d a again) := by
  delta State.aggSend
  with_reducible repeat' first
    | assumption
    | ((try lift_lets -underBinder); intro x; first | (refine (have _ : b₀.Grows x := ?_; ?_); (on_goal 2 => clear_value x); (on_goal 1 => dsimp only [x]; clear x)) | (refine (have _ : b₀.Grows x.1 := ?_; ?_); (on_goal 2 => clear_value x); (on_goal 1 => dsimp only [x]; clear x)) | clear_value x)
    | apply State.putAgg_grows | apply State.sendTop_grows | fail_if_no_progress apply mk_grows | apply ite_grows

theorem State.gather_grows {b₀ : State} {s : State} {d : Dev} {kind word cseq step port dies : Nat} (h0 : b₀.Grows s) :
    b₀.Grows (State.gather s d kind word cseq step port dies).1 := by
  delta State.gather
  with_reducible repeat' first
    | assumption | apply State.aggSend_grows | fail_if_no_progress apply mk_grows | apply ite_grows
    | apply fst_ite_grows | split

theorem State.dropAggs_grows {b₀ : State} {s : State} {d : Dev} {word : Nat} {kinds : Nat → Bool} (h0 : b₀.Grows s) :
    b₀.Grows (State.dropAggs s d word kinds) := by
  delta State.dropAggs
  with_reducible repeat' first
    | assumption | apply State.setTree_grows

theorem State.aggTimer_grows {b₀ : State} {s : State} {d : Dev} (h0 : b₀.Grows s) : b₀.Grows (State.aggTimer s d) := by
  delta State.aggTimer
  repeat' first
    | with_reducible assumption | (intro x; fail_if_success clear_value x)
    | ((try lift_lets -underBinder); intro x; clear_value x) | intro _ | with_reducible apply State.aggSend_grows
    | with_reducible fail_if_no_progress apply mk_grows | with_reducible apply foldl_grows

theorem State.resendAggs_grows {b₀ : State} {s : State} {d : Dev} (h0 : b₀.Grows s) : b₀.Grows (State.resendAggs s d) := by
  delta State.resendAggs
  repeat' first
    | with_reducible assumption | intro _ | with_reducible apply State.aggSend_grows
    | with_reducible apply foldl_grows

theorem State.renewNode_grows {b₀ : State} {s : State} {d : Dev} {gid gen : Nat} (h0 : b₀.Grows s) :
    b₀.Grows (State.renewNode s d gid gen) := by
  delta State.renewNode
  repeat' first
    | with_reducible assumption | (intro x; fail_if_success clear_value x)
    | ((try lift_lets -underBinder); intro x; first | (refine (have _ : b₀.Grows x := ?_; ?_); (on_goal 2 => clear_value x); (on_goal 1 => dsimp only [x]; clear x)) | clear_value x)
    | intro _ | with_reducible apply State.dropAggs_grows | with_reducible apply State.setTree_grows
    | with_reducible apply State.showResv_grows | with_reducible apply State.doIf_grows
    | with_reducible apply State.endGroupSessions_grows | with_reducible apply State.setGroup_grows
    | with_reducible apply done_grows | with_reducible fail_if_no_progress apply mk_grows
    | with_reducible apply ite_grows

theorem State.showGroups_grows {b₀ : State} {s : State} {d : Dev} (h0 : b₀.Grows s) : b₀.Grows (State.showGroups s d) := by
  delta State.showGroups
  with_reducible repeat' first
    | assumption | ((try lift_lets -underBinder); intro x; clear_value x) | apply State.put_grows | split

theorem State.freeNode_grows {b₀ : State} {s : State} {d : Dev} {gid : Nat} (h0 : b₀.Grows s) :
    b₀.Grows (State.freeNode s d gid) := by
  delta State.freeNode
  with_reducible repeat' first
    | assumption | apply State.setGroup_grows | apply done_grows | apply State.showGroups_grows

end Sys2Proof.Machine
end

