-- ==== Sys2Proof/Laws/GrowsJobRoot.lean ====
section
/-! SUPPORT. Every operation and meaning of Machine/JobRoot.lean grows the state it is given: one lemma each. -/

namespace Sys2Proof.Machine

open Sys2Proof

theorem State.setJob_grows {b₀ : State} {s : State} {d : Dev} {r : JobRec} (h0 : b₀.Grows s) : b₀.Grows (State.setJob s d r) := by
  delta State.setJob
  with_reducible repeat' first
    | assumption | apply State.setTree_grows

theorem State.jobDown_grows {b₀ : State} {s : State} {d : Dev} {m : JobMsg} (h0 : b₀.Grows s) :
    b₀.Grows (State.jobDown s d m) := by
  delta State.jobDown
  with_reducible repeat' first
    | assumption | ((try lift_lets -underBinder); intro x; clear_value x) | apply State.ringDown_grows
    | apply State.mailTo_grows | apply State.sendDown_grows | split

theorem State.roundFail_grows {b₀ : State} {s : State} {d : Dev} {r : JobRec} {status ua : Nat} (h0 : b₀.Grows s) :
    b₀.Grows (State.roundFail s d r status ua) := by
  delta State.roundFail
  with_reducible repeat' first
    | assumption
    | ((try lift_lets -underBinder); intro x; first | (refine (have _ : b₀.Grows x := ?_; ?_); (on_goal 2 => clear_value x); (on_goal 1 => dsimp only [x]; clear x)) | clear_value x)
    | apply State.jobDown_grows | apply State.setJob_grows | apply State.complete_grows

theorem State.retire_grows {b₀ : State} {s : State} {d : Dev} {r : JobRec} (h0 : b₀.Grows s) : b₀.Grows (State.retire s d r) := by
  delta State.retire
  repeat' first
    | with_reducible assumption | (intro x; fail_if_success clear_value x)
    | ((try lift_lets -underBinder); intro x; first | (refine (have _ : b₀.Grows x := ?_; ?_); (on_goal 2 => clear_value x); (on_goal 1 => dsimp only [x]; clear x)) | clear_value x)
    | intro _ | with_reducible apply State.report_grows | with_reducible apply State.jobDown_grows
    | with_reducible apply State.renewNode_grows | with_reducible apply State.dropWindows_grows
    | with_reducible apply State.setJob_grows | with_reducible apply State.complete_grows
    | with_reducible fail_if_no_progress apply mk_grows | with_reducible apply ite_grows
    | with_reducible apply fst_ite_grows | with_reducible apply foldl_grows

theorem State.tear_grows {b₀ : State} {s : State} {d : Dev} {r : JobRec} {td cause : Nat} (h0 : b₀.Grows s) :
    b₀.Grows (State.tear s d r td cause) := by
  delta State.tear
  with_reducible repeat' first
    | assumption
    | ((try lift_lets -underBinder); intro x; first | (refine (have _ : b₀.Grows x := ?_; ?_); (on_goal 2 => clear_value x); (on_goal 1 => dsimp only [x]; clear x)) | clear_value x)
    | apply State.jobDown_grows | apply State.setJob_grows | apply State.complete_grows
    | fail_if_no_progress apply mk_grows | apply ite_grows

theorem State.roundOk_grows {b₀ : State} {s : State} {d : Dev} {r : JobRec} (h0 : b₀.Grows s) :
    b₀.Grows (State.roundOk s d r) := by
  delta State.roundOk
  repeat' first
    | with_reducible assumption
    | ((try lift_lets -underBinder); intro x; first | (refine (have hf : ∀ a, b₀.Grows a → b₀.Grows (x a) := ?_; ?_); (on_goal 2 => clear_value x); (on_goal 1 => dsimp only [x]; clear x)) | (refine (have _ : b₀.Grows x := ?_; ?_); (on_goal 2 => clear_value x); (on_goal 1 => dsimp only [x]; clear x)) | clear_value x)
    | intro _ | with_reducible apply done_grows | with_reducible apply State.complete_grows
    | with_reducible apply State.setJob_grows | with_reducible apply State.jobDown_grows
    | with_reducible fail_if_no_progress apply mk_grows | with_reducible apply ite_grows | with_reducible apply hf

theorem State.rootAck_grows {b₀ : State} {s : State} {d : Dev} {r : JobRec} {m : JobMsg} (h0 : b₀.Grows s) :
    b₀.Grows (State.rootAck s d r m) := by
  delta State.rootAck
  with_reducible repeat' first
    | assumption | ((try lift_lets -underBinder); intro x; clear_value x) | apply State.roundFail_grows
    | apply State.roundOk_grows | apply State.setJob_grows | fail_if_no_progress apply mk_grows | apply ite_grows

theorem State.rootCheck_grows {b₀ : State} {s : State} {d : Dev} {r : JobRec} {m : JobMsg} (h0 : b₀.Grows s) :
    b₀.Grows (State.rootCheck s d r m) := by
  delta State.rootCheck
  with_reducible repeat' first
    | assumption | ((try lift_lets -underBinder); intro x; clear_value x) | apply State.tear_grows
    | apply State.setJob_grows | fail_if_no_progress apply mk_grows | apply ite_grows

theorem State.rootDrained_grows {b₀ : State} {s : State} {d : Dev} {r : JobRec} {m : JobMsg} (h0 : b₀.Grows s) :
    b₀.Grows (State.rootDrained s d r m) := by
  delta State.rootDrained
  with_reducible repeat' first
    | assumption | ((try lift_lets -underBinder); intro x; clear_value x) | apply State.retire_grows
    | apply State.setJob_grows | fail_if_no_progress apply mk_grows | apply ite_grows

theorem State.rootFault_grows {b₀ : State} {s : State} {d : Dev} {r : JobRec} {m : JobMsg} (h0 : b₀.Grows s) :
    b₀.Grows (State.rootFault s d r m) := by
  delta State.rootFault
  repeat' first
    | with_reducible assumption | (intro x; fail_if_success clear_value x)
    | ((try lift_lets -underBinder); intro x; first | (refine (have _ : b₀.Grows x := ?_; ?_); (on_goal 2 => clear_value x); (on_goal 1 => dsimp only [x]; clear x)) | clear_value x)
    | intro _ | with_reducible apply State.doIf_grows | with_reducible apply State.report_grows
    | with_reducible apply State.setJob_grows | with_reducible apply State.roundFail_grows
    | with_reducible apply State.tear_grows | with_reducible fail_if_no_progress apply mk_grows
    | with_reducible apply ite_grows

theorem State.rootDeferReq_grows {b₀ : State} {s : State} {d : Dev} {r : JobRec} {m : JobMsg} (h0 : b₀.Grows s) :
    b₀.Grows (State.rootDeferReq s d r m) := by
  delta State.rootDeferReq
  with_reducible repeat' first
    | assumption | ((try lift_lets -underBinder); intro x; clear_value x) | apply State.setJob_grows
    | fail_if_no_progress apply mk_grows | apply ite_grows | apply fst_ite_grows | split

theorem State.grant_grows {b₀ : State} {s : State} {d : Dev} {r : JobRec} {x : Nat × Nat × Nat × Nat} (h0 : b₀.Grows s) :
    b₀.Grows (State.grant s d r x) := by
  delta State.grant
  with_reducible repeat' first
    | assumption | ((try lift_lets -underBinder); intro x; clear_value x) | apply State.setJob_grows
    | apply State.logKind_grows | apply State.jobDown_grows | fail_if_no_progress apply mk_grows | apply ite_grows

theorem State.deferTimer_grows {b₀ : State} {s : State} {d : Dev} (h0 : b₀.Grows s) : b₀.Grows (State.deferTimer s d) := by
  delta State.deferTimer
  repeat' first
    | with_reducible assumption | (intro x; fail_if_success clear_value x)
    | ((try lift_lets -underBinder); intro x; clear_value x) | intro _ | with_reducible apply State.grant_grows
    | with_reducible apply ite_grows | with_reducible apply fst_ite_grows | with_reducible apply foldl_grows
    | with_reducible apply fst_foldl_grows | split

theorem State.rootPaused_grows {b₀ : State} {s : State} {d : Dev} {r : JobRec} {m : JobMsg} (h0 : b₀.Grows s) :
    b₀.Grows (State.rootPaused s d r m) := by
  delta State.rootPaused
  with_reducible repeat' first
    | assumption | ((try lift_lets -underBinder); intro x; clear_value x) | apply State.tear_grows
    | apply State.setJob_grows | apply State.complete_grows | fail_if_no_progress apply mk_grows | apply ite_grows

theorem State.rootRx_grows {b₀ : State} {s : State} {d : Dev} {m : JobMsg} (h0 : b₀.Grows s) : b₀.Grows (State.rootRx s d m) := by
  delta State.rootRx
  with_reducible repeat' first
    | assumption | ((try lift_lets -underBinder); intro x; clear_value x) | apply State.rootAck_grows
    | apply State.rootCheck_grows | apply State.rootDrained_grows | apply State.rootFault_grows
    | apply State.rootDeferReq_grows | apply State.rootPaused_grows | apply ite_grows | split

theorem State.shadowJob_grows {b₀ : State} {s : State} {m : JobMsg} (h0 : b₀.Grows s) : b₀.Grows (State.shadowJob s m) := by
  delta State.shadowJob
  repeat' first
    | with_reducible assumption | (intro x; fail_if_success clear_value x)
    | ((try lift_lets -underBinder); intro x; first | (refine (have hf : ∀ c, b₀.Grows (x c) := ?_; ?_); (on_goal 2 => clear_value x); (on_goal 1 => dsimp only [x]; clear x)) | clear_value x)
    | intro _ | with_reducible apply State.setJob_grows | with_reducible fail_if_no_progress apply mk_grows
    | with_reducible apply ite_grows | with_reducible apply hf | split

theorem State.shadowAck_grows {b₀ : State} {s : State} {m : JobMsg} (h0 : b₀.Grows s) : b₀.Grows (State.shadowAck s m) := by
  delta State.shadowAck
  with_reducible repeat' first
    | assumption | ((try lift_lets -underBinder); intro x; clear_value x) | apply State.setJob_grows
    | fail_if_no_progress apply mk_grows | apply ite_grows | split

theorem State.commitDeadline_grows {b₀ : State} {s : State} {d : Dev} (h0 : b₀.Grows s) :
    b₀.Grows (State.commitDeadline s d) := by
  delta State.commitDeadline
  repeat' first
    | with_reducible assumption | (intro x; fail_if_success clear_value x)
    | ((try lift_lets -underBinder); intro x; clear_value x) | intro _ | with_reducible apply State.roundFail_grows
    | with_reducible apply ite_grows | with_reducible apply foldl_grows

theorem State.rootStart_grows {b₀ : State} {s : State} {d : Dev} (h0 : b₀.Grows s) : b₀.Grows (State.rootStart s d) := by
  delta State.rootStart
  with_reducible repeat' first
    | assumption | ((try lift_lets -underBinder); intro x; clear_value x) | apply State.setTree_grows

theorem State.checkTimeout_grows {b₀ : State} {s : State} {d : Dev} (h0 : b₀.Grows s) : b₀.Grows (State.checkTimeout s d) := by
  delta State.checkTimeout
  repeat' first
    | with_reducible assumption | (intro x; fail_if_success clear_value x)
    | ((try lift_lets -underBinder); intro x; clear_value x) | intro _ | with_reducible apply State.tear_grows
    | with_reducible apply ite_grows | with_reducible apply foldl_grows

theorem State.retireTimeout_grows {b₀ : State} {s : State} {d : Dev} (h0 : b₀.Grows s) : b₀.Grows (State.retireTimeout s d) := by
  delta State.retireTimeout
  repeat' first
    | with_reducible assumption | (intro x; fail_if_success clear_value x)
    | ((try lift_lets -underBinder); intro x; clear_value x) | intro _ | with_reducible apply State.retire_grows
    | with_reducible apply ite_grows | with_reducible apply foldl_grows

theorem State.pauseTimeout_grows {b₀ : State} {s : State} {d : Dev} (h0 : b₀.Grows s) : b₀.Grows (State.pauseTimeout s d) := by
  delta State.pauseTimeout
  repeat' first
    | with_reducible assumption | (intro x; fail_if_success clear_value x)
    | ((try lift_lets -underBinder); intro x; clear_value x) | intro _ | with_reducible apply State.tear_grows
    | with_reducible apply ite_grows | with_reducible apply foldl_grows

theorem State.jobArm_grows {b₀ : State} {s : State} {c : CmdCtx} {gid gen prog flags limit : Nat} {seed : BitVec 128} (h0 : b₀.Grows s) :
    b₀.Grows (State.jobArm s c gid gen prog flags limit seed) := by
  delta State.jobArm
  with_reducible repeat' first
    | assumption
    | ((try lift_lets -underBinder); intro x; first | (refine (have _ : b₀.Grows x := ?_; ?_); (on_goal 2 => clear_value x); (on_goal 1 => dsimp only [x]; clear x)) | clear_value x)
    | apply State.answer_grows | apply State.accept_grows | apply State.setJob_grows | apply State.jobDown_grows
    | fail_if_no_progress apply mk_grows | apply ite_grows | split

theorem State.jobCommit_grows {b₀ : State} {s : State} {c : CmdCtx} {gid gen : Nat} {at_ : Packed} (h0 : b₀.Grows s) :
    b₀.Grows (State.jobCommit s c gid gen at_) := by
  delta State.jobCommit
  with_reducible repeat' first
    | assumption | ((try lift_lets -underBinder); intro x; clear_value x) | apply State.answer_grows
    | apply State.accept_grows | apply State.setJob_grows | apply State.jobDown_grows
    | fail_if_no_progress apply mk_grows | apply ite_grows | split

theorem State.jobAbort_grows {b₀ : State} {s : State} {c : CmdCtx} {gid gen : Nat} (h0 : b₀.Grows s) :
    b₀.Grows (State.jobAbort s c gid gen) := by
  delta State.jobAbort
  with_reducible repeat' first
    | assumption
    | ((try lift_lets -underBinder); intro x; first | (refine (have _ : b₀.Grows x := ?_; ?_); (on_goal 2 => clear_value x); (on_goal 1 => dsimp only [x]; clear x)) | clear_value x)
    | apply State.answer_grows | apply State.jobDown_grows | apply State.setJob_grows | apply State.roundFail_grows
    | apply State.logCommand_grows | fail_if_no_progress apply mk_grows | apply ite_grows | split

theorem State.jobTeardown_grows {b₀ : State} {s : State} {c : CmdCtx} {gid gen : Nat} {at_ : Packed} (h0 : b₀.Grows s) :
    b₀.Grows (State.jobTeardown s c gid gen at_) := by
  delta State.jobTeardown
  with_reducible repeat' first
    | assumption
    | ((try lift_lets -underBinder); intro x; first | (refine (have _ : b₀.Grows x := ?_; ?_); (on_goal 2 => clear_value x); (on_goal 1 => dsimp only [x]; clear x)) | clear_value x)
    | apply State.answer_grows | apply State.accept_grows | apply State.tear_grows | apply ite_grows | split

theorem State.jobStatus_grows {b₀ : State} {s : State} {c : CmdCtx} {gid : Nat} (h0 : b₀.Grows s) :
    b₀.Grows (State.jobStatus s c gid) := by
  delta State.jobStatus
  with_reducible repeat' first
    | assumption | ((try lift_lets -underBinder); intro x; clear_value x) | apply State.answer_grows
    | apply State.logCommand_grows | fail_if_no_progress apply mk_grows | apply ite_grows | apply fst_ite_grows
    | split

theorem State.jobPause_grows {b₀ : State} {s : State} {c : CmdCtx} {gid gen : Nat} {at_ : Packed} (h0 : b₀.Grows s) :
    b₀.Grows (State.jobPause s c gid gen at_) := by
  delta State.jobPause
  with_reducible repeat' first
    | assumption | ((try lift_lets -underBinder); intro x; clear_value x) | apply State.answer_grows
    | apply State.accept_grows | apply State.setJob_grows | apply State.jobDown_grows
    | fail_if_no_progress apply mk_grows | apply ite_grows | apply fst_ite_grows | apply foldl_grows
    | apply fst_foldl_grows | split

theorem State.jobResume_grows {b₀ : State} {s : State} {c : CmdCtx} {gid gen : Nat} {at_ : Packed} (h0 : b₀.Grows s) :
    b₀.Grows (State.jobResume s c gid gen at_) := by
  delta State.jobResume
  with_reducible repeat' first
    | assumption | ((try lift_lets -underBinder); intro x; clear_value x) | apply State.answer_grows
    | apply State.accept_grows | apply State.setJob_grows | apply State.jobDown_grows
    | fail_if_no_progress apply mk_grows | apply ite_grows | split

end Sys2Proof.Machine
end

