-- ==== Sys2Proof/Laws/GrowsGroupRoot.lean ====
section
/-! SUPPORT. Every operation and meaning of Machine/GroupRoot.lean grows the state it is given: one lemma each. -/

namespace Sys2Proof.Machine

open Sys2Proof

theorem State.groupDown_grows {b₀ : State} {s : State} {d : Dev} {g : GroupRec} {m : GroupMsg} (h0 : b₀.Grows s) :
    b₀.Grows (State.groupDown s d g m) := by
  delta State.groupDown
  with_reducible repeat' first
    | assumption | apply State.ringDown_grows | apply State.mailTo_grows | apply State.sendDown_grows | split

theorem State.groupEnd_grows {b₀ : State} {s : State} {d : Dev} {gid status ua : Nat} (h0 : b₀.Grows s) :
    b₀.Grows (State.groupEnd s d gid status ua) := by
  delta State.groupEnd
  with_reducible repeat' first
    | assumption
    | ((try lift_lets -underBinder); intro x; first | (refine (have _ : b₀.Grows x := ?_; ?_); (on_goal 2 => clear_value x); (on_goal 1 => dsimp only [x]; clear x)) | clear_value x)
    | apply State.setGroup_grows | apply State.showGroups_grows | apply State.complete_grows | apply done_grows
    | apply State.dropAggs_grows | apply State.groupDown_grows | apply State.freeNode_grows
    | fail_if_no_progress apply mk_grows | apply ite_grows | split

theorem State.groupAck_grows {b₀ : State} {s : State} {d : Dev} {m : GroupMsg} (h0 : b₀.Grows s) :
    b₀.Grows (State.groupAck s d m) := by
  delta State.groupAck
  with_reducible repeat' first
    | assumption
    | ((try lift_lets -underBinder); intro x; first | (refine (have _ : b₀.Grows x := ?_; ?_); (on_goal 2 => clear_value x); (on_goal 1 => dsimp only [x]; clear x)) | clear_value x)
    | apply State.setGroup_grows | apply State.groupEnd_grows | fail_if_no_progress apply mk_grows | apply ite_grows
    | split

theorem State.roundTimeout_grows {b₀ : State} {s : State} {d : Dev} {building : Bool} (h0 : b₀.Grows s) :
    b₀.Grows (State.roundTimeout s d building) := by
  delta State.roundTimeout
  repeat' first
    | with_reducible assumption | (intro x; fail_if_success clear_value x)
    | ((try lift_lets -underBinder); intro x; clear_value x) | intro _ | with_reducible apply State.groupEnd_grows
    | with_reducible apply ite_grows | with_reducible apply fst_ite_grows | with_reducible apply foldl_grows

theorem State.vdAck_grows {b₀ : State} {s : State} {gid : Nat} {g : GroupRec} {gen status : Nat} (h0 : b₀.Grows s) :
    b₀.Grows (State.vdAck s gid g gen status) := by
  delta State.vdAck
  with_reducible repeat' first
    | assumption | ((try lift_lets -underBinder); intro x; clear_value x) | apply State.sendTop_grows

theorem State.vdBind_grows {b₀ : State} {s : State} {m : GroupMsg} {arrived : Option Path} (h0 : b₀.Grows s) :
    b₀.Grows (State.vdBind s m arrived) := by
  delta State.vdBind
  with_reducible repeat' first
    | assumption
    | ((try lift_lets -underBinder); intro x; first | (refine (have _ : b₀.Grows x := ?_; ?_); (on_goal 2 => clear_value x); (on_goal 1 => dsimp only [x]; clear x)) | clear_value x)
    | apply State.vdAck_grows | apply State.dropAggs_grows | apply State.setGroup_grows | apply State.sendDown_grows
    | apply State.showGroups_grows | fail_if_no_progress apply mk_grows | apply ite_grows | split

theorem State.vdRenew_grows {b₀ : State} {s : State} {m : GroupMsg} {arrived : Option Path} (h0 : b₀.Grows s) :
    b₀.Grows (State.vdRenew s m arrived) := by
  delta State.vdRenew
  with_reducible repeat' first
    | assumption
    | ((try lift_lets -underBinder); intro x; first | (refine (have _ : b₀.Grows x := ?_; ?_); (on_goal 2 => clear_value x); (on_goal 1 => dsimp only [x]; clear x)) | clear_value x)
    | apply State.staleMsg_grows | apply State.sendDown_grows | apply State.renewNode_grows
    | apply State.freeNode_grows | apply State.vdAck_grows | apply ite_grows

theorem State.vdUnbind_grows {b₀ : State} {s : State} {m : GroupMsg} {arrived : Option Path} (h0 : b₀.Grows s) :
    b₀.Grows (State.vdUnbind s m arrived) := by
  delta State.vdUnbind
  with_reducible repeat' first
    | assumption
    | ((try lift_lets -underBinder); intro x; first | (refine (have _ : b₀.Grows x := ?_; ?_); (on_goal 2 => clear_value x); (on_goal 1 => dsimp only [x]; clear x)) | clear_value x)
    | apply State.staleMsg_grows | apply State.sendDown_grows | apply State.dropAggs_grows
    | apply State.freeNode_grows | apply ite_grows

theorem State.dieAck_grows {b₀ : State} {s : State} {gid gen status : Nat} (h0 : b₀.Grows s) :
    b₀.Grows (State.dieAck s gid gen status) := by
  delta State.dieAck
  with_reducible repeat' first
    | assumption | ((try lift_lets -underBinder); intro x; clear_value x) | apply State.sendUp_grows

theorem State.headAck_grows {b₀ : State} {s : State} {gid gen : Nat} (h0 : b₀.Grows s) : b₀.Grows (State.headAck s gid gen) := by
  delta State.headAck
  with_reducible repeat' first
    | assumption | apply State.sendUp_grows | apply ite_grows

theorem State.dieBind_grows {b₀ : State} {s : State} {m : GroupMsg} (h0 : b₀.Grows s) : b₀.Grows (State.dieBind s m) := by
  delta State.dieBind
  with_reducible repeat' first
    | assumption
    | ((try lift_lets -underBinder); intro x; first | (refine (have _ : b₀.Grows x := ?_; ?_); (on_goal 2 => clear_value x); (on_goal 1 => dsimp only [x]; clear x)) | (refine (have _ : b₀.Grows x.1 := ?_; ?_); (on_goal 2 => clear_value x); (on_goal 1 => dsimp only [x]; clear x)) | clear_value x)
    | apply State.dieAck_grows | apply State.setGroup_grows | apply State.showGroups_grows | apply State.headAck_grows
    | apply State.bindQueue_grows | fail_if_no_progress apply mk_grows | apply ite_grows | apply fst_ite_grows | split

theorem State.dieRenew_grows {b₀ : State} {s : State} {m : GroupMsg} (h0 : b₀.Grows s) : b₀.Grows (State.dieRenew s m) := by
  delta State.dieRenew
  with_reducible repeat' first
    | assumption
    | ((try lift_lets -underBinder); intro x; first | (refine (have _ : b₀.Grows x := ?_; ?_); (on_goal 2 => clear_value x); (on_goal 1 => dsimp only [x]; clear x)) | clear_value x)
    | apply State.staleMsg_grows | apply State.renewNode_grows | apply State.renewQueue_grows
    | apply State.freeNode_grows | apply State.unsealQueue_grows | apply State.dieAck_grows
    | apply State.headAck_grows | apply ite_grows

theorem State.dieUnbind_grows {b₀ : State} {s : State} {m : GroupMsg} (h0 : b₀.Grows s) : b₀.Grows (State.dieUnbind s m) := by
  delta State.dieUnbind
  with_reducible repeat' first
    | assumption
    | ((try lift_lets -underBinder); intro x; first | (refine (have _ : b₀.Grows x := ?_; ?_); (on_goal 2 => clear_value x); (on_goal 1 => dsimp only [x]; clear x)) | clear_value x)
    | apply State.staleMsg_grows | apply State.dropAggs_grows | apply State.freeNode_grows
    | apply State.unsealQueue_grows | apply ite_grows

theorem State.groupCreate_grows {b₀ : State} {s : State} {c : CmdCtx} {gid scope acc maxElems depth limit : Nat} (h0 : b₀.Grows s) :
    b₀.Grows (State.groupCreate s c gid scope acc maxElems depth limit) := by
  delta State.groupCreate
  with_reducible repeat' first
    | assumption
    | ((try lift_lets -underBinder); intro x; first | (refine (have _ : b₀.Grows x := ?_; ?_); (on_goal 2 => clear_value x); (on_goal 1 => dsimp only [x]; clear x)) | clear_value x)
    | apply State.answer_grows | apply State.setGroup_grows | apply State.showGroups_grows
    | apply State.logCommand_grows | apply ite_grows

theorem State.groupAdd_grows {b₀ : State} {s : State} {c : CmdCtx} {gid gen : Nat} {entries : List DWord} (h0 : b₀.Grows s) :
    b₀.Grows (State.groupAdd s c gid gen entries) := by
  delta State.groupAdd
  with_reducible repeat' first
    | assumption | ((try lift_lets -underBinder); intro x; clear_value x) | apply State.answer_grows
    | apply State.setGroup_grows | apply State.logCommand_grows | fail_if_no_progress apply mk_grows | apply ite_grows

theorem State.sealBegin_grows {b₀ : State} {s : State} {c : CmdCtx} {gid : Nat} {g : GroupRec} (h0 : b₀.Grows s) :
    b₀.Grows (State.sealBegin s c gid g) := by
  delta State.sealBegin
  with_reducible repeat' first
    | assumption
    | ((try lift_lets -underBinder); intro x; first | (refine (have _ : b₀.Grows x := ?_; ?_); (on_goal 2 => clear_value x); (on_goal 1 => dsimp only [x]; clear x)) | clear_value x)
    | apply State.accept_grows | apply State.setGroup_grows | apply State.groupEnd_grows | apply done_grows
    | apply State.dropAggs_grows | apply State.showGroups_grows | apply State.groupDown_grows
    | fail_if_no_progress apply mk_grows | split

theorem State.groupSeal_grows {b₀ : State} {s : State} {c : CmdCtx} {gid gen : Nat} (h0 : b₀.Grows s) :
    b₀.Grows (State.groupSeal s c gid gen) := by
  delta State.groupSeal
  with_reducible repeat' first
    | assumption | ((try lift_lets -underBinder); intro x; clear_value x) | apply State.answer_grows
    | apply State.sealBegin_grows | apply ite_grows

theorem State.renewBegin_grows {b₀ : State} {s : State} {c : CmdCtx} {gid : Nat} {g : GroupRec} {delete : Bool} (h0 : b₀.Grows s) :
    b₀.Grows (State.renewBegin s c gid g delete) := by
  delta State.renewBegin
  with_reducible repeat' first
    | assumption
    | ((try lift_lets -underBinder); intro x; first | (refine (have _ : b₀.Grows x := ?_; ?_); (on_goal 2 => clear_value x); (on_goal 1 => dsimp only [x]; clear x)) | clear_value x)
    | apply State.accept_grows | apply State.setGroup_grows | apply State.groupEnd_grows | apply State.renewNode_grows
    | apply State.groupDown_grows | fail_if_no_progress apply mk_grows | apply ite_grows

theorem State.groupRenew_grows {b₀ : State} {s : State} {c : CmdCtx} {gid gen : Nat} {delete : Bool} (h0 : b₀.Grows s) :
    b₀.Grows (State.groupRenew s c gid gen delete) := by
  delta State.groupRenew
  with_reducible repeat' first
    | assumption | ((try lift_lets -underBinder); intro x; clear_value x) | apply State.answer_grows
    | apply State.renewBegin_grows | apply ite_grows

theorem State.groupStatus_grows {b₀ : State} {s : State} {c : CmdCtx} {gid : Nat} (h0 : b₀.Grows s) :
    b₀.Grows (State.groupStatus s c gid) := by
  delta State.groupStatus
  with_reducible repeat' first
    | assumption | ((try lift_lets -underBinder); intro x; clear_value x) | apply State.answer_grows
    | apply State.logCommand_grows | apply ite_grows

end Sys2Proof.Machine
end

