-- ==== Sys2Proof/Laws/GrowsPathOps.lean ====
section
/-! SUPPORT. Every operation and meaning of Machine/PathOps.lean grows the state it is given: one lemma each. -/

namespace Sys2Proof.Machine

open Sys2Proof

theorem State.deferPasses_grows {b₀ : State} {s : State} {d : Dev} {m : JobMsg} (h0 : b₀.Grows s) :
    b₀.Grows (State.deferPasses s d m).1 := by
  delta State.deferPasses
  with_reducible repeat' first
    | assumption | ((try lift_lets -underBinder); intro x; clear_value x) | apply State.setTree_grows
    | fail_if_no_progress apply mk_grows | apply ite_grows | apply fst_ite_grows

theorem State.closeAggs_grows {b₀ : State} {s : State} {d : Dev} {m : JobMsg} (h0 : b₀.Grows s) :
    b₀.Grows (State.closeAggs s d m) := by
  delta State.closeAggs
  with_reducible repeat' first
    | assumption | ((try lift_lets -underBinder); intro x; clear_value x) | apply State.dropAggs_grows
    | apply ite_grows

theorem State.vdJob_grows {b₀ : State} {s : State} {m : JobMsg} {arrived : Option Path} (h0 : b₀.Grows s) :
    b₀.Grows (State.vdJob s m arrived) := by
  delta State.vdJob
  with_reducible repeat' first
    | assumption
    | ((try lift_lets -underBinder); intro x; first | (refine (have _ : b₀.Grows x := ?_; ?_); (on_goal 2 => clear_value x); (on_goal 1 => dsimp only [x]; clear x)) | (refine (have _ : b₀.Grows x.1 := ?_; ?_); (on_goal 2 => clear_value x); (on_goal 1 => dsimp only [x]; clear x)) | clear_value x)
    | apply State.staleMsg_grows | apply State.rootRx_grows | apply State.gather_grows | apply State.deferPasses_grows
    | apply State.sendTop_grows | apply State.sendDown_grows | apply State.closeAggs_grows
    | apply State.renewNode_grows | apply State.dropWindows_grows | apply ite_grows | apply fst_ite_grows

theorem State.headJob_grows {b₀ : State} {s : State} {m : JobMsg} (h0 : b₀.Grows s) : b₀.Grows (State.headJob s m) := by
  delta State.headJob
  with_reducible repeat' first
    | assumption
    | ((try lift_lets -underBinder); intro x; first | (refine (have _ : b₀.Grows x := ?_; ?_); (on_goal 2 => clear_value x); (on_goal 1 => dsimp only [x]; clear x)) | (refine (have _ : b₀.Grows x.1 := ?_; ?_); (on_goal 2 => clear_value x); (on_goal 1 => dsimp only [x]; clear x)) | clear_value x)
    | apply State.staleMsg_grows | apply State.gather_grows | apply State.rootRx_grows | apply State.shadowAck_grows
    | apply State.deferPasses_grows | apply State.sendTop_grows | apply ite_grows | apply fst_ite_grows

theorem State.dieRetire_grows {b₀ : State} {s : State} {m : JobMsg} (h0 : b₀.Grows s) : b₀.Grows (State.dieRetire s m) := by
  delta State.dieRetire
  with_reducible repeat' first
    | assumption
    | ((try lift_lets -underBinder); intro x; first | (refine (have _ : b₀.Grows x := ?_; ?_); (on_goal 2 => clear_value x); (on_goal 1 => dsimp only [x]; clear x)) | clear_value x)
    | apply State.slotIdle_grows | apply State.marksAfter_grows | apply State.startDrain_grows
    | apply State.setJobs_grows | apply State.renewQueue_grows | apply State.renewNode_grows
    | fail_if_no_progress apply mk_grows | apply ite_grows | apply fst_ite_grows | split

theorem State.memberJob_grows {b₀ : State} {s : State} {m : JobMsg} (h0 : b₀.Grows s) : b₀.Grows (State.memberJob s m) := by
  delta State.memberJob
  with_reducible repeat' first
    | assumption
    | ((try lift_lets -underBinder); intro x; first | (refine (have _ : b₀.Grows x := ?_; ?_); (on_goal 2 => clear_value x); (on_goal 1 => dsimp only [x]; clear x)) | clear_value x)
    | apply State.dieRetire_grows | apply State.staleMsg_grows | apply State.sawMsg_grows
    | apply State.bareAnswer_grows | apply State.memberArm_grows | apply State.memberCommit_grows
    | apply State.memberConfirm_grows | apply State.memberAbort_grows | apply State.memberTeardown_grows
    | apply State.memberDefer_grows | apply State.memberPause_grows | apply State.memberResume_grows | apply ite_grows

theorem State.dieJob_grows {b₀ : State} {s : State} {m : JobMsg} (h0 : b₀.Grows s) : b₀.Grows (State.dieJob s m) := by
  delta State.dieJob
  with_reducible repeat' first
    | assumption
    | ((try lift_lets -underBinder); intro x; first | (refine (have _ : b₀.Grows x := ?_; ?_); (on_goal 2 => clear_value x); (on_goal 1 => dsimp only [x]; clear x)) | clear_value x)
    | apply State.closeAggs_grows | apply State.shadowJob_grows | apply State.memberJob_grows | apply ite_grows

theorem State.lotikJob_grows {b₀ : State} {s : State} {path : Path} {m : JobMsg} (h0 : b₀.Grows s) :
    b₀.Grows (State.lotikJob s path m) := by
  delta State.lotikJob
  with_reducible repeat' first
    | assumption
    | ((try lift_lets -underBinder); intro x; first | (refine (have _ : b₀.Grows x := ?_; ?_); (on_goal 2 => clear_value x); (on_goal 1 => dsimp only [x]; clear x)) | clear_value x)
    | apply State.headJob_grows | apply State.staleMsg_grows | apply State.memberJob_grows
    | apply State.ringDown_grows | apply State.dieJob_grows | apply ite_grows | split

theorem State.nodeAck_grows {b₀ : State} {s : State} {d : Dev} {m : GroupMsg} {arrived : Option Path} (h0 : b₀.Grows s) :
    b₀.Grows (State.nodeAck s d m arrived) := by
  delta State.nodeAck
  with_reducible repeat' first
    | assumption | ((try lift_lets -underBinder); intro x; clear_value x) | apply State.staleMsg_grows
    | apply State.groupAck_grows | apply State.gather_grows | apply State.sendTop_grows | apply ite_grows
    | apply fst_ite_grows

theorem State.vdPath_grows {b₀ : State} {s : State} {m : GroupMsg} {arrived : Option Path} (h0 : b₀.Grows s) :
    b₀.Grows (State.vdPath s m arrived) := by
  delta State.vdPath
  repeat' first
    | with_reducible assumption
    | ((try lift_lets -underBinder); intro x; first | (refine (have hf : ∀ a c d, b₀.Grows a → b₀.Grows (x a c d) := ?_; ?_); (on_goal 2 => clear_value x); (on_goal 1 => dsimp only [x]; clear x)) | (refine (have _ : b₀.Grows x := ?_; ?_); (on_goal 2 => clear_value x); (on_goal 1 => dsimp only [x]; clear x)) | clear_value x)
    | intro _ | with_reducible apply State.sendPort_grows | with_reducible apply State.setActive_grows
    | with_reducible apply State.retryAll_grows | with_reducible fail_if_no_progress apply mk_grows
    | with_reducible apply ite_grows | with_reducible apply hf | split

theorem State.vdGrp_grows {b₀ : State} {s : State} {m : GroupMsg} {arrived : Option Path} (h0 : b₀.Grows s) :
    b₀.Grows (State.vdGrp s m arrived) := by
  delta State.vdGrp
  with_reducible repeat' first
    | assumption | ((try lift_lets -underBinder); intro x; clear_value x) | apply State.vdPath_grows
    | apply State.vdBind_grows | apply State.nodeAck_grows | apply State.vdRenew_grows | apply State.vdUnbind_grows
    | apply State.staleMsg_grows | apply State.contribution_grows | apply State.nodeFault_grows
    | apply State.passEnd_grows | apply ite_grows

theorem State.headGrp_grows {b₀ : State} {s : State} {m : GroupMsg} (h0 : b₀.Grows s) : b₀.Grows (State.headGrp s m) := by
  delta State.headGrp
  with_reducible repeat' first
    | assumption | ((try lift_lets -underBinder); intro x; clear_value x) | apply State.nodeAck_grows
    | apply State.staleMsg_grows | apply State.contribution_grows | apply State.nodeFault_grows | apply ite_grows

theorem State.memberRing_grows {b₀ : State} {s : State} {m : GroupMsg} (h0 : b₀.Grows s) : b₀.Grows (State.memberRing s m) := by
  delta State.memberRing
  with_reducible repeat' first
    | assumption | ((try lift_lets -underBinder); intro x; clear_value x) | apply State.staleMsg_grows
    | apply State.pkgCount_grows | apply State.admitQueue_grows | apply State.finishOp_grows | apply ite_grows | split

theorem State.dieGrp_grows {b₀ : State} {s : State} {m : GroupMsg} (h0 : b₀.Grows s) : b₀.Grows (State.dieGrp s m) := by
  delta State.dieGrp
  with_reducible repeat' first
    | assumption
    | ((try lift_lets -underBinder); intro x; first | (refine (have _ : b₀.Grows x := ?_; ?_); (on_goal 2 => clear_value x); (on_goal 1 => dsimp only [x]; clear x)) | clear_value x)
    | apply State.dieBind_grows | apply State.dieRenew_grows | apply State.dieUnbind_grows
    | apply State.staleMsg_grows | apply State.passEnd_grows | apply State.memberEnd_grows | apply ite_grows

theorem State.lotikGrp_grows {b₀ : State} {s : State} {path : Path} {m : GroupMsg} (h0 : b₀.Grows s) :
    b₀.Grows (State.lotikGrp s path m) := by
  delta State.lotikGrp
  with_reducible repeat' first
    | assumption
    | ((try lift_lets -underBinder); intro x; first | (refine (have _ : b₀.Grows x := ?_; ?_); (on_goal 2 => clear_value x); (on_goal 1 => dsimp only [x]; clear x)) | clear_value x)
    | apply State.memberRing_grows | apply State.headGrp_grows | apply State.ringDown_grows | apply State.dieGrp_grows
    | apply ite_grows | split

theorem State.absorbed_grows {b₀ : State} {s : State} {path : Path} {m : TreeMsg} (h0 : b₀.Grows s) :
    b₀.Grows (State.absorbed s path m) := by
  delta State.absorbed
  with_reducible repeat' first
    | assumption | ((try lift_lets -underBinder); intro x; clear_value x) | apply State.returnCredit_grows
    | apply ite_grows | split

theorem State.frameDrop_grows {b₀ : State} {s : State} {path : Path} (h0 : b₀.Grows s) : b₀.Grows (State.frameDrop s path) := by
  delta State.frameDrop
  with_reducible repeat' first
    | assumption | apply State.bumpSat_grows | split

theorem State.treeRx_grows {b₀ : State} {s : State} {path : Path} {m : TreeMsg} (h0 : b₀.Grows s) :
    b₀.Grows (State.treeRx s path m) := by
  delta State.treeRx
  with_reducible repeat' first
    | assumption
    | ((try lift_lets -underBinder); intro x; (refine (have _ : b₀.Grows x := ?_; ?_); (on_goal 2 => clear_value x); (on_goal 1 => dsimp only [x]; clear x)))
    | apply State.frameDrop_grows | apply State.absorbed_grows | apply State.wakeAll_grows
    | apply State.lotikJob_grows | apply State.lotikGrp_grows | apply State.engine_grows | apply State.vdJob_grows
    | apply State.vdGrp_grows | apply ite_grows | split

theorem State.drawLinks_grows {b₀ : State} {s : State} (h0 : b₀.Grows s) : b₀.Grows (State.drawLinks s) := by
  delta State.drawLinks
  with_reducible repeat' first
    | assumption | ((try lift_lets -underBinder); intro x; clear_value x) | apply State.setRing_grows
    | apply State.drawn_grows

theorem State.learnLinks_grows {b₀ : State} {s : State} (h0 : b₀.Grows s) : b₀.Grows (State.learnLinks s) := by
  delta State.learnLinks
  with_reducible repeat' first
    | assumption | apply State.drawLinks_grows | apply ite_grows

theorem State.sendPath_grows {b₀ : State} {s : State} (h0 : b₀.Grows s) : b₀.Grows (State.sendPath s) := by
  delta State.sendPath
  with_reducible repeat' first
    | assumption | apply State.sendPort_grows | apply ite_grows

theorem State.cutOff_grows {b₀ : State} {s : State} (h0 : b₀.Grows s) : b₀.Grows (State.cutOff s) := by
  delta State.cutOff
  repeat' first
    | with_reducible assumption | intro _ | with_reducible apply State.finishOp_grows | with_reducible apply ite_grows
    | with_reducible apply fst_ite_grows | with_reducible apply foldl_grows

theorem State.pathLost_grows {b₀ : State} {s : State} (h0 : b₀.Grows s) : b₀.Grows (State.pathLost s) := by
  delta State.pathLost
  repeat' first
    | with_reducible assumption | (intro x; fail_if_success clear_value x)
    | ((try lift_lets -underBinder); intro x; clear_value x) | intro _ | with_reducible apply State.slotFault_grows
    | with_reducible apply ite_grows | with_reducible apply foldl_grows

theorem State.pathUpdate_grows {b₀ : State} {s : State} {linkUp linkDown : Bool} (h0 : b₀.Grows s) :
    b₀.Grows (State.pathUpdate s linkUp linkDown) := by
  delta State.pathUpdate
  with_reducible repeat' first
    | assumption
    | ((try lift_lets -underBinder); intro x; first | (refine (have _ : b₀.Grows x := ?_; ?_); (on_goal 2 => clear_value x); (on_goal 1 => dsimp only [x]; clear x)) | clear_value x)
    | apply State.learnLinks_grows | apply State.setRing_grows | apply State.faultPath_grows
    | apply State.resendAggs_grows | apply State.sendPath_grows | apply State.cutOff_grows
    | apply State.pathLost_grows | fail_if_no_progress apply mk_grows | apply ite_grows

theorem State.portDown_grows {b₀ : State} {s : State} {p : PortId} (h0 : b₀.Grows s) : b₀.Grows (State.portDown s p) := by
  delta State.portDown
  with_reducible repeat' first
    | assumption | apply State.resetCredit_grows | apply State.pathUpdate_grows | apply State.vdPortDown_grows
    | apply State.resendAggs_grows | split

theorem State.portUp_grows {b₀ : State} {s : State} {p : PortId} (h0 : b₀.Grows s) : b₀.Grows (State.portUp s p) := by
  delta State.portUp
  with_reducible repeat' first
    | assumption | apply State.resetCredit_grows | apply State.pathUpdate_grows | split

theorem State.hopChanged_grows {b₀ : State} {s : State} (h0 : b₀.Grows s) : b₀.Grows (State.hopChanged s) := by
  delta State.hopChanged
  repeat' first
    | with_reducible assumption | (intro x; fail_if_success clear_value x)
    | ((try lift_lets -underBinder); intro x; first | (refine (have _ : b₀.Grows x := ?_; ?_); (on_goal 2 => clear_value x); (on_goal 1 => dsimp only [x]; clear x)) | (refine (have _ : b₀.Grows x.1 := ?_; ?_); (on_goal 2 => clear_value x); (on_goal 1 => dsimp only [x]; clear x)))
    | intro _ | with_reducible apply State.resetCredit_grows | with_reducible apply State.faultPath_grows
    | with_reducible apply State.pathUpdate_grows | with_reducible apply State.freshCredit_grows
    | with_reducible apply ite_grows | with_reducible apply foldl_grows

theorem State.opLimit_grows {b₀ : State} {s : State} {d : Dev} (h0 : b₀.Grows s) : b₀.Grows (State.opLimit s d) := by
  delta State.opLimit
  repeat' first
    | with_reducible assumption | (intro x; fail_if_success clear_value x)
    | ((try lift_lets -underBinder); intro x; first | (refine (have _ : b₀.Grows x := ?_; ?_); (on_goal 2 => clear_value x); (on_goal 1 => dsimp only [x]; clear x)) | clear_value x)
    | intro _ | with_reducible apply State.nodeFault_grows | with_reducible apply State.memberFault_grows
    | with_reducible apply State.finishOp_grows | with_reducible fail_if_no_progress apply mk_grows
    | with_reducible apply foldl_grows | with_reducible apply fst_foldl_grows | split

theorem State.creditStall_grows {b₀ : State} {s : State} {d : Dev} (h0 : b₀.Grows s) : b₀.Grows (State.creditStall s d) := by
  delta State.creditStall
  repeat' first
    | with_reducible assumption | (intro x; fail_if_success clear_value x)
    | ((try lift_lets -underBinder); intro x; first | (refine (have _ : b₀.Grows x := ?_; ?_); (on_goal 2 => clear_value x); (on_goal 1 => dsimp only [x]; clear x)) | clear_value x)
    | intro _ | with_reducible apply State.setTree_grows | with_reducible apply State.put_grows
    | with_reducible apply State.bumpSat_grows | with_reducible fail_if_no_progress apply mk_grows
    | with_reducible apply ite_grows | with_reducible apply foldl_grows | split

end Sys2Proof.Machine
end

