-- ==== Sys2Proof/Laws/GrowsMail.lean ====
section
/-! SUPPORT. Every operation and meaning of Machine/Mail.lean grows the state it is given: one lemma each. -/

namespace Sys2Proof.Machine

open Sys2Proof

theorem State.mailOne_grows {b₀ : State} {s : State} {m : Mail} (h0 : b₀.Grows s) : b₀.Grows (State.mailOne s m) := by
  delta State.mailOne
  with_reducible repeat' first
    | assumption | apply State.headJob_grows | apply State.headGrp_grows | apply State.memberJob_grows
    | apply State.dieGrp_grows | apply State.internalOp_grows | apply State.gateEnd_grows | apply State.linkEnd_grows
    | apply State.digestOp_grows | apply State.digEnd_grows | split

theorem State.runMail_grows {b₀ : State} {s : State} {x₀ : Nat} (h0 : b₀.Grows s) : b₀.Grows (State.runMail s x₀) := by
  induction x₀ generalizing s with
  | zero => unfold State.runMail; with_reducible repeat' first
    | assumption
  | succ n ih =>
    unfold State.runMail
    with_reducible repeat' first
    | assumption | apply ih | apply State.mailOne_grows | fail_if_no_progress apply mk_grows | split

theorem finish_grows {b₀ : State} {s : State} (h0 : b₀.Grows s) : Safe b₀ (finish s) := by
  delta finish
  with_reducible repeat' first
    | assumption | apply done_grows | apply State.runMail_grows

end Sys2Proof.Machine
end

