-- ==== Sys2Proof/Laws/GrowsHealth.lean ====
section
/-! SUPPORT. Every operation and meaning of Machine/Health.lean grows the state it is given: one lemma each. -/

namespace Sys2Proof.Machine

open Sys2Proof

theorem State.setHm_grows {b₀ : State} {s : State} {x : Health} (h0 : b₀.Grows s) : b₀.Grows (State.setHm s x) := by
  delta State.setHm
  with_reducible repeat' first
    | assumption | fail_if_no_progress apply mk_grows

theorem State.katBegin_grows {b₀ : State} {s : State} (h0 : b₀.Grows s) : b₀.Grows (State.katBegin s) := by
  delta State.katBegin
  with_reducible repeat' first
    | assumption
    | ((try lift_lets -underBinder); intro x; first | (refine (have _ : b₀.Grows x := ?_; ?_); (on_goal 2 => clear_value x); (on_goal 1 => dsimp only [x]; clear x)) | clear_value x)
    | apply State.setHm_grows | apply State.put_grows | apply State.emit_grows | fail_if_no_progress apply mk_grows
    | apply ite_grows

theorem State.katAsk_grows {b₀ : State} {s : State} (h0 : b₀.Grows s) : b₀.Grows (State.katAsk s) := by
  delta State.katAsk
  with_reducible repeat' first
    | assumption | apply State.setHm_grows | apply State.put_grows | apply State.katBegin_grows
    | fail_if_no_progress apply mk_grows | apply ite_grows | split

theorem State.soundStart_grows {b₀ : State} {s : State} {mask : Nat} {auto : Bool} (h0 : b₀.Grows s) :
    b₀.Grows (State.soundStart s mask auto) := by
  delta State.soundStart
  repeat' first
    | with_reducible assumption | (intro x; fail_if_success clear_value x)
    | ((try lift_lets -underBinder); intro x; first | (refine (have _ : b₀.Grows x := ?_; ?_); (on_goal 2 => clear_value x); (on_goal 1 => dsimp only [x]; clear x)) | clear_value x)
    | intro _ | with_reducible apply State.katAsk_grows | with_reducible apply State.setHm_grows
    | with_reducible apply State.setRegion_grows | with_reducible apply State.put_grows
    | with_reducible apply State.wakeTc_grows | with_reducible fail_if_no_progress apply mk_grows
    | with_reducible apply ite_grows | with_reducible apply foldl_grows | split

theorem State.sendRecord_grows {b₀ : State} {s : State} {rec : List Byte} (h0 : b₀.Grows s) :
    b₀.Grows (State.sendRecord s rec) := by
  delta State.sendRecord
  with_reducible repeat' first
    | assumption | ((try lift_lets -underBinder); intro x; clear_value x) | apply State.bumpSat_grows
    | apply State.setLog_grows | apply State.sendHealth_grows | fail_if_no_progress apply mk_grows | apply ite_grows

theorem State.recordReady_grows {b₀ : State} {s : State} {rec : List Byte} {kat : Bool} (h0 : b₀.Grows s) :
    b₀.Grows (State.recordReady s rec kat) := by
  delta State.recordReady
  repeat' first
    | with_reducible assumption | (intro x; fail_if_success clear_value x)
    | ((try lift_lets -underBinder); intro x; first | (refine (have _ : b₀.Grows x := ?_; ?_); (on_goal 2 => clear_value x); (on_goal 1 => dsimp only [x]; clear x)) | clear_value x)
    | intro _ | with_reducible apply State.put_grows | with_reducible apply State.sendRecord_grows
    | with_reducible apply State.setHm_grows | with_reducible apply State.answer_grows
    | with_reducible fail_if_no_progress apply mk_grows | with_reducible apply ite_grows
    | with_reducible apply fst_ite_grows | with_reducible apply foldl_grows

theorem State.mapBump_grows {b₀ : State} {s : State} {f : Field} {n : Nat} (h0 : b₀.Grows s) :
    b₀.Grows (State.mapBump s f n) := by
  delta State.mapBump
  with_reducible repeat' first
    | assumption | apply State.bumpSat_grows

theorem State.soundDone_grows {b₀ : State} {s : State} {vm : Int} {eyeE eyeW : Nat} {rx : Nat} (h0 : b₀.Grows s) :
    b₀.Grows (State.soundDone s vm eyeE eyeW rx) := by
  delta State.soundDone
  with_reducible repeat' first
    | assumption
    | ((try lift_lets -underBinder); intro x; first | (refine (have _ : b₀.Grows x := ?_; ?_); (on_goal 2 => clear_value x); (on_goal 1 => dsimp only [x]; clear x)) | clear_value x)
    | apply State.tcWork_grows | apply State.setHm_grows | apply State.put_grows | apply State.mapBump_grows
    | apply State.logKind_grows | apply State.recordReady_grows | apply State.katAsk_grows
    | fail_if_no_progress apply mk_grows | apply ite_grows | split

theorem State.katEnd_grows {b₀ : State} {s : State} {k : Kat} (h0 : b₀.Grows s) : b₀.Grows (State.katEnd s k) := by
  delta State.katEnd
  with_reducible repeat' first
    | assumption
    | ((try lift_lets -underBinder); intro x; first | (refine (have _ : b₀.Grows x := ?_; ?_); (on_goal 2 => clear_value x); (on_goal 1 => dsimp only [x]; clear x)) | clear_value x)
    | apply State.setHm_grows | apply State.emit_grows | apply State.put_grows | apply State.mapBump_grows
    | apply State.logKind_grows | apply State.recordReady_grows | fail_if_no_progress apply mk_grows | apply ite_grows

theorem State.soundWrite_grows {b₀ : State} {s : State} {v : Nat} (h0 : b₀.Grows s) : b₀.Grows (State.soundWrite s v) := by
  delta State.soundWrite
  with_reducible repeat' first
    | assumption
    | ((try lift_lets -underBinder); intro x; (refine (have _ : b₀.Grows x := ?_; ?_); (on_goal 2 => clear_value x); (on_goal 1 => dsimp only [x]; clear x)))
    | apply State.put_grows | apply State.soundStart_grows | apply ite_grows

theorem execSoundNow_grows {b₀ : State} {v : Word} {s : State} (h0 : b₀.Grows s) : Safe b₀ (execSoundNow v s) := by
  delta execSoundNow
  repeat' first
    | with_reducible assumption | intro _ | with_reducible apply finish_grows
    | with_reducible apply State.viaBus_grows | with_reducible apply State.soundWrite_grows

theorem execAutoSounding_grows {b₀ : State} {s : State} (h0 : b₀.Grows s) : Safe b₀ (execAutoSounding s) := by
  delta execAutoSounding
  with_reducible repeat' first
    | assumption | ((try lift_lets -underBinder); intro x; clear_value x) | apply finish_grows
    | apply State.soundStart_grows | apply ite_safe | apply next_safe | apply ite_grows | split

theorem execSoundingDone_grows {b₀ : State} {vmarginMv : BitVec 16} {eyeE eyeW : BitVec 4} {rx : BitVec 16} {s : State} (h0 : b₀.Grows s) :
    Safe b₀ (execSoundingDone vmarginMv eyeE eyeW rx s) := by
  delta execSoundingDone
  with_reducible repeat' first
    | assumption | apply finish_grows | apply State.soundDone_grows

theorem execKatStart_grows {b₀ : State} {s : State} (h0 : b₀.Grows s) : Safe b₀ (execKatStart s) := by
  delta execKatStart
  with_reducible repeat' first
    | assumption | ((try lift_lets -underBinder); intro x; clear_value x) | apply finish_grows
    | apply State.katBegin_grows | apply ite_safe | apply next_safe | apply ite_grows

theorem execKatSignature_grows {b₀ : State} {r : BitVec 6} {sig : BitVec 64} {s : State} (h0 : b₀.Grows s) :
    Safe b₀ (execKatSignature r sig s) := by
  delta execKatSignature
  repeat' first
    | with_reducible assumption | (intro x; fail_if_success clear_value x)
    | ((try lift_lets -underBinder); intro x; clear_value x) | intro _ | with_reducible apply finish_grows
    | with_reducible apply State.atPort_grows | with_reducible apply State.katEnd_grows
    | with_reducible apply State.setHm_grows | with_reducible apply ite_safe | with_reducible apply next_safe
    | with_reducible fail_if_no_progress apply mk_grows | with_reducible apply ite_grows
    | with_reducible apply fst_ite_grows | split

theorem execKatTimeout_grows {b₀ : State} {s : State} (h0 : b₀.Grows s) : Safe b₀ (execKatTimeout s) := by
  delta execKatTimeout
  with_reducible repeat' first
    | assumption | apply finish_grows | apply State.katEnd_grows | apply ite_safe | apply next_safe | apply ite_grows
    | split

theorem execHmSound_grows {b₀ : State} {c : CmdCtx} {mask : Byte} {s : State} (h0 : b₀.Grows s) :
    Safe b₀ (execHmSound c mask s) := by
  delta execHmSound
  with_reducible repeat' first
    | assumption | apply finish_grows | apply State.answer_grows | apply State.setHm_grows
    | apply State.soundStart_grows | apply ite_safe | apply next_safe | fail_if_no_progress apply mk_grows
    | apply ite_grows

theorem execHmStatus_grows {b₀ : State} {c : CmdCtx} {s : State} (h0 : b₀.Grows s) : Safe b₀ (execHmStatus c s) := by
  delta execHmStatus
  with_reducible repeat' first
    | assumption | apply finish_grows | apply State.answer_grows | apply ite_safe | apply next_safe | apply ite_grows

theorem execHmMap_grows {b₀ : State} {c : CmdCtx} {s : State} (h0 : b₀.Grows s) : Safe b₀ (execHmMap c s) := by
  delta execHmMap
  with_reducible repeat' first
    | assumption | apply finish_grows | apply State.answer_grows | apply ite_safe | apply next_safe | apply ite_grows

theorem execHmSetState_grows {b₀ : State} {c : CmdCtx} {st : Byte} {s : State} (h0 : b₀.Grows s) :
    Safe b₀ (execHmSetState c st s) := by
  delta execHmSetState
  with_reducible repeat' first
    | assumption
    | ((try lift_lets -underBinder); intro x; first | (refine (have _ : b₀.Grows x := ?_; ?_); (on_goal 2 => clear_value x); (on_goal 1 => dsimp only [x]; clear x)) | clear_value x)
    | apply finish_grows | apply State.answer_grows | apply State.put_grows | apply State.logCommand_grows
    | apply ite_safe | apply next_safe | apply ite_grows

end Sys2Proof.Machine
end

