-- ==== Sys2Proof/Laws/GrowsHealthVd.lean ====
section
/-! SUPPORT. Every operation and meaning of Machine/HealthVd.lean grows the state it is given: one lemma each. -/

namespace Sys2Proof.Machine

open Sys2Proof

theorem State.setHu_grows {b₀ : State} {s : State} {x : HmUnit} (h0 : b₀.Grows s) : b₀.Grows (State.setHu s x) := by
  delta State.setHu
  with_reducible repeat' first
    | assumption | fail_if_no_progress apply mk_grows

theorem State.setDie_grows {b₀ : State} {s : State} {n : Nat} {x : HmDie} (h0 : b₀.Grows s) : b₀.Grows (State.setDie s n x) := by
  delta State.setDie
  with_reducible repeat' first
    | assumption | apply State.setHu_grows

theorem State.showHm_grows {b₀ : State} {s : State} (h0 : b₀.Grows s) : b₀.Grows (State.showHm s) := by
  delta State.showHm
  with_reducible repeat' first
    | assumption
    | ((try lift_lets -underBinder); intro x; first | (refine (have _ : b₀.Grows x := ?_; ?_); (on_goal 2 => clear_value x); (on_goal 1 => dsimp only [x]; clear x)) | clear_value x)
    | apply State.put_grows | apply State.setHu_grows | apply State.putSat_grows | apply State.putB_grows

theorem State.sendSetState_grows {b₀ : State} {s : State} {n : Nat} (h0 : b₀.Grows s) : b₀.Grows (State.sendSetState s n) := by
  delta State.sendSetState
  with_reducible repeat' first
    | assumption | ((try lift_lets -underBinder); intro x; clear_value x) | apply State.sendPacket_grows

theorem State.commonCause_grows {b₀ : State} {s : State} {n : Nat} (h0 : b₀.Grows s) : b₀.Grows (State.commonCause s n) := by
  delta State.commonCause
  with_reducible repeat' first
    | assumption
    | ((try lift_lets -underBinder); intro x; first | (refine (have _ : b₀.Grows x := ?_; ?_); (on_goal 2 => clear_value x); (on_goal 1 => dsimp only [x]; clear x)) | clear_value x)
    | apply State.setHu_grows | apply State.put_grows | apply State.logKind_grows | fail_if_no_progress apply mk_grows
    | apply ite_grows

theorem State.hmGo_grows {b₀ : State} {s : State} {n st : Nat} (h0 : b₀.Grows s) : b₀.Grows (State.hmGo s n st) := by
  delta State.hmGo
  with_reducible repeat' first
    | assumption
    | ((try lift_lets -underBinder); intro x; first | (refine (have _ : b₀.Grows x := ?_; ?_); (on_goal 2 => clear_value x); (on_goal 1 => dsimp only [x]; clear x)) | clear_value x)
    | apply State.put_grows | apply State.setDie_grows | apply State.report_grows | apply State.commonCause_grows
    | apply State.sendSetState_grows | apply State.showHm_grows | fail_if_no_progress apply mk_grows | apply ite_grows

theorem State.expel_grows {b₀ : State} {s : State} {n : Nat} {counted spare : Bool} (h0 : b₀.Grows s) :
    b₀.Grows (State.expel s n counted spare) := by
  delta State.expel
  with_reducible repeat' first
    | assumption
    | ((try lift_lets -underBinder); intro x; first | (refine (have _ : b₀.Grows x := ?_; ?_); (on_goal 2 => clear_value x); (on_goal 1 => dsimp only [x]; clear x)) | clear_value x)
    | apply State.setHu_grows | apply State.put_grows | apply State.bump_grows | apply State.hmGo_grows
    | fail_if_no_progress apply mk_grows | apply ite_grows

theorem State.expelPending_grows {b₀ : State} {s : State} {x₀ : Nat} (h0 : b₀.Grows s) : b₀.Grows (State.expelPending s x₀) := by
  induction x₀ generalizing s with
  | zero => unfold State.expelPending; with_reducible repeat' first
    | assumption
    | ((try lift_lets -underBinder); intro x; first | (refine (have _ : b₀.Grows x := ?_; ?_); (on_goal 2 => clear_value x); (on_goal 1 => dsimp only [x]; clear x)) | (refine (have _ : b₀.Grows x.1 := ?_; ?_); (on_goal 2 => clear_value x); (on_goal 1 => dsimp only [x]; clear x)) | clear_value x)
    | apply ih | apply State.showHm_grows
  | succ n ih =>
    unfold State.expelPending
    with_reducible repeat' first
    | assumption | ((try lift_lets -underBinder); intro x; clear_value x) | apply ih | apply State.showHm_grows
    | apply State.expel_grows | apply ite_grows | apply fst_ite_grows | apply foldl_grows | apply fst_foldl_grows
    | split

theorem State.candidate_grows {b₀ : State} {s : State} {n : Nat} (h0 : b₀.Grows s) : b₀.Grows (State.candidate s n) := by
  delta State.candidate
  with_reducible repeat' first
    | assumption | apply State.expel_grows | apply State.hmGo_grows | apply ite_grows

theorem State.hmJudge_grows {b₀ : State} {s : State} {n : Nat} {x₀ : Nat} (h0 : b₀.Grows s) :
    b₀.Grows (State.hmJudge s n x₀) := by
  induction x₀ generalizing s with
  | zero => unfold State.hmJudge; with_reducible repeat' first
    | assumption
    | ((try lift_lets -underBinder); intro x; first | (refine (have _ : b₀.Grows x := ?_; ?_); (on_goal 2 => clear_value x); (on_goal 1 => dsimp only [x]; clear x)) | clear_value x)
  | succ n ih =>
    unfold State.hmJudge
    with_reducible repeat' first
    | assumption | ((try lift_lets -underBinder); intro x; clear_value x) | apply ih | apply State.expel_grows
    | apply State.hmGo_grows | apply State.candidate_grows | apply ite_grows

theorem State.penalty_grows {b₀ : State} {s : State} {n code : Nat} {by_ : Nat} (h0 : b₀.Grows s) :
    b₀.Grows (State.penalty s n code by_) := by
  delta State.penalty
  with_reducible repeat' first
    | assumption
    | ((try lift_lets -underBinder); intro x; first | (refine (have _ : b₀.Grows x := ?_; ?_); (on_goal 2 => clear_value x); (on_goal 1 => dsimp only [x]; clear x)) | clear_value x)
    | apply State.put_grows | apply State.setDie_grows

theorem State.hmMark_grows {b₀ : State} {s : State} {n : Nat} {f : Field} {b : Bool} (h0 : b₀.Grows s) :
    b₀.Grows (State.hmMark s n f b) := by
  delta State.hmMark
  with_reducible repeat' first
    | assumption
    | ((try lift_lets -underBinder); intro x; (refine (have _ : b₀.Grows x := ?_; ?_); (on_goal 2 => clear_value x); (on_goal 1 => dsimp only [x]; clear x)))
    | apply State.putB_grows | apply State.report_grows | apply ite_grows

theorem State.hmDegraded_grows {b₀ : State} {s : State} {port : Nat} {held : Bool} (h0 : b₀.Grows s) :
    b₀.Grows (State.hmDegraded s port held) := by
  delta State.hmDegraded
  repeat' first
    | with_reducible assumption | (intro x; fail_if_success clear_value x)
    | ((try lift_lets -underBinder); intro x; clear_value x) | intro _ | with_reducible apply State.setDie_grows
    | with_reducible apply State.report_grows | with_reducible fail_if_no_progress apply mk_grows
    | with_reducible apply ite_grows | with_reducible apply foldl_grows

theorem State.katEvents_grows {b₀ : State} {s : State} {n cell kat : Nat} (h0 : b₀.Grows s) :
    b₀.Grows (State.katEvents s n cell kat) := by
  delta State.katEvents
  with_reducible repeat' first
    | assumption
    | ((try lift_lets -underBinder); intro x; first | (refine (have _ : b₀.Grows x := ?_; ?_); (on_goal 2 => clear_value x); (on_goal 1 => dsimp only [x]; clear x)) | clear_value x)
    | apply State.penalty_grows | apply State.setDie_grows | apply State.bumpSat_grows | apply State.put_grows
    | fail_if_no_progress apply mk_grows | apply ite_grows

theorem State.countTold_grows {b₀ : State} {s : State} {told : Nat} {tripped : Bool} (h0 : b₀.Grows s) :
    b₀.Grows (State.countTold s told tripped) := by
  delta State.countTold
  repeat' first
    | with_reducible assumption | intro _ | with_reducible apply State.doIf_grows
    | with_reducible apply State.setHu_grows

theorem State.applyRecord_grows {b₀ : State} {s : State} {n : Nat} {r : List Byte} (h0 : b₀.Grows s) :
    b₀.Grows (State.applyRecord s n r) := by
  delta State.applyRecord
  with_reducible repeat' first
    | assumption
    | ((try lift_lets -underBinder); intro x; first | (refine (have _ : b₀.Grows x := ?_; ?_); (on_goal 2 => clear_value x); (on_goal 1 => dsimp only [x]; clear x)) | clear_value x)
    | apply State.setDie_grows | apply State.put_grows | apply State.putB_grows | apply State.hmMark_grows
    | apply State.countTold_grows | apply State.hmGo_grows | apply State.penalty_grows | apply State.katEvents_grows
    | apply State.hmJudge_grows | apply State.sendSetState_grows | apply State.expelPending_grows
    | fail_if_no_progress apply mk_grows | apply ite_grows

theorem State.entryEvents_grows {b₀ : State} {s : State} {n kind : Nat} {off val times : Nat} (h0 : b₀.Grows s) :
    b₀.Grows (State.entryEvents s n kind off val times) := by
  delta State.entryEvents
  repeat' first
    | with_reducible assumption | (intro x; fail_if_success clear_value x)
    | ((try lift_lets -underBinder); intro x; first | (refine (have _ : b₀.Grows x := ?_; ?_); (on_goal 2 => clear_value x); (on_goal 1 => dsimp only [x]; clear x)) | clear_value x)
    | intro _ | with_reducible apply State.put_grows | with_reducible apply State.penalty_grows
    | with_reducible apply State.setDie_grows | with_reducible apply State.doIf_grows
    | with_reducible apply State.hmMark_grows | with_reducible fail_if_no_progress apply mk_grows
    | with_reducible apply ite_grows | with_reducible apply repeatN_grows | with_reducible apply foldl_grows

theorem State.applyEntry_grows {b₀ : State} {s : State} {n : Nat} {e : List Byte} (h0 : b₀.Grows s) :
    b₀.Grows (State.applyEntry s n e) := by
  delta State.applyEntry
  with_reducible repeat' first
    | assumption
    | ((try lift_lets -underBinder); intro x; first | (refine (have _ : b₀.Grows x := ?_; ?_); (on_goal 2 => clear_value x); (on_goal 1 => dsimp only [x]; clear x)) | clear_value x)
    | apply State.report_grows | apply State.entryEvents_grows | apply State.hmJudge_grows
    | apply State.expelPending_grows | apply ite_grows

theorem State.takeHealth_grows {b₀ : State} {s : State} {p : Nat} {kind : Byte} {body : List Byte} (h0 : b₀.Grows s) :
    b₀.Grows (State.takeHealth s p kind body) := by
  delta State.takeHealth
  with_reducible repeat' first
    | assumption
    | ((try lift_lets -underBinder); intro x; first | (refine (have _ : b₀.Grows x := ?_; ?_); (on_goal 2 => clear_value x); (on_goal 1 => dsimp only [x]; clear x)) | clear_value x)
    | apply State.setHu_grows | apply State.setLog_grows | apply State.bumpSat_grows
    | fail_if_no_progress apply mk_grows | apply ite_grows

theorem execHealthFrameRx_grows {b₀ : State} {path : Path} {kind : Byte} {body : Framed (List Byte)} {s : State} (h0 : b₀.Grows s) :
    Safe b₀ (execHealthFrameRx path kind body s) := by
  delta execHealthFrameRx
  with_reducible repeat' first
    | assumption
    | ((try lift_lets -underBinder); intro x; (refine (have _ : b₀.Grows x := ?_; ?_); (on_goal 2 => clear_value x); (on_goal 1 => dsimp only [x]; clear x)))
    | apply finish_grows | apply State.frameDrop_grows | apply State.wakeAll_grows | apply State.transmit_grows
    | apply State.takeHealth_grows | apply ite_safe | apply next_safe | apply ite_grows | split

theorem execSoundingRecordRx_grows {b₀ : State} {s : State} (h0 : b₀.Grows s) : Safe b₀ (execSoundingRecordRx s) := by
  delta execSoundingRecordRx
  with_reducible repeat' first
    | assumption
    | ((try lift_lets -underBinder); intro x; first | (refine (have _ : b₀.Grows x := ?_; ?_); (on_goal 2 => clear_value x); (on_goal 1 => dsimp only [x]; clear x)) | clear_value x)
    | apply finish_grows | apply State.setHu_grows | apply State.applyRecord_grows | apply State.applyEntry_grows
    | apply ite_safe | apply next_safe | fail_if_no_progress apply mk_grows | apply ite_grows | split

theorem execHealthSilence_grows {b₀ : State} {n : BitVec 11} {s : State} (h0 : b₀.Grows s) : Safe b₀ (execHealthSilence n s) := by
  delta execHealthSilence
  with_reducible repeat' first
    | assumption
    | ((try lift_lets -underBinder); intro x; first | (refine (have _ : b₀.Grows x := ?_; ?_); (on_goal 2 => clear_value x); (on_goal 1 => dsimp only [x]; clear x)) | clear_value x)
    | apply finish_grows | apply State.put_grows | apply State.penalty_grows | apply State.hmJudge_grows
    | apply State.expelPending_grows | apply ite_safe | apply next_safe | apply ite_grows

theorem execHealthRecoverTick_grows {b₀ : State} {n : BitVec 11} {s : State} (h0 : b₀.Grows s) :
    Safe b₀ (execHealthRecoverTick n s) := by
  delta execHealthRecoverTick
  with_reducible repeat' first
    | assumption
    | ((try lift_lets -underBinder); intro x; first | (refine (have _ : b₀.Grows x := ?_; ?_); (on_goal 2 => clear_value x); (on_goal 1 => dsimp only [x]; clear x)) | clear_value x)
    | apply finish_grows | apply State.setDie_grows | apply State.bumpSat_grows | apply State.hmJudge_grows
    | apply State.expelPending_grows | apply ite_safe | apply next_safe | fail_if_no_progress apply mk_grows
    | apply ite_grows

theorem execProbationExpiry_grows {b₀ : State} {n : BitVec 11} {s : State} (h0 : b₀.Grows s) :
    Safe b₀ (execProbationExpiry n s) := by
  delta execProbationExpiry
  with_reducible repeat' first
    | assumption | ((try lift_lets -underBinder); intro x; clear_value x) | apply finish_grows
    | apply State.candidate_grows | apply ite_safe | apply next_safe | apply ite_grows

theorem execExpelRateWindow_grows {b₀ : State} {s : State} (h0 : b₀.Grows s) : Safe b₀ (execExpelRateWindow s) := by
  delta execExpelRateWindow
  with_reducible repeat' first
    | assumption | apply finish_grows | apply State.showHm_grows | apply State.expelPending_grows

theorem execHmScore_grows {b₀ : State} {c : CmdCtx} {first count : BitVec 16} {s : State} (h0 : b₀.Grows s) :
    Safe b₀ (execHmScore c first count s) := by
  delta execHmScore
  with_reducible repeat' first
    | assumption | apply finish_grows | apply State.answer_grows | apply ite_safe | apply next_safe | apply ite_grows

theorem execHmSpares_grows {b₀ : State} {c : CmdCtx} {delta : BitVec 16} {s : State} (h0 : b₀.Grows s) :
    Safe b₀ (execHmSpares c delta s) := by
  delta execHmSpares
  with_reducible repeat' first
    | assumption
    | ((try lift_lets -underBinder); intro x; first | (refine (have _ : b₀.Grows x := ?_; ?_); (on_goal 2 => clear_value x); (on_goal 1 => dsimp only [x]; clear x)) | clear_value x)
    | apply finish_grows | apply State.answer_grows | apply State.put_grows | apply State.showHm_grows
    | apply State.logCommand_grows | apply State.expelPending_grows | apply ite_safe | apply next_safe
    | apply ite_grows

theorem execHmExpel_grows {b₀ : State} {c : CmdCtx} {ua : BitVec 24} {s : State} (h0 : b₀.Grows s) :
    Safe b₀ (execHmExpel c ua s) := by
  delta execHmExpel
  with_reducible repeat' first
    | assumption
    | ((try lift_lets -underBinder); intro x; first | (refine (have _ : b₀.Grows x := ?_; ?_); (on_goal 2 => clear_value x); (on_goal 1 => dsimp only [x]; clear x)) | clear_value x)
    | apply finish_grows | apply State.answer_grows | apply State.expel_grows | apply State.sendSetState_grows
    | apply State.logCommand_grows | apply ite_safe | apply next_safe | apply ite_grows

theorem execHmHoldRelease_grows {b₀ : State} {c : CmdCtx} {s : State} (h0 : b₀.Grows s) : Safe b₀ (execHmHoldRelease c s) := by
  delta execHmHoldRelease
  with_reducible repeat' first
    | assumption | apply finish_grows | apply State.answer_grows | apply State.put_grows
    | apply State.logCommand_grows | apply State.expelPending_grows | apply ite_safe | apply next_safe
    | apply ite_grows

end Sys2Proof.Machine
end

