-- ==== Sys2Proof/Laws/GrowsLinks.lean ====
section
/-! SUPPORT. Every operation and meaning of Machine/Links.lean grows the state it is given: one lemma each. -/

namespace Sys2Proof.Machine

open Sys2Proof

theorem State.showUse_grows {b₀ : State} {s : State} (h0 : b₀.Grows s) : b₀.Grows (State.showUse s) := by
  delta State.showUse
  repeat' first
    | with_reducible assumption | intro _ | with_reducible apply State.putB_grows | with_reducible apply foldl_grows

theorem State.showDegraded_grows {b₀ : State} {s : State} (h0 : b₀.Grows s) : b₀.Grows (State.showDegraded s) := by
  delta State.showDegraded
  with_reducible repeat' first
    | assumption | ((try lift_lets -underBinder); intro x; clear_value x) | apply State.putB_grows

theorem State.retimeVerard_grows {b₀ : State} {s : State} (h0 : b₀.Grows s) : b₀.Grows (State.retimeVerard s) := by
  delta State.retimeVerard
  with_reducible repeat' first
    | assumption | ((try lift_lets -underBinder); intro x; clear_value x) | apply State.put_grows
    | apply State.setClk_grows | apply State.loseParent_grows | apply State.enterHoldover_grows
    | apply State.setOwn_grows | apply State.setRefs_grows | apply State.showUse_grows | apply State.showUncal_grows
    | apply State.showDegraded_grows | apply State.logChange_grows | apply State.showState_grows
    | fail_if_no_progress apply mk_grows | apply ite_grows

theorem State.showMaster_grows {b₀ : State} {s : State} {head : Nat} (h0 : b₀.Grows s) : b₀.Grows (State.showMaster s head) := by
  delta State.showMaster
  with_reducible repeat' first
    | assumption | ((try lift_lets -underBinder); intro x; clear_value x) | apply State.put_grows

theorem State.showMode_grows {b₀ : State} {s : State} {d : Dev} (h0 : b₀.Grows s) : b₀.Grows (State.showMode s d) := by
  delta State.showMode
  repeat' first
    | with_reducible assumption | (intro x; fail_if_success clear_value x)
    | ((try lift_lets -underBinder); intro x; first | (refine (have _ : b₀.Grows x := ?_; ?_); (on_goal 2 => clear_value x); (on_goal 1 => dsimp only [x]; clear x)) | clear_value x)
    | intro _ | with_reducible apply State.putB_grows | with_reducible apply State.doIf_grows
    | with_reducible apply State.logChange_grows

theorem State.ringMode_grows {b₀ : State} {s : State} {bad : Bool} (h0 : b₀.Grows s) : b₀.Grows (State.ringMode s bad) := by
  delta State.ringMode
  with_reducible repeat' first
    | assumption | apply State.setRing_grows | apply State.showMode_grows

theorem State.becomeMaster_grows {b₀ : State} {s : State} (h0 : b₀.Grows s) : b₀.Grows (State.becomeMaster s) := by
  delta State.becomeMaster
  with_reducible repeat' first
    | assumption
    | ((try lift_lets -underBinder); intro x; first | (refine (have _ : b₀.Grows x := ?_; ?_); (on_goal 2 => clear_value x); (on_goal 1 => dsimp only [x]; clear x)) | clear_value x)
    | apply State.setRing_grows | apply State.ringMode_grows | apply State.put_grows | apply State.putB_grows
    | apply State.showUncal_grows | apply State.showState_grows | apply State.logChange_grows

theorem State.handOver_grows {b₀ : State} {s : State} (h0 : b₀.Grows s) : b₀.Grows (State.handOver s) := by
  delta State.handOver
  with_reducible repeat' first
    | assumption | ((try lift_lets -underBinder); intro x; clear_value x) | apply State.setRing_grows
    | apply State.ringSend_grows

theorem State.again_grows {b₀ : State} {s : State} (h0 : b₀.Grows s) : b₀.Grows (State.again s) := by
  delta State.again
  with_reducible repeat' first
    | assumption | apply State.setRing_grows

theorem State.orderMaster_grows {b₀ : State} {s : State} {qual other : Bool} (h0 : b₀.Grows s) :
    b₀.Grows (State.orderMaster s qual other) := by
  delta State.orderMaster
  repeat' first
    | with_reducible assumption | (intro x; fail_if_success clear_value x)
    | ((try lift_lets -underBinder); intro x; first | (refine (have _ : b₀.Grows x := ?_; ?_); (on_goal 2 => clear_value x); (on_goal 1 => dsimp only [x]; clear x)) | clear_value x)
    | intro _ | with_reducible apply State.becomeMaster_grows | with_reducible apply State.doIf_grows
    | with_reducible apply State.setOwn_grows | with_reducible apply State.handOver_grows
    | with_reducible apply State.again_grows | with_reducible apply State.put_grows
    | with_reducible apply State.loseParent_grows | with_reducible apply State.logChange_grows
    | with_reducible apply State.sendStatus_grows | with_reducible apply ite_grows

theorem State.retimeLotik_grows {b₀ : State} {s : State} (h0 : b₀.Grows s) : b₀.Grows (State.retimeLotik s) := by
  delta State.retimeLotik
  with_reducible repeat' first
    | assumption
    | ((try lift_lets -underBinder); intro x; first | (refine (have _ : b₀.Grows x := ?_; ?_); (on_goal 2 => clear_value x); (on_goal 1 => dsimp only [x]; clear x)) | clear_value x)
    | apply State.setRing_grows | apply State.again_grows | apply State.putB_grows | apply State.showUncal_grows
    | apply State.drawn_grows | apply State.orderMaster_grows | apply State.becomeMaster_grows
    | apply State.setOwn_grows | fail_if_no_progress apply mk_grows | apply ite_grows

theorem State.retime_grows {b₀ : State} {s : State} {p : PortId} (h0 : b₀.Grows s) : b₀.Grows (State.retime s p) := by
  delta State.retime
  with_reducible repeat' first
    | assumption | apply State.retimeLotik_grows | apply State.retimeVerard_grows | split

theorem State.showHolds_grows {b₀ : State} {s : State} {p : PortId} (h0 : b₀.Grows s) : b₀.Grows (State.showHolds s p) := by
  delta State.showHolds
  with_reducible repeat' first
    | assumption | apply State.putB_grows | split

theorem State.sawMode_grows {b₀ : State} {s : State} {p : PortId} {wrap : Bool} (h0 : b₀.Grows s) :
    b₀.Grows (State.sawMode s p wrap) := by
  delta State.sawMode
  with_reducible repeat' first
    | assumption
    | ((try lift_lets -underBinder); intro x; first | (refine (have _ : b₀.Grows x := ?_; ?_); (on_goal 2 => clear_value x); (on_goal 1 => dsimp only [x]; clear x)) | clear_value x)
    | apply State.setPort_grows | apply State.putB_grows | apply State.showMode_grows

theorem State.foldStart_grows {b₀ : State} {s : State} {p : PortId} (h0 : b₀.Grows s) : b₀.Grows (State.foldStart s p) := by
  delta State.foldStart
  with_reducible repeat' first
    | assumption | apply State.setPort_grows | apply State.emit_grows

theorem State.portGo_grows {b₀ : State} {s : State} {p : PortId} {st : Nat} (h0 : b₀.Grows s) :
    b₀.Grows (State.portGo s p st) := by
  delta State.portGo
  repeat' first
    | with_reducible assumption | (intro x; fail_if_success clear_value x)
    | ((try lift_lets -underBinder); intro x; first | (refine (have _ : b₀.Grows x := ?_; ?_); (on_goal 2 => clear_value x); (on_goal 1 => dsimp only [x]; clear x)) | clear_value x)
    | intro _ | with_reducible apply State.setPort_grows | with_reducible apply State.doIf_grows
    | with_reducible apply State.tcWork_grows | with_reducible apply State.wakeTc_grows
    | with_reducible apply State.put_grows | with_reducible apply State.bumpSat_grows
    | with_reducible apply State.showHolds_grows | with_reducible apply State.showMode_grows
    | with_reducible apply State.logChange_grows | with_reducible apply State.portDown_grows
    | with_reducible apply State.portUp_grows | with_reducible apply State.foldStart_grows
    | with_reducible apply State.switchBack_grows | with_reducible apply State.retime_grows
    | with_reducible fail_if_no_progress apply mk_grows | with_reducible apply ite_grows | split

theorem State.portHold_grows {b₀ : State} {s : State} {p : PortId} {why : Nat} (h0 : b₀.Grows s) :
    b₀.Grows (State.portHold s p why) := by
  delta State.portHold
  with_reducible repeat' first
    | assumption
    | ((try lift_lets -underBinder); intro x; first | (refine (have _ : b₀.Grows x := ?_; ?_); (on_goal 2 => clear_value x); (on_goal 1 => dsimp only [x]; clear x)) | clear_value x)
    | apply State.setPort_grows | apply State.portGo_grows | apply State.put_grows | apply State.showHolds_grows

theorem State.portFault_grows {b₀ : State} {s : State} {p : PortId} {code : Nat} (h0 : b₀.Grows s) :
    b₀.Grows (State.portFault s p code) := by
  delta State.portFault
  with_reducible repeat' first
    | assumption
    | ((try lift_lets -underBinder); intro x; (refine (have _ : b₀.Grows x := ?_; ?_); (on_goal 2 => clear_value x); (on_goal 1 => dsimp only [x]; clear x)))
    | apply State.portGo_grows | apply State.put_grows | apply State.logChange_grows

theorem State.tickSend_grows {b₀ : State} {s : State} {p : PortId} {bins : Nat} (h0 : b₀.Grows s) :
    b₀.Grows (State.tickSend s p bins) := by
  delta State.tickSend
  with_reducible repeat' first
    | assumption
    | ((try lift_lets -underBinder); intro x; first | (refine (have _ : b₀.Grows x := ?_; ?_); (on_goal 2 => clear_value x); (on_goal 1 => dsimp only [x]; clear x)) | clear_value x)
    | apply State.emit_grows | apply State.emitFrame_grows | apply State.emitFrameIf_grows | apply State.setPort_grows
    | apply State.retime_grows | fail_if_no_progress apply mk_grows | apply ite_grows

theorem State.tickRx_grows {b₀ : State} {s : State} {p : PortId} {type : Byte} {content : BitVec 56} {bins : Nat} (h0 : b₀.Grows s) :
    b₀.Grows (State.tickRx s p type content bins) := by
  delta State.tickRx
  with_reducible repeat' first
    | assumption
    | ((try lift_lets -underBinder); intro x; first | (refine (have _ : b₀.Grows x := ?_; ?_); (on_goal 2 => clear_value x); (on_goal 1 => dsimp only [x]; clear x)) | clear_value x)
    | apply State.bumpSat_grows | apply State.setPort_grows | apply State.sawMode_grows | apply State.retime_grows
    | fail_if_no_progress apply mk_grows | apply ite_grows

theorem State.frameBad_grows {b₀ : State} {s : State} {p : PortId} (h0 : b₀.Grows s) : b₀.Grows (State.frameBad s p) := by
  delta State.frameBad
  with_reducible repeat' first
    | assumption | apply State.bumpSat_grows | apply ite_grows

theorem State.groupOver_grows {b₀ : State} {s : State} {p : PortId} (h0 : b₀.Grows s) : b₀.Grows (State.groupOver s p) := by
  delta State.groupOver
  with_reducible repeat' first
    | assumption | ((try lift_lets -underBinder); intro x; clear_value x) | apply State.bumpSat_grows
    | apply ite_grows

theorem State.timeRx_grows {b₀ : State} {s : State} {p : PortId} {f : TimeFrame} {crcOk : Bool} (h0 : b₀.Grows s) :
    b₀.Grows (State.timeRx s p f crcOk) := by
  delta State.timeRx
  repeat' first
    | with_reducible assumption | (intro x; fail_if_success clear_value x)
    | ((try lift_lets -underBinder); intro x; first | (refine (have _ : b₀.Grows x := ?_; ?_); (on_goal 2 => clear_value x); (on_goal 1 => dsimp only [x]; clear x)) | clear_value x)
    | intro _ | with_reducible apply State.setPort_grows | with_reducible apply State.bumpSat_grows
    | with_reducible apply State.doIf_grows | with_reducible apply State.groupOver_grows
    | with_reducible apply State.sawMode_grows | with_reducible apply State.retime_grows
    | with_reducible apply State.hmDegraded_grows | with_reducible apply State.put_grows
    | with_reducible apply State.putB_grows | with_reducible apply State.showState_grows
    | with_reducible fail_if_no_progress apply mk_grows | with_reducible apply ite_grows | split

theorem State.useOffset_grows {b₀ : State} {s : State} {p : PortId} {ofsPs : Int} (h0 : b₀.Grows s) :
    b₀.Grows (State.useOffset s p ofsPs) := by
  delta State.useOffset
  with_reducible repeat' first
    | assumption | apply State.feedLoop_grows | apply State.putSSat_grows | apply ite_grows | split

theorem State.authRx_grows {b₀ : State} {s : State} {p : PortId} {group : BitVec 64} {tag : List Byte} {crcOk : Bool} (h0 : b₀.Grows s) :
    b₀.Grows (State.authRx s p group tag crcOk) := by
  delta State.authRx
  repeat' first
    | with_reducible assumption
    | ((try lift_lets -underBinder); intro x; first | (refine (have hf : ∀ a c, b₀.Grows a → b₀.Grows (x a c) := ?_; ?_); (on_goal 2 => clear_value x); (on_goal 1 => dsimp only [x]; clear x)) | (refine (have _ : b₀.Grows x := ?_; ?_); (on_goal 2 => clear_value x); (on_goal 1 => dsimp only [x]; clear x)) | clear_value x)
    | intro _ | with_reducible apply State.frameBad_grows | with_reducible apply State.setPort_grows
    | with_reducible apply State.bumpSat_grows | with_reducible apply State.logChange_grows
    | with_reducible apply State.portHold_grows | with_reducible apply State.putSat_grows
    | with_reducible apply State.putSSat_grows | with_reducible apply State.useOffset_grows
    | with_reducible apply State.put_grows | with_reducible apply State.foldStart_grows
    | with_reducible apply State.retime_grows | with_reducible fail_if_no_progress apply mk_grows
    | with_reducible apply ite_grows | with_reducible apply fst_ite_grows | with_reducible apply hf | split

theorem State.foldEnd_grows {b₀ : State} {s : State} {p : PortId} (h0 : b₀.Grows s) : b₀.Grows (State.foldEnd s p) := by
  delta State.foldEnd
  with_reducible repeat' first
    | assumption
    | ((try lift_lets -underBinder); intro x; first | (refine (have _ : b₀.Grows x := ?_; ?_); (on_goal 2 => clear_value x); (on_goal 1 => dsimp only [x]; clear x)) | clear_value x)
    | apply State.putSSat_grows | apply State.bump_grows | apply State.put_grows | apply State.setPort_grows
    | apply State.portGo_grows | apply State.retime_grows | fail_if_no_progress apply mk_grows | apply ite_grows
    | split

theorem State.foldDone_grows {b₀ : State} {s : State} {p : PortId} {own : Nat} (h0 : b₀.Grows s) :
    b₀.Grows (State.foldDone s p own) := by
  delta State.foldDone
  with_reducible repeat' first
    | assumption | ((try lift_lets -underBinder); intro x; clear_value x) | apply State.setPort_grows
    | apply State.emitFrame_grows | apply State.foldEnd_grows | fail_if_no_progress apply mk_grows | apply ite_grows

theorem State.foldHeard_grows {b₀ : State} {s : State} {p : PortId} {m : Nat} (h0 : b₀.Grows s) :
    b₀.Grows (State.foldHeard s p m) := by
  delta State.foldHeard
  repeat' first
    | with_reducible assumption | (intro x; fail_if_success clear_value x)
    | ((try lift_lets -underBinder); intro x; first | (refine (have _ : b₀.Grows x := ?_; ?_); (on_goal 2 => clear_value x); (on_goal 1 => dsimp only [x]; clear x)) | clear_value x)
    | intro _ | with_reducible apply State.setPort_grows | with_reducible apply State.doIf_grows
    | with_reducible apply State.foldStart_grows | with_reducible apply State.foldEnd_grows
    | with_reducible fail_if_no_progress apply mk_grows | with_reducible apply ite_grows

theorem State.keySend_grows {b₀ : State} {s : State} {p : PortId} (h0 : b₀.Grows s) : b₀.Grows (State.keySend s p) := by
  delta State.keySend
  with_reducible repeat' first
    | assumption
    | ((try lift_lets -underBinder); intro x; first | (refine (have _ : b₀.Grows x := ?_; ?_); (on_goal 2 => clear_value x); (on_goal 1 => dsimp only [x]; clear x)) | clear_value x)
    | apply State.drawn_grows | apply State.setPort_grows | apply State.setPart_grows | apply State.emitFrame_grows

theorem State.trainDone_grows {b₀ : State} {s : State} {p : PortId} {q : TrainPeer} (h0 : b₀.Grows s) :
    b₀.Grows (State.trainDone s p q) := by
  delta State.trainDone
  with_reducible repeat' first
    | assumption
    | ((try lift_lets -underBinder); intro x; first | (refine (have _ : b₀.Grows x := ?_; ?_); (on_goal 2 => clear_value x); (on_goal 1 => dsimp only [x]; clear x)) | clear_value x)
    | apply State.setPort_grows | apply State.putB_grows | apply State.portHold_grows | apply State.portGo_grows
    | apply State.emitFrame_grows | apply State.keySend_grows | fail_if_no_progress apply mk_grows | apply ite_grows

theorem State.formUa_grows {b₀ : State} {s : State} (h0 : b₀.Grows s) : b₀.Grows (State.formUa s) := by
  delta State.formUa
  with_reducible repeat' first
    | assumption
    | ((try lift_lets -underBinder); intro x; first | (refine (have _ : b₀.Grows x := ?_; ?_); (on_goal 2 => clear_value x); (on_goal 1 => dsimp only [x]; clear x)) | clear_value x)
    | apply State.put_grows | apply State.logChange_grows | apply ite_grows

theorem State.formVdUa_grows {b₀ : State} {s : State} {pod : Nat} (h0 : b₀.Grows s) : b₀.Grows (State.formVdUa s pod) := by
  delta State.formVdUa
  with_reducible repeat' first
    | assumption
    | ((try lift_lets -underBinder); intro x; first | (refine (have _ : b₀.Grows x := ?_; ?_); (on_goal 2 => clear_value x); (on_goal 1 => dsimp only [x]; clear x)) | clear_value x)
    | apply State.put_grows

theorem State.enumSend_grows {b₀ : State} {s : State} {p : PortId} (h0 : b₀.Grows s) : b₀.Grows (State.enumSend s p) := by
  delta State.enumSend
  with_reducible repeat' first
    | assumption | ((try lift_lets -underBinder); intro x; clear_value x) | apply State.emitFrame_grows
    | fail_if_no_progress apply mk_grows | apply ite_grows | split

theorem State.enumAll_grows {b₀ : State} {s : State} (h0 : b₀.Grows s) : b₀.Grows (State.enumAll s) := by
  delta State.enumAll
  with_reducible repeat' first
    | assumption | apply State.enumSend_grows | apply foldl_grows

theorem State.enumRx_grows {b₀ : State} {s : State} {p : PortId} {f : EnumFrame} (h0 : b₀.Grows s) :
    b₀.Grows (State.enumRx s p f) := by
  delta State.enumRx
  with_reducible repeat' first
    | assumption
    | ((try lift_lets -underBinder); intro x; first | (refine (have _ : b₀.Grows x := ?_; ?_); (on_goal 2 => clear_value x); (on_goal 1 => dsimp only [x]; clear x)) | clear_value x)
    | apply State.put_grows | apply State.setRing_grows | apply State.formUa_grows | apply State.sendStatus_grows
    | apply State.emitFrame_grows | apply State.portGo_grows | apply State.portHold_grows | apply State.formVdUa_grows
    | apply State.enumAll_grows | fail_if_no_progress apply mk_grows | apply ite_grows | split

theorem State.tickTimeout_grows {b₀ : State} {s : State} {p : PortId} (h0 : b₀.Grows s) : b₀.Grows (State.tickTimeout s p) := by
  delta State.tickTimeout
  with_reducible repeat' first
    | assumption | apply State.portGo_grows | apply ite_grows

theorem execTickSend_grows {b₀ : State} {p : PortId} {bins : BitVec 12} {s : State} (h0 : b₀.Grows s) :
    Safe b₀ (execTickSend p bins s) := by
  delta execTickSend
  with_reducible repeat' first
    | assumption | apply finish_grows | apply State.tickSend_grows

theorem execTimeFrameRx_grows {b₀ : State} {p : PortId} {f : TimeFrame} {crcOk : Bool} {s : State} (h0 : b₀.Grows s) :
    Safe b₀ (execTimeFrameRx p f crcOk s) := by
  delta execTimeFrameRx
  with_reducible repeat' first
    | assumption | apply finish_grows | apply State.timeRx_grows

theorem execAuthFrameRx_grows {b₀ : State} {p : PortId} {group : BitVec 64} {tag : Framed (List Byte)} {s : State} (h0 : b₀.Grows s) :
    Safe b₀ (execAuthFrameRx p group tag s) := by
  delta execAuthFrameRx
  with_reducible repeat' first
    | assumption | apply finish_grows | apply State.authRx_grows

theorem execEnumFrameRx_grows {b₀ : State} {p : PortId} {f : Framed EnumFrame} {s : State} (h0 : b₀.Grows s) :
    Safe b₀ (execEnumFrameRx p f s) := by
  delta execEnumFrameRx
  with_reducible repeat' first
    | assumption | apply finish_grows | apply State.enumRx_grows | apply State.frameBad_grows | apply ite_safe
    | apply next_safe | apply ite_grows

theorem State.enumAcked_grows {b₀ : State} {s : State} {p : PortId} {ua : Ua} {role : BitVec 2} {side : BitVec 1} (h0 : b₀.Grows s) :
    b₀.Grows (State.enumAcked s p ua role side) := by
  delta State.enumAcked
  with_reducible repeat' first
    | assumption
    | ((try lift_lets -underBinder); intro x; first | (refine (have _ : b₀.Grows x := ?_; ?_); (on_goal 2 => clear_value x); (on_goal 1 => dsimp only [x]; clear x)) | clear_value x)
    | apply State.put_grows | apply State.setPort_grows | apply State.portGo_grows

theorem execEnumAckRx_grows {b₀ : State} {p : PortId} {ua : Ua} {role : BitVec 2} {side : Framed (BitVec 1)} {s : State} (h0 : b₀.Grows s) :
    Safe b₀ (execEnumAckRx p ua role side s) := by
  delta execEnumAckRx
  with_reducible repeat' first
    | assumption | apply finish_grows | apply State.frameBad_grows | apply State.enumAcked_grows | apply ite_safe
    | apply next_safe | apply ite_grows

theorem State.keyPayload_grows {b₀ : State} {s : State} {p : PortId} {bytes : List Byte} (h0 : b₀.Grows s) :
    b₀.Grows (State.keyPayload s p bytes) := by
  delta State.keyPayload
  with_reducible repeat' first
    | assumption
    | ((try lift_lets -underBinder); intro x; first | (refine (have _ : b₀.Grows x := ?_; ?_); (on_goal 2 => clear_value x); (on_goal 1 => dsimp only [x]; clear x)) | clear_value x)
    | apply State.keySend_grows | apply State.setPort_grows | apply State.emitFrame_grows
    | fail_if_no_progress apply mk_grows | apply ite_grows

theorem execCalFrameRx_grows {b₀ : State} {p : PortId} {b : Framed CalBody} {s : State} (h0 : b₀.Grows s) :
    Safe b₀ (execCalFrameRx p b s) := by
  delta execCalFrameRx
  with_reducible repeat' first
    | assumption | apply finish_grows | apply State.frameBad_grows | apply State.foldHeard_grows
    | apply State.enumSend_grows | apply State.setPort_grows | apply State.keyPayload_grows | apply ite_safe
    | apply next_safe | fail_if_no_progress apply mk_grows | apply ite_grows | split

theorem State.portEnable_grows {b₀ : State} {s : State} {p : PortId} {on : Bool} (h0 : b₀.Grows s) :
    b₀.Grows (State.portEnable s p on) := by
  delta State.portEnable
  with_reducible repeat' first
    | assumption
    | ((try lift_lets -underBinder); intro x; (refine (have _ : b₀.Grows x := ?_; ?_); (on_goal 2 => clear_value x); (on_goal 1 => dsimp only [x]; clear x)))
    | apply State.putB_grows | apply State.portGo_grows | apply ite_grows

theorem execPortEnableWrite_grows {b₀ : State} {p : PortId} {on : Bool} {s : State} (h0 : b₀.Grows s) :
    Safe b₀ (execPortEnableWrite p on s) := by
  delta execPortEnableWrite
  repeat' first
    | with_reducible assumption | intro _ | with_reducible apply finish_grows
    | with_reducible apply State.viaBus_grows | with_reducible apply State.portEnable_grows

theorem State.portRetry_grows {b₀ : State} {s : State} {p : PortId} (h0 : b₀.Grows s) : b₀.Grows (State.portRetry s p) := by
  delta State.portRetry
  with_reducible repeat' first
    | assumption | apply State.portGo_grows | apply ite_grows

theorem execPortRetry_grows {b₀ : State} {p : PortId} {s : State} (h0 : b₀.Grows s) : Safe b₀ (execPortRetry p s) := by
  delta execPortRetry
  repeat' first
    | with_reducible assumption | intro _ | with_reducible apply finish_grows
    | with_reducible apply State.viaBus_grows | with_reducible apply State.portRetry_grows

theorem State.portCalNow_grows {b₀ : State} {s : State} {p : PortId} (h0 : b₀.Grows s) : b₀.Grows (State.portCalNow s p) := by
  delta State.portCalNow
  with_reducible repeat' first
    | assumption | apply State.foldStart_grows | apply ite_grows

theorem execPortCalNow_grows {b₀ : State} {p : PortId} {s : State} (h0 : b₀.Grows s) : Safe b₀ (execPortCalNow p s) := by
  delta execPortCalNow
  repeat' first
    | with_reducible assumption | intro _ | with_reducible apply finish_grows
    | with_reducible apply State.viaBus_grows | with_reducible apply State.portCalNow_grows

theorem execDetectLightValid_grows {b₀ : State} {p : PortId} {s : State} (h0 : b₀.Grows s) :
    Safe b₀ (execDetectLightValid p s) := by
  delta execDetectLightValid
  with_reducible repeat' first
    | assumption | apply finish_grows | apply State.portGo_grows | apply State.emit_grows | apply ite_safe
    | apply next_safe | apply ite_grows

theorem execTrainTimeout_grows {b₀ : State} {p : PortId} {reversed : Bool} {s : State} (h0 : b₀.Grows s) :
    Safe b₀ (execTrainTimeout p reversed s) := by
  delta execTrainTimeout
  with_reducible repeat' first
    | assumption | apply finish_grows | apply State.portFault_grows | apply ite_safe | apply next_safe
    | apply ite_grows

theorem execFoldCalDone_grows {b₀ : State} {p : PortId} {low high : BitVec 24} {s : State} (h0 : b₀.Grows s) :
    Safe b₀ (execFoldCalDone p low high s) := by
  delta execFoldCalDone
  with_reducible repeat' first
    | assumption | apply finish_grows | apply State.foldDone_grows | apply State.enumSend_grows

theorem execTickTimeout_grows {b₀ : State} {p : PortId} {s : State} (h0 : b₀.Grows s) : Safe b₀ (execTickTimeout p s) := by
  delta execTickTimeout
  with_reducible repeat' first
    | assumption | apply finish_grows | apply State.tickTimeout_grows

theorem execPortFaultRetry_grows {b₀ : State} {p : PortId} {s : State} (h0 : b₀.Grows s) : Safe b₀ (execPortFaultRetry p s) := by
  delta execPortFaultRetry
  with_reducible repeat' first
    | assumption | apply finish_grows | apply State.portGo_grows | apply ite_safe | apply next_safe | apply ite_grows

theorem execRoutineRecal_grows {b₀ : State} {p : PortId} {s : State} (h0 : b₀.Grows s) : Safe b₀ (execRoutineRecal p s) := by
  delta execRoutineRecal
  with_reducible repeat' first
    | assumption | apply finish_grows | apply State.foldStart_grows | apply ite_safe | apply next_safe
    | apply ite_grows

end Sys2Proof.Machine
end

