-- ==== Sys2Proof/Laws/GrowsOptics.lean ====
section
/-! SUPPORT. Every operation and meaning of Machine/Optics.lean grows the state it is given: one lemma each. -/

namespace Sys2Proof.Machine

open Sys2Proof

theorem State.setLine_grows {b₀ : State} {s : State} {e l : Nat} {x : OeLine} (h0 : b₀.Grows s) :
    b₀.Grows (State.setLine s e l x) := by
  delta State.setLine
  with_reducible repeat' first
    | assumption | apply State.setOe_grows

theorem State.setOring_grows {b₀ : State} {s : State} {e r : Nat} {x : OeRing} (h0 : b₀.Grows s) :
    b₀.Grows (State.setOring s e r x) := by
  delta State.setOring
  with_reducible repeat' first
    | assumption | apply State.setOe_grows

theorem State.lsSend_grows {b₀ : State} {s : State} {e l op v : Nat} (h0 : b₀.Grows s) : b₀.Grows (State.lsSend s e l op v) := by
  delta State.lsSend
  with_reducible repeat' first
    | assumption | ((try lift_lets -underBinder); intro x; clear_value x) | apply State.emit_grows

theorem State.lightLine_grows {b₀ : State} {s : State} {e l slot tone : Nat} (h0 : b₀.Grows s) :
    b₀.Grows (State.lightLine s e l slot tone) := by
  delta State.lightLine
  with_reducible repeat' first
    | assumption
    | ((try lift_lets -underBinder); intro x; first | (refine (have _ : b₀.Grows x := ?_; ?_); (on_goal 2 => clear_value x); (on_goal 1 => dsimp only [x]; clear x)) | clear_value x)
    | apply State.lsSend_grows | apply State.setLine_grows | fail_if_no_progress apply mk_grows | apply ite_grows

theorem State.darkLine_grows {b₀ : State} {s : State} {e l : Nat} (h0 : b₀.Grows s) : b₀.Grows (State.darkLine s e l) := by
  delta State.darkLine
  with_reducible repeat' first
    | assumption | ((try lift_lets -underBinder); intro x; clear_value x) | apply State.lsSend_grows
    | apply State.setLine_grows | fail_if_no_progress apply mk_grows | apply ite_grows

theorem State.lineGo_grows {b₀ : State} {s : State} {e l st : Nat} (h0 : b₀.Grows s) : b₀.Grows (State.lineGo s e l st) := by
  delta State.lineGo
  with_reducible repeat' first
    | assumption | ((try lift_lets -underBinder); intro x; clear_value x) | apply State.put_grows
    | apply State.logChange_grows | apply ite_grows

theorem State.setPstate_grows {b₀ : State} {s : State} {e k st : Nat} (h0 : b₀.Grows s) :
    b₀.Grows (State.setPstate s e k st) := by
  delta State.setPstate
  with_reducible repeat' first
    | assumption | apply State.put_grows | apply State.setOe_grows | fail_if_no_progress apply mk_grows | split

theorem State.showSpares_grows {b₀ : State} {s : State} {e : Nat} (h0 : b₀.Grows s) : b₀.Grows (State.showSpares s e) := by
  delta State.showSpares
  with_reducible repeat' first
    | assumption | apply State.put_grows | apply ite_grows

theorem State.warmSpare_grows {b₀ : State} {s : State} {e place : Nat} (h0 : b₀.Grows s) :
    b₀.Grows (State.warmSpare s e place) := by
  delta State.warmSpare
  with_reducible repeat' first
    | assumption | apply State.put_grows | apply State.lightLine_grows | apply ite_grows | split

theorem State.spareSpent_grows {b₀ : State} {s : State} {e l : Nat} (h0 : b₀.Grows s) : b₀.Grows (State.spareSpent s e l) := by
  delta State.spareSpent
  repeat' first
    | with_reducible assumption | (intro x; fail_if_success clear_value x)
    | ((try lift_lets -underBinder); intro x; clear_value x) | intro _ | with_reducible apply State.doIf_grows
    | with_reducible apply State.put_grows

theorem State.oeGo_grows {b₀ : State} {s : State} {e st : Nat} (h0 : b₀.Grows s) : b₀.Grows (State.oeGo s e st) := by
  delta State.oeGo
  with_reducible repeat' first
    | assumption
    | ((try lift_lets -underBinder); intro x; first | (refine (have _ : b₀.Grows x := ?_; ?_); (on_goal 2 => clear_value x); (on_goal 1 => dsimp only [x]; clear x)) | clear_value x)
    | apply State.setOe_grows | apply State.put_grows | apply State.logChange_grows
    | fail_if_no_progress apply mk_grows | apply ite_grows

theorem State.portDetect_grows {b₀ : State} {s : State} {p : PortId} (h0 : b₀.Grows s) : b₀.Grows (State.portDetect s p) := by
  delta State.portDetect
  with_reducible repeat' first
    | assumption | ((try lift_lets -underBinder); intro x; clear_value x) | apply State.portGo_grows | apply ite_grows

theorem State.portLock_grows {b₀ : State} {s : State} {p : PortId} (h0 : b₀.Grows s) : b₀.Grows (State.portLock s p) := by
  delta State.portLock
  with_reducible repeat' first
    | assumption
    | ((try lift_lets -underBinder); intro x; (refine (have _ : b₀.Grows x := ?_; ?_); (on_goal 2 => clear_value x); (on_goal 1 => dsimp only [x]; clear x)))
    | apply State.put_grows | apply State.showSwitching_grows | apply State.portGo_grows | apply ite_grows

theorem State.showHeat_grows {b₀ : State} {s : State} {e : Nat} (h0 : b₀.Grows s) : b₀.Grows (State.showHeat s e) := by
  delta State.showHeat
  repeat' first
    | with_reducible assumption | (intro x; fail_if_success clear_value x)
    | ((try lift_lets -underBinder); intro x; first | (refine (have _ : b₀.Grows x := ?_; ?_); (on_goal 2 => clear_value x); (on_goal 1 => dsimp only [x]; clear x)) | (refine (have _ : b₀.Grows x.1 := ?_; ?_); (on_goal 2 => clear_value x); (on_goal 1 => dsimp only [x]; clear x)))
    | intro _ | with_reducible apply State.put_grows | with_reducible apply foldl_grows

theorem State.ringsOf_grows {b₀ : State} {s : State} {p : PortId} {m d : Nat} (h0 : b₀.Grows s) :
    b₀.Grows (State.ringsOf s p m d) := by
  delta State.ringsOf
  with_reducible repeat' first
    | assumption | apply State.put_grows

theorem State.oeOff_grows {b₀ : State} {s : State} {e : Nat} (h0 : b₀.Grows s) : b₀.Grows (State.oeOff s e) := by
  delta State.oeOff
  repeat' first
    | with_reducible assumption | (intro x; fail_if_success clear_value x)
    | ((try lift_lets -underBinder); intro x; first | (refine (have _ : b₀.Grows x := ?_; ?_); (on_goal 2 => clear_value x); (on_goal 1 => dsimp only [x]; clear x)) | clear_value x)
    | intro _ | with_reducible apply State.darkLine_grows | with_reducible apply State.setLine_grows
    | with_reducible apply State.put_grows | with_reducible apply State.complete_grows
    | with_reducible apply State.lineGo_grows | with_reducible apply State.setOe_grows
    | with_reducible apply State.portDetect_grows | with_reducible apply State.oeGo_grows
    | with_reducible apply State.showSpares_grows | with_reducible fail_if_no_progress apply mk_grows
    | with_reducible apply ite_grows | with_reducible apply fst_ite_grows | with_reducible apply foldl_grows

theorem State.lightPlace_grows {b₀ : State} {s : State} {e k : Nat} (h0 : b₀.Grows s) : b₀.Grows (State.lightPlace s e k) := by
  delta State.lightPlace
  with_reducible repeat' first
    | assumption
    | ((try lift_lets -underBinder); intro x; first | (refine (have _ : b₀.Grows x := ?_; ?_); (on_goal 2 => clear_value x); (on_goal 1 => dsimp only [x]; clear x)) | clear_value x)
    | apply State.put_grows | apply State.lightLine_grows | apply ite_grows | split

theorem State.oeLight_grows {b₀ : State} {s : State} {e : Nat} (h0 : b₀.Grows s) : b₀.Grows (State.oeLight s e) := by
  delta State.oeLight
  repeat' first
    | with_reducible assumption | (intro x; fail_if_success clear_value x)
    | ((try lift_lets -underBinder); intro x; first | (refine (have _ : b₀.Grows x := ?_; ?_); (on_goal 2 => clear_value x); (on_goal 1 => dsimp only [x]; clear x)) | clear_value x)
    | intro _ | with_reducible apply State.lineGo_grows | with_reducible apply State.lightPlace_grows
    | with_reducible apply State.showSpares_grows | with_reducible apply ite_grows | with_reducible apply foldl_grows

theorem State.beginSweep_grows {b₀ : State} {s : State} {e r : Nat} (h0 : b₀.Grows s) : b₀.Grows (State.beginSweep s e r) := by
  delta State.beginSweep
  with_reducible repeat' first
    | assumption | ((try lift_lets -underBinder); intro x; clear_value x) | apply State.setOring_grows

theorem State.lightTests_grows {b₀ : State} {s : State} (h0 : b₀.Grows s) : b₀.Grows (State.lightTests s) := by
  delta State.lightTests
  repeat' first
    | with_reducible assumption | (intro x; fail_if_success clear_value x)
    | ((try lift_lets -underBinder); intro x; first | (refine (have _ : b₀.Grows x := ?_; ?_); (on_goal 2 => clear_value x); (on_goal 1 => dsimp only [x]; clear x)) | clear_value x)
    | intro _ | with_reducible apply State.lightPlace_grows | with_reducible apply State.doIf_grows
    | with_reducible apply State.lineGo_grows | with_reducible apply State.setPstate_grows
    | with_reducible apply State.beginSweep_grows | with_reducible apply ite_grows | with_reducible apply foldl_grows

theorem State.oeStart_grows {b₀ : State} {s : State} {e : Nat} (h0 : b₀.Grows s) : b₀.Grows (State.oeStart s e) := by
  delta State.oeStart
  with_reducible repeat' first
    | assumption | ((try lift_lets -underBinder); intro x; clear_value x) | apply State.oeGo_grows
    | apply State.oeLight_grows | apply State.oeOff_grows | apply ite_grows

theorem State.oeEnable_grows {b₀ : State} {s : State} {e : Nat} {on : Bool} (h0 : b₀.Grows s) :
    b₀.Grows (State.oeEnable s e on) := by
  delta State.oeEnable
  with_reducible repeat' first
    | assumption | apply State.putB_grows | apply State.oeStart_grows

theorem execOeEnableWrite_grows {b₀ : State} {e : Fin 9} {on : Bool} {s : State} (h0 : b₀.Grows s) :
    Safe b₀ (execOeEnableWrite e on s) := by
  delta execOeEnableWrite
  repeat' first
    | with_reducible assumption | intro _ | with_reducible apply finish_grows
    | with_reducible apply State.viaBus_grows | with_reducible apply State.oeEnable_grows

theorem State.laserOk_grows {b₀ : State} {s : State} {e : Fin 9} (h0 : b₀.Grows s) : b₀.Grows (State.laserOk s e) := by
  delta State.laserOk
  repeat' first
    | with_reducible assumption | (intro x; fail_if_success clear_value x)
    | ((try lift_lets -underBinder); intro x; first | (refine (have _ : b₀.Grows x := ?_; ?_); (on_goal 2 => clear_value x); (on_goal 1 => dsimp only [x]; clear x)) | clear_value x)
    | intro _ | with_reducible apply State.lineGo_grows | with_reducible apply State.put_grows
    | with_reducible apply State.setPstate_grows | with_reducible apply State.beginSweep_grows
    | with_reducible apply State.setOe_grows | with_reducible apply State.oeGo_grows
    | with_reducible fail_if_no_progress apply mk_grows | with_reducible apply foldl_grows | split

theorem execLaserQualified_grows {b₀ : State} {e : Fin 9} {s : State} (h0 : b₀.Grows s) : Safe b₀ (execLaserQualified e s) := by
  delta execLaserQualified
  with_reducible repeat' first
    | assumption | apply finish_grows | apply State.laserOk_grows | apply ite_safe | apply next_safe | apply ite_grows

theorem State.laserLate_grows {b₀ : State} {s : State} {e : Fin 9} {absent : BitVec 10} (h0 : b₀.Grows s) :
    b₀.Grows (State.laserLate s e absent) := by
  delta State.laserLate
  repeat' first
    | with_reducible assumption | (intro x; fail_if_success clear_value x)
    | ((try lift_lets -underBinder); intro x; first | (refine (have _ : b₀.Grows x := ?_; ?_); (on_goal 2 => clear_value x); (on_goal 1 => dsimp only [x]; clear x)) | clear_value x)
    | intro _ | with_reducible apply State.oeGo_grows | with_reducible apply State.lineGo_grows
    | with_reducible apply State.put_grows | with_reducible apply State.darkLine_grows
    | with_reducible apply State.lightLine_grows | with_reducible apply State.spareSpent_grows
    | with_reducible apply State.setOe_grows | with_reducible apply State.showSpares_grows
    | with_reducible fail_if_no_progress apply mk_grows | with_reducible apply ite_grows
    | with_reducible apply fst_ite_grows | with_reducible apply foldl_grows | with_reducible apply fst_foldl_grows
    | split

theorem execLaserWaitTimeout_grows {b₀ : State} {e : Fin 9} {absent : BitVec 10} {s : State} (h0 : b₀.Grows s) :
    Safe b₀ (execLaserWaitTimeout e absent s) := by
  delta execLaserWaitTimeout
  with_reducible repeat' first
    | assumption | apply finish_grows | apply State.laserLate_grows | apply ite_safe | apply next_safe
    | apply ite_grows

theorem execOeFaultRetry_grows {b₀ : State} {e : Fin 9} {s : State} (h0 : b₀.Grows s) : Safe b₀ (execOeFaultRetry e s) := by
  delta execOeFaultRetry
  with_reducible repeat' first
    | assumption | apply finish_grows | apply State.oeGo_grows | apply State.oeLight_grows | apply ite_safe
    | apply next_safe | apply ite_grows

theorem State.reachGoals_grows {b₀ : State} {s : State} {e : Nat} (h0 : b₀.Grows s) : b₀.Grows (State.reachGoals s e) := by
  delta State.reachGoals
  with_reducible repeat' first
    | assumption | apply State.setOe_grows

theorem State.settlePlace_grows {b₀ : State} {s : State} {e k : Nat} {m d : List (BitVec 16)} {locked : Nat} (h0 : b₀.Grows s) :
    b₀.Grows (State.settlePlace s e k m d locked) := by
  delta State.settlePlace
  repeat' first
    | with_reducible assumption | (intro x; fail_if_success clear_value x)
    | ((try lift_lets -underBinder); intro x; first | (refine (have _ : b₀.Grows x := ?_; ?_); (on_goal 2 => clear_value x); (on_goal 1 => dsimp only [x]; clear x)) | clear_value x)
    | intro _ | with_reducible apply State.setOring_grows | with_reducible apply State.ringsOf_grows
    | with_reducible apply State.doIf_grows | with_reducible apply State.put_grows
    | with_reducible apply State.setOe_grows | with_reducible apply State.setPstate_grows
    | with_reducible fail_if_no_progress apply mk_grows | with_reducible apply ite_grows | split

theorem State.oeJudge_grows {b₀ : State} {s : State} {e : Nat} (h0 : b₀.Grows s) : b₀.Grows (State.oeJudge s e) := by
  delta State.oeJudge
  with_reducible repeat' first
    | assumption | ((try lift_lets -underBinder); intro x; clear_value x) | apply State.oeGo_grows | apply ite_grows

theorem State.settleDone_grows {b₀ : State} {s : State} {e : Nat} (h0 : b₀.Grows s) : b₀.Grows (State.settleDone s e) := by
  delta State.settleDone
  repeat' first
    | with_reducible assumption | (intro x; fail_if_success clear_value x)
    | ((try lift_lets -underBinder); intro x; first | (refine (have _ : b₀.Grows x := ?_; ?_); (on_goal 2 => clear_value x); (on_goal 1 => dsimp only [x]; clear x)) | clear_value x)
    | intro _ | with_reducible apply State.setOe_grows | with_reducible apply State.put_grows
    | with_reducible apply State.setPstate_grows | with_reducible apply State.oeJudge_grows
    | with_reducible apply State.portLock_grows | with_reducible apply State.complete_grows
    | with_reducible fail_if_no_progress apply mk_grows | with_reducible apply ite_grows
    | with_reducible apply fst_ite_grows | with_reducible apply foldl_grows | with_reducible apply fst_foldl_grows
    | split

theorem State.searchDone_grows {b₀ : State} {s : State} {e : Nat} {m d : List (BitVec 16)} {locked : Nat} (h0 : b₀.Grows s) :
    b₀.Grows (State.searchDone s e m d locked) := by
  delta State.searchDone
  repeat' first
    | with_reducible assumption | (intro x; fail_if_success clear_value x)
    | ((try lift_lets -underBinder); intro x; first | (refine (have _ : b₀.Grows x := ?_; ?_); (on_goal 2 => clear_value x); (on_goal 1 => dsimp only [x]; clear x)) | clear_value x)
    | intro _ | with_reducible apply State.put_grows | with_reducible apply State.settlePlace_grows
    | with_reducible apply State.oeJudge_grows | with_reducible apply State.doIf_grows
    | with_reducible apply State.complete_grows | with_reducible apply State.reachGoals_grows
    | with_reducible apply State.settleDone_grows | with_reducible apply ite_grows | with_reducible apply foldl_grows

theorem execOpticalSearchDone_grows {b₀ : State} {e : Fin 9} {mods drops : List (BitVec 16)} {locked : BitVec 16} {s : State} (h0 : b₀.Grows s) :
    Safe b₀ (execOpticalSearchDone e mods drops locked s) := by
  delta execOpticalSearchDone
  with_reducible repeat' first
    | assumption | apply finish_grows | apply State.searchDone_grows

theorem State.searchAgain_grows {b₀ : State} {s : State} {p : PortId} (h0 : b₀.Grows s) : b₀.Grows (State.searchAgain s p) := by
  delta State.searchAgain
  with_reducible repeat' first
    | assumption | ((try lift_lets -underBinder); intro x; clear_value x) | apply State.beginSweep_grows
    | apply State.setOe_grows | apply State.put_grows | apply State.bumpSat_grows | apply State.portDetect_grows

theorem State.oeResearch_grows {b₀ : State} {s : State} {e : Nat} (h0 : b₀.Grows s) : b₀.Grows (State.oeResearch s e) := by
  delta State.oeResearch
  with_reducible repeat' first
    | assumption | ((try lift_lets -underBinder); intro x; clear_value x) | apply State.searchAgain_grows
    | apply ite_grows | apply foldl_grows

theorem execOeResearch_grows {b₀ : State} {e : Fin 9} {s : State} (h0 : b₀.Grows s) : Safe b₀ (execOeResearch e s) := by
  delta execOeResearch
  repeat' first
    | with_reducible assumption | intro _ | with_reducible apply finish_grows
    | with_reducible apply State.viaBus_grows | with_reducible apply State.oeResearch_grows

theorem State.swapSend_grows {b₀ : State} {s : State} {e old spare slot : Nat} (h0 : b₀.Grows s) :
    b₀.Grows (State.swapSend s e old spare slot) := by
  delta State.swapSend
  with_reducible repeat' first
    | assumption | apply State.lsSend_grows

theorem State.swapGo_grows {b₀ : State} {s : State} {e place l spare : Nat} (h0 : b₀.Grows s) :
    b₀.Grows (State.swapGo s e place l spare) := by
  delta State.swapGo
  with_reducible repeat' first
    | assumption
    | ((try lift_lets -underBinder); intro x; first | (refine (have _ : b₀.Grows x := ?_; ?_); (on_goal 2 => clear_value x); (on_goal 1 => dsimp only [x]; clear x)) | clear_value x)
    | apply State.swapSend_grows | apply State.setOe_grows | apply State.put_grows
    | fail_if_no_progress apply mk_grows | split

theorem State.swapFailed_grows {b₀ : State} {s : State} {e place : Nat} (h0 : b₀.Grows s) :
    b₀.Grows (State.swapFailed s e place) := by
  delta State.swapFailed
  with_reducible repeat' first
    | assumption | apply State.swapGo_grows | apply ite_grows | split

theorem State.moveRing_grows {b₀ : State} {s : State} {e r ms : Nat} {err : Int} (h0 : b₀.Grows s) :
    b₀.Grows (State.moveRing s e r ms err) := by
  delta State.moveRing
  with_reducible repeat' first
    | assumption | ((try lift_lets -underBinder); intro x; clear_value x) | apply State.put_grows
    | apply State.setOring_grows | fail_if_no_progress apply mk_grows | apply ite_grows

theorem State.sweepRing_grows {b₀ : State} {s : State} {e r ms : Nat} (h0 : b₀.Grows s) :
    b₀.Grows (State.sweepRing s e r ms) := by
  delta State.sweepRing
  with_reducible repeat' first
    | assumption | ((try lift_lets -underBinder); intro x; clear_value x) | apply State.setOring_grows

theorem State.sweepRings_grows {b₀ : State} {s : State} {e ms : Nat} (h0 : b₀.Grows s) : b₀.Grows (State.sweepRings s e ms) := by
  delta State.sweepRings
  repeat' first
    | with_reducible assumption | (intro x; fail_if_success clear_value x)
    | ((try lift_lets -underBinder); intro x; clear_value x) | intro _ | with_reducible apply State.sweepRing_grows
    | with_reducible apply ite_grows | with_reducible apply foldl_grows

theorem State.goalRing_grows {b₀ : State} {s : State} {e ms r : Nat} (h0 : b₀.Grows s) : b₀.Grows (State.goalRing s e ms r) := by
  delta State.goalRing
  with_reducible repeat' first
    | assumption | ((try lift_lets -underBinder); intro x; clear_value x) | apply State.setOring_grows
    | apply State.moveRing_grows | fail_if_no_progress apply mk_grows | apply ite_grows | apply fst_ite_grows | split

theorem State.driveRings_grows {b₀ : State} {s : State} {e ms : Nat} (h0 : b₀.Grows s) : b₀.Grows (State.driveRings s e ms) := by
  delta State.driveRings
  repeat' first
    | with_reducible assumption | (intro x; fail_if_success clear_value x)
    | ((try lift_lets -underBinder); intro x; first | (refine (have _ : b₀.Grows x := ?_; ?_); (on_goal 2 => clear_value x); (on_goal 1 => dsimp only [x]; clear x)) | (refine (have _ : b₀.Grows x.1 := ?_; ?_); (on_goal 2 => clear_value x); (on_goal 1 => dsimp only [x]; clear x)))
    | intro _ | with_reducible apply State.sweepRings_grows | with_reducible apply State.goalRing_grows
    | with_reducible apply State.reachGoals_grows | with_reducible apply State.settleDone_grows
    | with_reducible apply foldl_grows

theorem State.ringLight_grows {b₀ : State} {s : State} {e r : Nat} {dark : Bool} (h0 : b₀.Grows s) :
    b₀.Grows (State.ringLight s e r dark) := by
  delta State.ringLight
  with_reducible repeat' first
    | assumption | ((try lift_lets -underBinder); intro x; clear_value x) | apply State.setOring_grows

theorem State.lockRings_grows {b₀ : State} {s : State} {e : Fin 9} {errs : List (BitVec 16)} {dark : BitVec 16} {ms : Nat} (h0 : b₀.Grows s) :
    b₀.Grows (State.lockRings s e errs dark ms) := by
  delta State.lockRings
  repeat' first
    | with_reducible assumption | (intro x; fail_if_success clear_value x)
    | ((try lift_lets -underBinder); intro x; first | (refine (have _ : b₀.Grows x := ?_; ?_); (on_goal 2 => clear_value x); (on_goal 1 => dsimp only [x]; clear x)) | clear_value x)
    | intro _ | with_reducible apply State.ringLight_grows | with_reducible apply State.moveRing_grows
    | with_reducible apply foldl_grows

theorem State.ringsUpdate_grows {b₀ : State} {s : State} {e : Fin 9} {errs : List (BitVec 16)} {dark : BitVec 16} {st ms : Nat} (h0 : b₀.Grows s) :
    b₀.Grows (State.ringsUpdate s e errs dark st ms) := by
  delta State.ringsUpdate
  repeat' first
    | with_reducible assumption | (intro x; fail_if_success clear_value x)
    | ((try lift_lets -underBinder); intro x; first | (refine (have _ : b₀.Grows x := ?_; ?_); (on_goal 2 => clear_value x); (on_goal 1 => dsimp only [x]; clear x)) | (refine (have _ : b₀.Grows x.1 := ?_; ?_); (on_goal 2 => clear_value x); (on_goal 1 => dsimp only [x]; clear x)))
    | intro _ | with_reducible apply State.doIf_grows | with_reducible apply State.lockRings_grows
    | with_reducible apply State.swapFailed_grows | with_reducible apply State.driveRings_grows
    | with_reducible apply State.showHeat_grows | with_reducible apply foldl_grows

theorem execRingLockUpdate_grows {b₀ : State} {e : Fin 9} {errs : List (BitVec 16)} {dark : BitVec 16} {temp : BitVec 8} {pwr : List (BitVec 32)} {s : State} (h0 : b₀.Grows s) :
    Safe b₀ (execRingLockUpdate e errs dark temp pwr s) := by
  delta execRingLockUpdate
  repeat' first
    | with_reducible assumption | (intro x; fail_if_success clear_value x)
    | ((try lift_lets -underBinder); intro x; first | (refine (have _ : b₀.Grows x := ?_; ?_); (on_goal 2 => clear_value x); (on_goal 1 => dsimp only [x]; clear x)) | clear_value x)
    | intro _ | with_reducible apply finish_grows | with_reducible apply State.setOe_grows
    | with_reducible apply State.put_grows | with_reducible apply State.ringsUpdate_grows
    | with_reducible apply ite_safe | with_reducible apply next_safe
    | with_reducible fail_if_no_progress apply mk_grows | with_reducible apply ite_grows
    | with_reducible apply fst_ite_grows | with_reducible apply foldl_grows

theorem State.faultVia_grows {b₀ : State} {s : State} {p : PortId} (h0 : b₀.Grows s) : b₀.Grows (State.faultVia s p) := by
  delta State.faultVia
  with_reducible repeat' first
    | assumption | apply State.faultPath_grows

theorem State.wrongLine_grows {b₀ : State} {s : State} {p : PortId} {drop : Bool} {khz : Nat} (h0 : b₀.Grows s) :
    b₀.Grows (State.wrongLine s p drop khz) := by
  delta State.wrongLine
  with_reducible repeat' first
    | assumption
    | ((try lift_lets -underBinder); intro x; first | (refine (have _ : b₀.Grows x := ?_; ?_); (on_goal 2 => clear_value x); (on_goal 1 => dsimp only [x]; clear x)) | clear_value x)
    | apply State.setOe_grows | apply State.put_grows | apply State.lightLine_grows | apply State.complete_grows
    | apply State.drawn_grows | apply State.setOring_grows | apply State.portDetect_grows | apply State.faultVia_grows
    | apply State.bumpSat_grows | apply State.logKind_grows | apply State.oeJudge_grows | apply State.showHeat_grows
    | fail_if_no_progress apply mk_grows | apply ite_grows | apply fst_ite_grows | split

theorem State.followChan_grows {b₀ : State} {s : State} {p : PortId} {chan : Nat} (h0 : b₀.Grows s) :
    b₀.Grows (State.followChan s p chan) := by
  delta State.followChan
  repeat' first
    | with_reducible assumption | (intro x; fail_if_success clear_value x)
    | ((try lift_lets -underBinder); intro x; first | (refine (have _ : b₀.Grows x := ?_; ?_); (on_goal 2 => clear_value x); (on_goal 1 => dsimp only [x]; clear x)) | clear_value x)
    | intro _ | with_reducible apply State.setOe_grows | with_reducible apply State.put_grows
    | with_reducible apply State.setOring_grows | with_reducible apply State.lightLine_grows
    | with_reducible fail_if_no_progress apply mk_grows | with_reducible apply ite_grows
    | with_reducible apply foldl_grows | split

theorem State.toneRead_grows {b₀ : State} {s : State} {p : PortId} {drop : Bool} {khz : Nat} (h0 : b₀.Grows s) :
    b₀.Grows (State.toneRead s p drop khz) := by
  delta State.toneRead
  with_reducible repeat' first
    | assumption
    | ((try lift_lets -underBinder); intro x; first | (refine (have _ : b₀.Grows x := ?_; ?_); (on_goal 2 => clear_value x); (on_goal 1 => dsimp only [x]; clear x)) | clear_value x)
    | apply State.followChan_grows | apply State.putB_grows | apply State.setOring_grows | apply State.lineGo_grows
    | apply State.darkLine_grows | apply State.put_grows | apply State.setOe_grows | apply State.showSpares_grows
    | apply State.wrongLine_grows | fail_if_no_progress apply mk_grows | apply ite_grows | apply fst_ite_grows | split

theorem State.trainRx_grows {b₀ : State} {s : State} {p : PortId} {q : TrainPeer} (h0 : b₀.Grows s) :
    b₀.Grows (State.trainRx s p q) := by
  delta State.trainRx
  with_reducible repeat' first
    | assumption | apply State.trainDone_grows | apply State.followChan_grows | apply State.wrongLine_grows
    | apply ite_grows

theorem execTrainDone_grows {b₀ : State} {p : PortId} {peer : TrainPeer} {s : State} (h0 : b₀.Grows s) :
    Safe b₀ (execTrainDone p peer s) := by
  delta execTrainDone
  with_reducible repeat' first
    | assumption | apply finish_grows | apply State.trainRx_grows

theorem execToneCheck_grows {b₀ : State} {e : Fin 9} {tones : List (BitVec 16)} {s : State} (h0 : b₀.Grows s) :
    Safe b₀ (execToneCheck e tones s) := by
  delta execToneCheck
  repeat' first
    | with_reducible assumption | (intro x; fail_if_success clear_value x)
    | ((try lift_lets -underBinder); intro x; first | (refine (have _ : b₀.Grows x := ?_; ?_); (on_goal 2 => clear_value x); (on_goal 1 => dsimp only [x]; clear x)) | clear_value x)
    | intro _ | with_reducible apply finish_grows | with_reducible apply State.toneRead_grows
    | with_reducible apply ite_safe | with_reducible apply next_safe | with_reducible apply foldl_grows

theorem execTickBlockRx_grows {b₀ : State} {p : PortId} {b : Block} {bins : BitVec 12} {s : State} (h0 : b₀.Grows s) :
    Safe b₀ (execTickBlockRx p b bins s) := by
  delta execTickBlockRx
  with_reducible repeat' first
    | assumption
    | ((try lift_lets -underBinder); intro x; (refine (have _ : b₀.Grows x := ?_; ?_); (on_goal 2 => clear_value x); (on_goal 1 => dsimp only [x]; clear x)))
    | apply finish_grows | apply State.wrongLine_grows | apply State.tickRx_grows | apply ite_safe | apply next_safe
    | apply ite_grows

theorem State.lineBack_grows {b₀ : State} {s : State} {p : PortId} {drop : Bool} {code : BitVec 12} (h0 : b₀.Grows s) :
    b₀.Grows (State.lineBack s p drop code) := by
  delta State.lineBack
  with_reducible repeat' first
    | assumption
    | ((try lift_lets -underBinder); intro x; first | (refine (have _ : b₀.Grows x := ?_; ?_); (on_goal 2 => clear_value x); (on_goal 1 => dsimp only [x]; clear x)) | clear_value x)
    | apply State.setOring_grows | apply State.bumpSat_grows | apply State.showHeat_grows | apply State.portLock_grows

theorem execWrongLineRecovered_grows {b₀ : State} {p : PortId} {drop : Bool} {code : BitVec 12} {s : State} (h0 : b₀.Grows s) :
    Safe b₀ (execWrongLineRecovered p drop code s) := by
  delta execWrongLineRecovered
  with_reducible repeat' first
    | assumption | apply finish_grows | apply State.lineBack_grows | apply ite_safe | apply next_safe
    | apply ite_grows

theorem execDropRingFreezeExpiry_grows {b₀ : State} {p : PortId} {s : State} (h0 : b₀.Grows s) :
    Safe b₀ (execDropRingFreezeExpiry p s) := by
  delta execDropRingFreezeExpiry
  with_reducible repeat' first
    | assumption | apply finish_grows | apply State.searchAgain_grows | apply ite_safe | apply next_safe
    | apply ite_grows | apply fst_ite_grows | split

theorem State.lineJudge_grows {b₀ : State} {s : State} {e l : Nat} {pwr : Int} (h0 : b₀.Grows s) :
    b₀.Grows (State.lineJudge s e l pwr) := by
  delta State.lineJudge
  with_reducible repeat' first
    | assumption
    | ((try lift_lets -underBinder); intro x; first | (refine (have _ : b₀.Grows x := ?_; ?_); (on_goal 2 => clear_value x); (on_goal 1 => dsimp only [x]; clear x)) | clear_value x)
    | apply State.setLine_grows | apply State.lineGo_grows | apply State.put_grows | apply State.warmSpare_grows
    | fail_if_no_progress apply mk_grows | apply ite_grows | split

theorem State.fade_grows {b₀ : State} {s : State} {e l : Nat} {pwr : Int} (h0 : b₀.Grows s) :
    b₀.Grows (State.fade s e l pwr) := by
  delta State.fade
  with_reducible repeat' first
    | assumption
    | ((try lift_lets -underBinder); intro x; first | (refine (have _ : b₀.Grows x := ?_; ?_); (on_goal 2 => clear_value x); (on_goal 1 => dsimp only [x]; clear x)) | clear_value x)
    | apply State.setLine_grows | apply State.put_grows | apply State.putSSat_grows
    | fail_if_no_progress apply mk_grows | apply ite_grows | apply fst_ite_grows | split

theorem State.showLit_grows {b₀ : State} {s : State} {e : Nat} (h0 : b₀.Grows s) : b₀.Grows (State.showLit s e) := by
  delta State.showLit
  repeat' first
    | with_reducible assumption | (intro x; fail_if_success clear_value x)
    | ((try lift_lets -underBinder); intro x; clear_value x) | intro _ | with_reducible apply State.put_grows
    | with_reducible apply ite_grows | with_reducible apply foldl_grows

theorem State.lineAdjust_grows {b₀ : State} {s : State} {e l : Nat} {w : BitVec 16} (h0 : b₀.Grows s) :
    b₀.Grows (State.lineAdjust s e l w) := by
  delta State.lineAdjust
  with_reducible repeat' first
    | assumption
    | ((try lift_lets -underBinder); intro x; first | (refine (have _ : b₀.Grows x := ?_; ?_); (on_goal 2 => clear_value x); (on_goal 1 => dsimp only [x]; clear x)) | clear_value x)
    | apply State.put_grows | apply State.lsSend_grows | apply State.lineJudge_grows | apply State.fade_grows
    | apply ite_grows

theorem execLineBiasAdjust_grows {b₀ : State} {e : Fin 9} {pwr : List (BitVec 16)} {s : State} (h0 : b₀.Grows s) :
    Safe b₀ (execLineBiasAdjust e pwr s) := by
  delta execLineBiasAdjust
  repeat' first
    | with_reducible assumption | (intro x; fail_if_success clear_value x)
    | ((try lift_lets -underBinder); intro x; clear_value x) | intro _ | with_reducible apply finish_grows
    | with_reducible apply State.lineAdjust_grows | with_reducible apply State.setOe_grows
    | with_reducible apply ite_safe | with_reducible apply next_safe
    | with_reducible fail_if_no_progress apply mk_grows | with_reducible apply ite_grows
    | with_reducible apply fst_ite_grows | with_reducible apply foldl_grows

theorem execSpareWarm_grows {b₀ : State} {e : Fin 9} {l : Fin 10} {s : State} (h0 : b₀.Grows s) :
    Safe b₀ (execSpareWarm e l s) := by
  delta execSpareWarm
  repeat' first
    | with_reducible assumption | (intro x; fail_if_success clear_value x)
    | ((try lift_lets -underBinder); intro x; clear_value x) | intro _ | with_reducible apply finish_grows
    | with_reducible apply State.swapFailed_grows | with_reducible apply State.lineGo_grows
    | with_reducible apply ite_safe | with_reducible apply next_safe | with_reducible apply ite_grows
    | with_reducible apply foldl_grows

theorem State.restorePort_grows {b₀ : State} {s : State} {e place : Nat} (h0 : b₀.Grows s) :
    b₀.Grows (State.restorePort s e place) := by
  delta State.restorePort
  with_reducible repeat' first
    | assumption | apply State.put_grows | apply ite_grows | split

theorem State.swapRestore_grows {b₀ : State} {s : State} {e place : Nat} {w : OeSwap} (h0 : b₀.Grows s) :
    b₀.Grows (State.swapRestore s e place w) := by
  delta State.swapRestore
  with_reducible repeat' first
    | assumption
    | ((try lift_lets -underBinder); intro x; first | (refine (have _ : b₀.Grows x := ?_; ?_); (on_goal 2 => clear_value x); (on_goal 1 => dsimp only [x]; clear x)) | clear_value x)
    | apply State.swapSend_grows | apply State.setLine_grows | apply State.setOe_grows | apply State.put_grows
    | apply State.restorePort_grows | apply State.warmSpare_grows | apply State.complete_grows
    | fail_if_no_progress apply mk_grows | apply ite_grows

theorem execSpareSwap_grows {b₀ : State} {p : PortId} {s : State} (h0 : b₀.Grows s) : Safe b₀ (execSpareSwap p s) := by
  delta execSpareSwap
  with_reducible repeat' first
    | assumption
    | ((try lift_lets -underBinder); intro x; first | (refine (have _ : b₀.Grows x := ?_; ?_); (on_goal 2 => clear_value x); (on_goal 1 => dsimp only [x]; clear x)) | clear_value x)
    | apply finish_grows | apply State.swapRestore_grows | apply State.swapGo_grows | apply ite_safe | apply next_safe
    | apply ite_grows | split

theorem State.warmDue_grows {b₀ : State} {s : State} {e : Nat} (h0 : b₀.Grows s) : b₀.Grows (State.warmDue s e) := by
  delta State.warmDue
  repeat' first
    | with_reducible assumption | intro _ | with_reducible apply State.doIf_grows
    | with_reducible apply State.warmSpare_grows | with_reducible apply foldl_grows

theorem State.swapEnd_grows {b₀ : State} {s : State} {e : Fin 9} {w : OeSwap} (h0 : b₀.Grows s) :
    b₀.Grows (State.swapEnd s e w) := by
  delta State.swapEnd
  repeat' first
    | with_reducible assumption | (intro x; fail_if_success clear_value x)
    | ((try lift_lets -underBinder); intro x; first | (refine (have _ : b₀.Grows x := ?_; ?_); (on_goal 2 => clear_value x); (on_goal 1 => dsimp only [x]; clear x)) | clear_value x)
    | intro _ | with_reducible apply State.lineGo_grows | with_reducible apply State.put_grows
    | with_reducible apply State.setLine_grows | with_reducible apply State.setOe_grows
    | with_reducible apply State.bump_grows | with_reducible apply State.showSpares_grows
    | with_reducible apply State.doIf_grows | with_reducible apply State.portLock_grows
    | with_reducible apply State.complete_grows | with_reducible apply State.spareSpent_grows
    | with_reducible apply State.warmDue_grows | with_reducible fail_if_no_progress apply mk_grows
    | with_reducible apply ite_grows | split

theorem execSwapConfirm_grows {b₀ : State} {e : Fin 9} {s : State} (h0 : b₀.Grows s) : Safe b₀ (execSwapConfirm e s) := by
  delta execSwapConfirm
  with_reducible repeat' first
    | assumption | apply finish_grows | apply State.swapEnd_grows | apply ite_safe | apply next_safe | apply ite_grows
    | split

theorem execSwapWaitTimeout_grows {b₀ : State} {e : Fin 9} {l : Fin 10} {s : State} (h0 : b₀.Grows s) :
    Safe b₀ (execSwapWaitTimeout e l s) := by
  delta execSwapWaitTimeout
  with_reducible repeat' first
    | assumption | ((try lift_lets -underBinder); intro x; clear_value x) | apply finish_grows
    | apply State.setLine_grows | apply ite_safe | apply next_safe | fail_if_no_progress apply mk_grows
    | apply ite_grows

theorem State.nextSpare_grows {b₀ : State} {s : State} {e k : Nat} (h0 : b₀.Grows s) : b₀.Grows (State.nextSpare s e k) := by
  delta State.nextSpare
  repeat' first
    | with_reducible assumption | (intro x; fail_if_success clear_value x)
    | ((try lift_lets -underBinder); intro x; first | (refine (have _ : b₀.Grows x := ?_; ?_); (on_goal 2 => clear_value x); (on_goal 1 => dsimp only [x]; clear x)) | clear_value x)
    | intro _ | with_reducible apply State.warmSpare_grows | with_reducible apply State.doIf_grows
    | with_reducible apply State.setLine_grows | with_reducible apply State.complete_grows
    | with_reducible apply State.put_grows | with_reducible apply State.portDetect_grows
    | with_reducible apply State.oeJudge_grows | with_reducible apply State.setPstate_grows
    | with_reducible apply State.swapFailed_grows | with_reducible fail_if_no_progress apply mk_grows
    | with_reducible apply ite_grows | split

theorem State.lineFail_grows {b₀ : State} {s : State} {e : Fin 9} {l : Fin 10} (h0 : b₀.Grows s) :
    b₀.Grows (State.lineFail s e l) := by
  delta State.lineFail
  repeat' first
    | with_reducible assumption | (intro x; fail_if_success clear_value x)
    | ((try lift_lets -underBinder); intro x; first | (refine (have _ : b₀.Grows x := ?_; ?_); (on_goal 2 => clear_value x); (on_goal 1 => dsimp only [x]; clear x)) | clear_value x)
    | intro _ | with_reducible apply State.setOe_grows | with_reducible apply State.lineGo_grows
    | with_reducible apply State.put_grows | with_reducible apply State.showSpares_grows
    | with_reducible apply State.nextSpare_grows | with_reducible apply State.spareSpent_grows
    | with_reducible fail_if_no_progress apply mk_grows | with_reducible apply ite_grows
    | with_reducible apply foldl_grows | split

theorem execLinePowerFall_grows {b₀ : State} {e : Fin 9} {l : Fin 10} {s : State} (h0 : b₀.Grows s) :
    Safe b₀ (execLinePowerFall e l s) := by
  delta execLinePowerFall
  with_reducible repeat' first
    | assumption | ((try lift_lets -underBinder); intro x; clear_value x) | apply finish_grows
    | apply State.lineFail_grows | apply ite_safe | apply next_safe | apply ite_grows

theorem execLsStatusRx_grows {b₀ : State} {e : Fin 9} {w : Word} {ready : Bool} {s : State} (h0 : b₀.Grows s) :
    Safe b₀ (execLsStatusRx e w ready s) := by
  delta execLsStatusRx
  with_reducible repeat' first
    | assumption
    | ((try lift_lets -underBinder); intro x; first | (refine (have _ : b₀.Grows x := ?_; ?_); (on_goal 2 => clear_value x); (on_goal 1 => dsimp only [x]; clear x)) | clear_value x)
    | apply finish_grows | apply State.put_grows | apply State.oeStart_grows | apply ite_safe | apply next_safe
    | fail_if_no_progress apply mk_grows | apply ite_grows | apply foldl_grows

theorem execLightReturn_grows {b₀ : State} {_p : PortId} {s : State} (h0 : b₀.Grows s) : Safe b₀ (execLightReturn _p s) := by
  delta execLightReturn
  with_reducible repeat' first
    | assumption | apply ite_safe | apply next_safe

end Sys2Proof.Machine
end

