-- ==== Sys2Proof/Laws/GrowsLinkKey.lean ====
section
/-! SUPPORT. Every operation and meaning of Machine/LinkKey.lean grows the state it is given: one lemma each. -/

namespace Sys2Proof.Machine

open Sys2Proof

theorem State.keyFailed_grows {b₀ : State} {s : State} {p : PortId} {reason : Nat} (h0 : b₀.Grows s) :
    b₀.Grows (State.keyFailed s p reason) := by
  delta State.keyFailed
  with_reducible repeat' first
    | assumption
    | ((try lift_lets -underBinder); intro x; first | (refine (have _ : b₀.Grows x := ?_; ?_); (on_goal 2 => clear_value x); (on_goal 1 => dsimp only [x]; clear x)) | clear_value x)
    | apply State.logKind_grows | apply State.setPort_grows | apply State.portHold_grows
    | fail_if_no_progress apply mk_grows | apply ite_grows

theorem State.keyTake_grows {b₀ : State} {s : State} {p : PortId} (h0 : b₀.Grows s) : b₀.Grows (State.keyTake s p) := by
  delta State.keyTake
  with_reducible repeat' first
    | assumption | ((try lift_lets -underBinder); intro x; clear_value x) | apply State.setPort_grows
    | apply State.portGo_grows | fail_if_no_progress apply mk_grows | apply ite_grows

theorem execLinkKeyAgreed_grows {b₀ : State} {p : PortId} {s : State} (h0 : b₀.Grows s) : Safe b₀ (execLinkKeyAgreed p s) := by
  delta execLinkKeyAgreed
  with_reducible repeat' first
    | assumption | ((try lift_lets -underBinder); intro x; clear_value x) | apply finish_grows
    | apply State.keyFailed_grows | apply State.keyTake_grows | apply ite_safe | apply next_safe | apply ite_grows
    | split

theorem execLinkKeyFail_grows {b₀ : State} {p : PortId} {reason : Fin 3} {s : State} (h0 : b₀.Grows s) :
    Safe b₀ (execLinkKeyFail p reason s) := by
  delta execLinkKeyFail
  with_reducible repeat' first
    | assumption | apply finish_grows | apply State.keyFailed_grows | apply ite_safe | apply next_safe
    | apply ite_grows

theorem execLinkRekey_grows {b₀ : State} {p : PortId} {s : State} (h0 : b₀.Grows s) : Safe b₀ (execLinkRekey p s) := by
  delta execLinkRekey
  with_reducible repeat' first
    | assumption | ((try lift_lets -underBinder); intro x; clear_value x) | apply finish_grows
    | apply State.keySend_grows | apply ite_safe | apply next_safe | apply ite_grows

theorem execLinkKeyExpiry_grows {b₀ : State} {p : PortId} {s : State} (h0 : b₀.Grows s) : Safe b₀ (execLinkKeyExpiry p s) := by
  delta execLinkKeyExpiry
  with_reducible repeat' first
    | assumption | ((try lift_lets -underBinder); intro x; clear_value x) | apply finish_grows
    | apply State.logKind_grows | apply State.portHold_grows | apply ite_safe | apply next_safe | apply ite_grows

end Sys2Proof.Machine
end

