-- ==== Sys2Proof/Laws/GrowsProfile.lean ====
section
/-! SUPPORT. Every operation and meaning of Machine/Profile.lean grows the state it is given: one lemma each. -/

namespace Sys2Proof.Machine

open Sys2Proof

theorem State.putImages_grows {b₀ : State} {s : State} {xs : List Img} {rec : List Byte} (h0 : b₀.Grows s) :
    b₀.Grows (State.putImages s xs rec) := by
  delta State.putImages
  repeat' first
    | with_reducible assumption | intro _ | with_reducible apply State.put_grows | with_reducible apply foldl_grows

theorem State.applyLk_grows {b₀ : State} {s : State} {r : List Byte} (h0 : b₀.Grows s) : b₀.Grows (State.applyLk s r) := by
  delta State.applyLk
  with_reducible repeat' first
    | assumption
    | ((try lift_lets -underBinder); intro x; first | (refine (have _ : b₀.Grows x := ?_; ?_); (on_goal 2 => clear_value x); (on_goal 1 => dsimp only [x]; clear x)) | clear_value x)
    | apply State.putImages_grows | apply State.put_grows | apply State.setRing_grows | apply State.portEnable_grows
    | fail_if_no_progress apply mk_grows | apply ite_grows

theorem State.applyVd_grows {b₀ : State} {s : State} {r : List Byte} (h0 : b₀.Grows s) : b₀.Grows (State.applyVd s r) := by
  delta State.applyVd
  repeat' first
    | with_reducible assumption | (intro x; fail_if_success clear_value x)
    | ((try lift_lets -underBinder); intro x; first | (refine (have _ : b₀.Grows x := ?_; ?_); (on_goal 2 => clear_value x); (on_goal 1 => dsimp only [x]; clear x)) | clear_value x)
    | intro _ | with_reducible apply State.putImages_grows | with_reducible apply State.put_grows
    | with_reducible apply State.putB_grows | with_reducible apply State.formVdUa_grows
    | with_reducible fail_if_no_progress apply mk_grows | with_reducible apply ite_grows
    | with_reducible apply foldl_grows

end Sys2Proof.Machine
end

