-- ==== Sys2Proof/Laws/GrowsSec.lean ====
section
/-! SUPPORT. Every operation and meaning of Machine/Sec.lean grows the state it is given: one lemma each. -/

namespace Sys2Proof.Machine

open Sys2Proof

theorem State.setSec_grows {b₀ : State} {s : State} {d : Dev} {x : Sec} (h0 : b₀.Grows s) : b₀.Grows (State.setSec s d x) := by
  delta State.setSec
  with_reducible repeat' first
    | assumption | apply State.setPart_grows

theorem State.setSecRun_grows {b₀ : State} {s : State} {d : Dev} {r : SecRun} (h0 : b₀.Grows s) :
    b₀.Grows (State.setSecRun s d r) := by
  delta State.setSecRun
  with_reducible repeat' first
    | assumption | apply State.setPart_grows

theorem State.showSec_grows {b₀ : State} {s : State} {d : Dev} (h0 : b₀.Grows s) : b₀.Grows (State.showSec s d) := by
  delta State.showSec
  with_reducible repeat' first
    | assumption
    | ((try lift_lets -underBinder); intro x; first | (refine (have _ : b₀.Grows x := ?_; ?_); (on_goal 2 => clear_value x); (on_goal 1 => dsimp only [x]; clear x)) | clear_value x)
    | apply State.put_grows | apply State.putB_grows

theorem State.showFw_grows {b₀ : State} {s : State} {d : Dev} (h0 : b₀.Grows s) : b₀.Grows (State.showFw s d) := by
  delta State.showFw
  with_reducible repeat' first
    | assumption
    | ((try lift_lets -underBinder); intro x; first | (refine (have _ : b₀.Grows x := ?_; ?_); (on_goal 2 => clear_value x); (on_goal 1 => dsimp only [x]; clear x)) | clear_value x)
    | apply State.put_grows

theorem State.fwRun_grows {b₀ : State} {s : State} {d : Dev} {bank source : Nat} {img : List Byte} (h0 : b₀.Grows s) :
    b₀.Grows (State.fwRun s d bank source img) := by
  delta State.fwRun
  with_reducible repeat' first
    | assumption
    | ((try lift_lets -underBinder); intro x; first | (refine (have _ : b₀.Grows x := ?_; ?_); (on_goal 2 => clear_value x); (on_goal 1 => dsimp only [x]; clear x)) | clear_value x)
    | apply State.setSec_grows | apply State.put_grows | apply State.showSec_grows | apply State.logKind_grows

theorem State.fwFail_grows {b₀ : State} {s : State} {d : Dev} {bank cause : Nat} {img : List Byte} (h0 : b₀.Grows s) :
    b₀.Grows (State.fwFail s d bank cause img) := by
  delta State.fwFail
  with_reducible repeat' first
    | assumption | apply State.put_grows | apply State.logKind_grows

theorem State.fwStaged_grows {b₀ : State} {s : State} {d : Dev} {readable : Bool} (h0 : b₀.Grows s) :
    b₀.Grows (State.fwStaged s d readable).1 := by
  delta State.fwStaged
  with_reducible repeat' first
    | assumption | ((try lift_lets -underBinder); intro x; clear_value x) | apply State.setSec_grows
    | apply State.fwRun_grows | apply State.fwFail_grows | fail_if_no_progress apply mk_grows | apply ite_grows
    | apply fst_ite_grows

end Sys2Proof.Machine
end

