-- ==== Sys2Proof/Laws/GrowsBoot.lean ====
section
/-! SUPPORT. Every operation and meaning of Machine/Boot.lean grows the state it is given: one lemma each. -/

namespace Sys2Proof.Machine

open Sys2Proof

theorem State.resetLotik_grows {b₀ : State} {s : State} {prof : Nat} {profCmd : Bool} (h0 : b₀.Grows s) :
    b₀.Grows (State.resetLotik s prof profCmd) := by
  delta State.resetLotik
  with_reducible repeat' first
    | assumption
    | ((try lift_lets -underBinder); intro x; first | (refine (have _ : b₀.Grows x := ?_; ?_); (on_goal 2 => clear_value x); (on_goal 1 => dsimp only [x]; clear x)) | clear_value x)
    | apply State.put_grows | apply State.showSec_grows | apply State.showFw_grows
    | fail_if_no_progress apply mk_grows | apply ite_grows | apply fst_ite_grows | apply filter_grows

theorem State.resetVerard_grows {b₀ : State} {s : State} {prof : Nat} (h0 : b₀.Grows s) :
    b₀.Grows (State.resetVerard s prof) := by
  delta State.resetVerard
  with_reducible repeat' first
    | assumption
    | ((try lift_lets -underBinder); intro x; first | (refine (have _ : b₀.Grows x := ?_; ?_); (on_goal 2 => clear_value x); (on_goal 1 => dsimp only [x]; clear x)) | clear_value x)
    | apply State.put_grows | apply State.showSec_grows | apply State.showFw_grows
    | fail_if_no_progress apply mk_grows | apply filter_grows

theorem State.restart_grows {b₀ : State} {s : State} {d : Dev} (h0 : b₀.Grows s) : b₀.Grows (State.restart s d) := by
  delta State.restart
  with_reducible repeat' first
    | assumption | ((try lift_lets -underBinder); intro x; clear_value x) | apply State.resetLotik_grows
    | apply State.resetVerard_grows | split

theorem State.lcClose_grows {b₀ : State} {s : State} {d : Dev} (h0 : b₀.Grows s) : b₀.Grows (State.lcClose s d) := by
  delta State.lcClose
  with_reducible repeat' first
    | assumption | ((try lift_lets -underBinder); intro x; clear_value x) | apply State.setSec_grows
    | apply State.showSec_grows | apply State.showFw_grows | fail_if_no_progress apply mk_grows | split

theorem State.lkStage_grows {b₀ : State} {s : State} {n : Nat} (h0 : b₀.Grows s) : b₀.Grows (State.lkStage s n) := by
  delta State.lkStage
  with_reducible repeat' first
    | assumption | apply State.setSecRun_grows | apply State.put_grows

theorem State.lkFault_grows {b₀ : State} {s : State} {cause : Nat} (h0 : b₀.Grows s) : b₀.Grows (State.lkFault s cause) := by
  delta State.lkFault
  with_reducible repeat' first
    | assumption | apply State.lkStage_grows | apply State.put_grows | apply State.portGo_grows

theorem State.vdStage_grows {b₀ : State} {s : State} {n : Nat} (h0 : b₀.Grows s) : b₀.Grows (State.vdStage s n) := by
  delta State.vdStage
  with_reducible repeat' first
    | assumption | apply State.setSecRun_grows | apply State.put_grows

theorem State.vdFault_grows {b₀ : State} {s : State} {cause : Nat} (h0 : b₀.Grows s) : b₀.Grows (State.vdFault s cause) := by
  delta State.vdFault
  with_reducible repeat' first
    | assumption | apply State.vdStage_grows | apply State.put_grows

theorem State.tryImages_grows {b₀ : State} {s : State} {x₀ : List (Nat × Nat × List Byte)} (h0 : b₀.Grows s) :
    b₀.Grows (State.tryImages s x₀) := by
  induction x₀ generalizing s with
  | nil => unfold State.tryImages; with_reducible repeat' first
    | assumption
    | ((try lift_lets -underBinder); intro x; first | (refine (have _ : b₀.Grows x := ?_; ?_); (on_goal 2 => clear_value x); (on_goal 1 => dsimp only [x]; clear x)) | clear_value x)
    | apply ih | apply State.setSec_grows | apply State.put_grows
  | cons x xs ih =>
    unfold State.tryImages
    with_reducible repeat' first
    | assumption
    | ((try lift_lets -underBinder); intro x; first | (refine (have _ : b₀.Grows x := ?_; ?_); (on_goal 2 => clear_value x); (on_goal 1 => dsimp only [x]; clear x)) | clear_value x)
    | apply ih | apply State.setSec_grows | apply State.put_grows | apply State.fwRun_grows | apply State.fwFail_grows
    | fail_if_no_progress apply mk_grows | apply ite_grows

theorem State.lkFirmware_grows {b₀ : State} {s : State} {patch : List Byte} (h0 : b₀.Grows s) :
    b₀.Grows (State.lkFirmware s patch) := by
  delta State.lkFirmware
  with_reducible repeat' first
    | assumption
    | ((try lift_lets -underBinder); intro x; first | (refine (have _ : b₀.Grows x := ?_; ?_); (on_goal 2 => clear_value x); (on_goal 1 => dsimp only [x]; clear x)) | (refine (have _ : b₀.Grows x.1 := ?_; ?_); (on_goal 2 => clear_value x); (on_goal 1 => dsimp only [x]; clear x)) | clear_value x)
    | apply State.fwStaged_grows | apply State.showFw_grows | apply State.put_grows | apply State.tryImages_grows
    | apply ite_grows

theorem State.tryProfile_grows {b₀ : State} {s : State} (h0 : b₀.Grows s) : b₀.Grows (State.tryProfile s) := by
  delta State.tryProfile
  with_reducible repeat' first
    | assumption
    | ((try lift_lets -underBinder); intro x; first | (refine (have _ : b₀.Grows x := ?_; ?_); (on_goal 2 => clear_value x); (on_goal 1 => dsimp only [x]; clear x)) | clear_value x)
    | apply State.put_grows | apply State.applyLk_grows | apply State.lkFirmware_grows | apply State.lkStage_grows
    | apply ite_grows | split

theorem execLotikReset_grows {b₀ : State} {prof : BitVec 2} {profCmd : Bool} {s : State} (h0 : b₀.Grows s) :
    Safe b₀ (execLotikReset prof profCmd s) := by
  delta execLotikReset
  with_reducible repeat' first
    | assumption | apply finish_grows | apply State.resetLotik_grows

theorem execSpringClockArrive_grows {b₀ : State} {s : State} (h0 : b₀.Grows s) : Safe b₀ (execSpringClockArrive s) := by
  delta execSpringClockArrive
  with_reducible repeat' first
    | assumption | apply finish_grows | apply State.lkStage_grows | apply ite_safe | apply next_safe | apply ite_grows

theorem State.fuseLoaded_grows {b₀ : State} {s : State} (h0 : b₀.Grows s) : b₀.Grows (State.fuseLoaded s) := by
  delta State.fuseLoaded
  with_reducible repeat' first
    | assumption
    | ((try lift_lets -underBinder); intro x; first | (refine (have _ : b₀.Grows x := ?_; ?_); (on_goal 2 => clear_value x); (on_goal 1 => dsimp only [x]; clear x)) | clear_value x)
    | apply State.emit_grows | apply State.lcClose_grows | apply State.lkStage_grows
    | fail_if_no_progress apply mk_grows | apply ite_grows

theorem execFuseLoadDone_grows {b₀ : State} {ok : Bool} {tmax : BitVec 8} {s : State} (h0 : b₀.Grows s) :
    Safe b₀ (execFuseLoadDone ok tmax s) := by
  delta execFuseLoadDone
  with_reducible repeat' first
    | assumption | apply finish_grows | apply State.lkFault_grows | apply State.lkStage_grows | apply State.emit_grows
    | apply State.fuseLoaded_grows | apply ite_safe | apply next_safe | apply ite_grows

theorem execThermalHoldRelease_grows {b₀ : State} {tmax : BitVec 8} {s : State} (h0 : b₀.Grows s) :
    Safe b₀ (execThermalHoldRelease tmax s) := by
  delta execThermalHoldRelease
  with_reducible repeat' first
    | assumption | apply finish_grows | apply State.lkStage_grows | apply State.emit_grows | apply ite_safe
    | apply next_safe | fail_if_no_progress apply mk_grows | apply ite_grows

theorem execBootBlockReadDone_grows {b₀ : State} {err : Bool} {block : List Byte} {s : State} (h0 : b₀.Grows s) :
    Safe b₀ (execBootBlockReadDone err block s) := by
  delta execBootBlockReadDone
  with_reducible repeat' first
    | assumption | apply finish_grows | apply State.setSecRun_grows | apply State.emit_grows
    | apply State.tryProfile_grows | apply ite_safe | apply next_safe | fail_if_no_progress apply mk_grows
    | apply ite_grows

theorem execProfileSelectTimeout_grows {b₀ : State} {s : State} (h0 : b₀.Grows s) : Safe b₀ (execProfileSelectTimeout s) := by
  delta execProfileSelectTimeout
  with_reducible repeat' first
    | assumption | ((try lift_lets -underBinder); intro x; clear_value x) | apply finish_grows | apply State.put_grows
    | apply State.setSecRun_grows | apply State.tryProfile_grows | apply ite_safe | apply next_safe
    | fail_if_no_progress apply mk_grows | apply ite_grows

theorem execRingStageDone_grows {b₀ : State} {s : State} (h0 : b₀.Grows s) : Safe b₀ (execRingStageDone s) := by
  delta execRingStageDone
  with_reducible repeat' first
    | assumption | ((try lift_lets -underBinder); intro x; clear_value x) | apply finish_grows
    | apply State.lkStage_grows | apply ite_safe | apply next_safe | apply ite_grows

theorem execGridPllLocked_grows {b₀ : State} {s : State} (h0 : b₀.Grows s) : Safe b₀ (execGridPllLocked s) := by
  delta execGridPllLocked
  with_reducible repeat' first
    | assumption
    | ((try lift_lets -underBinder); intro x; (refine (have _ : b₀.Grows x := ?_; ?_); (on_goal 2 => clear_value x); (on_goal 1 => dsimp only [x]; clear x)))
    | apply finish_grows | apply State.put_grows | apply State.toBaseOp_grows | apply State.lkStage_grows
    | apply ite_safe | apply next_safe | apply ite_grows

theorem execGridPllLockTimeout_grows {b₀ : State} {s : State} (h0 : b₀.Grows s) : Safe b₀ (execGridPllLockTimeout s) := by
  delta execGridPllLockTimeout
  with_reducible repeat' first
    | assumption | apply finish_grows | apply State.lkFault_grows | apply ite_safe | apply next_safe | apply ite_grows

theorem State.saveAbandon_grows {b₀ : State} {s : State} (h0 : b₀.Grows s) : b₀.Grows (State.saveAbandon s) := by
  delta State.saveAbandon
  with_reducible repeat' first
    | assumption | apply State.saveEnd_grows | apply State.applyHeld_grows | split

theorem State.hostFall_grows {b₀ : State} {s : State} (h0 : b₀.Grows s) : b₀.Grows (State.hostFall s) := by
  delta State.hostFall
  repeat' first
    | with_reducible assumption | (intro x; fail_if_success clear_value x)
    | ((try lift_lets -underBinder); intro x; first | (refine (have _ : b₀.Grows x := ?_; ?_); (on_goal 2 => clear_value x); (on_goal 1 => dsimp only [x]; clear x)) | clear_value x)
    | intro _ | with_reducible apply State.faultActive_grows | with_reducible apply State.setSlot_grows
    | with_reducible apply State.setLog_grows | with_reducible apply State.saveAbandon_grows
    | with_reducible apply State.complete_grows | with_reducible apply State.setSync_grows
    | with_reducible apply State.showSync_grows | with_reducible apply State.logKind_grows
    | with_reducible fail_if_no_progress apply mk_grows | with_reducible apply foldl_grows

theorem execHostReset_grows {b₀ : State} {s : State} (h0 : b₀.Grows s) : Safe b₀ (execHostReset s) := by
  delta execHostReset
  with_reducible repeat' first
    | assumption | apply finish_grows | apply State.hostFall_grows | apply ite_safe | apply next_safe
    | apply ite_grows

theorem State.refetch_grows {b₀ : State} {s : State} {i : Nat} (h0 : b₀.Grows s) : b₀.Grows (State.refetch s i) := by
  delta State.refetch
  with_reducible repeat' first
    | assumption | apply State.fetchMore_grows | apply ite_grows

theorem State.hostRise_grows {b₀ : State} {s : State} (h0 : b₀.Grows s) : b₀.Grows (State.hostRise s) := by
  delta State.hostRise
  repeat' first
    | with_reducible assumption | (intro x; fail_if_success clear_value x)
    | ((try lift_lets -underBinder); intro x; first | (refine (have _ : b₀.Grows x := ?_; ?_); (on_goal 2 => clear_value x); (on_goal 1 => dsimp only [x]; clear x)) | clear_value x)
    | intro _ | with_reducible apply State.pumpQueue_grows | with_reducible apply State.refetch_grows
    | with_reducible apply State.spillNext_grows | with_reducible fail_if_no_progress apply mk_grows
    | with_reducible apply foldl_grows

theorem execHostResetRelease_grows {b₀ : State} {s : State} (h0 : b₀.Grows s) : Safe b₀ (execHostResetRelease s) := by
  delta execHostResetRelease
  with_reducible repeat' first
    | assumption | apply finish_grows | apply State.hostRise_grows | apply ite_safe | apply next_safe
    | apply ite_grows

theorem State.loadProfile_grows {b₀ : State} {s : State} {area0 area1 : List Byte} (h0 : b₀.Grows s) :
    b₀.Grows (State.loadProfile s area0 area1) := by
  delta State.loadProfile
  with_reducible repeat' first
    | assumption
    | ((try lift_lets -underBinder); intro x; first | (refine (have _ : b₀.Grows x := ?_; ?_); (on_goal 2 => clear_value x); (on_goal 1 => dsimp only [x]; clear x)) | clear_value x)
    | apply State.setSecRun_grows | apply State.put_grows | apply State.applyVd_grows | apply State.vdStage_grows
    | apply State.logKind_grows | apply State.vdFault_grows | apply State.oeStart_grows
    | fail_if_no_progress apply mk_grows | apply ite_grows | apply foldl_grows

theorem execVerardReset_grows {b₀ : State} {prof : BitVec 2} {s : State} (h0 : b₀.Grows s) :
    Safe b₀ (execVerardReset prof s) := by
  delta execVerardReset
  with_reducible repeat' first
    | assumption | apply finish_grows | apply State.resetVerard_grows

theorem State.heat_grows {b₀ : State} {s : State} {tj : Byte} (h0 : b₀.Grows s) : b₀.Grows (State.heat s tj) := by
  delta State.heat
  with_reducible repeat' first
    | assumption
    | ((try lift_lets -underBinder); intro x; first | (refine (have _ : b₀.Grows x := ?_; ?_); (on_goal 2 => clear_value x); (on_goal 1 => dsimp only [x]; clear x)) | clear_value x)
    | apply State.resetVerard_grows | apply State.put_grows | apply State.emit_grows
    | fail_if_no_progress apply mk_grows

theorem execVerardThermalHold_grows {b₀ : State} {tj : Byte} {s : State} (h0 : b₀.Grows s) :
    Safe b₀ (execVerardThermalHold tj s) := by
  delta execVerardThermalHold
  with_reducible repeat' first
    | assumption
    | ((try lift_lets -underBinder); intro x; first | (refine (have _ : b₀.Grows x := ?_; ?_); (on_goal 2 => clear_value x); (on_goal 1 => dsimp only [x]; clear x)) | clear_value x)
    | apply finish_grows | apply State.heat_grows | apply State.put_grows | apply State.emit_grows | apply ite_safe
    | apply next_safe | fail_if_no_progress apply mk_grows | apply ite_grows

theorem execPcieReset_grows {b₀ : State} {s : State} (h0 : b₀.Grows s) : Safe b₀ (execPcieReset s) := by
  delta execPcieReset
  with_reducible repeat' first
    | assumption | apply finish_grows

theorem State.vdFirmware_grows {b₀ : State} {s : State} {image : List Byte} {readable : BitVec 2} (h0 : b₀.Grows s) :
    b₀.Grows (State.vdFirmware s image readable) := by
  delta State.vdFirmware
  with_reducible repeat' first
    | assumption
    | ((try lift_lets -underBinder); intro x; first | (refine (have _ : b₀.Grows x := ?_; ?_); (on_goal 2 => clear_value x); (on_goal 1 => dsimp only [x]; clear x)) | (refine (have _ : b₀.Grows x.1 := ?_; ?_); (on_goal 2 => clear_value x); (on_goal 1 => dsimp only [x]; clear x)) | clear_value x)
    | apply State.fwStaged_grows | apply State.showFw_grows | apply State.put_grows | apply State.vdStage_grows
    | apply State.fwRun_grows | apply State.fwFail_grows | apply State.vdFault_grows | apply State.setSec_grows
    | fail_if_no_progress apply mk_grows | apply ite_grows

theorem State.vdPortsStart_grows {b₀ : State} {s : State} (h0 : b₀.Grows s) : b₀.Grows (State.vdPortsStart s) := by
  delta State.vdPortsStart
  repeat' first
    | with_reducible assumption | (intro x; fail_if_success clear_value x)
    | ((try lift_lets -underBinder); intro x; first | (refine (have _ : b₀.Grows x := ?_; ?_); (on_goal 2 => clear_value x); (on_goal 1 => dsimp only [x]; clear x)) | (refine (have _ : b₀.Grows x.1 := ?_; ?_); (on_goal 2 => clear_value x); (on_goal 1 => dsimp only [x]; clear x)))
    | intro _ | with_reducible apply State.vdStage_grows | with_reducible apply State.portGo_grows
    | with_reducible apply ite_grows | with_reducible apply foldl_grows

theorem execVerardStageDone_grows {b₀ : State} {image area0 area1 : List Byte} {readable : BitVec 2} {s : State} (h0 : b₀.Grows s) :
    Safe b₀ (execVerardStageDone image area0 area1 readable s) := by
  delta execVerardStageDone
  with_reducible repeat' first
    | assumption | ((try lift_lets -underBinder); intro x; clear_value x) | apply finish_grows
    | apply State.lcClose_grows | apply State.put_grows | apply State.vdStage_grows | apply State.vdFirmware_grows
    | apply State.loadProfile_grows | apply State.vdPortsStart_grows | apply ite_safe | apply next_safe
    | apply ite_grows | split

theorem execLogicDomainSleep_grows {b₀ : State} {s : State} (h0 : b₀.Grows s) : Safe b₀ (execLogicDomainSleep s) := by
  delta execLogicDomainSleep
  with_reducible repeat' first
    | assumption | apply finish_grows | apply State.sleepLogic_grows | apply State.emit_grows | apply ite_safe
    | apply next_safe | fail_if_no_progress apply mk_grows | apply ite_grows

theorem execLogicDomainWake_grows {b₀ : State} {s : State} (h0 : b₀.Grows s) : Safe b₀ (execLogicDomainWake s) := by
  delta execLogicDomainWake
  with_reducible repeat' first
    | assumption | apply finish_grows | apply State.wakeLogic_grows

theorem execFclkLoss_grows {b₀ : State} {s : State} (h0 : b₀.Grows s) : Safe b₀ (execFclkLoss s) := by
  delta execFclkLoss
  with_reducible repeat' first
    | assumption | apply finish_grows | apply State.sleepLogic_grows | apply State.bumpSat_grows | apply ite_safe
    | apply next_safe | apply ite_grows

theorem execTimingCoreSleep_grows {b₀ : State} {s : State} (h0 : b₀.Grows s) : Safe b₀ (execTimingCoreSleep s) := by
  delta execTimingCoreSleep
  with_reducible repeat' first
    | assumption | apply finish_grows | apply State.put_grows | apply ite_safe | apply next_safe | apply ite_grows

theorem execTimingCoreWake_grows {b₀ : State} {s : State} (h0 : b₀.Grows s) : Safe b₀ (execTimingCoreWake s) := by
  delta execTimingCoreWake
  with_reducible repeat' first
    | assumption | apply finish_grows | apply State.wakeTc_grows

theorem execBootStatus_grows {b₀ : State} {c : CmdCtx} {s : State} (h0 : b₀.Grows s) : Safe b₀ (execBootStatus c s) := by
  delta execBootStatus
  with_reducible repeat' first
    | assumption | apply finish_grows | apply State.answer_grows

theorem execProfileSelect_grows {b₀ : State} {c : CmdCtx} {profile : Byte} {s : State} (h0 : b₀.Grows s) :
    Safe b₀ (execProfileSelect c profile s) := by
  delta execProfileSelect
  with_reducible repeat' first
    | assumption
    | ((try lift_lets -underBinder); intro x; first | (refine (have _ : b₀.Grows x := ?_; ?_); (on_goal 2 => clear_value x); (on_goal 1 => dsimp only [x]; clear x)) | clear_value x)
    | apply finish_grows | apply State.answer_grows | apply State.logCommand_grows | apply State.setSecRun_grows
    | apply State.tryProfile_grows | apply State.setSec_grows | apply State.put_grows | apply ite_safe
    | apply next_safe | fail_if_no_progress apply mk_grows | apply ite_grows

end Sys2Proof.Machine
end

