-- ==== Sys2Proof/Laws/GrowsDetCmd.lean ====
section
/-! SUPPORT. Every operation and meaning of Machine/DetCmd.lean grows the state it is given: one lemma each. -/

namespace Sys2Proof.Machine

open Sys2Proof

theorem execDigestBeat_grows {b₀ : State} {beat : BitVec 128} {s : State} (h0 : b₀.Grows s) :
    Safe b₀ (execDigestBeat beat s) := by
  delta execDigestBeat
  repeat' first
    | with_reducible assumption | (intro x; fail_if_success clear_value x)
    | ((try lift_lets -underBinder); intro x; clear_value x) | intro _ | with_reducible apply State.atPort_grows
    | with_reducible apply State.bumpSat_grows | with_reducible apply State.setDet_grows
    | with_reducible apply ite_safe | with_reducible apply next_safe
    | with_reducible fail_if_no_progress apply mk_grows | with_reducible apply ite_grows

theorem execDigestRecordCapture_grows {b₀ : State} {t : Fin 16} {s : State} (h0 : b₀.Grows s) :
    Safe b₀ (execDigestRecordCapture t s) := by
  delta execDigestRecordCapture
  repeat' first
    | with_reducible assumption | intro _ | with_reducible apply State.viaRead_grows
    | with_reducible apply State.captureDigest_grows | with_reducible apply ite_safe | with_reducible apply next_safe

theorem execSeedRequest_grows {b₀ : State} {r q : BitVec 32} {step : Option (BitVec 64)} {s : State} (h0 : b₀.Grows s) :
    Safe b₀ (execSeedRequest r q step s) := by
  delta execSeedRequest
  repeat' first
    | with_reducible assumption | intro _ | with_reducible apply State.atPort_grows
    | with_reducible apply State.emit_grows | with_reducible apply ite_safe | with_reducible apply next_safe | split

theorem execSeedGoWrite_grows {b₀ : State} {v : Word} {s : State} (h0 : b₀.Grows s) : Safe b₀ (execSeedGoWrite v s) := by
  delta execSeedGoWrite
  repeat' first
    | with_reducible assumption | intro _ | with_reducible apply State.viaBus_grows
    | with_reducible apply State.seedWrite_grows | with_reducible apply ite_safe | with_reducible apply next_safe

theorem execTimePortRequest_grows {b₀ : State} {s : State} (h0 : b₀.Grows s) : Safe b₀ (execTimePortRequest s) := by
  delta execTimePortRequest
  repeat' first
    | with_reducible assumption | (intro x; fail_if_success clear_value x)
    | ((try lift_lets -underBinder); intro x; clear_value x) | intro _ | with_reducible apply State.atPort_grows
    | with_reducible apply State.emit_grows | with_reducible apply ite_safe | with_reducible apply next_safe | split

theorem execAlignRequest_grows {b₀ : State} {s : State} (h0 : b₀.Grows s) : Safe b₀ (execAlignRequest s) := by
  delta execAlignRequest
  with_reducible repeat' first
    | assumption | ((try lift_lets -underBinder); intro x; clear_value x) | apply State.setDet_grows
    | apply State.emit_grows | apply ite_safe | apply next_safe | fail_if_no_progress apply mk_grows | apply ite_grows
    | split

theorem State.alignReady_grows {b₀ : State} {s : State} {ready : Bool} (h0 : b₀.Grows s) :
    b₀.Grows (State.alignReady s ready) := by
  delta State.alignReady
  with_reducible repeat' first
    | assumption | apply State.setDet_grows | apply State.alignMissed_grows | fail_if_no_progress apply mk_grows
    | apply ite_grows

theorem execAlignReadyCheck_grows {b₀ : State} {ready : Bool} {s : State} (h0 : b₀.Grows s) :
    Safe b₀ (execAlignReadyCheck ready s) := by
  delta execAlignReadyCheck
  with_reducible repeat' first
    | assumption | apply State.alignReady_grows | apply ite_safe | apply next_safe | apply ite_grows | split

theorem execDetStatus_grows {b₀ : State} {c : CmdCtx} {s : State} (h0 : b₀.Grows s) : Safe b₀ (execDetStatus c s) := by
  delta execDetStatus
  with_reducible repeat' first
    | assumption | apply done_grows | apply State.answer_grows | apply State.logCommand_grows | apply ite_safe
    | apply next_safe | apply ite_grows

theorem execDetDigest_grows {b₀ : State} {c : CmdCtx} {tag : Byte} {s : State} (h0 : b₀.Grows s) :
    Safe b₀ (execDetDigest c tag s) := by
  delta execDetDigest
  with_reducible repeat' first
    | assumption
    | ((try lift_lets -underBinder); intro x; (refine (have _ : b₀.Grows x := ?_; ?_); (on_goal 2 => clear_value x); (on_goal 1 => dsimp only [x]; clear x)))
    | apply done_grows | apply State.answer_grows | apply State.captureDigest_grows | apply State.logCommand_grows
    | apply ite_safe | apply next_safe | apply ite_grows

theorem execDetSeed_grows {b₀ : State} {c : CmdCtx} {rank stream : Word} {step : DWord} {s : State} (h0 : b₀.Grows s) :
    Safe b₀ (execDetSeed c rank stream step s) := by
  delta execDetSeed
  with_reducible repeat' first
    | assumption | apply done_grows | apply State.answer_grows | apply State.logCommand_grows | apply ite_safe
    | apply next_safe | apply ite_grows | split

theorem execDigReqGo_grows {b₀ : State} {v : Word} {s : State} (h0 : b₀.Grows s) : Safe b₀ (execDigReqGo v s) := by
  delta execDigReqGo
  repeat' first
    | with_reducible assumption | intro _ | with_reducible apply finish_grows
    | with_reducible apply State.viaBus_grows | with_reducible apply State.digGo_grows

theorem execDetDigestCheck_grows {b₀ : State} {c : CmdCtx} {tag kind : Byte} {s : State} (h0 : b₀.Grows s) :
    Safe b₀ (execDetDigestCheck c tag kind s) := by
  delta execDetDigestCheck
  with_reducible repeat' first
    | assumption | apply finish_grows | apply State.answer_grows | apply State.accept_grows
    | apply State.digStart_grows | apply ite_safe | apply next_safe | apply ite_grows

end Sys2Proof.Machine
end

