-- ==== Sys2Proof/Laws/GrowsRing.lean ====
section
/-! SUPPORT. Every operation and meaning of Machine/Ring.lean grows the state it is given: one lemma each. -/

namespace Sys2Proof.Machine

open Sys2Proof

theorem State.ringPass_grows {b₀ : State} {s : State} {r : RingPort} {src : BitVec 5} {dst : BitVec 6} {b : RingBody} (h0 : b₀.Grows s) :
    b₀.Grows (State.ringPass s r src dst b) := by
  delta State.ringPass
  with_reducible repeat' first
    | assumption | apply State.emitIf_grows

theorem State.followNone_grows {b₀ : State} {s : State} (h0 : b₀.Grows s) : b₀.Grows (State.followNone s) := by
  delta State.followNone
  with_reducible repeat' first
    | assumption | apply State.put_grows

theorem State.cutFromClock_grows {b₀ : State} {s : State} (h0 : b₀.Grows s) : b₀.Grows (State.cutFromClock s) := by
  delta State.cutFromClock
  with_reducible repeat' first
    | assumption | apply State.followNone_grows | apply State.put_grows | apply State.ringMode_grows
    | apply State.setOwn_grows

theorem State.ringLost_grows {b₀ : State} {s : State} (h0 : b₀.Grows s) : b₀.Grows (State.ringLost s) := by
  delta State.ringLost
  with_reducible repeat' first
    | assumption | apply State.cutFromClock_grows | apply ite_grows

theorem State.showChain_grows {b₀ : State} {s : State} (h0 : b₀.Grows s) : b₀.Grows (State.showChain s) := by
  delta State.showChain
  with_reducible repeat' first
    | assumption | apply State.putB_grows

theorem State.hopOpen_grows {b₀ : State} {s : State} {r : RingPort} {code : Nat} (h0 : b₀.Grows s) :
    b₀.Grows (State.hopOpen s r code) := by
  delta State.hopOpen
  with_reducible repeat' first
    | assumption
    | ((try lift_lets -underBinder); intro x; first | (refine (have _ : b₀.Grows x := ?_; ?_); (on_goal 2 => clear_value x); (on_goal 1 => dsimp only [x]; clear x)) | clear_value x)
    | apply State.put_grows | apply State.showChain_grows | apply State.setHop_grows | apply State.ringMode_grows
    | apply State.sendStatus_grows | apply State.report_grows | apply State.ringLost_grows
    | apply State.hopChanged_grows | fail_if_no_progress apply mk_grows | apply ite_grows

theorem State.ringBad_grows {b₀ : State} {s : State} {r : RingPort} (h0 : b₀.Grows s) : b₀.Grows (State.ringBad s r) := by
  delta State.ringBad
  with_reducible repeat' first
    | assumption
    | ((try lift_lets -underBinder); intro x; first | (refine (have _ : b₀.Grows x := ?_; ?_); (on_goal 2 => clear_value x); (on_goal 1 => dsimp only [x]; clear x)) | clear_value x)
    | apply State.setHop_grows | apply State.bumpSat_grows | apply State.hopOpen_grows
    | fail_if_no_progress apply mk_grows | apply ite_grows

theorem State.ringGood_grows {b₀ : State} {s : State} {r : RingPort} (h0 : b₀.Grows s) : b₀.Grows (State.ringGood s r) := by
  delta State.ringGood
  with_reducible repeat' first
    | assumption | apply State.setHop_grows

theorem State.showFollow_grows {b₀ : State} {s : State} {r : RingPort} (h0 : b₀.Grows s) : b₀.Grows (State.showFollow s r) := by
  delta State.showFollow
  with_reducible repeat' first
    | assumption | ((try lift_lets -underBinder); intro x; clear_value x) | apply State.put_grows

theorem State.masterThere_grows {b₀ : State} {s : State} {m : BitVec 5} (h0 : b₀.Grows s) : b₀.Grows (State.masterThere s m) := by
  delta State.masterThere
  with_reducible repeat' first
    | assumption
    | ((try lift_lets -underBinder); intro x; first | (refine (have _ : b₀.Grows x := ?_; ?_); (on_goal 2 => clear_value x); (on_goal 1 => dsimp only [x]; clear x)) | clear_value x)
    | apply State.setRing_grows | apply State.showMaster_grows | apply State.pathUpdate_grows | apply State.put_grows
    | apply State.showFollow_grows | apply State.showState_grows | fail_if_no_progress apply mk_grows
    | apply ite_grows

theorem State.ringOther_grows {b₀ : State} {s : State} (h0 : b₀.Grows s) : b₀.Grows (State.ringOther s) := by
  delta State.ringOther
  with_reducible repeat' first
    | assumption
    | ((try lift_lets -underBinder); intro x; first | (refine (have _ : b₀.Grows x := ?_; ?_); (on_goal 2 => clear_value x); (on_goal 1 => dsimp only [x]; clear x)) | clear_value x)
    | apply State.setRing_grows | apply State.ringMode_grows | apply State.followNone_grows | apply State.put_grows
    | apply State.setOwn_grows | apply State.loseParent_grows | apply State.showUncal_grows
    | fail_if_no_progress apply mk_grows | apply ite_grows

theorem State.ringTimeRx_grows {b₀ : State} {s : State} {r : RingPort} {src : BitVec 5} {ticks : BitVec 40} {phase : BitVec 32} {path : BitVec 20} {st : BitVec 3} {wrap : Bool} (h0 : b₀.Grows s) :
    b₀.Grows (State.ringTimeRx s r src ticks phase path st wrap) := by
  delta State.ringTimeRx
  with_reducible repeat' first
    | assumption
    | ((try lift_lets -underBinder); intro x; first | (refine (have _ : b₀.Grows x := ?_; ?_); (on_goal 2 => clear_value x); (on_goal 1 => dsimp only [x]; clear x)) | clear_value x)
    | apply State.ringGood_grows | apply State.ringPass_grows | apply State.ringOther_grows
    | apply State.ringMode_grows | apply State.setHop_grows | apply State.setRing_grows
    | apply State.masterState_grows | apply State.masterThere_grows | apply State.showMaster_grows
    | apply State.pathUpdate_grows | apply State.showFollow_grows | apply State.showUncal_grows
    | apply State.setOwn_grows | apply State.setClk_grows | apply State.showState_grows | apply State.feedLoop_grows
    | apply State.showEst_grows | fail_if_no_progress apply mk_grows | apply ite_grows

theorem execRingTimeSend_grows {b₀ : State} {s : State} (h0 : b₀.Grows s) : Safe b₀ (execRingTimeSend s) := by
  delta execRingTimeSend
  with_reducible repeat' first
    | assumption | ((try lift_lets -underBinder); intro x; clear_value x) | apply State.ringSend_grows
    | apply ite_safe | apply next_safe | apply ite_grows

theorem execRingTimeRx_grows {b₀ : State} {r : RingPort} {src : BitVec 5} {ticks : BitVec 40} {phase : BitVec 32} {path : BitVec 20} {st : BitVec 3} {wrap : Bool} {crcOk : Bool} {s : State} (h0 : b₀.Grows s) :
    Safe b₀ (execRingTimeRx r src ticks phase path st wrap crcOk s) := by
  delta execRingTimeRx
  with_reducible repeat' first
    | assumption | apply finish_grows | apply State.ringTimeRx_grows | apply State.ringBad_grows | apply ite_safe
    | apply next_safe | apply ite_grows

theorem execRingEchoSend_grows {b₀ : State} {r : RingPort} {s : State} (h0 : b₀.Grows s) : Safe b₀ (execRingEchoSend r s) := by
  delta execRingEchoSend
  with_reducible repeat' first
    | assumption
    | ((try lift_lets -underBinder); intro x; first | (refine (have _ : b₀.Grows x := ?_; ?_); (on_goal 2 => clear_value x); (on_goal 1 => dsimp only [x]; clear x)) | clear_value x)
    | apply finish_grows | apply State.hopOpen_grows | apply State.setHop_grows | apply State.emit_grows
    | apply ite_safe | apply next_safe | fail_if_no_progress apply mk_grows | apply ite_grows

theorem execRingEchoRx_grows {b₀ : State} {r : RingPort} {seq : BitVec 16} {reply : Bool} {tripPs : BitVec 24} {crcOk : Bool} {s : State} (h0 : b₀.Grows s) :
    Safe b₀ (execRingEchoRx r seq reply tripPs crcOk s) := by
  delta execRingEchoRx
  with_reducible repeat' first
    | assumption
    | ((try lift_lets -underBinder); intro x; first | (refine (have _ : b₀.Grows x := ?_; ?_); (on_goal 2 => clear_value x); (on_goal 1 => dsimp only [x]; clear x)) | clear_value x)
    | apply finish_grows | apply State.ringBad_grows | apply State.ringGood_grows | apply State.emitIf_grows
    | apply State.setHop_grows | apply State.putSat_grows | apply State.showUncal_grows | apply ite_safe
    | apply next_safe | fail_if_no_progress apply mk_grows | apply ite_grows

theorem State.enumBegin_grows {b₀ : State} {s : State} (h0 : b₀.Grows s) : b₀.Grows (State.enumBegin s) := by
  delta State.enumBegin
  with_reducible repeat' first
    | assumption
    | ((try lift_lets -underBinder); intro x; first | (refine (have _ : b₀.Grows x := ?_; ?_); (on_goal 2 => clear_value x); (on_goal 1 => dsimp only [x]; clear x)) | clear_value x)
    | apply State.setRing_grows | apply State.emitIf_grows | apply State.formUa_grows

theorem execRingEnumStart_grows {b₀ : State} {s : State} (h0 : b₀.Grows s) : Safe b₀ (execRingEnumStart s) := by
  delta execRingEnumStart
  with_reducible repeat' first
    | assumption | ((try lift_lets -underBinder); intro x; clear_value x) | apply State.enumBegin_grows
    | apply ite_safe | apply next_safe | apply ite_grows

theorem State.enumBack_grows {b₀ : State} {s : State} {token : BitVec 6} {down : Bool} (h0 : b₀.Grows s) :
    b₀.Grows (State.enumBack s token down) := by
  delta State.enumBack
  with_reducible repeat' first
    | assumption
    | ((try lift_lets -underBinder); intro x; first | (refine (have _ : b₀.Grows x := ?_; ?_); (on_goal 2 => clear_value x); (on_goal 1 => dsimp only [x]; clear x)) | clear_value x)
    | apply State.put_grows | apply State.setRing_grows | apply State.logChange_grows
    | fail_if_no_progress apply mk_grows | apply ite_grows

theorem State.enumTake_grows {b₀ : State} {s : State} {r : RingPort} {token : BitVec 6} {down : Bool} (h0 : b₀.Grows s) :
    b₀.Grows (State.enumTake s r token down) := by
  delta State.enumTake
  with_reducible repeat' first
    | assumption
    | ((try lift_lets -underBinder); intro x; first | (refine (have _ : b₀.Grows x := ?_; ?_); (on_goal 2 => clear_value x); (on_goal 1 => dsimp only [x]; clear x)) | clear_value x)
    | apply State.put_grows | apply State.logChange_grows | apply State.setRing_grows | apply State.formUa_grows
    | apply State.ringPass_grows | fail_if_no_progress apply mk_grows | apply ite_grows

theorem execRingEnumSymbol_grows {b₀ : State} {r : RingPort} {token : BitVec 6} {down : Bool} {conflict : Bool} {crcOk : Bool} {s : State} (h0 : b₀.Grows s) :
    Safe b₀ (execRingEnumSymbol r token down conflict crcOk s) := by
  delta execRingEnumSymbol
  with_reducible repeat' first
    | assumption
    | ((try lift_lets -underBinder); intro x; first | (refine (have _ : b₀.Grows x := ?_; ?_); (on_goal 2 => clear_value x); (on_goal 1 => dsimp only [x]; clear x)) | clear_value x)
    | apply finish_grows | apply State.ringBad_grows | apply State.ringGood_grows | apply State.put_grows
    | apply State.logChange_grows | apply State.enumBack_grows | apply State.enumTake_grows | apply ite_safe
    | apply next_safe | apply ite_grows

theorem execRingEnumTimeout_grows {b₀ : State} {s : State} (h0 : b₀.Grows s) : Safe b₀ (execRingEnumTimeout s) := by
  delta execRingEnumTimeout
  with_reducible repeat' first
    | assumption | apply State.put_grows | apply State.logChange_grows | apply ite_safe | apply next_safe
    | apply ite_grows

theorem State.releaseData_grows {b₀ : State} {s : State} {die : BitVec 5} (h0 : b₀.Grows s) :
    b₀.Grows (State.releaseData s die) := by
  delta State.releaseData
  repeat' first
    | with_reducible assumption | (intro x; fail_if_success clear_value x)
    | ((try lift_lets -underBinder); intro x; first | (refine (have _ : b₀.Grows x := ?_; ?_); (on_goal 2 => clear_value x); (on_goal 1 => dsimp only [x]; clear x)) | clear_value x)
    | intro _ | with_reducible apply State.setRing_grows | with_reducible apply State.ringFrame_grows
    | with_reducible fail_if_no_progress apply mk_grows | with_reducible apply foldl_grows

theorem State.takeStatus_grows {b₀ : State} {s : State} {r : RingPort} {src : BitVec 5} {errPs : BitVec 24} {utcOffset : BitVec 16} {utcValid : Bool} {pod port : BitVec 6} {portValid chain awake : Bool} {master : BitVec 5} {masterState : BitVec 3} {holdEst : BitVec 24} (h0 : b₀.Grows s) :
    b₀.Grows (State.takeStatus s r src errPs utcOffset utcValid pod port portValid chain awake master masterState holdEst) := by
  delta State.takeStatus
  repeat' first
    | with_reducible assumption | (intro x; fail_if_success clear_value x)
    | ((try lift_lets -underBinder); intro x; first | (refine (have _ : b₀.Grows x := ?_; ?_); (on_goal 2 => clear_value x); (on_goal 1 => dsimp only [x]; clear x)) | clear_value x)
    | intro _ | with_reducible apply State.ringPass_grows | with_reducible apply State.masterState_grows
    | with_reducible apply State.setRing_grows | with_reducible apply State.releaseData_grows
    | with_reducible apply State.showChain_grows | with_reducible apply State.doIf_grows
    | with_reducible apply State.drawLinks_grows | with_reducible apply State.pathUpdate_grows
    | with_reducible apply State.put_grows | with_reducible apply State.putB_grows
    | with_reducible apply State.showMaster_grows | with_reducible apply State.showEst_grows
    | with_reducible apply State.showState_grows | with_reducible apply State.formUa_grows
    | with_reducible apply State.portHold_grows | with_reducible fail_if_no_progress apply mk_grows
    | with_reducible apply ite_grows | split

theorem execRingStatusRx_grows {b₀ : State} {r : RingPort} {src : BitVec 5} {errPs : BitVec 24} {utcOffset : BitVec 16} {utcValid : Bool} {pod port : BitVec 6} {portValid chain awake : Bool} {master : BitVec 5} {masterState : BitVec 3} {holdEst : BitVec 24} {crcOk : Bool} {s : State} (h0 : b₀.Grows s) :
    Safe b₀ (execRingStatusRx r src errPs utcOffset utcValid pod port portValid chain awake master masterState holdEst crcOk s) := by
  delta execRingStatusRx
  with_reducible repeat' first
    | assumption
    | ((try lift_lets -underBinder); intro x; (refine (have _ : b₀.Grows x := ?_; ?_); (on_goal 2 => clear_value x); (on_goal 1 => dsimp only [x]; clear x)))
    | apply finish_grows | apply State.ringBad_grows | apply State.ringGood_grows | apply State.takeStatus_grows
    | apply State.masterState_grows | apply ite_safe | apply next_safe | apply ite_grows

theorem execHandoverRx_grows {b₀ : State} {r : RingPort} {src : BitVec 5} {ticks : BitVec 40} {master : BitVec 5} {crcOk : Bool} {s : State} (h0 : b₀.Grows s) :
    Safe b₀ (execHandoverRx r src ticks master crcOk s) := by
  delta execHandoverRx
  with_reducible repeat' first
    | assumption
    | ((try lift_lets -underBinder); intro x; first | (refine (have _ : b₀.Grows x := ?_; ?_); (on_goal 2 => clear_value x); (on_goal 1 => dsimp only [x]; clear x)) | clear_value x)
    | apply finish_grows | apply State.ringBad_grows | apply State.ringGood_grows | apply State.ringPass_grows
    | apply State.setRing_grows | apply ite_safe | apply next_safe | fail_if_no_progress apply mk_grows
    | apply ite_grows

theorem State.masterHere_grows {b₀ : State} {s : State} (h0 : b₀.Grows s) : b₀.Grows (State.masterHere s) := by
  delta State.masterHere
  with_reducible repeat' first
    | assumption
    | ((try lift_lets -underBinder); intro x; (refine (have _ : b₀.Grows x := ?_; ?_); (on_goal 2 => clear_value x); (on_goal 1 => dsimp only [x]; clear x)))
    | apply State.becomeMaster_grows | apply State.pathUpdate_grows | apply State.put_grows
    | apply State.loseParent_grows | apply ite_grows

theorem execHandoverEffective_grows {b₀ : State} {s : State} (h0 : b₀.Grows s) : Safe b₀ (execHandoverEffective s) := by
  delta execHandoverEffective
  with_reducible repeat' first
    | assumption | apply finish_grows | apply State.masterHere_grows | apply State.masterThere_grows | apply ite_safe
    | apply next_safe | apply ite_grows | split

theorem execRingMasterSilent_grows {b₀ : State} {s : State} (h0 : b₀.Grows s) : Safe b₀ (execRingMasterSilent s) := by
  delta execRingMasterSilent
  with_reducible repeat' first
    | assumption
    | ((try lift_lets -underBinder); intro x; first | (refine (have _ : b₀.Grows x := ?_; ?_); (on_goal 2 => clear_value x); (on_goal 1 => dsimp only [x]; clear x)) | clear_value x)
    | apply finish_grows | apply State.ringMode_grows | apply State.setRing_grows | apply State.cutFromClock_grows
    | apply ite_safe | apply next_safe | fail_if_no_progress apply mk_grows | apply ite_grows | split

theorem execWake_grows {b₀ : State} {r : RingPort} {src : BitVec 5} {dst : BitVec 6} {reason : BitVec 4} {crcOk : Bool} {s : State} (h0 : b₀.Grows s) :
    Safe b₀ (execWake r src dst reason crcOk s) := by
  delta execWake
  with_reducible repeat' first
    | assumption
    | ((try lift_lets -underBinder); intro x; first | (refine (have _ : b₀.Grows x := ?_; ?_); (on_goal 2 => clear_value x); (on_goal 1 => dsimp only [x]; clear x)) | clear_value x)
    | apply finish_grows | apply State.ringBad_grows | apply State.ringGood_grows | apply State.ringPass_grows
    | apply State.wakeTc_grows | apply State.sendStatus_grows | apply State.wakeAll_grows | apply ite_safe
    | apply next_safe | apply ite_grows

theorem State.ringDataIn_grows {b₀ : State} {s : State} {r : RingPort} {x : RingSymbol} (h0 : b₀.Grows s) :
    b₀.Grows (State.ringDataIn s r x) := by
  delta State.ringDataIn
  with_reducible repeat' first
    | assumption | ((try lift_lets -underBinder); intro x; clear_value x) | apply State.ringPass_grows
    | apply ite_grows

theorem State.ringReplay_grows {b₀ : State} {s : State} {r : RingPort} {k : Nat} (h0 : b₀.Grows s) :
    b₀.Grows (State.ringReplay s r k) := by
  delta State.ringReplay
  with_reducible repeat' first
    | assumption | apply State.emit_grows | apply State.bumpSat_grows | fail_if_no_progress apply mk_grows | split

theorem execRingDataRx_grows {b₀ : State} {r : RingPort} {kind : BitVec 5} {ends : BitVec 11} {body : BitVec 96} {crc : BitVec 16} {nak : Option (BitVec 6)} {s : State} (h0 : b₀.Grows s) :
    Safe b₀ (execRingDataRx r kind ends body crc nak s) := by
  delta execRingDataRx
  with_reducible repeat' first
    | assumption
    | ((try lift_lets -underBinder); intro x; first | (refine (have _ : b₀.Grows x := ?_; ?_); (on_goal 2 => clear_value x); (on_goal 1 => dsimp only [x]; clear x)) | clear_value x)
    | apply finish_grows | apply State.ringReplay_grows | apply State.ringBad_grows | apply State.emit_grows
    | apply State.ringGood_grows | apply State.bumpSat_grows | apply State.ringDataIn_grows | apply ite_safe
    | apply next_safe | apply ite_grows | split

theorem execRingClockTimeout_grows {b₀ : State} {s : State} (h0 : b₀.Grows s) : Safe b₀ (execRingClockTimeout s) := by
  delta execRingClockTimeout
  with_reducible repeat' first
    | assumption | apply State.setRing_grows | apply ite_safe | apply next_safe | fail_if_no_progress apply mk_grows
    | apply ite_grows

theorem execRingHopOpen_grows {b₀ : State} {r : RingPort} {code : BitVec 4} {s : State} (h0 : b₀.Grows s) :
    Safe b₀ (execRingHopOpen r code s) := by
  delta execRingHopOpen
  with_reducible repeat' first
    | assumption | apply finish_grows | apply State.hopOpen_grows

theorem State.hopTrain_grows {b₀ : State} {s : State} {r : RingPort} (h0 : b₀.Grows s) : b₀.Grows (State.hopTrain s r) := by
  delta State.hopTrain
  with_reducible repeat' first
    | assumption | apply State.put_grows | apply State.logChange_grows

theorem State.hopTrained_grows {b₀ : State} {s : State} {r : RingPort} (h0 : b₀.Grows s) : b₀.Grows (State.hopTrained s r) := by
  delta State.hopTrained
  with_reducible repeat' first
    | assumption
    | ((try lift_lets -underBinder); intro x; first | (refine (have _ : b₀.Grows x := ?_; ?_); (on_goal 2 => clear_value x); (on_goal 1 => dsimp only [x]; clear x)) | clear_value x)
    | apply State.put_grows | apply State.setHop_grows | apply State.setRing_grows | apply State.showChain_grows
    | apply State.sendStatus_grows | apply State.logChange_grows | apply State.hopChanged_grows

theorem execRingHopClose_grows {b₀ : State} {r : RingPort} {s : State} (h0 : b₀.Grows s) : Safe b₀ (execRingHopClose r s) := by
  delta execRingHopClose
  with_reducible repeat' first
    | assumption | apply finish_grows | apply State.hopTrained_grows | apply State.hopTrain_grows | apply ite_safe
    | apply next_safe | apply ite_grows

end Sys2Proof.Machine
end

