-- ==== Sys2Proof/Laws/GrowsGroupCmd.lean ====
section
/-! SUPPORT. Every operation and meaning of Machine/GroupCmd.lean grows the state it is given: one lemma each. -/

namespace Sys2Proof.Machine

open Sys2Proof

theorem State.grpRx_grows {b₀ : State} {s : State} {p : Path} {m : GroupMsg} {kind : Nat} (h0 : b₀.Grows s) :
    b₀.Grows (State.grpRx s p m kind) := by
  delta State.grpRx
  with_reducible repeat' first
    | assumption | apply State.treeRx_grows

theorem execArriveRx_grows {b₀ : State} {p : Path} {m : GroupMsg} {s : State} (h0 : b₀.Grows s) :
    Safe b₀ (execArriveRx p m s) := by
  delta execArriveRx
  with_reducible repeat' first
    | assumption | apply finish_grows | apply State.grpRx_grows

theorem execPartialRx_grows {b₀ : State} {p : Path} {m : GroupMsg} {s : State} (h0 : b₀.Grows s) :
    Safe b₀ (execPartialRx p m s) := by
  delta execPartialRx
  with_reducible repeat' first
    | assumption | apply finish_grows | apply State.grpRx_grows

theorem execCompleteRx_grows {b₀ : State} {p : Path} {m : GroupMsg} {s : State} (h0 : b₀.Grows s) :
    Safe b₀ (execCompleteRx p m s) := by
  delta execCompleteRx
  with_reducible repeat' first
    | assumption | apply finish_grows | apply State.grpRx_grows

theorem execResultRx_grows {b₀ : State} {p : Path} {m : GroupMsg} {s : State} (h0 : b₀.Grows s) :
    Safe b₀ (execResultRx p m s) := by
  delta execResultRx
  with_reducible repeat' first
    | assumption | apply finish_grows | apply State.grpRx_grows

theorem execFaultRx_grows {b₀ : State} {p : Path} {m : GroupMsg} {s : State} (h0 : b₀.Grows s) : Safe b₀ (execFaultRx p m s) := by
  delta execFaultRx
  with_reducible repeat' first
    | assumption | apply finish_grows | apply State.grpRx_grows

theorem execPathRx_grows {b₀ : State} {p : Path} {m : GroupMsg} {s : State} (h0 : b₀.Grows s) : Safe b₀ (execPathRx p m s) := by
  delta execPathRx
  with_reducible repeat' first
    | assumption | apply finish_grows | apply State.grpRx_grows

theorem execBind_grows {b₀ : State} {p : Path} {m : GroupMsg} {s : State} (h0 : b₀.Grows s) : Safe b₀ (execBind p m s) := by
  delta execBind
  with_reducible repeat' first
    | assumption | apply finish_grows | apply State.grpRx_grows

theorem execBindAck_grows {b₀ : State} {p : Path} {m : GroupMsg} {s : State} (h0 : b₀.Grows s) : Safe b₀ (execBindAck p m s) := by
  delta execBindAck
  with_reducible repeat' first
    | assumption | apply finish_grows | apply State.grpRx_grows

theorem execRenewRx_grows {b₀ : State} {p : Path} {m : GroupMsg} {s : State} (h0 : b₀.Grows s) : Safe b₀ (execRenewRx p m s) := by
  delta execRenewRx
  with_reducible repeat' first
    | assumption | apply finish_grows | apply State.grpRx_grows

theorem execUnbind_grows {b₀ : State} {p : Path} {m : GroupMsg} {s : State} (h0 : b₀.Grows s) : Safe b₀ (execUnbind p m s) := by
  delta execUnbind
  with_reducible repeat' first
    | assumption | apply finish_grows | apply State.grpRx_grows

theorem execCreditRx_grows {b₀ : State} {p : Path} {die : Option (BitVec 5)} {control up down mgmt : BitVec 16} {s : State} (h0 : b₀.Grows s) :
    Safe b₀ (execCreditRx p die control up down mgmt s) := by
  delta execCreditRx
  with_reducible repeat' first
    | assumption | ((try lift_lets -underBinder); intro x; clear_value x) | apply finish_grows
    | apply State.ringBad_grows | apply State.frameDrop_grows | apply State.giveCredit_grows | apply ite_safe
    | apply next_safe | apply ite_grows | split

theorem execOpLimitTimeout_grows {b₀ : State} {d : Dev} {s : State} (h0 : b₀.Grows s) : Safe b₀ (execOpLimitTimeout d s) := by
  delta execOpLimitTimeout
  with_reducible repeat' first
    | assumption | apply finish_grows | apply State.opLimit_grows

theorem execSealTimeout_grows {b₀ : State} {d : Dev} {s : State} (h0 : b₀.Grows s) : Safe b₀ (execSealTimeout d s) := by
  delta execSealTimeout
  with_reducible repeat' first
    | assumption | apply finish_grows | apply State.roundTimeout_grows

theorem execRenewTimeout_grows {b₀ : State} {d : Dev} {s : State} (h0 : b₀.Grows s) : Safe b₀ (execRenewTimeout d s) := by
  delta execRenewTimeout
  with_reducible repeat' first
    | assumption | apply finish_grows | apply State.roundTimeout_grows

theorem execCreditStall_grows {b₀ : State} {d : Dev} {s : State} (h0 : b₀.Grows s) : Safe b₀ (execCreditStall d s) := by
  delta execCreditStall
  with_reducible repeat' first
    | assumption | apply finish_grows | apply State.creditStall_grows

theorem State.sqTailWrite_grows {b₀ : State} {s : State} {n v : Nat} (h0 : b₀.Grows s) : b₀.Grows (State.sqTailWrite s n v) := by
  delta State.sqTailWrite
  with_reducible repeat' first
    | assumption | apply State.setQueue_grows | apply State.pumpQueue_grows

theorem State.queueWrite_grows {b₀ : State} {s : State} {n k v : Nat} (h0 : b₀.Grows s) :
    b₀.Grows (State.queueWrite s n k v) := by
  delta State.queueWrite
  with_reducible repeat' first
    | assumption | ((try lift_lets -underBinder); intro x; clear_value x) | apply State.queueCfg_grows
    | apply State.sqTailWrite_grows | apply State.cqHeadWrite_grows | apply State.setQueue_grows
    | fail_if_no_progress apply mk_grows | apply ite_grows | split

theorem execSqDoorbell_grows {b₀ : State} {q : BitVec 12} {v : Word} {s : State} (h0 : b₀.Grows s) :
    Safe b₀ (execSqDoorbell q v s) := by
  delta execSqDoorbell
  repeat' first
    | with_reducible assumption | intro _ | with_reducible apply finish_grows
    | with_reducible apply State.viaBus_grows | with_reducible apply State.sqTailWrite_grows

theorem execSubmissionFetched_grows {b₀ : State} {q : BitVec 12} {ok : Bool} {entry : List Byte} {s : State} (h0 : b₀.Grows s) :
    Safe b₀ (execSubmissionFetched q ok entry s) := by
  delta execSubmissionFetched
  with_reducible repeat' first
    | assumption | apply finish_grows | apply State.fetched_grows

theorem execCqHeadWrite_grows {b₀ : State} {q : BitVec 12} {v : Word} {s : State} (h0 : b₀.Grows s) :
    Safe b₀ (execCqHeadWrite q v s) := by
  delta execCqHeadWrite
  repeat' first
    | with_reducible assumption | intro _ | with_reducible apply finish_grows
    | with_reducible apply State.viaBus_grows | with_reducible apply State.cqHeadWrite_grows

theorem execGqEnableWrite_grows {b₀ : State} {q : BitVec 12} {v : Word} {s : State} (h0 : b₀.Grows s) :
    Safe b₀ (execGqEnableWrite q v s) := by
  delta execGqEnableWrite
  repeat' first
    | with_reducible assumption | intro _ | with_reducible apply finish_grows
    | with_reducible apply State.viaBus_grows | with_reducible apply State.queueCfg_grows

theorem execGroupCreate_grows {b₀ : State} {c : CmdCtx} {gid : BitVec 24} {scope acc maxElems depth : Byte} {limitMs : BitVec 16} {s : State} (h0 : b₀.Grows s) :
    Safe b₀ (execGroupCreate c gid scope acc maxElems depth limitMs s) := by
  delta execGroupCreate
  with_reducible repeat' first
    | assumption | apply finish_grows | apply State.groupCreate_grows

theorem execGroupAdd_grows {b₀ : State} {c : CmdCtx} {gid : BitVec 24} {gen : BitVec 16} {entries : List DWord} {s : State} (h0 : b₀.Grows s) :
    Safe b₀ (execGroupAdd c gid gen entries s) := by
  delta execGroupAdd
  with_reducible repeat' first
    | assumption | apply finish_grows | apply State.groupAdd_grows

theorem execGroupSeal_grows {b₀ : State} {c : CmdCtx} {gid : BitVec 24} {gen : BitVec 16} {s : State} (h0 : b₀.Grows s) :
    Safe b₀ (execGroupSeal c gid gen s) := by
  delta execGroupSeal
  with_reducible repeat' first
    | assumption | apply finish_grows | apply State.groupSeal_grows

theorem execGroupRenew_grows {b₀ : State} {c : CmdCtx} {gid : BitVec 24} {gen : BitVec 16} {s : State} (h0 : b₀.Grows s) :
    Safe b₀ (execGroupRenew c gid gen s) := by
  delta execGroupRenew
  with_reducible repeat' first
    | assumption | apply finish_grows | apply State.groupRenew_grows

theorem execGroupDelete_grows {b₀ : State} {c : CmdCtx} {gid : BitVec 24} {gen : BitVec 16} {s : State} (h0 : b₀.Grows s) :
    Safe b₀ (execGroupDelete c gid gen s) := by
  delta execGroupDelete
  with_reducible repeat' first
    | assumption | apply finish_grows | apply State.groupRenew_grows

theorem execGroupStatus_grows {b₀ : State} {c : CmdCtx} {gid : BitVec 24} {s : State} (h0 : b₀.Grows s) :
    Safe b₀ (execGroupStatus c gid s) := by
  delta execGroupStatus
  with_reducible repeat' first
    | assumption | apply finish_grows | apply State.groupStatus_grows

theorem State.gqBind_grows {b₀ : State} {s : State} {c : CmdCtx} {n : Nat} {gid : BitVec 24} {gen : BitVec 16} {sq : DWord} {sqLog2 : Byte} {cq : DWord} {cqLog2 irqEn : Byte} (h0 : b₀.Grows s) :
    b₀.Grows (State.gqBind s c n gid gen sq sqLog2 cq cqLog2 irqEn) := by
  delta State.gqBind
  with_reducible repeat' first
    | assumption
    | ((try lift_lets -underBinder); intro x; first | (refine (have _ : b₀.Grows x := ?_; ?_); (on_goal 2 => clear_value x); (on_goal 1 => dsimp only [x]; clear x)) | (refine (have _ : b₀.Grows x.1 := ?_; ?_); (on_goal 2 => clear_value x); (on_goal 1 => dsimp only [x]; clear x)) | clear_value x)
    | apply State.setQueue_grows | apply State.queueErr_grows | apply State.answer_grows
    | apply State.enableQueue_grows | apply State.logCommand_grows | fail_if_no_progress apply mk_grows
    | apply ite_grows

theorem execGqBind_grows {b₀ : State} {c : CmdCtx} {queue : BitVec 16} {gid : BitVec 24} {gen : BitVec 16} {sq : DWord} {sqLog2 : Byte} {cq : DWord} {cqLog2 irqEn : Byte} {s : State} (h0 : b₀.Grows s) :
    Safe b₀ (execGqBind c queue gid gen sq sqLog2 cq cqLog2 irqEn s) := by
  delta execGqBind
  with_reducible repeat' first
    | assumption | ((try lift_lets -underBinder); intro x; clear_value x) | apply finish_grows
    | apply State.answer_grows | apply State.gqBind_grows | apply ite_safe | apply next_safe | apply ite_grows

theorem execGqUnbind_grows {b₀ : State} {c : CmdCtx} {queue : BitVec 16} {s : State} (h0 : b₀.Grows s) :
    Safe b₀ (execGqUnbind c queue s) := by
  delta execGqUnbind
  with_reducible repeat' first
    | assumption
    | ((try lift_lets -underBinder); intro x; first | (refine (have _ : b₀.Grows x := ?_; ?_); (on_goal 2 => clear_value x); (on_goal 1 => dsimp only [x]; clear x)) | clear_value x)
    | apply finish_grows | apply State.answer_grows | apply State.disableQueue_grows | apply State.logCommand_grows
    | apply ite_safe | apply next_safe | apply ite_grows

theorem execGqStatus_grows {b₀ : State} {c : CmdCtx} {queue : BitVec 16} {s : State} (h0 : b₀.Grows s) :
    Safe b₀ (execGqStatus c queue s) := by
  delta execGqStatus
  with_reducible repeat' first
    | assumption | ((try lift_lets -underBinder); intro x; clear_value x) | apply finish_grows
    | apply State.answer_grows | apply State.logCommand_grows | apply ite_safe | apply next_safe | apply ite_grows

theorem State.groupBasin_grows {b₀ : State} {s : State} {c : CmdCtx} {gid : BitVec 24} {slot : Byte} (h0 : b₀.Grows s) :
    b₀.Grows (State.groupBasin s c gid slot) := by
  delta State.groupBasin
  with_reducible repeat' first
    | assumption | ((try lift_lets -underBinder); intro x; clear_value x) | apply State.answer_grows
    | apply State.logCommand_grows

theorem execGroupBasin_grows {b₀ : State} {c : CmdCtx} {gid : BitVec 24} {slot : Byte} {s : State} (h0 : b₀.Grows s) :
    Safe b₀ (execGroupBasin c gid slot s) := by
  delta execGroupBasin
  with_reducible repeat' first
    | assumption | ((try lift_lets -underBinder); intro x; clear_value x) | apply finish_grows
    | apply State.answer_grows | apply State.groupBasin_grows | apply ite_safe | apply next_safe | apply ite_grows

end Sys2Proof.Machine
end

