-- ==== Sys2Proof/Laws/GrowsSecCmd.lean ====
section
/-! SUPPORT. Every operation and meaning of Machine/SecCmd.lean grows the state it is given: one lemma each. -/

namespace Sys2Proof.Machine

open Sys2Proof

theorem State.countDenied_grows {b₀ : State} {s : State} {d : Dev} {st : Nat} (h0 : b₀.Grows s) :
    b₀.Grows (State.countDenied s d st) := by
  delta State.countDenied
  repeat' first
    | with_reducible assumption | intro _ | with_reducible apply State.doIf_grows
    | with_reducible apply State.bumpSat_grows

theorem State.notPermitted_grows {b₀ : State} {s : State} {c : CmdCtx} {op : Byte} (h0 : b₀.Grows s) :
    b₀.Grows (State.notPermitted s c op) := by
  delta State.notPermitted
  with_reducible repeat' first
    | assumption | apply State.countDenied_grows | apply State.answer_grows

theorem State.refuseOpen_grows {b₀ : State} {s : State} {c : CmdCtx} {st : Nat} (h0 : b₀.Grows s) :
    b₀.Grows (State.refuseOpen s c st) := by
  delta State.refuseOpen
  with_reducible repeat' first
    | assumption | apply State.countDenied_grows | apply State.sendAnswer_grows

theorem State.openSession_grows {b₀ : State} {s : State} {c : CmdCtx} {ix : Nat} {pay : List Byte} (h0 : b₀.Grows s) :
    b₀.Grows (State.openSession s c ix pay) := by
  delta State.openSession
  with_reducible repeat' first
    | assumption
    | ((try lift_lets -underBinder); intro x; first | (refine (have _ : b₀.Grows x := ?_; ?_); (on_goal 2 => clear_value x); (on_goal 1 => dsimp only [x]; clear x)) | clear_value x)
    | apply State.drawn_grows | apply State.setCmd_grows | apply State.showSessions_grows
    | apply State.sendAnswer_grows

theorem execSessionOpen_grows {b₀ : State} {c : CmdCtx} {loc : Bool} {hdr pay : List Byte} {s : State} (h0 : b₀.Grows s) :
    Safe b₀ (execSessionOpen c loc hdr pay s) := by
  delta execSessionOpen
  with_reducible repeat' first
    | assumption | ((try lift_lets -underBinder); intro x; clear_value x) | apply finish_grows
    | apply State.refuseOpen_grows | apply State.logKind_grows | apply State.openSession_grows | apply ite_safe
    | apply next_safe | apply ite_grows

theorem execSessionClose_grows {b₀ : State} {c : CmdCtx} {s : State} (h0 : b₀.Grows s) : Safe b₀ (execSessionClose c s) := by
  delta execSessionClose
  with_reducible repeat' first
    | assumption | apply finish_grows | apply State.answer_grows | apply State.logCommand_grows
    | apply State.endSessions_grows

theorem State.groupSession_grows {b₀ : State} {s : State} {c : CmdCtx} {by_ : Session} {others : List Session} {gid : BitVec 24} {gen : BitVec 16} {id : Word} {key : List Byte} {salt : Word} (h0 : b₀.Grows s) :
    b₀.Grows (State.groupSession s c by_ others gid gen id key salt) := by
  delta State.groupSession
  with_reducible repeat' first
    | assumption
    | ((try lift_lets -underBinder); intro x; first | (refine (have _ : b₀.Grows x := ?_; ?_); (on_goal 2 => clear_value x); (on_goal 1 => dsimp only [x]; clear x)) | clear_value x)
    | apply State.setCmd_grows | apply State.showSessions_grows | apply State.answer_grows
    | apply State.logCommand_grows

theorem execGroupSession_grows {b₀ : State} {c : CmdCtx} {gid : BitVec 24} {gen : BitVec 16} {id : Word} {key : List Byte} {salt : Word} {s : State} (h0 : b₀.Grows s) :
    Safe b₀ (execGroupSession c gid gen id key salt s) := by
  delta execGroupSession
  with_reducible repeat' first
    | assumption | ((try lift_lets -underBinder); intro x; clear_value x) | apply finish_grows
    | apply State.answer_grows | apply State.notPermitted_grows | apply State.groupSession_grows | apply ite_safe
    | apply next_safe | apply ite_grows | split

theorem State.readTime_grows {b₀ : State} {s : State} {d : Dev} {fine : Bool} (h0 : b₀.Grows s) :
    b₀.Grows (State.readTime s d fine).1 := by
  delta State.readTime
  with_reducible repeat' first
    | assumption
    | ((try lift_lets -underBinder); intro x; first | (refine (have _ : b₀.Grows x := ?_; ?_); (on_goal 2 => clear_value x); (on_goal 1 => dsimp only [x]; clear x)) | clear_value x)
    | apply State.doIf_grows | apply State.wakeTc_grows | apply State.drawn_grows | apply ite_grows
    | apply fst_ite_grows

theorem execTimeRead_grows {b₀ : State} {c : CmdCtx} {fine : Byte} {s : State} (h0 : b₀.Grows s) :
    Safe b₀ (execTimeRead c fine s) := by
  delta execTimeRead
  with_reducible repeat' first
    | assumption
    | ((try lift_lets -underBinder); intro x; first | (refine (have _ : b₀.Grows x := ?_; ?_); (on_goal 2 => clear_value x); (on_goal 1 => dsimp only [x]; clear x)) | (refine (have _ : b₀.Grows x.1 := ?_; ?_); (on_goal 2 => clear_value x); (on_goal 1 => dsimp only [x]; clear x)) | clear_value x)
    | apply finish_grows | apply State.answer_grows | apply State.readTime_grows | apply ite_safe | apply next_safe
    | apply ite_grows

theorem execIdCert_grows {b₀ : State} {c : CmdCtx} {install : List Byte} {s : State} (h0 : b₀.Grows s) :
    Safe b₀ (execIdCert c install s) := by
  delta execIdCert
  with_reducible repeat' first
    | assumption | ((try lift_lets -underBinder); intro x; clear_value x) | apply finish_grows
    | apply State.drawn_grows | apply State.answer_grows | apply State.setSec_grows | apply State.showSec_grows
    | apply ite_safe | apply next_safe | fail_if_no_progress apply mk_grows | apply ite_grows

theorem State.stampQueue_grows {b₀ : State} {s : State} {c : CmdCtx} {digest : List Byte} {fine : Byte} (h0 : b₀.Grows s) :
    b₀.Grows (State.stampQueue s c digest fine) := by
  delta State.stampQueue
  with_reducible repeat' first
    | assumption
    | ((try lift_lets -underBinder); intro x; first | (refine (have _ : b₀.Grows x := ?_; ?_); (on_goal 2 => clear_value x); (on_goal 1 => dsimp only [x]; clear x)) | (refine (have _ : b₀.Grows x.1 := ?_; ?_); (on_goal 2 => clear_value x); (on_goal 1 => dsimp only [x]; clear x)) | clear_value x)
    | apply State.readTime_grows | apply State.setSecRun_grows

theorem execSignStamp_grows {b₀ : State} {c : CmdCtx} {digest : List Byte} {fine : Byte} {s : State} (h0 : b₀.Grows s) :
    Safe b₀ (execSignStamp c digest fine s) := by
  delta execSignStamp
  with_reducible repeat' first
    | assumption | ((try lift_lets -underBinder); intro x; clear_value x) | apply finish_grows
    | apply State.answer_grows | apply State.stampQueue_grows | apply ite_safe | apply next_safe | apply ite_grows

theorem execStampSigned_grows {b₀ : State} {d : Dev} {s : State} (h0 : b₀.Grows s) : Safe b₀ (execStampSigned d s) := by
  delta execStampSigned
  with_reducible repeat' first
    | assumption
    | ((try lift_lets -underBinder); intro x; first | (refine (have _ : b₀.Grows x := ?_; ?_); (on_goal 2 => clear_value x); (on_goal 1 => dsimp only [x]; clear x)) | clear_value x)
    | apply finish_grows | apply State.setSecRun_grows | apply State.put_grows | apply State.answer_grows
    | apply ite_safe | apply next_safe | fail_if_no_progress apply mk_grows | split

theorem execLcStatus_grows {b₀ : State} {c : CmdCtx} {s : State} (h0 : b₀.Grows s) : Safe b₀ (execLcStatus c s) := by
  delta execLcStatus
  with_reducible repeat' first
    | assumption
    | ((try lift_lets -underBinder); intro x; first | (refine (have _ : b₀.Grows x := ?_; ?_); (on_goal 2 => clear_value x); (on_goal 1 => dsimp only [x]; clear x)) | clear_value x)
    | apply finish_grows | apply State.drawn_grows | apply State.setSecRun_grows | apply State.answer_grows

theorem State.lcFinish_grows {b₀ : State} {s : State} {d : Dev} (h0 : b₀.Grows s) : b₀.Grows (State.lcFinish s d) := by
  delta State.lcFinish
  with_reducible repeat' first
    | assumption
    | ((try lift_lets -underBinder); intro x; first | (refine (have _ : b₀.Grows x := ?_; ?_); (on_goal 2 => clear_value x); (on_goal 1 => dsimp only [x]; clear x)) | clear_value x)
    | apply State.setLog_grows | apply State.showLog_grows | apply State.logKind_grows | apply State.lcClose_grows
    | apply State.restart_grows | fail_if_no_progress apply mk_grows | apply ite_grows | split

theorem State.takeToken_grows {b₀ : State} {s : State} {c : CmdCtx} {token : List Byte} (h0 : b₀.Grows s) :
    b₀.Grows (State.takeToken s c token) := by
  delta State.takeToken
  with_reducible repeat' first
    | assumption
    | ((try lift_lets -underBinder); intro x; first | (refine (have _ : b₀.Grows x := ?_; ?_); (on_goal 2 => clear_value x); (on_goal 1 => dsimp only [x]; clear x)) | clear_value x)
    | apply State.put_grows | apply State.logKind_grows | apply State.doIf_grows | apply State.lightTests_grows
    | apply State.answer_grows | apply State.logCommand_grows | apply ite_grows

theorem State.lcBegin_grows {b₀ : State} {s : State} {c : CmdCtx} {t key : Nat} (h0 : b₀.Grows s) :
    b₀.Grows (State.lcBegin s c t key) := by
  delta State.lcBegin
  with_reducible repeat' first
    | assumption
    | ((try lift_lets -underBinder); intro x; first | (refine (have _ : b₀.Grows x := ?_; ?_); (on_goal 2 => clear_value x); (on_goal 1 => dsimp only [x]; clear x)) | clear_value x)
    | apply State.answer_grows | apply State.logCommand_grows | apply State.setSec_grows | apply State.showSec_grows
    | apply State.lcFinish_grows | fail_if_no_progress apply mk_grows | apply ite_grows

theorem execLcTransition_grows {b₀ : State} {c : CmdCtx} {target force : Byte} {token : List Byte} {s : State} (h0 : b₀.Grows s) :
    Safe b₀ (execLcTransition c target force token s) := by
  delta execLcTransition
  with_reducible repeat' first
    | assumption | ((try lift_lets -underBinder); intro x; clear_value x) | apply finish_grows
    | apply State.answer_grows | apply State.notPermitted_grows | apply State.takeToken_grows
    | apply State.lcBegin_grows | apply ite_safe | apply next_safe | apply ite_grows | split

theorem execKeyBind_grows {b₀ : State} {c : CmdCtx} {index : Byte} {mask : BitVec 16} {key : List Byte} {s : State} (h0 : b₀.Grows s) :
    Safe b₀ (execKeyBind c index mask key s) := by
  delta execKeyBind
  repeat' first
    | with_reducible assumption | (intro x; fail_if_success clear_value x)
    | ((try lift_lets -underBinder); intro x; first | (refine (have hf : ∀ a, b₀.Grows a → b₀.Grows (x a) := ?_; ?_); (on_goal 2 => clear_value x); (on_goal 1 => dsimp only [x]; clear x)) | (refine (have _ : b₀.Grows x := ?_; ?_); (on_goal 2 => clear_value x); (on_goal 1 => dsimp only [x]; clear x)) | clear_value x)
    | intro _ | with_reducible apply finish_grows | with_reducible apply State.logKind_grows
    | with_reducible apply State.answer_grows | with_reducible apply State.setSec_grows
    | with_reducible apply State.showSec_grows | with_reducible apply State.logCommand_grows
    | with_reducible apply State.endSessions_grows | with_reducible apply ite_safe | with_reducible apply next_safe
    | with_reducible fail_if_no_progress apply mk_grows | with_reducible apply ite_grows | with_reducible apply hf
    | split

end Sys2Proof.Machine
end

