-- ==== Sys2Proof/Laws/GrowsFw.lean ====
section
/-! SUPPORT. Every operation and meaning of Machine/Fw.lean grows the state it is given: one lemma each. -/

namespace Sys2Proof.Machine

open Sys2Proof

theorem State.setBank_grows {b₀ : State} {s : State} {d : Dev} {b : Bank} (h0 : b₀.Grows s) : b₀.Grows (State.setBank s d b) := by
  delta State.setBank
  with_reducible repeat' first
    | assumption | apply State.setSec_grows | apply State.showFw_grows

theorem execFwBegin_grows {b₀ : State} {c : CmdCtx} {id len ver : Word} {s : State} (h0 : b₀.Grows s) :
    Safe b₀ (execFwBegin c id len ver s) := by
  delta execFwBegin
  with_reducible repeat' first
    | assumption | ((try lift_lets -underBinder); intro x; clear_value x) | apply finish_grows
    | apply State.answer_grows | apply State.accept_grows | apply State.complete_grows | apply State.report_grows
    | apply State.setBank_grows | apply ite_safe | apply next_safe | apply ite_grows

theorem execFwEraseDone_grows {b₀ : State} {d : Dev} {s : State} (h0 : b₀.Grows s) : Safe b₀ (execFwEraseDone d s) := by
  delta execFwEraseDone
  with_reducible repeat' first
    | assumption | ((try lift_lets -underBinder); intro x; clear_value x) | apply finish_grows
    | apply State.setBank_grows | apply State.complete_grows | apply State.report_grows | apply ite_safe
    | apply next_safe | fail_if_no_progress apply mk_grows | apply ite_grows

theorem State.fwTake_grows {b₀ : State} {s : State} {d : Dev} {p : Nat} {data : List Byte} (h0 : b₀.Grows s) :
    b₀.Grows (State.fwTake s d p data) := by
  delta State.fwTake
  with_reducible repeat' first
    | assumption
    | ((try lift_lets -underBinder); intro x; first | (refine (have _ : b₀.Grows x := ?_; ?_); (on_goal 2 => clear_value x); (on_goal 1 => dsimp only [x]; clear x)) | clear_value x)
    | apply State.setBank_grows | apply State.logKind_grows | apply ite_grows

theorem execFwChunk_grows {b₀ : State} {c : CmdCtx} {id : Word} {part : BitVec 16} {data : List Byte} {s : State} (h0 : b₀.Grows s) :
    Safe b₀ (execFwChunk c id part data s) := by
  delta execFwChunk
  with_reducible repeat' first
    | assumption
    | ((try lift_lets -underBinder); intro x; first | (refine (have _ : b₀.Grows x := ?_; ?_); (on_goal 2 => clear_value x); (on_goal 1 => dsimp only [x]; clear x)) | clear_value x)
    | apply finish_grows | apply State.answer_grows | apply State.fwTake_grows | apply State.accept_grows
    | apply State.setSecRun_grows | apply ite_safe | apply next_safe | fail_if_no_progress apply mk_grows
    | apply ite_grows | apply fst_ite_grows | split

theorem State.chunkDone_grows {b₀ : State} {s : State} {r : SecRun} {c : CmdCtx} {id p : Nat} {data : List Byte} {rest : List (CmdCtx × Nat × Nat × List Byte)} (h0 : b₀.Grows s) :
    b₀.Grows (State.chunkDone s r c id p data rest) := by
  delta State.chunkDone
  with_reducible repeat' first
    | assumption
    | ((try lift_lets -underBinder); intro x; first | (refine (have _ : b₀.Grows x := ?_; ?_); (on_goal 2 => clear_value x); (on_goal 1 => dsimp only [x]; clear x)) | clear_value x)
    | apply State.setSecRun_grows | apply State.fwTake_grows | apply State.completeWork_grows
    | fail_if_no_progress apply mk_grows | apply ite_grows | apply fst_ite_grows | split

theorem execFwChunkProgrammed_grows {b₀ : State} {s : State} (h0 : b₀.Grows s) : Safe b₀ (execFwChunkProgrammed s) := by
  delta execFwChunkProgrammed
  with_reducible repeat' first
    | assumption | ((try lift_lets -underBinder); intro x; clear_value x) | apply finish_grows
    | apply State.chunkDone_grows | apply ite_safe | apply next_safe | split

theorem execFwStatus_grows {b₀ : State} {c : CmdCtx} {s : State} (h0 : b₀.Grows s) : Safe b₀ (execFwStatus c s) := by
  delta execFwStatus
  with_reducible repeat' first
    | assumption | ((try lift_lets -underBinder); intro x; clear_value x) | apply finish_grows
    | apply State.answer_grows

theorem execFwCancel_grows {b₀ : State} {c : CmdCtx} {id : Word} {s : State} (h0 : b₀.Grows s) :
    Safe b₀ (execFwCancel c id s) := by
  delta execFwCancel
  with_reducible repeat' first
    | assumption | ((try lift_lets -underBinder); intro x; clear_value x) | apply finish_grows
    | apply State.answer_grows | apply State.setBank_grows | apply State.logCommand_grows | apply ite_safe
    | apply next_safe | apply ite_grows

theorem State.profProgram_grows {b₀ : State} {s : State} (h0 : b₀.Grows s) : b₀.Grows (State.profProgram s) := by
  delta State.profProgram
  with_reducible repeat' first
    | assumption | ((try lift_lets -underBinder); intro x; clear_value x) | apply State.put_grows
    | apply State.setSecRun_grows | fail_if_no_progress apply mk_grows | apply ite_grows

theorem State.profReload_grows {b₀ : State} {s : State} (h0 : b₀.Grows s) : b₀.Grows (State.profReload s) := by
  delta State.profReload
  with_reducible repeat' first
    | assumption | apply State.put_grows | apply State.setSecRun_grows | fail_if_no_progress apply mk_grows
    | apply ite_grows

theorem execProfileProgram_grows {b₀ : State} {s : State} (h0 : b₀.Grows s) : Safe b₀ (execProfileProgram s) := by
  delta execProfileProgram
  with_reducible repeat' first
    | assumption | apply finish_grows | apply State.viaBus_grows | apply State.profProgram_grows

theorem execProfileReload_grows {b₀ : State} {s : State} (h0 : b₀.Grows s) : Safe b₀ (execProfileReload s) := by
  delta execProfileReload
  with_reducible repeat' first
    | assumption | apply finish_grows | apply State.viaBus_grows | apply State.profReload_grows

theorem State.profDone_grows {b₀ : State} {s : State} {ok : Bool} (h0 : b₀.Grows s) : b₀.Grows (State.profDone s ok) := by
  delta State.profDone
  with_reducible repeat' first
    | assumption
    | ((try lift_lets -underBinder); intro x; first | (refine (have _ : b₀.Grows x := ?_; ?_); (on_goal 2 => clear_value x); (on_goal 1 => dsimp only [x]; clear x)) | clear_value x)
    | apply State.setSecRun_grows | apply State.setSec_grows | apply State.put_grows | apply State.lcFinish_grows
    | fail_if_no_progress apply mk_grows | apply ite_grows

theorem execProfileProgramDone_grows {b₀ : State} {ok : Bool} {s : State} (h0 : b₀.Grows s) :
    Safe b₀ (execProfileProgramDone ok s) := by
  delta execProfileProgramDone
  with_reducible repeat' first
    | assumption | apply finish_grows | apply State.profDone_grows | apply ite_safe | apply next_safe
    | apply ite_grows

end Sys2Proof.Machine
end

