-- ==== Sys2Proof/Laws/GrowsIngress.lean ====
section
/-! SUPPORT. Every operation and meaning of Machine/Ingress.lean grows the state it is given: one lemma each. -/

namespace Sys2Proof.Machine

open Sys2Proof

theorem State.enqueue_grows {b₀ : State} {s : State} {d : Dev} {p : Path} {b : List Byte} (h0 : b₀.Grows s) :
    b₀.Grows (State.enqueue s d p b) := by
  delta State.enqueue
  with_reducible repeat' first
    | assumption | apply State.setCmd_grows

theorem State.mboxFree_grows {b₀ : State} {s : State} (h0 : b₀.Grows s) : b₀.Grows (State.mboxFree s) := by
  delta State.mboxFree
  with_reducible repeat' first
    | assumption | apply State.put_grows | apply State.drainHost_grows

theorem State.mboxClaim_grows {b₀ : State} {s : State} (h0 : b₀.Grows s) : b₀.Grows (State.mboxClaim s) := by
  delta State.mboxClaim
  with_reducible repeat' first
    | assumption | apply State.put_grows | apply ite_grows

theorem State.mboxSend_grows {b₀ : State} {s : State} (h0 : b₀.Grows s) : b₀.Grows (State.mboxSend s) := by
  delta State.mboxSend
  with_reducible repeat' first
    | assumption | ((try lift_lets -underBinder); intro x; clear_value x) | apply State.put_grows
    | apply State.enqueue_grows | apply State.mboxFree_grows | apply ite_grows

theorem State.mboxRelease_grows {b₀ : State} {s : State} (h0 : b₀.Grows s) : b₀.Grows (State.mboxRelease s) := by
  delta State.mboxRelease
  with_reducible repeat' first
    | assumption | apply State.put_grows | apply State.mboxFree_grows | apply ite_grows

theorem State.mboxCtrl_grows {b₀ : State} {s : State} {v : Nat} (h0 : b₀.Grows s) : b₀.Grows (State.mboxCtrl s v) := by
  delta State.mboxCtrl
  with_reducible repeat' first
    | assumption | apply State.doIf_grows | apply State.mboxClaim_grows | apply State.mboxSend_grows
    | apply State.mboxRelease_grows

theorem State.mboxWrite_grows {b₀ : State} {s : State} {k v : Nat} (h0 : b₀.Grows s) : b₀.Grows (State.mboxWrite s k v) := by
  delta State.mboxWrite
  with_reducible repeat' first
    | assumption | apply State.put_grows | apply ite_grows

theorem execMboxClaim_grows {b₀ : State} {s : State} (h0 : b₀.Grows s) : Safe b₀ (execMboxClaim s) := by
  delta execMboxClaim
  with_reducible repeat' first
    | assumption | apply finish_grows | apply State.viaBus_grows | apply State.mboxClaim_grows

theorem execMboxSend_grows {b₀ : State} {s : State} (h0 : b₀.Grows s) : Safe b₀ (execMboxSend s) := by
  delta execMboxSend
  with_reducible repeat' first
    | assumption | apply finish_grows | apply State.viaBus_grows | apply State.mboxSend_grows

theorem execMboxRelease_grows {b₀ : State} {s : State} (h0 : b₀.Grows s) : Safe b₀ (execMboxRelease s) := by
  delta execMboxRelease
  with_reducible repeat' first
    | assumption | apply finish_grows | apply State.viaBus_grows | apply State.mboxRelease_grows

theorem State.reqTail_grows {b₀ : State} {s : State} {v : Nat} (h0 : b₀.Grows s) : b₀.Grows (State.reqTail s v) := by
  delta State.reqTail
  repeat' first
    | with_reducible assumption | (intro x; fail_if_success clear_value x)
    | ((try lift_lets -underBinder); intro x; first | (refine (have _ : b₀.Grows x := ?_; ?_); (on_goal 2 => clear_value x); (on_goal 1 => dsimp only [x]; clear x)) | clear_value x)
    | intro _ | with_reducible apply State.put_grows | with_reducible apply State.emit_grows
    | with_reducible apply foldl_grows

theorem State.reqTake_grows {b₀ : State} {s : State} {slot : List Byte} (h0 : b₀.Grows s) : b₀.Grows (State.reqTake s slot) := by
  delta State.reqTake
  with_reducible repeat' first
    | assumption
    | ((try lift_lets -underBinder); intro x; (refine (have _ : b₀.Grows x := ?_; ?_); (on_goal 2 => clear_value x); (on_goal 1 => dsimp only [x]; clear x)))
    | apply State.put_grows | apply State.enqueue_grows | apply State.cmdIrq_grows | apply ite_grows

theorem State.rspHead_grows {b₀ : State} {s : State} {v : Nat} (h0 : b₀.Grows s) : b₀.Grows (State.rspHead s v) := by
  delta State.rspHead
  with_reducible repeat' first
    | assumption | apply State.put_grows | apply State.drainHost_grows

theorem execCmdReqDoorbell_grows {b₀ : State} {tail : BitVec 10} {slots : List (List Byte)} {s : State} (h0 : b₀.Grows s) :
    Safe b₀ (execCmdReqDoorbell tail slots s) := by
  delta execCmdReqDoorbell
  repeat' first
    | with_reducible assumption | (intro x; fail_if_success clear_value x)
    | ((try lift_lets -underBinder); intro x; first | (refine (have _ : b₀.Grows x := ?_; ?_); (on_goal 2 => clear_value x); (on_goal 1 => dsimp only [x]; clear x)) | (refine (have _ : b₀.Grows x.1 := ?_; ?_); (on_goal 2 => clear_value x); (on_goal 1 => dsimp only [x]; clear x)))
    | intro _ | with_reducible apply finish_grows | with_reducible apply State.viaBus_grows
    | with_reducible apply State.reqTail_grows | with_reducible apply State.reqTake_grows
    | with_reducible apply ite_safe | with_reducible apply next_safe | with_reducible apply foldl_grows

theorem execCmdRspHeadWrite_grows {b₀ : State} {v : BitVec 10} {s : State} (h0 : b₀.Grows s) :
    Safe b₀ (execCmdRspHeadWrite v s) := by
  delta execCmdRspHeadWrite
  repeat' first
    | with_reducible assumption | intro _ | with_reducible apply finish_grows
    | with_reducible apply State.viaBus_grows | with_reducible apply State.rspHead_grows

end Sys2Proof.Machine
end

