-- ==== Sys2Proof/Laws/GrowsJobSlot.lean ====
section
/-! SUPPORT. Every operation and meaning of Machine/JobSlot.lean grows the state it is given: one lemma each. -/

namespace Sys2Proof.Machine

open Sys2Proof

theorem State.putInstant_grows {b₀ : State} {s : State} {ns lo hi : Field} {t : Nat} (h0 : b₀.Grows s) :
    b₀.Grows (State.putInstant s ns lo hi t) := by
  delta State.putInstant
  with_reducible repeat' first
    | assumption | ((try lift_lets -underBinder); intro x; clear_value x) | apply State.put_grows

theorem State.captureStep_grows {b₀ : State} {s : State} (h0 : b₀.Grows s) : b₀.Grows (State.captureStep s) := by
  delta State.captureStep
  with_reducible repeat' first
    | assumption
    | ((try lift_lets -underBinder); intro x; first | (refine (have _ : b₀.Grows x := ?_; ?_); (on_goal 2 => clear_value x); (on_goal 1 => dsimp only [x]; clear x)) | clear_value x)
    | apply State.put_grows | apply State.putInstant_grows | apply State.putB_grows

theorem execStepLoRead_grows {b₀ : State} {s : State} (h0 : b₀.Grows s) : Safe b₀ (execStepLoRead s) := by
  delta execStepLoRead
  with_reducible repeat' first
    | assumption | apply State.viaRead_grows | apply State.captureStep_grows | apply ite_safe | apply next_safe

theorem execStepRead_grows {b₀ : State} {c : CmdCtx} {s : State} (h0 : b₀.Grows s) : Safe b₀ (execStepRead c s) := by
  delta execStepRead
  with_reducible repeat' first
    | assumption
    | ((try lift_lets -underBinder); intro x; (refine (have _ : b₀.Grows x := ?_; ?_); (on_goal 2 => clear_value x); (on_goal 1 => dsimp only [x]; clear x)))
    | apply finish_grows | apply State.answer_grows | apply State.captureStep_grows | apply State.logCommand_grows
    | apply ite_safe | apply next_safe | apply ite_grows

theorem State.progWrite_grows {b₀ : State} {s : State} {n k v : Nat} (h0 : b₀.Grows s) : b₀.Grows (State.progWrite s n k v) := by
  delta State.progWrite
  with_reducible repeat' first
    | assumption | ((try lift_lets -underBinder); intro x; clear_value x) | apply State.put_grows
    | apply State.putB_grows | apply ite_grows | split

theorem execProgEntryWrite_grows {b₀ : State} {n : Fin 8} {k : Fin 4} {v : Word} {s : State} (h0 : b₀.Grows s) :
    Safe b₀ (execProgEntryWrite n k v s) := by
  delta execProgEntryWrite
  repeat' first
    | with_reducible assumption | intro _ | with_reducible apply State.viaBus_grows
    | with_reducible apply State.progWrite_grows | with_reducible apply ite_safe | with_reducible apply next_safe

theorem State.hostAbort_grows {b₀ : State} {s : State} (h0 : b₀.Grows s) : b₀.Grows (State.hostAbort s) := by
  delta State.hostAbort
  with_reducible repeat' first
    | assumption | apply State.faultActive_grows

theorem State.stepCtrl_grows {b₀ : State} {s : State} {v : Nat} (h0 : b₀.Grows s) : b₀.Grows (State.stepCtrl s v) := by
  delta State.stepCtrl
  with_reducible repeat' first
    | assumption
    | ((try lift_lets -underBinder); intro x; (refine (have _ : b₀.Grows x := ?_; ?_); (on_goal 2 => clear_value x); (on_goal 1 => dsimp only [x]; clear x)))
    | apply State.stepDone_grows | apply State.hostAbort_grows | apply ite_grows

theorem execStepDoneWrite_grows {b₀ : State} {s : State} (h0 : b₀.Grows s) : Safe b₀ (execStepDoneWrite s) := by
  delta execStepDoneWrite
  with_reducible repeat' first
    | assumption | apply finish_grows | apply State.viaBus_grows | apply State.stepDone_grows

theorem execHostAbortWrite_grows {b₀ : State} {s : State} (h0 : b₀.Grows s) : Safe b₀ (execHostAbortWrite s) := by
  delta execHostAbortWrite
  with_reducible repeat' first
    | assumption | apply finish_grows | apply State.viaBus_grows | apply State.hostAbort_grows

theorem State.prefetchFail_grows {b₀ : State} {s : State} {i : Nat} (h0 : b₀.Grows s) : b₀.Grows (State.prefetchFail s i) := by
  delta State.prefetchFail
  with_reducible repeat' first
    | assumption | apply State.jobAnswer_grows | apply State.slotIdle_grows

theorem State.burstDone_grows {b₀ : State} {s : State} {i : Nat} {ok : Bool} {wps : List (BitVec 128)} (h0 : b₀.Grows s) :
    b₀.Grows (State.burstDone s i ok wps) := by
  delta State.burstDone
  with_reducible repeat' first
    | assumption
    | ((try lift_lets -underBinder); intro x; first | (refine (have _ : b₀.Grows x := ?_; ?_); (on_goal 2 => clear_value x); (on_goal 1 => dsimp only [x]; clear x)) | clear_value x)
    | apply State.logicWork_grows | apply State.setSlot_grows | apply State.prefetchFail_grows
    | apply State.slotFault_grows | apply State.fetchMore_grows | apply State.plan_grows | apply State.showJob_grows
    | apply State.advance_grows | fail_if_no_progress apply mk_grows | apply ite_grows | split

theorem execFetchBurstDone_grows {b₀ : State} {i : Fin 2} {ok : Bool} {wps : List (BitVec 128)} {s : State} (h0 : b₀.Grows s) :
    Safe b₀ (execFetchBurstDone i ok wps s) := by
  delta execFetchBurstDone
  with_reducible repeat' first
    | assumption | apply finish_grows | apply State.burstDone_grows

theorem execPrefetchDone_grows {b₀ : State} {i : Fin 2} {s : State} (h0 : b₀.Grows s) : Safe b₀ (execPrefetchDone i s) := by
  delta execPrefetchDone
  repeat' first
    | with_reducible assumption | (intro x; fail_if_success clear_value x)
    | ((try lift_lets -underBinder); intro x; first | (refine (have _ : b₀.Grows x := ?_; ?_); (on_goal 2 => clear_value x); (on_goal 1 => dsimp only [x]; clear x)) | clear_value x)
    | intro _ | with_reducible apply finish_grows | with_reducible apply State.setSlot_grows
    | with_reducible apply State.doIf_grows | with_reducible apply State.put_grows
    | with_reducible apply State.complete_grows | with_reducible apply State.jobAnswer_grows
    | with_reducible apply ite_safe | with_reducible apply next_safe
    | with_reducible fail_if_no_progress apply mk_grows | with_reducible apply ite_grows

theorem execPrefetchTimeout_grows {b₀ : State} {i : Fin 2} {s : State} (h0 : b₀.Grows s) : Safe b₀ (execPrefetchTimeout i s) := by
  delta execPrefetchTimeout
  with_reducible repeat' first
    | assumption | ((try lift_lets -underBinder); intro x; clear_value x) | apply finish_grows
    | apply State.prefetchFail_grows | apply ite_safe | apply next_safe | apply ite_grows

theorem execMarkTimed_grows {b₀ : State} {s : State} (h0 : b₀.Grows s) : Safe b₀ (execMarkTimed s) := by
  delta execMarkTimed
  with_reducible repeat' first
    | assumption | apply finish_grows | apply State.raiseMark_grows | apply ite_safe | apply next_safe
    | apply ite_grows | split

theorem execMarkRaise_grows {b₀ : State} {s : State} (h0 : b₀.Grows s) : Safe b₀ (execMarkRaise s) := by
  delta execMarkRaise
  with_reducible repeat' first
    | assumption | apply finish_grows | apply State.raiseMark_grows | apply ite_safe | apply next_safe | split

theorem execOverrunTest_grows {b₀ : State} {s : State} (h0 : b₀.Grows s) : Safe b₀ (execOverrunTest s) := by
  delta execOverrunTest
  with_reducible repeat' first
    | assumption
    | ((try lift_lets -underBinder); intro x; first | (refine (have _ : b₀.Grows x := ?_; ?_); (on_goal 2 => clear_value x); (on_goal 1 => dsimp only [x]; clear x)) | clear_value x)
    | apply finish_grows | apply State.setSlot_grows | apply State.stepDone_grows | apply State.bumpSat_grows
    | apply State.put_grows | apply State.slotFault_grows | apply ite_safe | apply next_safe
    | fail_if_no_progress apply mk_grows | apply ite_grows | split

theorem execGateLimitExpiry_grows {b₀ : State} {s : State} (h0 : b₀.Grows s) : Safe b₀ (execGateLimitExpiry s) := by
  delta execGateLimitExpiry
  with_reducible repeat' first
    | assumption | ((try lift_lets -underBinder); intro x; clear_value x) | apply finish_grows
    | apply State.wakeAll_grows | apply State.put_grows | apply State.slotFault_grows | apply ite_safe
    | apply next_safe | apply ite_grows | split

theorem execWaypointNop_grows {b₀ : State} {s : State} (h0 : b₀.Grows s) : Safe b₀ (execWaypointNop s) := by
  delta execWaypointNop
  with_reducible repeat' first
    | assumption | apply finish_grows | apply State.wpDone_grows | apply ite_safe | apply next_safe | split

theorem execWaypointFreq_grows {b₀ : State} {s : State} (h0 : b₀.Grows s) : Safe b₀ (execWaypointFreq s) := by
  delta execWaypointFreq
  with_reducible repeat' first
    | assumption
    | ((try lift_lets -underBinder); intro x; first | (refine (have _ : b₀.Grows x := ?_; ?_); (on_goal 2 => clear_value x); (on_goal 1 => dsimp only [x]; clear x)) | clear_value x)
    | apply finish_grows | apply State.schedule_grows | apply State.setRun_grows | apply State.wpDone_grows
    | apply ite_safe | apply next_safe | fail_if_no_progress apply mk_grows | apply ite_grows | split

theorem execWaypointPowerHint_grows {b₀ : State} {s : State} (h0 : b₀.Grows s) : Safe b₀ (execWaypointPowerHint s) := by
  delta execWaypointPowerHint
  with_reducible repeat' first
    | assumption | apply finish_grows | apply State.powerHint_grows | apply State.wpDone_grows | apply ite_safe
    | apply next_safe | split

theorem execWaypointOptical_grows {b₀ : State} {s : State} (h0 : b₀.Grows s) : Safe b₀ (execWaypointOptical s) := by
  delta execWaypointOptical
  with_reducible repeat' first
    | assumption
    | ((try lift_lets -underBinder); intro x; first | (refine (have _ : b₀.Grows x := ?_; ?_); (on_goal 2 => clear_value x); (on_goal 1 => dsimp only [x]; clear x)) | clear_value x)
    | apply finish_grows | apply State.sendQuiet_grows | apply State.setRun_grows | apply State.wpDone_grows
    | apply ite_safe | apply next_safe | fail_if_no_progress apply mk_grows | apply ite_grows | split

theorem State.captureWp_grows {b₀ : State} {s : State} {i : Nat} {w : BitVec 128} {t : Nat} (h0 : b₀.Grows s) :
    b₀.Grows (State.captureWp s i w t) := by
  delta State.captureWp
  with_reducible repeat' first
    | assumption
    | ((try lift_lets -underBinder); intro x; first | (refine (have _ : b₀.Grows x := ?_; ?_); (on_goal 2 => clear_value x); (on_goal 1 => dsimp only [x]; clear x)) | clear_value x)
    | apply State.put_grows | apply State.armTrain_grows | apply State.logKind_grows | apply State.wpDone_grows
    | fail_if_no_progress apply mk_grows | apply ite_grows | split

theorem execWaypointCapture_grows {b₀ : State} {s : State} (h0 : b₀.Grows s) : Safe b₀ (execWaypointCapture s) := by
  delta execWaypointCapture
  with_reducible repeat' first
    | assumption
    | ((try lift_lets -underBinder); intro x; (refine (have _ : b₀.Grows x := ?_; ?_); (on_goal 2 => clear_value x); (on_goal 1 => dsimp only [x]; clear x)))
    | apply finish_grows | apply State.plan_grows | apply State.captureWp_grows | apply ite_safe | apply next_safe
    | split

theorem execWaypointSounding_grows {b₀ : State} {s : State} (h0 : b₀.Grows s) : Safe b₀ (execWaypointSounding s) := by
  delta execWaypointSounding
  with_reducible repeat' first
    | assumption | apply finish_grows | apply State.soundStart_grows | apply State.wpDone_grows | apply ite_safe
    | apply next_safe | split

theorem execWaypointEnd_grows {b₀ : State} {s : State} (h0 : b₀.Grows s) : Safe b₀ (execWaypointEnd s) := by
  delta execWaypointEnd
  with_reducible repeat' first
    | assumption
    | ((try lift_lets -underBinder); intro x; first | (refine (have _ : b₀.Grows x := ?_; ?_); (on_goal 2 => clear_value x); (on_goal 1 => dsimp only [x]; clear x)) | clear_value x)
    | apply finish_grows | apply State.setRun_grows | apply State.put_grows | apply State.wpDone_grows
    | apply ite_safe | apply next_safe | fail_if_no_progress apply mk_grows | split

theorem execCommitHoldDeadline_grows {b₀ : State} {i : Fin 2} {s : State} (h0 : b₀.Grows s) :
    Safe b₀ (execCommitHoldDeadline i s) := by
  delta execCommitHoldDeadline
  with_reducible repeat' first
    | assumption | ((try lift_lets -underBinder); intro x; clear_value x) | apply finish_grows
    | apply State.setRun_grows | apply State.jobAnswer_grows | apply ite_safe | apply next_safe
    | fail_if_no_progress apply mk_grows | apply ite_grows

theorem execLastAbortTime_grows {b₀ : State} {i : Fin 2} {s : State} (h0 : b₀.Grows s) : Safe b₀ (execLastAbortTime i s) := by
  delta execLastAbortTime
  with_reducible repeat' first
    | assumption | ((try lift_lets -underBinder); intro x; clear_value x) | apply finish_grows
    | apply State.slotIdle_grows | apply State.setRun_grows | apply ite_safe | apply next_safe
    | fail_if_no_progress apply mk_grows | apply ite_grows | split

theorem execJobStartT0_grows {b₀ : State} {s : State} (h0 : b₀.Grows s) : Safe b₀ (execJobStartT0 s) := by
  delta execJobStartT0
  with_reducible repeat' first
    | assumption
    | ((try lift_lets -underBinder); intro x; (refine (have _ : b₀.Grows x := ?_; ?_); (on_goal 2 => clear_value x); (on_goal 1 => dsimp only [x]; clear x)))
    | apply finish_grows | apply State.startJob_grows | apply State.resumeJob_grows | apply State.rootStart_grows
    | apply ite_safe | apply next_safe | apply ite_grows | split

theorem execTeardownInstant_grows {b₀ : State} {s : State} (h0 : b₀.Grows s) : Safe b₀ (execTeardownInstant s) := by
  delta execTeardownInstant
  with_reducible repeat' first
    | assumption | apply finish_grows | apply State.startDrain_grows | apply ite_safe | apply next_safe
    | apply ite_grows | split

theorem State.energyRecord_grows {b₀ : State} {s : State} {i : Nat} (h0 : b₀.Grows s) : b₀.Grows (State.energyRecord s i) := by
  delta State.energyRecord
  with_reducible repeat' first
    | assumption | ((try lift_lets -underBinder); intro x; clear_value x) | apply State.report_grows

theorem State.drained_grows {b₀ : State} {s : State} {i : Nat} (h0 : b₀.Grows s) : b₀.Grows (State.drained s i) := by
  delta State.drained
  repeat' first
    | with_reducible assumption | (intro x; fail_if_success clear_value x)
    | ((try lift_lets -underBinder); intro x; first | (refine (have _ : b₀.Grows x := ?_; ?_); (on_goal 2 => clear_value x); (on_goal 1 => dsimp only [x]; clear x)) | clear_value x)
    | intro _ | with_reducible apply State.endAll_grows | with_reducible apply State.closeAll_grows
    | with_reducible apply State.energyRecord_grows | with_reducible apply State.detEnd_grows
    | with_reducible apply State.toBaseOp_grows | with_reducible apply State.sendJobUp_grows
    | with_reducible apply State.slotIdle_grows | with_reducible fail_if_no_progress apply mk_grows
    | with_reducible apply foldl_grows

theorem execDrainComplete_grows {b₀ : State} {s : State} (h0 : b₀.Grows s) : Safe b₀ (execDrainComplete s) := by
  delta execDrainComplete
  with_reducible repeat' first
    | assumption | apply finish_grows | apply State.drained_grows | apply ite_safe | apply next_safe | apply ite_grows
    | split

theorem execJobSave_grows {b₀ : State} {c : CmdCtx} {addr : DWord} {s : State} (h0 : b₀.Grows s) :
    Safe b₀ (execJobSave c addr s) := by
  delta execJobSave
  with_reducible repeat' first
    | assumption | apply finish_grows | apply State.answer_grows | apply State.accept_grows | apply State.emit_grows
    | apply ite_safe | apply next_safe | apply ite_grows | split

theorem State.loadJobImage_grows {b₀ : State} {s : State} {i : Nat} {b : List Byte} (h0 : b₀.Grows s) :
    b₀.Grows (State.loadJobImage s i b) := by
  delta State.loadJobImage
  with_reducible repeat' first
    | assumption
    | ((try lift_lets -underBinder); intro x; first | (refine (have _ : b₀.Grows x := ?_; ?_); (on_goal 2 => clear_value x); (on_goal 1 => dsimp only [x]; clear x)) | clear_value x)
    | apply State.setSlot_grows | apply State.put_grows | apply State.setRun_grows | apply State.fetchMore_grows

theorem execJobLoad_grows {b₀ : State} {c : CmdCtx} {addr : DWord} {image : Option (List Byte)} {s : State} (h0 : b₀.Grows s) :
    Safe b₀ (execJobLoad c addr image s) := by
  delta execJobLoad
  with_reducible repeat' first
    | assumption
    | ((try lift_lets -underBinder); intro x; (refine (have _ : b₀.Grows x := ?_; ?_); (on_goal 2 => clear_value x); (on_goal 1 => dsimp only [x]; clear x)))
    | apply finish_grows | apply State.answer_grows | apply State.accept_grows | apply State.emit_grows
    | apply State.loadJobImage_grows | apply State.complete_grows | apply ite_safe | apply next_safe | apply ite_grows
    | split

end Sys2Proof.Machine
end

