-- ==== Sys2Proof/Laws/GrowsLogCmd.lean ====
section
/-! SUPPORT. Every operation and meaning of Machine/LogCmd.lean grows the state it is given: one lemma each. -/

namespace Sys2Proof.Machine

open Sys2Proof

theorem State.showView_grows {b₀ : State} {s : State} (h0 : b₀.Grows s) : b₀.Grows (State.showView s) := by
  delta State.showView
  with_reducible repeat' first
    | assumption | apply State.putB_grows

theorem State.logAdvance_grows {b₀ : State} {s : State} {d : Dev} {seq : Nat} (h0 : b₀.Grows s) :
    b₀.Grows (State.logAdvance s d seq) := by
  delta State.logAdvance
  with_reducible repeat' first
    | assumption
    | ((try lift_lets -underBinder); intro x; first | (refine (have _ : b₀.Grows x := ?_; ?_); (on_goal 2 => clear_value x); (on_goal 1 => dsimp only [x]; clear x)) | clear_value x)
    | apply State.setLog_grows | apply State.showLog_grows | apply State.payLoss_grows | apply State.spillNext_grows
    | apply State.showView_grows | fail_if_no_progress apply mk_grows | apply ite_grows | split

theorem State.logSelWrite_grows {b₀ : State} {s : State} {v : Nat} (h0 : b₀.Grows s) : b₀.Grows (State.logSelWrite s v) := by
  delta State.logSelWrite
  repeat' first
    | with_reducible assumption | (intro x; fail_if_success clear_value x)
    | ((try lift_lets -underBinder); intro x; first | (refine (have _ : b₀.Grows x := ?_; ?_); (on_goal 2 => clear_value x); (on_goal 1 => dsimp only [x]; clear x)) | clear_value x)
    | intro _ | with_reducible apply State.put_grows | with_reducible apply State.showView_grows
    | with_reducible fail_if_no_progress apply mk_grows | with_reducible apply ite_grows
    | with_reducible apply fst_ite_grows | with_reducible apply foldl_grows

theorem execLogRdWrite_grows {b₀ : State} {d : Dev} {v : Word} {s : State} (h0 : b₀.Grows s) :
    Safe b₀ (execLogRdWrite d v s) := by
  delta execLogRdWrite
  repeat' first
    | with_reducible assumption | intro _ | with_reducible apply finish_grows
    | with_reducible apply State.viaBus_grows | with_reducible apply State.logAdvance_grows

theorem execLogSelWrite_grows {b₀ : State} {v : Word} {s : State} (h0 : b₀.Grows s) : Safe b₀ (execLogSelWrite v s) := by
  delta execLogSelWrite
  repeat' first
    | with_reducible assumption | intro _ | with_reducible apply finish_grows
    | with_reducible apply State.viaBus_grows | with_reducible apply State.logSelWrite_grows

theorem execLogCoalesceEnd_grows {b₀ : State} {seq : Word} {s : State} (h0 : b₀.Grows s) :
    Safe b₀ (execLogCoalesceEnd seq s) := by
  delta execLogCoalesceEnd
  with_reducible repeat' first
    | assumption
    | ((try lift_lets -underBinder); intro x; first | (refine (have _ : b₀.Grows x := ?_; ?_); (on_goal 2 => clear_value x); (on_goal 1 => dsimp only [x]; clear x)) | clear_value x)
    | apply finish_grows | apply State.spillNext_grows | apply State.forward_grows | apply State.setLog_grows
    | apply ite_safe | apply next_safe | apply ite_grows | split

theorem execLogSpillDone_grows {b₀ : State} {ok : Bool} {s : State} (h0 : b₀.Grows s) : Safe b₀ (execLogSpillDone ok s) := by
  delta execLogSpillDone
  with_reducible repeat' first
    | assumption
    | ((try lift_lets -underBinder); intro x; first | (refine (have _ : b₀.Grows x := ?_; ?_); (on_goal 2 => clear_value x); (on_goal 1 => dsimp only [x]; clear x)) | clear_value x)
    | apply finish_grows | apply State.logicWork_grows | apply State.setLog_grows | apply State.put_grows
    | apply State.showLog_grows | apply State.payLoss_grows | apply State.spillNext_grows | apply State.report_grows
    | apply ite_safe | apply next_safe | fail_if_no_progress apply mk_grows | apply ite_grows | split

theorem execRateSummary_grows {b₀ : State} {d : Dev} {s : State} (h0 : b₀.Grows s) : Safe b₀ (execRateSummary d s) := by
  delta execRateSummary
  with_reducible repeat' first
    | assumption | ((try lift_lets -underBinder); intro x; clear_value x) | apply finish_grows
    | apply State.setLog_grows | apply State.logKind_grows | apply ite_safe | apply next_safe
    | fail_if_no_progress apply mk_grows | apply ite_grows

theorem execLogRead_grows {b₀ : State} {c : CmdCtx} {first : Word} {count : Byte} {s : State} (h0 : b₀.Grows s) :
    Safe b₀ (execLogRead c first count s) := by
  delta execLogRead
  with_reducible repeat' first
    | assumption | ((try lift_lets -underBinder); intro x; clear_value x) | apply finish_grows
    | apply State.answer_grows | apply ite_safe | apply next_safe | apply ite_grows

theorem execLogAdvance_grows {b₀ : State} {c : CmdCtx} {seq : Word} {s : State} (h0 : b₀.Grows s) :
    Safe b₀ (execLogAdvance c seq s) := by
  delta execLogAdvance
  with_reducible repeat' first
    | assumption | apply finish_grows | apply State.logAdvance_grows | apply State.answer_grows

end Sys2Proof.Machine
end

