-- ==== Sys2Proof/Laws/GrowsOptCmd.lean ====
section
/-! SUPPORT. Every operation and meaning of Machine/OptCmd.lean grows the state it is given: one lemma each. -/

namespace Sys2Proof.Machine

open Sys2Proof

theorem State.quietTake_grows {b₀ : State} {s : State} {n : Nat} {start : Packed} {window : Word} {m : GroupMsg} (h0 : b₀.Grows s) :
    b₀.Grows (State.quietTake s n start window m) := by
  delta State.quietTake
  repeat' first
    | with_reducible assumption | (intro x; fail_if_success clear_value x)
    | ((try lift_lets -underBinder); intro x; first | (refine (have _ : b₀.Grows x := ?_; ?_); (on_goal 2 => clear_value x); (on_goal 1 => dsimp only [x]; clear x)) | clear_value x)
    | intro _ | with_reducible apply State.engine_grows | with_reducible apply State.bumpSat_grows
    | with_reducible apply State.keepWindow_grows | with_reducible apply State.doIf_grows
    | with_reducible fail_if_no_progress apply mk_grows | with_reducible apply ite_grows

theorem execQuiet_grows {b₀ : State} {p : Path} {m : GroupMsg} {s : State} (h0 : b₀.Grows s) : Safe b₀ (execQuiet p m s) := by
  delta execQuiet
  with_reducible repeat' first
    | assumption
    | ((try lift_lets -underBinder); intro x; (refine (have _ : b₀.Grows x := ?_; ?_); (on_goal 2 => clear_value x); (on_goal 1 => dsimp only [x]; clear x)))
    | apply finish_grows | apply State.frameDrop_grows | apply State.absorbed_grows | apply State.staleMsg_grows
    | apply State.quietTake_grows | apply ite_safe | apply next_safe | fail_if_no_progress apply mk_grows
    | apply ite_grows | split

theorem State.ocsArm_grows {b₀ : State} {s : State} {o : Nat} (h0 : b₀.Grows s) : b₀.Grows (State.ocsArm s o) := by
  delta State.ocsArm
  with_reducible repeat' first
    | assumption
    | ((try lift_lets -underBinder); intro x; first | (refine (have _ : b₀.Grows x := ?_; ?_); (on_goal 2 => clear_value x); (on_goal 1 => dsimp only [x]; clear x)) | clear_value x)
    | apply State.put_grows | apply State.setOcs_grows | apply State.ocsAwait_grows
    | fail_if_no_progress apply mk_grows | apply ite_grows

theorem State.ocsCancel_grows {b₀ : State} {s : State} {o : Nat} (h0 : b₀.Grows s) : b₀.Grows (State.ocsCancel s o) := by
  delta State.ocsCancel
  with_reducible repeat' first
    | assumption | apply State.setOcs_grows | apply State.put_grows

theorem State.ocsCtrl_grows {b₀ : State} {s : State} {o v : Nat} (h0 : b₀.Grows s) : b₀.Grows (State.ocsCtrl s o v) := by
  delta State.ocsCtrl
  with_reducible repeat' first
    | assumption
    | ((try lift_lets -underBinder); intro x; (refine (have _ : b₀.Grows x := ?_; ?_); (on_goal 2 => clear_value x); (on_goal 1 => dsimp only [x]; clear x)))
    | apply State.put_grows | apply State.ocsCancel_grows | apply State.ocsArm_grows | apply ite_grows

theorem execOcsArmWrite_grows {b₀ : State} {o : Fin 4} {v : Word} {s : State} (h0 : b₀.Grows s) :
    Safe b₀ (execOcsArmWrite o v s) := by
  delta execOcsArmWrite
  repeat' first
    | with_reducible assumption | intro _ | with_reducible apply finish_grows
    | with_reducible apply State.viaBus_grows | with_reducible apply State.ocsCtrl_grows

theorem execOcsCancelWrite_grows {b₀ : State} {o : Fin 4} {v : Word} {s : State} (h0 : b₀.Grows s) :
    Safe b₀ (execOcsCancelWrite o v s) := by
  delta execOcsCancelWrite
  repeat' first
    | with_reducible assumption | intro _ | with_reducible apply finish_grows
    | with_reducible apply State.viaBus_grows | with_reducible apply State.ocsCtrl_grows

theorem State.ocsFire_grows {b₀ : State} {s : State} {o : Fin 4} {x : Ocs} {t : Nat} (h0 : b₀.Grows s) :
    b₀.Grows (State.ocsFire s o x t) := by
  delta State.ocsFire
  repeat' first
    | with_reducible assumption | (intro x; fail_if_success clear_value x)
    | ((try lift_lets -underBinder); intro x; first | (refine (have _ : b₀.Grows x := ?_; ?_); (on_goal 2 => clear_value x); (on_goal 1 => dsimp only [x]; clear x)) | clear_value x)
    | intro _ | with_reducible apply State.emit_grows | with_reducible apply State.setOcs_grows
    | with_reducible apply State.put_grows | with_reducible apply State.bump_grows
    | with_reducible apply State.showSwitching_grows | with_reducible fail_if_no_progress apply mk_grows
    | with_reducible apply foldl_grows

theorem execOcsPulse_grows {b₀ : State} {o : Fin 4} {s : State} (h0 : b₀.Grows s) : Safe b₀ (execOcsPulse o s) := by
  delta execOcsPulse
  with_reducible repeat' first
    | assumption | ((try lift_lets -underBinder); intro x; clear_value x) | apply finish_grows
    | apply State.ocsFire_grows | apply ite_safe | apply next_safe | apply ite_grows | split

theorem State.ocsEnd_grows {b₀ : State} {s : State} {o : Fin 4} {x : Ocs} (h0 : b₀.Grows s) : b₀.Grows (State.ocsEnd s o x) := by
  delta State.ocsEnd
  repeat' first
    | with_reducible assumption | (intro x; fail_if_success clear_value x)
    | ((try lift_lets -underBinder); intro x; first | (refine (have _ : b₀.Grows x := ?_; ?_); (on_goal 2 => clear_value x); (on_goal 1 => dsimp only [x]; clear x)) | (refine (have _ : b₀.Grows x.1 := ?_; ?_); (on_goal 2 => clear_value x); (on_goal 1 => dsimp only [x]; clear x)))
    | intro _ | with_reducible apply State.setOcs_grows | with_reducible apply State.showSwitching_grows
    | with_reducible fail_if_no_progress apply mk_grows | with_reducible apply foldl_grows

theorem execOcsSwitchTimeout_grows {b₀ : State} {o : Fin 4} {s : State} (h0 : b₀.Grows s) :
    Safe b₀ (execOcsSwitchTimeout o s) := by
  delta execOcsSwitchTimeout
  with_reducible repeat' first
    | assumption | ((try lift_lets -underBinder); intro x; clear_value x) | apply finish_grows
    | apply State.ocsEnd_grows | apply ite_safe | apply next_safe | apply ite_grows | split

theorem execOptStatus_grows {b₀ : State} {c : CmdCtx} {e : Byte} {s : State} (h0 : b₀.Grows s) :
    Safe b₀ (execOptStatus c e s) := by
  delta execOptStatus
  with_reducible repeat' first
    | assumption | apply done_grows | apply State.answer_grows | apply State.logCommand_grows | apply ite_safe
    | apply next_safe | apply ite_grows

theorem execOptLines_grows {b₀ : State} {c : CmdCtx} {e : Byte} {s : State} (h0 : b₀.Grows s) : Safe b₀ (execOptLines c e s) := by
  delta execOptLines
  with_reducible repeat' first
    | assumption | apply done_grows | apply State.answer_grows | apply State.showLit_grows
    | apply State.logCommand_grows | apply ite_safe | apply next_safe | apply ite_grows

theorem State.optSwap_grows {b₀ : State} {s : State} {c : CmdCtx} {e l : Byte} {k : Nat} (h0 : b₀.Grows s) :
    b₀.Grows (State.optSwap s c e l k) := by
  delta State.optSwap
  with_reducible repeat' first
    | assumption
    | ((try lift_lets -underBinder); intro x; first | (refine (have _ : b₀.Grows x := ?_; ?_); (on_goal 2 => clear_value x); (on_goal 1 => dsimp only [x]; clear x)) | clear_value x)
    | apply State.accept_grows | apply State.setLine_grows | apply State.warmSpare_grows

theorem execOptSwap_grows {b₀ : State} {c : CmdCtx} {e l : Byte} {s : State} (h0 : b₀.Grows s) :
    Safe b₀ (execOptSwap c e l s) := by
  delta execOptSwap
  with_reducible repeat' first
    | assumption | apply finish_grows | apply State.answer_grows | apply State.optSwap_grows | apply ite_safe
    | apply next_safe | apply ite_grows | split

theorem State.optResearch_grows {b₀ : State} {s : State} {c : CmdCtx} {port : Byte} (h0 : b₀.Grows s) :
    b₀.Grows (State.optResearch s c port) := by
  delta State.optResearch
  with_reducible repeat' first
    | assumption
    | ((try lift_lets -underBinder); intro x; first | (refine (have _ : b₀.Grows x := ?_; ?_); (on_goal 2 => clear_value x); (on_goal 1 => dsimp only [x]; clear x)) | clear_value x)
    | apply State.accept_grows | apply State.searchAgain_grows | apply State.complete_grows | apply ite_grows

theorem execOptResearch_grows {b₀ : State} {c : CmdCtx} {port : Byte} {s : State} (h0 : b₀.Grows s) :
    Safe b₀ (execOptResearch c port s) := by
  delta execOptResearch
  with_reducible repeat' first
    | assumption | apply finish_grows | apply State.answer_grows | apply State.optResearch_grows | apply ite_safe
    | apply next_safe | apply ite_grows

theorem State.ocsArmCmd_grows {b₀ : State} {s : State} {c : CmdCtx} {o mode up : Byte} {at_ : Packed} {ports : BitVec 64} {width settle : BitVec 16} (h0 : b₀.Grows s) :
    b₀.Grows (State.ocsArmCmd s c o mode up at_ ports width settle) := by
  delta State.ocsArmCmd
  with_reducible repeat' first
    | assumption
    | ((try lift_lets -underBinder); intro x; first | (refine (have _ : b₀.Grows x := ?_; ?_); (on_goal 2 => clear_value x); (on_goal 1 => dsimp only [x]; clear x)) | clear_value x)
    | apply State.put_grows | apply State.settle_grows | apply State.ocsCtrl_grows | apply State.answer_grows
    | apply State.logCommand_grows | apply ite_grows

theorem execOcsArm_grows {b₀ : State} {c : CmdCtx} {o mode up : Byte} {at_ : Packed} {ports : BitVec 64} {width settle : BitVec 16} {s : State} (h0 : b₀.Grows s) :
    Safe b₀ (execOcsArm c o mode up at_ ports width settle s) := by
  delta execOcsArm
  with_reducible repeat' first
    | assumption | apply finish_grows | apply State.answer_grows | apply State.ocsArmCmd_grows
    | apply State.settle_grows | apply ite_safe | apply next_safe | apply ite_grows

theorem execOcsCancel_grows {b₀ : State} {c : CmdCtx} {o : Byte} {s : State} (h0 : b₀.Grows s) :
    Safe b₀ (execOcsCancel c o s) := by
  delta execOcsCancel
  with_reducible repeat' first
    | assumption | apply finish_grows | apply State.answer_grows | apply State.ocsCancel_grows
    | apply State.logCommand_grows | apply ite_safe | apply next_safe | apply ite_grows

end Sys2Proof.Machine
end

