-- ==== Sys2Proof/Laws/GrowsPowerCmd.lean ====
section
/-! SUPPORT. Every operation and meaning of Machine/PowerCmd.lean grows the state it is given: one lemma each. -/

namespace Sys2Proof.Machine

open Sys2Proof

theorem execActivityEvent_grows {b₀ : State} {r : Fin 64} {k : Fin 32} {s : State} (h0 : b₀.Grows s) :
    Safe b₀ (execActivityEvent r k s) := by
  delta execActivityEvent
  with_reducible repeat' first
    | assumption | ((try lift_lets -underBinder); intro x; clear_value x) | apply State.setRegion_grows
    | apply ite_safe | apply next_safe | fail_if_no_progress apply mk_grows | apply ite_grows

theorem State.sampleShow_grows {b₀ : State} {s : State} {lim : Option Int} {total worst now : Nat} (h0 : b₀.Grows s) :
    b₀.Grows (State.sampleShow s lim total worst now) := by
  delta State.sampleShow
  with_reducible repeat' first
    | assumption
    | ((try lift_lets -underBinder); intro x; first | (refine (have _ : b₀.Grows x := ?_; ?_); (on_goal 2 => clear_value x); (on_goal 1 => dsimp only [x]; clear x)) | clear_value x)
    | apply State.put_grows | apply State.putB_grows | apply State.putSat_grows | apply State.showTemp_grows
    | apply State.setPg_grows | apply State.setRun_grows | fail_if_no_progress apply mk_grows | apply ite_grows
    | split

theorem State.sample_grows {b₀ : State} {s : State} {k : Nat} {p : Power} {now : Nat} {temps : List (BitVec 8)} (h0 : b₀.Grows s) :
    b₀.Grows (State.sample s k p now temps) := by
  delta State.sample
  repeat' first
    | with_reducible assumption | (intro x; fail_if_success clear_value x)
    | ((try lift_lets -underBinder); intro x; first | (refine (have _ : b₀.Grows x := ?_; ?_); (on_goal 2 => clear_value x); (on_goal 1 => dsimp only [x]; clear x)) | clear_value x)
    | intro _ | with_reducible apply State.setPg_grows | with_reducible apply State.boost_grows
    | with_reducible apply State.sampleRegion_grows | with_reducible apply State.ceilTest_grows
    | with_reducible apply State.floorTest_grows | with_reducible apply State.setDensity_grows
    | with_reducible apply State.sampleShow_grows | with_reducible apply State.hintRequests_grows
    | with_reducible apply State.deferRequest_grows | with_reducible fail_if_no_progress apply mk_grows
    | with_reducible apply ite_grows | with_reducible apply fst_ite_grows | with_reducible apply foldl_grows

theorem execActivitySample_grows {b₀ : State} {temps : List (BitVec 8)} {s : State} (h0 : b₀.Grows s) :
    Safe b₀ (execActivitySample temps s) := by
  delta execActivitySample
  with_reducible repeat' first
    | assumption | ((try lift_lets -underBinder); intro x; clear_value x) | apply finish_grows
    | apply State.sample_grows | apply ite_safe | apply next_safe | apply ite_grows

theorem execBoostRearm_grows {b₀ : State} {s : State} (h0 : b₀.Grows s) : Safe b₀ (execBoostRearm s) := by
  delta execBoostRearm
  with_reducible repeat' first
    | assumption | apply State.put_grows | apply ite_safe | apply next_safe | apply ite_grows | split

theorem execDetSlotBoundary_grows {b₀ : State} {r : Fin 64} {s : State} (h0 : b₀.Grows s) :
    Safe b₀ (execDetSlotBoundary r s) := by
  delta execDetSlotBoundary
  with_reducible repeat' first
    | assumption | ((try lift_lets -underBinder); intro x; clear_value x) | apply State.setRegion_grows
    | apply ite_safe | apply next_safe | fail_if_no_progress apply mk_grows | apply ite_grows

theorem execPgCapWrite_grows {b₀ : State} {v : Word} {s : State} (h0 : b₀.Grows s) : Safe b₀ (execPgCapWrite v s) := by
  delta execPgCapWrite
  repeat' first
    | with_reducible assumption | intro _ | with_reducible apply State.viaBus_grows
    | with_reducible apply State.pgCapWrite_grows | with_reducible apply ite_safe | with_reducible apply next_safe

theorem execPgLoCapture_grows {b₀ : State} {total : Bool} {s : State} (h0 : b₀.Grows s) : Safe b₀ (execPgLoCapture total s) := by
  delta execPgLoCapture
  repeat' first
    | with_reducible assumption | intro _ | with_reducible apply State.viaRead_grows
    | with_reducible apply State.capturePg_grows | with_reducible apply ite_safe | with_reducible apply next_safe

theorem execPgRegionCapture_grows {b₀ : State} {r : Fin 64} {s : State} (h0 : b₀.Grows s) :
    Safe b₀ (execPgRegionCapture r s) := by
  delta execPgRegionCapture
  repeat' first
    | with_reducible assumption | intro _ | with_reducible apply State.viaRead_grows
    | with_reducible apply State.capturePgRegion_grows | with_reducible apply ite_safe
    | with_reducible apply next_safe | with_reducible apply ite_grows | split

theorem State.warn_grows {b₀ : State} {s : State} {r : Nat} {temp : BitVec 8} (h0 : b₀.Grows s) :
    b₀.Grows (State.warn s r temp) := by
  delta State.warn
  with_reducible repeat' first
    | assumption
    | ((try lift_lets -underBinder); intro x; first | (refine (have _ : b₀.Grows x := ?_; ?_); (on_goal 2 => clear_value x); (on_goal 1 => dsimp only [x]; clear x)) | clear_value x)
    | apply State.setRegion_grows | apply State.showTemp_grows | apply State.setPg_grows | apply State.put_grows
    | apply State.logChange_grows | apply State.lowerCeil_grows | fail_if_no_progress apply mk_grows | apply ite_grows

theorem execThermalWarning_grows {b₀ : State} {r : Fin 64} {temp : BitVec 8} {s : State} (h0 : b₀.Grows s) :
    Safe b₀ (execThermalWarning r temp s) := by
  delta execThermalWarning
  with_reducible repeat' first
    | assumption | apply State.warn_grows | apply ite_safe | apply next_safe | apply ite_grows

theorem execTwarnCeilStep_grows {b₀ : State} {s : State} (h0 : b₀.Grows s) : Safe b₀ (execTwarnCeilStep s) := by
  delta execTwarnCeilStep
  with_reducible repeat' first
    | assumption | ((try lift_lets -underBinder); intro x; clear_value x) | apply State.setPg_grows
    | apply State.lowerCeil_grows | apply ite_safe | apply next_safe | fail_if_no_progress apply mk_grows
    | apply ite_grows

theorem execTwarnClear_grows {b₀ : State} {s : State} (h0 : b₀.Grows s) : Safe b₀ (execTwarnClear s) := by
  delta execTwarnClear
  with_reducible repeat' first
    | assumption | ((try lift_lets -underBinder); intro x; clear_value x) | apply State.put_grows
    | apply State.setPg_grows | apply ite_safe | apply next_safe | fail_if_no_progress apply mk_grows
    | apply ite_grows

theorem State.stopRegions_grows {b₀ : State} {s : State} (h0 : b₀.Grows s) : b₀.Grows (State.stopRegions s) := by
  delta State.stopRegions
  repeat' first
    | with_reducible assumption | intro _ | with_reducible apply State.emit_grows | with_reducible apply foldl_grows

theorem State.trip_grows {b₀ : State} {s : State} {r : Nat} {temp : BitVec 8} (h0 : b₀.Grows s) :
    b₀.Grows (State.trip s r temp) := by
  delta State.trip
  with_reducible repeat' first
    | assumption
    | ((try lift_lets -underBinder); intro x; first | (refine (have _ : b₀.Grows x := ?_; ?_); (on_goal 2 => clear_value x); (on_goal 1 => dsimp only [x]; clear x)) | clear_value x)
    | apply State.setRegion_grows | apply State.showTemp_grows | apply State.emit_grows
    | apply State.stopRegions_grows | apply State.put_grows | apply State.logKind_grows
    | apply State.faultActive_grows

theorem execThermalTrip_grows {b₀ : State} {r : Fin 64} {temp : BitVec 8} {s : State} (h0 : b₀.Grows s) :
    Safe b₀ (execThermalTrip r temp s) := by
  delta execThermalTrip
  with_reducible repeat' first
    | assumption | apply finish_grows | apply State.trip_grows | apply ite_safe | apply next_safe | apply ite_grows

theorem execPgStatus_grows {b₀ : State} {c : CmdCtx} {s : State} (h0 : b₀.Grows s) : Safe b₀ (execPgStatus c s) := by
  delta execPgStatus
  with_reducible repeat' first
    | assumption | apply finish_grows | apply State.answer_grows | apply ite_safe | apply next_safe | apply ite_grows

theorem State.pgCap_grows {b₀ : State} {s : State} {c : CmdCtx} {cap1 cap10 : BitVec 16} (h0 : b₀.Grows s) :
    b₀.Grows (State.pgCap s c cap1 cap10) := by
  delta State.pgCap
  with_reducible repeat' first
    | assumption
    | ((try lift_lets -underBinder); intro x; first | (refine (have _ : b₀.Grows x := ?_; ?_); (on_goal 2 => clear_value x); (on_goal 1 => dsimp only [x]; clear x)) | clear_value x)
    | apply State.again_grows | apply State.setCaps_grows | apply State.answer_grows | apply State.report_grows

theorem execPgCap_grows {b₀ : State} {c : CmdCtx} {cap1 cap10 : BitVec 16} {s : State} (h0 : b₀.Grows s) :
    Safe b₀ (execPgCap c cap1 cap10 s) := by
  delta execPgCap
  with_reducible repeat' first
    | assumption | apply finish_grows | apply State.answer_grows | apply State.pgCap_grows | apply ite_safe
    | apply next_safe | apply ite_grows

theorem execPgEnergy_grows {b₀ : State} {c : CmdCtx} {s : State} (h0 : b₀.Grows s) : Safe b₀ (execPgEnergy c s) := by
  delta execPgEnergy
  with_reducible repeat' first
    | assumption | apply finish_grows | apply State.answer_grows | apply ite_safe | apply next_safe | apply ite_grows

theorem State.pgRegions_grows {b₀ : State} {s : State} {c : CmdCtx} {first regions : Byte} (h0 : b₀.Grows s) :
    b₀.Grows (State.pgRegions s c first regions) := by
  delta State.pgRegions
  with_reducible repeat' first
    | assumption
    | ((try lift_lets -underBinder); intro x; first | (refine (have _ : b₀.Grows x := ?_; ?_); (on_goal 2 => clear_value x); (on_goal 1 => dsimp only [x]; clear x)) | clear_value x)
    | apply State.capturePgRegion_grows | apply State.answer_grows | apply foldl_grows

theorem execPgRegions_grows {b₀ : State} {c : CmdCtx} {first regions : Byte} {s : State} (h0 : b₀.Grows s) :
    Safe b₀ (execPgRegions c first regions s) := by
  delta execPgRegions
  with_reducible repeat' first
    | assumption | apply finish_grows | apply State.answer_grows | apply State.pgRegions_grows | apply ite_safe
    | apply next_safe | apply ite_grows

theorem execPgModel_grows {b₀ : State} {c : CmdCtx} {s : State} (h0 : b₀.Grows s) : Safe b₀ (execPgModel c s) := by
  delta execPgModel
  with_reducible repeat' first
    | assumption | apply finish_grows | apply State.answer_grows | apply ite_safe | apply next_safe | apply ite_grows

end Sys2Proof.Machine
end

