-- ==== Sys2Proof/Laws/GrowsRefs.lean ====
section
/-! SUPPORT. Every operation and meaning of Machine/Refs.lean grows the state it is given: one lemma each. -/

namespace Sys2Proof.Machine

open Sys2Proof

theorem State.setRefIn_grows {b₀ : State} {s : State} {i : Nat} {x : RefIn} (h0 : b₀.Grows s) :
    b₀.Grows (State.setRefIn s i x) := by
  delta State.setRefIn
  with_reducible repeat' first
    | assumption | apply State.setRefs_grows

theorem State.setPtp_grows {b₀ : State} {s : State} {p : Nat} {x : PtpPort} (h0 : b₀.Grows s) :
    b₀.Grows (State.setPtp s p x) := by
  delta State.setPtp
  with_reducible repeat' first
    | assumption | apply State.setRefs_grows

theorem State.showTimers_grows {b₀ : State} {s : State} {i : Nat} (h0 : b₀.Grows s) : b₀.Grows (State.showTimers s i) := by
  delta State.showTimers
  with_reducible repeat' first
    | assumption
    | ((try lift_lets -underBinder); intro x; first | (refine (have _ : b₀.Grows x := ?_; ?_); (on_goal 2 => clear_value x); (on_goal 1 => dsimp only [x]; clear x)) | clear_value x)
    | apply State.put_grows

theorem State.showWtr_grows {b₀ : State} {s : State} {i : Nat} (h0 : b₀.Grows s) : b₀.Grows (State.showWtr s i) := by
  delta State.showWtr
  with_reducible repeat' first
    | assumption | ((try lift_lets -underBinder); intro x; clear_value x) | apply State.putB_grows
    | apply State.showTimers_grows

theorem State.showWtrs_grows {b₀ : State} {s : State} (h0 : b₀.Grows s) : b₀.Grows (State.showWtrs s) := by
  delta State.showWtrs
  with_reducible repeat' first
    | assumption | apply State.showWtr_grows | apply foldl_grows

theorem State.setQual_grows {b₀ : State} {s : State} {i q cause : Nat} (h0 : b₀.Grows s) :
    b₀.Grows (State.setQual s i q cause) := by
  delta State.setQual
  with_reducible repeat' first
    | assumption
    | ((try lift_lets -underBinder); intro x; first | (refine (have _ : b₀.Grows x := ?_; ?_); (on_goal 2 => clear_value x); (on_goal 1 => dsimp only [x]; clear x)) | clear_value x)
    | apply State.put_grows | apply State.setRefIn_grows | apply State.showWtr_grows | apply State.logChange_grows
    | fail_if_no_progress apply mk_grows | apply ite_grows

theorem State.rejectInput_grows {b₀ : State} {s : State} {i cause : Nat} (h0 : b₀.Grows s) :
    b₀.Grows (State.rejectInput s i cause) := by
  delta State.rejectInput
  with_reducible repeat' first
    | assumption
    | ((try lift_lets -underBinder); intro x; first | (refine (have _ : b₀.Grows x := ?_; ?_); (on_goal 2 => clear_value x); (on_goal 1 => dsimp only [x]; clear x)) | clear_value x)
    | apply State.setQual_grows | apply State.bumpSat_grows | apply State.put_grows | apply ite_grows

theorem State.beginQual_grows {b₀ : State} {s : State} {i : Nat} (h0 : b₀.Grows s) : b₀.Grows (State.beginQual s i) := by
  delta State.beginQual
  with_reducible repeat' first
    | assumption | ((try lift_lets -underBinder); intro x; clear_value x) | apply State.setQual_grows
    | apply ite_grows

theorem State.takeUtc_grows {b₀ : State} {s : State} (h0 : b₀.Grows s) : b₀.Grows (State.takeUtc s) := by
  delta State.takeUtc
  with_reducible repeat' first
    | assumption | ((try lift_lets -underBinder); intro x; clear_value x) | apply State.put_grows
    | apply State.putB_grows | apply ite_grows

theorem State.absorbBearing_grows {b₀ : State} {s : State} {i : Nat} (h0 : b₀.Grows s) : b₀.Grows (State.absorbBearing s i) := by
  delta State.absorbBearing
  with_reducible repeat' first
    | assumption
    | ((try lift_lets -underBinder); intro x; first | (refine (have _ : b₀.Grows x := ?_; ?_); (on_goal 2 => clear_value x); (on_goal 1 => dsimp only [x]; clear x)) | clear_value x)
    | apply State.putSSat_grows | apply State.setRefs_grows | apply State.put_grows | apply State.bump_grows
    | apply State.logChange_grows

theorem State.switchTo_grows {b₀ : State} {s : State} {new : Nat} (h0 : b₀.Grows s) : b₀.Grows (State.switchTo s new) := by
  delta State.switchTo
  repeat' first
    | with_reducible assumption | (intro x; fail_if_success clear_value x)
    | ((try lift_lets -underBinder); intro x; first | (refine (have _ : b₀.Grows x := ?_; ?_); (on_goal 2 => clear_value x); (on_goal 1 => dsimp only [x]; clear x)) | clear_value x)
    | intro _ | with_reducible apply State.again_grows | with_reducible apply State.setRefs_grows
    | with_reducible apply State.doIf_grows | with_reducible apply State.absorbBearing_grows
    | with_reducible apply State.put_grows | with_reducible apply State.setOwn_grows
    | with_reducible apply State.showWtrs_grows | with_reducible apply State.logChange_grows
    | with_reducible fail_if_no_progress apply mk_grows | with_reducible apply ite_grows

theorem State.assist_grows {b₀ : State} {s : State} (h0 : b₀.Grows s) : b₀.Grows (State.assist s) := by
  delta State.assist
  with_reducible repeat' first
    | assumption | ((try lift_lets -underBinder); intro x; clear_value x) | apply State.setClk_grows
    | apply State.put_grows | fail_if_no_progress apply mk_grows | apply ite_grows

theorem State.assistEnd_grows {b₀ : State} {s : State} (h0 : b₀.Grows s) : b₀.Grows (State.assistEnd s) := by
  delta State.assistEnd
  with_reducible repeat' first
    | assumption
    | ((try lift_lets -underBinder); intro x; first | (refine (have _ : b₀.Grows x := ?_; ?_); (on_goal 2 => clear_value x); (on_goal 1 => dsimp only [x]; clear x)) | clear_value x)
    | apply State.put_grows | apply State.setClk_grows | fail_if_no_progress apply mk_grows | apply ite_grows

theorem State.masterState_grows {b₀ : State} {s : State} (h0 : b₀.Grows s) : b₀.Grows (State.masterState s) := by
  delta State.masterState
  with_reducible repeat' first
    | assumption | ((try lift_lets -underBinder); intro x; clear_value x) | apply State.setOwn_grows
    | apply State.showEst_grows | apply ite_grows

theorem State.bearingCheck_grows {b₀ : State} {s : State} {i : Nat} (h0 : b₀.Grows s) : b₀.Grows (State.bearingCheck s i) := by
  delta State.bearingCheck
  with_reducible repeat' first
    | assumption | ((try lift_lets -underBinder); intro x; clear_value x) | apply State.setQual_grows
    | apply ite_grows

theorem State.refuseInput_grows {b₀ : State} {s : State} {i : Nat} {step : Int} (h0 : b₀.Grows s) :
    b₀.Grows (State.refuseInput s i step) := by
  delta State.refuseInput
  with_reducible repeat' first
    | assumption
    | ((try lift_lets -underBinder); intro x; first | (refine (have _ : b₀.Grows x := ?_; ?_); (on_goal 2 => clear_value x); (on_goal 1 => dsimp only [x]; clear x)) | clear_value x)
    | apply State.setRefIn_grows | apply State.setQual_grows | apply State.put_grows | apply State.bumpSat_grows
    | apply State.putSSat_grows | apply State.logChange_grows

theorem State.takeFreq_grows {b₀ : State} {s : State} {ppt : Int} (h0 : b₀.Grows s) : b₀.Grows (State.takeFreq s ppt) := by
  delta State.takeFreq
  with_reducible repeat' first
    | assumption | ((try lift_lets -underBinder); intro x; clear_value x) | apply State.setClk_grows
    | apply State.putSSat_grows | fail_if_no_progress apply mk_grows | apply ite_grows

theorem State.inputMeasured_grows {b₀ : State} {s : State} {i : Nat} {freqPpt : BitVec 32} (h0 : b₀.Grows s) :
    b₀.Grows (State.inputMeasured s i freqPpt) := by
  delta State.inputMeasured
  repeat' first
    | with_reducible assumption | (intro x; fail_if_success clear_value x)
    | ((try lift_lets -underBinder); intro x; first | (refine (have _ : b₀.Grows x := ?_; ?_); (on_goal 2 => clear_value x); (on_goal 1 => dsimp only [x]; clear x)) | clear_value x)
    | intro _ | with_reducible apply State.put_grows | with_reducible apply State.setQual_grows
    | with_reducible apply State.putSSat_grows | with_reducible apply State.doIf_grows
    | with_reducible apply State.beginQual_grows | with_reducible apply State.takeFreq_grows
    | with_reducible apply State.rejectInput_grows | with_reducible apply State.assistEnd_grows
    | with_reducible apply State.setRefIn_grows | with_reducible fail_if_no_progress apply mk_grows
    | with_reducible apply ite_grows

theorem State.lockoutTaken_grows {b₀ : State} {s : State} {i : Nat} {on : Bool} (h0 : b₀.Grows s) :
    b₀.Grows (State.lockoutTaken s i on) := by
  delta State.lockoutTaken
  with_reducible repeat' first
    | assumption
    | ((try lift_lets -underBinder); intro x; first | (refine (have _ : b₀.Grows x := ?_; ?_); (on_goal 2 => clear_value x); (on_goal 1 => dsimp only [x]; clear x)) | clear_value x)
    | apply State.setQual_grows | apply State.doIf_grows | apply State.assistEnd_grows | apply ite_grows

theorem State.takeRefEvent_grows {b₀ : State} {s : State} {x₀ : RefEvent} (h0 : b₀.Grows s) :
    b₀.Grows (State.takeRefEvent s x₀) := by
  delta State.takeRefEvent
  with_reducible repeat' first
    | assumption | apply State.refuseInput_grows | apply State.inputMeasured_grows | apply State.rejectInput_grows
    | apply State.lockoutTaken_grows | split

theorem State.takeRefEvents_grows {b₀ : State} {s : State} (h0 : b₀.Grows s) : b₀.Grows (State.takeRefEvents s) := by
  delta State.takeRefEvents
  with_reducible repeat' first
    | assumption | ((try lift_lets -underBinder); intro x; clear_value x) | apply State.takeRefEvent_grows
    | apply State.setRefs_grows | fail_if_no_progress apply mk_grows | apply foldl_grows

theorem State.refEvent_grows {b₀ : State} {s : State} {e : RefEvent} (h0 : b₀.Grows s) : b₀.Grows (State.refEvent s e) := by
  delta State.refEvent
  with_reducible repeat' first
    | assumption | apply State.setRefs_grows

theorem State.workResidual_grows {b₀ : State} {s : State} (h0 : b₀.Grows s) : b₀.Grows (State.workResidual s) := by
  delta State.workResidual
  repeat' first
    | with_reducible assumption | (intro x; fail_if_success clear_value x)
    | ((try lift_lets -underBinder); intro x; first | (refine (have _ : b₀.Grows x := ?_; ?_); (on_goal 2 => clear_value x); (on_goal 1 => dsimp only [x]; clear x)) | clear_value x)
    | intro _ | with_reducible apply State.putS_grows | with_reducible apply State.setRefs_grows
    | with_reducible apply State.doIf_grows | with_reducible apply State.setClk_grows

theorem State.selectorUpdate_grows {b₀ : State} {s : State} (h0 : b₀.Grows s) : b₀.Grows (State.selectorUpdate s) := by
  delta State.selectorUpdate
  with_reducible repeat' first
    | assumption
    | ((try lift_lets -underBinder); intro x; first | (refine (have _ : b₀.Grows x := ?_; ?_); (on_goal 2 => clear_value x); (on_goal 1 => dsimp only [x]; clear x)) | (refine (have _ : b₀.Grows x.1 := ?_; ?_); (on_goal 2 => clear_value x); (on_goal 1 => dsimp only [x]; clear x)))
    | apply State.workResidual_grows | apply State.takeRefEvents_grows | apply State.bearingCheck_grows
    | apply State.switchTo_grows | apply State.putB_grows | apply State.put_grows | apply State.takeUtc_grows
    | apply State.retimeVerard_grows | apply State.masterState_grows | apply State.assist_grows
    | apply State.markMeas_grows | apply ite_grows | apply foldl_grows

theorem execSelectorUpdate_grows {b₀ : State} {s : State} (h0 : b₀.Grows s) : Safe b₀ (execSelectorUpdate s) := by
  delta execSelectorUpdate
  with_reducible repeat' first
    | assumption | apply done_grows | apply State.selectorUpdate_grows

theorem State.observe_grows {b₀ : State} {s : State} {i : Nat} {v : Int} (h0 : b₀.Grows s) : b₀.Grows (State.observe s i v) := by
  delta State.observe
  repeat' first
    | with_reducible assumption | (intro x; fail_if_success clear_value x)
    | ((try lift_lets -underBinder); intro x; first | (refine (have _ : b₀.Grows x := ?_; ?_); (on_goal 2 => clear_value x); (on_goal 1 => dsimp only [x]; clear x)) | clear_value x)
    | intro _ | with_reducible apply State.setRefIn_grows | with_reducible apply State.doIf_grows
    | with_reducible apply State.refEvent_grows | with_reducible apply State.setQual_grows
    | with_reducible apply State.steer_grows | with_reducible fail_if_no_progress apply mk_grows
    | with_reducible apply ite_grows

theorem execInputQualified_grows {b₀ : State} {i : Fin 4} {freqPpt : BitVec 32} {s : State} (h0 : b₀.Grows s) :
    Safe b₀ (execInputQualified i freqPpt s) := by
  delta execInputQualified
  with_reducible repeat' first
    | assumption | apply done_grows | apply State.refEvent_grows | apply ite_safe | apply next_safe | apply ite_grows

theorem execWtrExpiry_grows {b₀ : State} {i : Fin 4} {s : State} (h0 : b₀.Grows s) : Safe b₀ (execWtrExpiry i s) := by
  delta execWtrExpiry
  with_reducible repeat' first
    | assumption | apply done_grows | apply State.put_grows | apply ite_safe | apply next_safe | apply ite_grows

theorem State.ptpExchange_grows {b₀ : State} {s : State} {p : Nat} {delay diff : Int} (h0 : b₀.Grows s) :
    b₀.Grows (State.ptpExchange s p delay diff) := by
  delta State.ptpExchange
  with_reducible repeat' first
    | assumption
    | ((try lift_lets -underBinder); intro x; first | (refine (have _ : b₀.Grows x := ?_; ?_); (on_goal 2 => clear_value x); (on_goal 1 => dsimp only [x]; clear x)) | clear_value x)
    | apply State.setPtp_grows | apply State.putSSat_grows | apply State.putSat_grows | apply State.observe_grows
    | fail_if_no_progress apply mk_grows | apply ite_grows

theorem State.ptpSync_grows {b₀ : State} {s : State} {p : Nat} {rx : Nat} {origin : Packed} {corrPs : Int} (h0 : b₀.Grows s) :
    b₀.Grows (State.ptpSync s p rx origin corrPs) := by
  delta State.ptpSync
  with_reducible repeat' first
    | assumption
    | ((try lift_lets -underBinder); intro x; first | (refine (have _ : b₀.Grows x := ?_; ?_); (on_goal 2 => clear_value x); (on_goal 1 => dsimp only [x]; clear x)) | clear_value x)
    | apply State.setPtp_grows | apply State.ptpExchange_grows | fail_if_no_progress apply mk_grows | apply ite_grows

theorem State.ptpAnnounce_grows {b₀ : State} {s : State} {p : Nat} {src : BitVec 80} {ds : List Nat} {cls : Nat} {tr : Bool} {uo : BitVec 16} {uv : Bool} (h0 : b₀.Grows s) :
    b₀.Grows (State.ptpAnnounce s p src ds cls tr uo uv) := by
  delta State.ptpAnnounce
  with_reducible repeat' first
    | assumption
    | ((try lift_lets -underBinder); intro x; first | (refine (have _ : b₀.Grows x := ?_; ?_); (on_goal 2 => clear_value x); (on_goal 1 => dsimp only [x]; clear x)) | clear_value x)
    | apply State.setRefIn_grows | apply State.put_grows | apply State.putB_grows | apply State.refEvent_grows
    | apply State.beginQual_grows | fail_if_no_progress apply mk_grows | apply ite_grows

theorem State.tsqPush_grows {b₀ : State} {s : State} {p : Nat} {e : TsqEntry} (h0 : b₀.Grows s) :
    b₀.Grows (State.tsqPush s p e) := by
  delta State.tsqPush
  with_reducible repeat' first
    | assumption | ((try lift_lets -underBinder); intro x; clear_value x) | apply State.put_grows
    | apply State.bumpSat_grows | apply State.setPtp_grows | fail_if_no_progress apply mk_grows | apply ite_grows

theorem State.ptpRx_grows {b₀ : State} {s : State} {p : Nat} {m : PtpMsg} {bins : Nat} (h0 : b₀.Grows s) :
    b₀.Grows (State.ptpRx s p m bins) := by
  delta State.ptpRx
  with_reducible repeat' first
    | assumption
    | ((try lift_lets -underBinder); intro x; first | (refine (have _ : b₀.Grows x := ?_; ?_); (on_goal 2 => clear_value x); (on_goal 1 => dsimp only [x]; clear x)) | clear_value x)
    | apply State.bumpSat_grows | apply State.ptpAnnounce_grows | apply State.setRefIn_grows
    | apply State.setPtp_grows | apply State.ptpSync_grows | apply State.emit_grows | apply State.ptpExchange_grows
    | apply State.emitIf_grows | apply State.tsqPush_grows | fail_if_no_progress apply mk_grows | apply ite_grows
    | split

theorem execPtpMessageRx_grows {b₀ : State} {p : Fin 2} {m : PtpMsg} {bins : BitVec 12} {s : State} (h0 : b₀.Grows s) :
    Safe b₀ (execPtpMessageRx p m bins s) := by
  delta execPtpMessageRx
  with_reducible repeat' first
    | assumption | apply done_grows | apply State.ptpRx_grows

theorem State.ptpTx_grows {b₀ : State} {s : State} {p : Nat} {k : PtpTx} {bins : Nat} (h0 : b₀.Grows s) :
    b₀.Grows (State.ptpTx s p k bins) := by
  delta State.ptpTx
  with_reducible repeat' first
    | assumption
    | ((try lift_lets -underBinder); intro x; first | (refine (have _ : b₀.Grows x := ?_; ?_); (on_goal 2 => clear_value x); (on_goal 1 => dsimp only [x]; clear x)) | clear_value x)
    | apply State.setPtp_grows | apply State.emit_grows | apply State.emitIf_grows | apply State.tsqPush_grows
    | fail_if_no_progress apply mk_grows | apply ite_grows | split

theorem execPtpMessageTx_grows {b₀ : State} {p : Fin 2} {k : PtpTx} {bins : BitVec 12} {s : State} (h0 : b₀.Grows s) :
    Safe b₀ (execPtpMessageTx p k bins s) := by
  delta execPtpMessageTx
  with_reducible repeat' first
    | assumption | apply done_grows | apply State.ptpTx_grows

theorem State.ptpSilent_grows {b₀ : State} {s : State} {p : Nat} {x : RefIn} (h0 : b₀.Grows s) :
    b₀.Grows (State.ptpSilent s p x) := by
  delta State.ptpSilent
  with_reducible repeat' first
    | assumption
    | ((try lift_lets -underBinder); intro x; (refine (have _ : b₀.Grows x := ?_; ?_); (on_goal 2 => clear_value x); (on_goal 1 => dsimp only [x]; clear x)))
    | apply State.setRefIn_grows | apply State.put_grows | apply State.rejectInput_grows

theorem execAnnounceTimeout_grows {b₀ : State} {p : Fin 2} {s : State} (h0 : b₀.Grows s) : Safe b₀ (execAnnounceTimeout p s) := by
  delta execAnnounceTimeout
  with_reducible repeat' first
    | assumption | apply done_grows | apply State.ptpSilent_grows | apply ite_safe | apply next_safe | apply ite_grows

theorem State.pps_grows {b₀ : State} {s : State} {bins : BitVec 12} {longHigh : Bool} (h0 : b₀.Grows s) :
    b₀.Grows (State.pps s bins longHigh) := by
  delta State.pps
  with_reducible repeat' first
    | assumption
    | ((try lift_lets -underBinder); intro x; first | (refine (have _ : b₀.Grows x := ?_; ?_); (on_goal 2 => clear_value x); (on_goal 1 => dsimp only [x]; clear x)) | clear_value x)
    | apply State.put_grows | apply State.logChange_grows | apply State.setRefIn_grows | apply State.beginQual_grows
    | apply State.observe_grows | fail_if_no_progress apply mk_grows | apply ite_grows

theorem execPpsEdge_grows {b₀ : State} {bins : BitVec 12} {longHigh : Bool} {s : State} (h0 : b₀.Grows s) :
    Safe b₀ (execPpsEdge bins longHigh s) := by
  delta execPpsEdge
  with_reducible repeat' first
    | assumption | apply done_grows | apply State.pps_grows | apply ite_safe | apply next_safe | apply ite_grows

theorem execPpsEdgeTimeout_grows {b₀ : State} {s : State} (h0 : b₀.Grows s) : Safe b₀ (execPpsEdgeTimeout s) := by
  delta execPpsEdgeTimeout
  with_reducible repeat' first
    | assumption | apply done_grows | apply State.setRefIn_grows | apply State.rejectInput_grows | apply ite_safe
    | apply next_safe | fail_if_no_progress apply mk_grows | apply ite_grows | split

theorem execRef10mLoss_grows {b₀ : State} {s : State} (h0 : b₀.Grows s) : Safe b₀ (execRef10mLoss s) := by
  delta execRef10mLoss
  with_reducible repeat' first
    | assumption | apply done_grows | apply State.rejectInput_grows | apply State.assistEnd_grows | apply ite_safe
    | apply next_safe | apply ite_grows

theorem execBearingRefresh_grows {b₀ : State} {s : State} (h0 : b₀.Grows s) : Safe b₀ (execBearingRefresh s) := by
  delta execBearingRefresh
  repeat' first
    | with_reducible assumption | intro _ | with_reducible apply done_grows | with_reducible apply State.putSSat_grows
    | with_reducible apply State.bearingCheck_grows | with_reducible apply ite_safe | with_reducible apply next_safe
    | with_reducible apply ite_grows | with_reducible apply foldl_grows

theorem execBearingResidualDone_grows {b₀ : State} {s : State} (h0 : b₀.Grows s) : Safe b₀ (execBearingResidualDone s) := by
  delta execBearingResidualDone
  with_reducible repeat' first
    | assumption | apply done_grows | apply State.workResidual_grows | apply ite_safe | apply next_safe
    | apply ite_grows

theorem State.setPrio_grows {b₀ : State} {s : State} {i v : Nat} (h0 : b₀.Grows s) : b₀.Grows (State.setPrio s i v) := by
  delta State.setPrio
  with_reducible repeat' first
    | assumption
    | ((try lift_lets -underBinder); intro x; first | (refine (have _ : b₀.Grows x := ?_; ?_); (on_goal 2 => clear_value x); (on_goal 1 => dsimp only [x]; clear x)) | clear_value x)
    | apply State.put_grows | apply State.setRefs_grows | apply State.showWtrs_grows
    | fail_if_no_progress apply mk_grows | apply ite_grows

theorem State.setLockout_grows {b₀ : State} {s : State} {i : Nat} {on : Bool} (h0 : b₀.Grows s) :
    b₀.Grows (State.setLockout s i on) := by
  delta State.setLockout
  repeat' first
    | with_reducible assumption | (intro x; fail_if_success clear_value x)
    | ((try lift_lets -underBinder); intro x; clear_value x) | intro _ | with_reducible apply State.putB_grows
    | with_reducible apply State.doIf_grows | with_reducible apply State.refEvent_grows

theorem execRefPrioWrite_grows {b₀ : State} {i : Fin 4} {prio : BitVec 4} {s : State} (h0 : b₀.Grows s) :
    Safe b₀ (execRefPrioWrite i prio s) := by
  delta execRefPrioWrite
  repeat' first
    | with_reducible assumption | intro _ | with_reducible apply done_grows | with_reducible apply State.viaBus_grows
    | with_reducible apply State.setPrio_grows

theorem execRefLockoutWrite_grows {b₀ : State} {i : Fin 4} {on : Bool} {s : State} (h0 : b₀.Grows s) :
    Safe b₀ (execRefLockoutWrite i on s) := by
  delta execRefLockoutWrite
  repeat' first
    | with_reducible assumption | intro _ | with_reducible apply done_grows | with_reducible apply State.viaBus_grows
    | with_reducible apply State.setLockout_grows

theorem execOcxoWarmChange_grows {b₀ : State} {level : Bool} {s : State} (h0 : b₀.Grows s) :
    Safe b₀ (execOcxoWarmChange level s) := by
  delta execOcxoWarmChange
  with_reducible repeat' first
    | assumption
    | ((try lift_lets -underBinder); intro x; first | (refine (have _ : b₀.Grows x := ?_; ?_); (on_goal 2 => clear_value x); (on_goal 1 => dsimp only [x]; clear x)) | clear_value x)
    | apply done_grows | apply State.putB_grows | apply State.setRefs_grows | apply State.put_grows | apply ite_safe
    | apply next_safe | fail_if_no_progress apply mk_grows | apply ite_grows

theorem execOcxoReadySet_grows {b₀ : State} {s : State} (h0 : b₀.Grows s) : Safe b₀ (execOcxoReadySet s) := by
  delta execOcxoReadySet
  with_reducible repeat' first
    | assumption | apply done_grows | apply State.put_grows | apply State.masterState_grows | apply ite_safe
    | apply next_safe | apply ite_grows | split

theorem execOcxoFail_grows {b₀ : State} {s : State} (h0 : b₀.Grows s) : Safe b₀ (execOcxoFail s) := by
  delta execOcxoFail
  with_reducible repeat' first
    | assumption
    | ((try lift_lets -underBinder); intro x; first | (refine (have _ : b₀.Grows x := ?_; ?_); (on_goal 2 => clear_value x); (on_goal 1 => dsimp only [x]; clear x)) | clear_value x)
    | apply done_grows | apply State.put_grows | apply State.setClk_grows | apply State.setOwn_grows
    | apply State.logChange_grows | apply State.retimeVerard_grows | apply ite_safe | apply next_safe
    | fail_if_no_progress apply mk_grows | apply ite_grows

theorem execOcxoRecover_grows {b₀ : State} {s : State} (h0 : b₀.Grows s) : Safe b₀ (execOcxoRecover s) := by
  delta execOcxoRecover
  with_reducible repeat' first
    | assumption
    | ((try lift_lets -underBinder); intro x; first | (refine (have _ : b₀.Grows x := ?_; ?_); (on_goal 2 => clear_value x); (on_goal 1 => dsimp only [x]; clear x)) | clear_value x)
    | apply done_grows | apply State.put_grows | apply State.setClk_grows | apply State.setOwn_grows
    | apply State.logChange_grows | apply State.retimeVerard_grows | apply ite_safe | apply next_safe
    | fail_if_no_progress apply mk_grows | apply ite_grows

theorem State.lockAchieved_grows {b₀ : State} {s : State} {d : Dev} (h0 : b₀.Grows s) : b₀.Grows (State.lockAchieved s d) := by
  delta State.lockAchieved
  repeat' first
    | with_reducible assumption | (intro x; fail_if_success clear_value x)
    | ((try lift_lets -underBinder); intro x; first | (refine (have _ : b₀.Grows x := ?_; ?_); (on_goal 2 => clear_value x); (on_goal 1 => dsimp only [x]; clear x)) | clear_value x)
    | intro _ | with_reducible apply State.setQual_grows | with_reducible apply State.put_grows
    | with_reducible apply State.stepTime_grows | with_reducible apply State.setClk_grows
    | with_reducible apply State.setOwn_grows | with_reducible apply State.setRefs_grows
    | with_reducible apply State.setPpsOfs_grows | with_reducible apply State.showEst_grows
    | with_reducible fail_if_no_progress apply mk_grows | with_reducible apply ite_grows
    | with_reducible apply foldl_grows

theorem execLockAchieved_grows {b₀ : State} {d : Dev} {s : State} (h0 : b₀.Grows s) : Safe b₀ (execLockAchieved d s) := by
  delta execLockAchieved
  with_reducible repeat' first
    | assumption | apply done_grows | apply State.lockAchieved_grows

theorem execPpsOutPulse_grows {b₀ : State} {s : State} (h0 : b₀.Grows s) : Safe b₀ (execPpsOutPulse s) := by
  delta execPpsOutPulse
  with_reducible repeat' first
    | assumption
    | ((try lift_lets -underBinder); intro x; first | (refine (have _ : b₀.Grows x := ?_; ?_); (on_goal 2 => clear_value x); (on_goal 1 => dsimp only [x]; clear x)) | clear_value x)
    | apply done_grows | apply State.setRefs_grows | apply State.emitIf_grows | apply ite_safe | apply next_safe
    | fail_if_no_progress apply mk_grows | apply ite_grows

theorem execVdOutCtrlRealign_grows {b₀ : State} {s : State} (h0 : b₀.Grows s) : Safe b₀ (execVdOutCtrlRealign s) := by
  delta execVdOutCtrlRealign
  with_reducible repeat' first
    | assumption | apply done_grows | apply State.viaBus_grows | apply State.realign_grows

theorem execRealignEffective_grows {b₀ : State} {s : State} (h0 : b₀.Grows s) : Safe b₀ (execRealignEffective s) := by
  delta execRealignEffective
  with_reducible repeat' first
    | assumption
    | ((try lift_lets -underBinder); intro x; first | (refine (have _ : b₀.Grows x := ?_; ?_); (on_goal 2 => clear_value x); (on_goal 1 => dsimp only [x]; clear x)) | clear_value x)
    | apply done_grows | apply State.setRefs_grows | apply State.setPpsOfs_grows | apply State.putB_grows
    | apply State.complete_grows | apply ite_safe | apply next_safe | fail_if_no_progress apply mk_grows
    | apply ite_grows | split

theorem State.tsqResult_grows {b₀ : State} {s : State} {p : Nat} {e : Option TsqEntry} (h0 : b₀.Grows s) :
    b₀.Grows (State.tsqResult s p e) := by
  delta State.tsqResult
  with_reducible repeat' first
    | assumption
    | ((try lift_lets -underBinder); intro x; first | (refine (have _ : b₀.Grows x := ?_; ?_); (on_goal 2 => clear_value x); (on_goal 1 => dsimp only [x]; clear x)) | clear_value x)
    | apply State.put_grows | apply State.putB_grows | split

theorem State.tsqRemove_grows {b₀ : State} {s : State} {p : Nat} {e : TsqEntry} (h0 : b₀.Grows s) :
    b₀.Grows (State.tsqRemove s p e) := by
  delta State.tsqRemove
  with_reducible repeat' first
    | assumption | ((try lift_lets -underBinder); intro x; clear_value x) | apply State.setPtp_grows
    | apply State.put_grows

theorem State.tsqKey_grows {b₀ : State} {s : State} {p : Nat} {v : Nat} (h0 : b₀.Grows s) : b₀.Grows (State.tsqKey s p v) := by
  delta State.tsqKey
  with_reducible repeat' first
    | assumption
    | ((try lift_lets -underBinder); intro x; first | (refine (have _ : b₀.Grows x := ?_; ?_); (on_goal 2 => clear_value x); (on_goal 1 => dsimp only [x]; clear x)) | clear_value x)
    | apply State.put_grows | apply State.tsqRemove_grows | apply State.tsqResult_grows | apply ite_grows | split

theorem execPtpTsqKeyLookup_grows {b₀ : State} {p : Fin 2} {seqId : BitVec 16} {msgType : BitVec 4} {s : State} (h0 : b₀.Grows s) :
    Safe b₀ (execPtpTsqKeyLookup p seqId msgType s) := by
  delta execPtpTsqKeyLookup
  repeat' first
    | with_reducible assumption | intro _ | with_reducible apply done_grows | with_reducible apply State.viaBus_grows
    | with_reducible apply State.tsqKey_grows

theorem execPtpTsqPop_grows {b₀ : State} {p : Fin 2} {seqId : BitVec 16} {msgType : BitVec 4} {s : State} (h0 : b₀.Grows s) :
    Safe b₀ (execPtpTsqPop p seqId msgType s) := by
  delta execPtpTsqPop
  repeat' first
    | with_reducible assumption | intro _ | with_reducible apply done_grows | with_reducible apply State.viaBus_grows
    | with_reducible apply State.tsqKey_grows

theorem State.refCmd_grows {b₀ : State} {s : State} {c : CmdCtx} {op : Byte} {f : State → State} (h0 : b₀.Grows s) (h1 : ∀ x0, b₀.Grows x0 → b₀.Grows (f x0)) :
    b₀.Grows (State.refCmd s c op f) := by
  delta State.refCmd
  with_reducible repeat' first
    | assumption | apply h1 | apply State.answer_grows | apply ite_grows

theorem execRefStatus_grows {b₀ : State} {c : CmdCtx} {s : State} (h0 : b₀.Grows s) : Safe b₀ (execRefStatus c s) := by
  delta execRefStatus
  repeat' first
    | with_reducible assumption | intro _ | with_reducible apply done_grows | with_reducible apply State.refCmd_grows
    | with_reducible apply State.answer_grows | with_reducible apply State.showTimers_grows
    | with_reducible apply State.logCommand_grows

theorem execRefPriority_grows {b₀ : State} {c : CmdCtx} {input prio : Byte} {s : State} (h0 : b₀.Grows s) :
    Safe b₀ (execRefPriority c input prio s) := by
  delta execRefPriority
  repeat' first
    | with_reducible assumption | intro _ | with_reducible apply done_grows | with_reducible apply State.refCmd_grows
    | with_reducible apply State.answer_grows | with_reducible apply State.setPrio_grows
    | with_reducible apply State.logCommand_grows | with_reducible apply ite_safe | with_reducible apply next_safe
    | with_reducible apply ite_grows

theorem execRefLockout_grows {b₀ : State} {c : CmdCtx} {input lock : Byte} {s : State} (h0 : b₀.Grows s) :
    Safe b₀ (execRefLockout c input lock s) := by
  delta execRefLockout
  repeat' first
    | with_reducible assumption | intro _ | with_reducible apply done_grows | with_reducible apply State.refCmd_grows
    | with_reducible apply State.answer_grows | with_reducible apply State.setLockout_grows
    | with_reducible apply State.logCommand_grows | with_reducible apply ite_safe | with_reducible apply next_safe
    | with_reducible apply ite_grows

theorem execOutRealign_grows {b₀ : State} {c : CmdCtx} {s : State} (h0 : b₀.Grows s) : Safe b₀ (execOutRealign c s) := by
  delta execOutRealign
  repeat' first
    | with_reducible assumption | intro _ | with_reducible apply done_grows | with_reducible apply State.refCmd_grows
    | with_reducible apply State.accept_grows | with_reducible apply State.realign_grows

theorem execPtpTsqLookup_grows {b₀ : State} {c : CmdCtx} {port msgType : Byte} {seqId : BitVec 16} {s : State} (h0 : b₀.Grows s) :
    Safe b₀ (execPtpTsqLookup c port msgType seqId s) := by
  delta execPtpTsqLookup
  repeat' first
    | with_reducible assumption | (intro x; fail_if_success clear_value x)
    | ((try lift_lets -underBinder); intro x; (refine (have _ : b₀.Grows x := ?_; ?_); (on_goal 2 => clear_value x); (on_goal 1 => dsimp only [x]; clear x)))
    | intro _ | with_reducible apply done_grows | with_reducible apply State.refCmd_grows
    | with_reducible apply State.answer_grows | with_reducible apply State.logCommand_grows
    | with_reducible apply State.tsqRemove_grows | with_reducible apply ite_safe | with_reducible apply next_safe
    | with_reducible apply ite_grows | split

end Sys2Proof.Machine
end

