-- ==== Sys2Proof/Laws/GrowsSync.lean ====
section
/-! SUPPORT. Every operation and meaning of Machine/Sync.lean grows the state it is given: one lemma each. -/

namespace Sys2Proof.Machine

open Sys2Proof

theorem execSyncSignal_grows {b₀ : State} {obj : Fin 16384} {ctx : BitVec 16} {core : Byte} {arg : Word} {s : State} (h0 : b₀.Grows s) :
    Safe b₀ (execSyncSignal obj ctx core arg s) := by
  delta execSyncSignal
  with_reducible repeat' first
    | assumption | apply finish_grows | apply State.portOp_grows

theorem execSyncArrive_grows {b₀ : State} {obj : Fin 16384} {ctx : BitVec 16} {core : Byte} {arg : Word} {s : State} (h0 : b₀.Grows s) :
    Safe b₀ (execSyncArrive obj ctx core arg s) := by
  delta execSyncArrive
  with_reducible repeat' first
    | assumption | apply finish_grows | apply State.portOp_grows

theorem execSyncReset_grows {b₀ : State} {obj : Fin 16384} {ctx : BitVec 16} {core : Byte} {arg : Word} {s : State} (h0 : b₀.Grows s) :
    Safe b₀ (execSyncReset obj ctx core arg s) := by
  delta execSyncReset
  with_reducible repeat' first
    | assumption | apply finish_grows | apply State.portOp_grows

theorem execSyncReadOp_grows {b₀ : State} {obj : Fin 16384} {ctx : BitVec 16} {core : Byte} {arg : Word} {s : State} (h0 : b₀.Grows s) :
    Safe b₀ (execSyncReadOp obj ctx core arg s) := by
  delta execSyncReadOp
  with_reducible repeat' first
    | assumption | apply finish_grows | apply State.portOp_grows

theorem execSyncWait_grows {b₀ : State} {obj : Fin 16384} {ctx : BitVec 16} {core : Byte} {cmp : BitVec 2} {arg : Word} {s : State} (h0 : b₀.Grows s) :
    Safe b₀ (execSyncWait obj ctx core cmp arg s) := by
  delta execSyncWait
  with_reducible repeat' first
    | assumption | apply finish_grows | apply State.portOp_grows

theorem execSyncWaitConsume_grows {b₀ : State} {obj : Fin 16384} {ctx : BitVec 16} {core : Byte} {arg : Word} {s : State} (h0 : b₀.Grows s) :
    Safe b₀ (execSyncWaitConsume obj ctx core arg s) := by
  delta execSyncWaitConsume
  with_reducible repeat' first
    | assumption | apply finish_grows | apply State.portOp_grows

theorem execSyncCancel_grows {b₀ : State} {obj : Fin 16384} {ctx : BitVec 16} {core : Byte} {arg : Word} {s : State} (h0 : b₀.Grows s) :
    Safe b₀ (execSyncCancel obj ctx core arg s) := by
  delta execSyncCancel
  with_reducible repeat' first
    | assumption | apply finish_grows | apply State.portOp_grows

theorem execSyncOpWrite_grows {b₀ : State} {obj : Fin 16384} {v : Word} {s : State} (h0 : b₀.Grows s) :
    Safe b₀ (execSyncOpWrite obj v s) := by
  delta execSyncOpWrite
  repeat' first
    | with_reducible assumption | intro _ | with_reducible apply finish_grows
    | with_reducible apply State.viaBus_grows | with_reducible apply State.syncOpWrite_grows

theorem execSyncCfgWrite_grows {b₀ : State} {obj : Fin 16384} {v : Word} {s : State} (h0 : b₀.Grows s) :
    Safe b₀ (execSyncCfgWrite obj v s) := by
  delta execSyncCfgWrite
  repeat' first
    | with_reducible assumption | intro _ | with_reducible apply finish_grows
    | with_reducible apply State.viaBus_grows | with_reducible apply State.syncCfgWrite_grows

theorem execRemoteSignal_grows {b₀ : State} {r : BitVec 128} {s : State} (h0 : b₀.Grows s) : Safe b₀ (execRemoteSignal r s) := by
  delta execRemoteSignal
  repeat' first
    | with_reducible assumption | (intro x; fail_if_success clear_value x)
    | ((try lift_lets -underBinder); intro x; (refine (have _ : b₀.Grows x := ?_; ?_); (on_goal 2 => clear_value x); (on_goal 1 => dsimp only [x]; clear x)))
    | intro _ | with_reducible apply finish_grows | with_reducible apply State.atPort_grows
    | with_reducible apply State.deliverWakes_grows | with_reducible apply State.holdReq_grows
    | with_reducible apply State.takeRecord_grows | with_reducible apply ite_safe | with_reducible apply next_safe
    | with_reducible apply ite_grows

theorem execFeedBeat_grows {b₀ : State} {flow : BitVec 12} {count : Byte} {s : State} (h0 : b₀.Grows s) :
    Safe b₀ (execFeedBeat flow count s) := by
  delta execFeedBeat
  repeat' first
    | with_reducible assumption | (intro x; fail_if_success clear_value x)
    | ((try lift_lets -underBinder); intro x; (refine (have _ : b₀.Grows x := ?_; ?_); (on_goal 2 => clear_value x); (on_goal 1 => dsimp only [x]; clear x)))
    | intro _ | with_reducible apply finish_grows | with_reducible apply State.atPort_grows
    | with_reducible apply State.deliverWakes_grows | with_reducible apply State.holdReq_grows
    | with_reducible apply State.takeFeed_grows | with_reducible apply ite_safe | with_reducible apply next_safe
    | with_reducible apply ite_grows

theorem execPendSlotStale_grows {b₀ : State} {s : State} (h0 : b₀.Grows s) : Safe b₀ (execPendSlotStale s) := by
  delta execPendSlotStale
  repeat' first
    | with_reducible assumption | (intro x; fail_if_success clear_value x)
    | ((try lift_lets -underBinder); intro x; first | (refine (have _ : b₀.Grows x := ?_; ?_); (on_goal 2 => clear_value x); (on_goal 1 => dsimp only [x]; clear x)) | clear_value x)
    | intro _ | with_reducible apply finish_grows | with_reducible apply State.setSync_grows
    | with_reducible apply State.put_grows | with_reducible apply State.logRec_grows | with_reducible apply ite_safe
    | with_reducible apply next_safe | with_reducible fail_if_no_progress apply mk_grows
    | with_reducible apply ite_grows | with_reducible apply foldl_grows

theorem execSyncFlowResetWrite_grows {b₀ : State} {v : Word} {s : State} (h0 : b₀.Grows s) :
    Safe b₀ (execSyncFlowResetWrite v s) := by
  delta execSyncFlowResetWrite
  repeat' first
    | with_reducible assumption | intro _ | with_reducible apply finish_grows
    | with_reducible apply State.viaBus_grows | with_reducible apply State.flowWrite_grows

theorem execSyncSaveWrite_grows {b₀ : State} {v : Word} {s : State} (h0 : b₀.Grows s) : Safe b₀ (execSyncSaveWrite v s) := by
  delta execSyncSaveWrite
  repeat' first
    | with_reducible assumption | intro _ | with_reducible apply finish_grows
    | with_reducible apply State.viaBus_grows | with_reducible apply State.saveCtrl_grows

theorem execSyncRestoreWrite_grows {b₀ : State} {v : Word} {s : State} (h0 : b₀.Grows s) :
    Safe b₀ (execSyncRestoreWrite v s) := by
  delta execSyncRestoreWrite
  repeat' first
    | with_reducible assumption | intro _ | with_reducible apply finish_grows
    | with_reducible apply State.viaBus_grows | with_reducible apply State.saveCtrl_grows

theorem execSyncSaveDone_grows {b₀ : State} {ok : Bool} {s : State} (h0 : b₀.Grows s) : Safe b₀ (execSyncSaveDone ok s) := by
  delta execSyncSaveDone
  with_reducible repeat' first
    | assumption | apply finish_grows | apply State.saveEnd_grows | apply State.applyHeld_grows | apply ite_safe
    | apply next_safe | apply ite_grows

theorem execSyncRestoreDone_grows {b₀ : State} {ok : Bool} {img : List Byte} {s : State} (h0 : b₀.Grows s) :
    Safe b₀ (execSyncRestoreDone ok img s) := by
  delta execSyncRestoreDone
  with_reducible repeat' first
    | assumption
    | ((try lift_lets -underBinder); intro x; first | (refine (have _ : b₀.Grows x := ?_; ?_); (on_goal 2 => clear_value x); (on_goal 1 => dsimp only [x]; clear x)) | clear_value x)
    | apply finish_grows | apply State.restoreBody_grows | apply State.loadImage_grows | apply State.saveEnd_grows
    | apply State.applyHeld_grows | apply ite_safe | apply next_safe | apply ite_grows

theorem execSyncDbgSelWrite_grows {b₀ : State} {obj : BitVec 14} {s : State} (h0 : b₀.Grows s) :
    Safe b₀ (execSyncDbgSelWrite obj s) := by
  delta execSyncDbgSelWrite
  repeat' first
    | with_reducible assumption | intro _ | with_reducible apply finish_grows
    | with_reducible apply State.viaBus_grows | with_reducible apply State.dbgCapture_grows

theorem execSyncRead_grows {b₀ : State} {c : CmdCtx} {obj : BitVec 16} {s : State} (h0 : b₀.Grows s) :
    Safe b₀ (execSyncRead c obj s) := by
  delta execSyncRead
  with_reducible repeat' first
    | assumption | ((try lift_lets -underBinder); intro x; clear_value x) | apply finish_grows
    | apply State.answer_grows | apply ite_safe | apply next_safe | apply ite_grows

theorem execSyncOp_grows {b₀ : State} {c : CmdCtx} {obj : BitVec 16} {op : Byte} {value : Word} {s : State} (h0 : b₀.Grows s) :
    Safe b₀ (execSyncOp c obj op value s) := by
  delta execSyncOp
  with_reducible repeat' first
    | assumption | apply finish_grows | apply State.answer_grows | apply State.syncOp_grows | apply ite_safe
    | apply next_safe | apply ite_grows

theorem execSyncDebug_grows {b₀ : State} {c : CmdCtx} {obj first : BitVec 16} {s : State} (h0 : b₀.Grows s) :
    Safe b₀ (execSyncDebug c obj first s) := by
  delta execSyncDebug
  with_reducible repeat' first
    | assumption | ((try lift_lets -underBinder); intro x; clear_value x) | apply finish_grows
    | apply State.answer_grows | apply State.dbgCapture_grows | apply ite_safe | apply next_safe | apply ite_grows

theorem execSyncSave_grows {b₀ : State} {c : CmdCtx} {addr : DWord} {first count flowFirst flowCount : BitVec 16} {s : State} (h0 : b₀.Grows s) :
    Safe b₀ (execSyncSave c addr first count flowFirst flowCount s) := by
  delta execSyncSave
  with_reducible repeat' first
    | assumption | apply finish_grows | apply State.answer_grows | apply State.accept_grows
    | apply State.saveStart_grows | apply ite_safe | apply next_safe | apply ite_grows

theorem execSyncRestore_grows {b₀ : State} {c : CmdCtx} {addr : DWord} {s : State} (h0 : b₀.Grows s) :
    Safe b₀ (execSyncRestore c addr s) := by
  delta execSyncRestore
  with_reducible repeat' first
    | assumption | apply finish_grows | apply State.answer_grows | apply State.accept_grows
    | apply State.restoreStart_grows | apply ite_safe | apply next_safe | apply ite_grows

theorem execSyncFlowReset_grows {b₀ : State} {c : CmdCtx} {flow : BitVec 16} {s : State} (h0 : b₀.Grows s) :
    Safe b₀ (execSyncFlowReset c flow s) := by
  delta execSyncFlowReset
  with_reducible repeat' first
    | assumption
    | ((try lift_lets -underBinder); intro x; first | (refine (have _ : b₀.Grows x := ?_; ?_); (on_goal 2 => clear_value x); (on_goal 1 => dsimp only [x]; clear x)) | (refine (have _ : b₀.Grows x.1 := ?_; ?_); (on_goal 2 => clear_value x); (on_goal 1 => dsimp only [x]; clear x)) | clear_value x)
    | apply finish_grows | apply State.answer_grows | apply State.flowReset_grows | apply State.logCommand_grows
    | apply ite_safe | apply next_safe | apply ite_grows

end Sys2Proof.Machine
end

