-- ==== Sys2Proof/Laws/GrowsBus.lean ====
section
/-! SUPPORT. Every operation and meaning of Machine/Bus.lean grows the state it is given: one lemma each. -/

namespace Sys2Proof.Machine

open Sys2Proof

theorem State.readFields_grows {b₀ : State} {s : State} {sp off : Nat} (h0 : b₀.Grows s) :
    b₀.Grows (State.readFields s sp off).1 := by
  delta State.readFields
  repeat' first
    | with_reducible assumption | intro _ | with_reducible apply State.put_grows | with_reducible apply ite_grows
    | with_reducible apply fst_ite_grows | with_reducible apply foldl_grows

theorem State.lkCapture_grows {b₀ : State} {s : State} {off : Nat} (h0 : b₀.Grows s) : b₀.Grows (State.lkCapture s off) := by
  delta State.lkCapture
  with_reducible repeat' first
    | assumption | apply State.captureStep_grows | apply State.captureRegion_grows | apply State.capturePg_grows
    | apply State.capturePgRegion_grows | apply State.captureDigest_grows | apply ite_grows

theorem State.lkRead_grows {b₀ : State} {s : State} {off : Nat} (h0 : b₀.Grows s) : b₀.Grows (State.lkRead s off).1 := by
  delta State.lkRead
  with_reducible repeat' first
    | assumption | ((try lift_lets -underBinder); intro x; clear_value x) | apply State.setQueue_grows
    | apply State.drawn_grows | apply State.lkCapture_grows | apply State.readFields_grows
    | fail_if_no_progress apply mk_grows | apply ite_grows | apply fst_ite_grows

theorem State.vdCapture_grows {b₀ : State} {s : State} {off : Nat} (h0 : b₀.Grows s) : b₀.Grows (State.vdCapture s off) := by
  delta State.vdCapture
  with_reducible repeat' first
    | assumption
    | ((try lift_lets -underBinder); intro x; (refine (have _ : b₀.Grows x := ?_; ?_); (on_goal 2 => clear_value x); (on_goal 1 => dsimp only [x]; clear x)))
    | apply State.showWindows_grows | apply State.showTimers_grows | apply State.showLit_grows | apply ite_grows
    | split

theorem State.vdRead_grows {b₀ : State} {s : State} {off : Nat} (h0 : b₀.Grows s) : b₀.Grows (State.vdRead s off).1 := by
  delta State.vdRead
  with_reducible repeat' first
    | assumption | apply State.vdCapture_grows | apply State.readFields_grows | apply ite_grows | apply fst_ite_grows

theorem State.v2Read_grows {b₀ : State} {s : State} {off : Nat} (h0 : b₀.Grows s) : b₀.Grows (State.v2Read s off).1 := by
  delta State.v2Read
  with_reducible repeat' first
    | assumption | apply State.showEngine_grows | apply State.readFields_grows | apply ite_grows | apply fst_ite_grows

theorem State.readWord_grows {b₀ : State} {s : State} {sp off : Nat} (h0 : b₀.Grows s) :
    b₀.Grows (State.readWord s sp off).1 := by
  delta State.readWord
  with_reducible repeat' first
    | assumption | apply State.lkRead_grows | apply State.vdRead_grows | apply State.v2Read_grows | apply ite_grows
    | apply fst_ite_grows

theorem State.regRead_grows {b₀ : State} {s : State} {sp off size : Nat} (h0 : b₀.Grows s) :
    b₀.Grows (State.regRead s sp off size).1 := by
  delta State.regRead
  with_reducible repeat' first
    | assumption
    | ((try lift_lets -underBinder); intro x; first | (refine (have _ : b₀.Grows x := ?_; ?_); (on_goal 2 => clear_value x); (on_goal 1 => dsimp only [x]; clear x)) | (refine (have _ : b₀.Grows x.1 := ?_; ?_); (on_goal 2 => clear_value x); (on_goal 1 => dsimp only [x]; clear x)) | clear_value x)
    | apply State.logAccess_grows | apply State.readWord_grows | apply ite_grows | apply fst_ite_grows

theorem State.writeField_grows {b₀ : State} {s : State} {v : Nat} {f : Field} (h0 : b₀.Grows s) :
    b₀.Grows (State.writeField s v f) := by
  delta State.writeField
  with_reducible repeat' first
    | assumption | apply State.put_grows | apply ite_grows | split

theorem State.writeFields_grows {b₀ : State} {s : State} {sp off v : Nat} (h0 : b₀.Grows s) :
    b₀.Grows (State.writeFields s sp off v) := by
  delta State.writeFields
  repeat' first
    | with_reducible assumption | intro _ | with_reducible apply State.writeField_grows
    | with_reducible apply foldl_grows

theorem State.portCtrl_grows {b₀ : State} {s : State} {p : PortId} {v : Nat} (h0 : b₀.Grows s) :
    b₀.Grows (State.portCtrl s p v) := by
  delta State.portCtrl
  repeat' first
    | with_reducible assumption | (intro x; fail_if_success clear_value x)
    | ((try lift_lets -underBinder); intro x; (refine (have _ : b₀.Grows x := ?_; ?_); (on_goal 2 => clear_value x); (on_goal 1 => dsimp only [x]; clear x)))
    | intro _ | with_reducible apply State.portEnable_grows | with_reducible apply State.doIf_grows
    | with_reducible apply State.portRetry_grows | with_reducible apply State.portCalNow_grows
    | with_reducible apply ite_grows

theorem State.fenceCtrl_grows {b₀ : State} {s : State} {v : Nat} (h0 : b₀.Grows s) : b₀.Grows (State.fenceCtrl s v) := by
  delta State.fenceCtrl
  repeat' first
    | with_reducible assumption | (intro x; fail_if_success clear_value x)
    | ((try lift_lets -underBinder); intro x; first | (refine (have _ : b₀.Grows x := ?_; ?_); (on_goal 2 => clear_value x); (on_goal 1 => dsimp only [x]; clear x)) | clear_value x)
    | intro _ | with_reducible apply State.put_grows | with_reducible apply State.doIf_grows
    | with_reducible apply State.fenceCoreWrite_grows | with_reducible apply State.fenceRegionWrite_grows

theorem State.lkWrite_grows {b₀ : State} {s : State} {off v : Nat} (h0 : b₀.Grows s) : b₀.Grows (State.lkWrite s off v) := by
  delta State.lkWrite
  repeat' first
    | with_reducible assumption | (intro x; fail_if_success clear_value x)
    | ((try lift_lets -underBinder); intro x; clear_value x) | intro _ | with_reducible apply State.syncCfgWrite_grows
    | with_reducible apply State.syncStatWrite_grows | with_reducible apply State.syncOpWrite_grows
    | with_reducible apply State.queueWrite_grows | with_reducible apply State.mboxWrite_grows
    | with_reducible apply State.progWrite_grows | with_reducible apply State.saveCtrl_grows
    | with_reducible apply State.flowWrite_grows | with_reducible apply State.latch_grows
    | with_reducible apply State.portCtrl_grows | with_reducible apply State.trigInCtrl_grows
    | with_reducible apply State.doIf_grows | with_reducible apply State.trigPop_grows
    | with_reducible apply State.trigCtrl_grows | with_reducible apply State.stepCtrl_grows
    | with_reducible apply State.fenceCtrl_grows | with_reducible apply State.pgCapWrite_grows
    | with_reducible apply State.writeFields_grows | with_reducible apply State.digReqWrite_grows
    | with_reducible apply State.seedWrite_grows | with_reducible apply State.soundWrite_grows
    | with_reducible apply State.spillNext_grows | with_reducible apply State.logAdvance_grows
    | with_reducible apply State.mboxCtrl_grows | with_reducible apply State.dbgCapture_grows
    | with_reducible apply ite_grows | split

theorem State.ringCfg_grows {b₀ : State} {s : State} {en : Field} {off v : Nat} (h0 : b₀.Grows s) :
    b₀.Grows (State.ringCfg s en off v) := by
  delta State.ringCfg
  with_reducible repeat' first
    | assumption | apply State.put_grows | apply State.writeFields_grows | apply ite_grows

theorem State.cmdRingWrite_grows {b₀ : State} {s : State} {off v : Nat} (h0 : b₀.Grows s) :
    b₀.Grows (State.cmdRingWrite s off v) := by
  delta State.cmdRingWrite
  with_reducible repeat' first
    | assumption | apply State.writeFields_grows | apply State.ringCfg_grows | apply State.reqTail_grows
    | apply State.drainHost_grows | apply State.rspHead_grows | apply ite_grows | split

theorem State.oeCtrl_grows {b₀ : State} {s : State} {e v : Nat} (h0 : b₀.Grows s) : b₀.Grows (State.oeCtrl s e v) := by
  delta State.oeCtrl
  repeat' first
    | with_reducible assumption | (intro x; fail_if_success clear_value x)
    | ((try lift_lets -underBinder); intro x; (refine (have _ : b₀.Grows x := ?_; ?_); (on_goal 2 => clear_value x); (on_goal 1 => dsimp only [x]; clear x)))
    | intro _ | with_reducible apply State.put_grows | with_reducible apply State.oeEnable_grows
    | with_reducible apply State.doIf_grows | with_reducible apply State.oeResearch_grows
    | with_reducible apply ite_grows

theorem State.profCtrl_grows {b₀ : State} {s : State} {v : Nat} (h0 : b₀.Grows s) : b₀.Grows (State.profCtrl s v) := by
  delta State.profCtrl
  repeat' first
    | with_reducible assumption | (intro x; fail_if_success clear_value x)
    | ((try lift_lets -underBinder); intro x; (refine (have _ : b₀.Grows x := ?_; ?_); (on_goal 2 => clear_value x); (on_goal 1 => dsimp only [x]; clear x)))
    | intro _ | with_reducible apply State.doIf_grows | with_reducible apply State.put_grows
    | with_reducible apply State.profProgram_grows | with_reducible apply State.profReload_grows
    | with_reducible apply ite_grows

theorem State.vdWrite_grows {b₀ : State} {s : State} {off v : Nat} (h0 : b₀.Grows s) : b₀.Grows (State.vdWrite s off v) := by
  delta State.vdWrite
  with_reducible repeat' first
    | assumption
    | ((try lift_lets -underBinder); intro x; first | (refine (have _ : b₀.Grows x := ?_; ?_); (on_goal 2 => clear_value x); (on_goal 1 => dsimp only [x]; clear x)) | clear_value x)
    | apply State.portCtrl_grows | apply State.writeFields_grows | apply State.setPrio_grows
    | apply State.setLockout_grows | apply State.tsqKey_grows | apply State.measCtrl_grows | apply State.oeCtrl_grows
    | apply State.ocsCtrl_grows | apply State.cmdRingWrite_grows | apply State.setSecRun_grows
    | apply State.doIf_grows | apply State.realign_grows | apply State.latch_grows | apply State.measCalNow_grows
    | apply State.logAdvance_grows | apply State.logSelWrite_grows | apply State.profCtrl_grows
    | fail_if_no_progress apply mk_grows | apply ite_grows | split

theorem State.writeWord_grows {b₀ : State} {s : State} {sp off v : Nat} (h0 : b₀.Grows s) :
    b₀.Grows (State.writeWord s sp off v) := by
  delta State.writeWord
  with_reducible repeat' first
    | assumption | apply State.lkWrite_grows | apply State.vdWrite_grows | apply ite_grows

theorem State.regWrite_grows {b₀ : State} {s : State} {sp off v : Nat} (h0 : b₀.Grows s) :
    b₀.Grows (State.regWrite s sp off v) := by
  delta State.regWrite
  with_reducible repeat' first
    | assumption | apply State.logAccess_grows | apply State.writeWord_grows | apply ite_grows

theorem State.logWide_grows {b₀ : State} {s : State} {sp off : Nat} (h0 : b₀.Grows s) : b₀.Grows (State.logWide s sp off) := by
  delta State.logWide
  with_reducible repeat' first
    | assumption | apply State.logAccess_grows

theorem State.wideWrite_grows {b₀ : State} {s : State} {sp off : Nat} {v : DWord} (h0 : b₀.Grows s) :
    b₀.Grows (State.wideWrite s sp off v) := by
  delta State.wideWrite
  with_reducible repeat' first
    | assumption
    | ((try lift_lets -underBinder); intro x; (refine (have _ : b₀.Grows x := ?_; ?_); (on_goal 2 => clear_value x); (on_goal 1 => dsimp only [x]; clear x)))
    | apply State.logWide_grows | apply State.writeWord_grows | apply ite_grows

theorem State.busWrite_grows {b₀ : State} {s : State} {sp off : Nat} {x₀ : BusData} (h0 : b₀.Grows s) :
    b₀.Grows (State.busWrite s sp off x₀) := by
  delta State.busWrite
  with_reducible repeat' first
    | assumption | apply State.regWrite_grows | apply State.wideWrite_grows | split

theorem execRegisterWrite_grows {b₀ : State} {bar : Fin 3} {off : BitVec 26} {v : BusData} {s : State} (h0 : b₀.Grows s) :
    Safe b₀ (execRegisterWrite bar off v s) := by
  delta execRegisterWrite
  with_reducible repeat' first
    | assumption | apply finish_grows | apply State.hostReq_grows | apply State.busWrite_grows | apply ite_safe
    | apply next_safe | apply ite_grows

theorem execRegisterReadClear_grows {b₀ : State} {bar : Fin 3} {off : BitVec 26} {wide : Bool} {s : State} (h0 : b₀.Grows s) :
    Safe b₀ (execRegisterReadClear bar off wide s) := by
  delta execRegisterReadClear
  with_reducible repeat' first
    | assumption
    | ((try lift_lets -underBinder); intro x; first | (refine (have _ : b₀.Grows x := ?_; ?_); (on_goal 2 => clear_value x); (on_goal 1 => dsimp only [x]; clear x)) | (refine (have _ : b₀.Grows x.1 := ?_; ?_); (on_goal 2 => clear_value x); (on_goal 1 => dsimp only [x]; clear x)) | clear_value x)
    | apply finish_grows | apply State.hostReq_grows | apply State.regRead_grows | apply State.emit_grows
    | apply ite_safe | apply next_safe | apply ite_grows

theorem execBadSizeAccess_grows {b₀ : State} {bar : Fin 3} {off : BitVec 26} {write : Bool} {size : BitVec 7} {s : State} (h0 : b₀.Grows s) :
    Safe b₀ (execBadSizeAccess bar off write size s) := by
  delta execBadSizeAccess
  with_reducible repeat' first
    | assumption | apply finish_grows | apply State.hostReq_grows | apply State.logAccess_grows
    | apply State.emitIf_grows | apply ite_safe | apply next_safe | apply ite_grows

theorem execUnmappedAccess_grows {b₀ : State} {bar : Fin 3} {off : BitVec 26} {write : Bool} {s : State} (h0 : b₀.Grows s) :
    Safe b₀ (execUnmappedAccess bar off write s) := by
  delta execUnmappedAccess
  with_reducible repeat' first
    | assumption | apply finish_grows | apply State.hostReq_grows | apply State.logAccess_grows
    | apply State.emitIf_grows | apply ite_safe | apply next_safe | apply ite_grows

theorem State.dbgWords_grows {b₀ : State} {s : State} {sp off : Nat} {x₀ : Nat} (h0 : b₀.Grows s) :
    b₀.Grows (State.dbgWords s sp off x₀).1 := by
  induction x₀ generalizing s off with
  | zero => unfold State.dbgWords; with_reducible repeat' first
    | assumption
    | ((try lift_lets -underBinder); intro x; first | (refine (have _ : b₀.Grows x := ?_; ?_); (on_goal 2 => clear_value x); (on_goal 1 => dsimp only [x]; clear x)) | (refine (have _ : b₀.Grows x.1 := ?_; ?_); (on_goal 2 => clear_value x); (on_goal 1 => dsimp only [x]; clear x)) | clear_value x)
  | succ n ih =>
    unfold State.dbgWords
    with_reducible repeat' first
    | assumption
    | ((try lift_lets -underBinder); intro x; first | (refine (have _ : b₀.Grows x := ?_; ?_); (on_goal 2 => clear_value x); (on_goal 1 => dsimp only [x]; clear x)) | (refine (have _ : b₀.Grows x.1 := ?_; ?_); (on_goal 2 => clear_value x); (on_goal 1 => dsimp only [x]; clear x)) | clear_value x)
    | apply ih | apply State.regRead_grows

theorem execDbgRead_grows {b₀ : State} {c : CmdCtx} {off : Word} {count : BitVec 16} {s : State} (h0 : b₀.Grows s) :
    Safe b₀ (execDbgRead c off count s) := by
  delta execDbgRead
  with_reducible repeat' first
    | assumption
    | ((try lift_lets -underBinder); intro x; first | (refine (have _ : b₀.Grows x := ?_; ?_); (on_goal 2 => clear_value x); (on_goal 1 => dsimp only [x]; clear x)) | (refine (have _ : b₀.Grows x.1 := ?_; ?_); (on_goal 2 => clear_value x); (on_goal 1 => dsimp only [x]; clear x)) | clear_value x)
    | apply finish_grows | apply State.answer_grows | apply State.dbgWords_grows | apply ite_safe | apply next_safe
    | apply ite_grows

theorem execDbgWrite_grows {b₀ : State} {c : CmdCtx} {off value : Word} {s : State} (h0 : b₀.Grows s) :
    Safe b₀ (execDbgWrite c off value s) := by
  delta execDbgWrite
  with_reducible repeat' first
    | assumption
    | ((try lift_lets -underBinder); intro x; first | (refine (have _ : b₀.Grows x := ?_; ?_); (on_goal 2 => clear_value x); (on_goal 1 => dsimp only [x]; clear x)) | clear_value x)
    | apply finish_grows | apply State.answer_grows | apply State.regWrite_grows | apply State.logCommand_grows
    | apply ite_safe | apply next_safe | apply ite_grows

end Sys2Proof.Machine
end

