-- ==== Sys2Proof/Laws/GrowsJobMsgs.lean ====
section
/-! SUPPORT. Every operation and meaning of Machine/JobMsgs.lean grows the state it is given: one lemma each. -/

namespace Sys2Proof.Machine

open Sys2Proof

theorem State.jobRx_grows {b₀ : State} {s : State} {p : Path} {m : JobMsg} {kind : Nat} (h0 : b₀.Grows s) :
    b₀.Grows (State.jobRx s p m kind) := by
  delta State.jobRx
  with_reducible repeat' first
    | assumption | apply State.treeRx_grows

theorem execArm_grows {b₀ : State} {p : Path} {m : JobMsg} {s : State} (h0 : b₀.Grows s) : Safe b₀ (execArm p m s) := by
  delta execArm
  with_reducible repeat' first
    | assumption | apply finish_grows | apply State.jobRx_grows

theorem execArmAck_grows {b₀ : State} {p : Path} {m : JobMsg} {s : State} (h0 : b₀.Grows s) : Safe b₀ (execArmAck p m s) := by
  delta execArmAck
  with_reducible repeat' first
    | assumption | apply finish_grows | apply State.jobRx_grows

theorem execCommit_grows {b₀ : State} {p : Path} {m : JobMsg} {s : State} (h0 : b₀.Grows s) : Safe b₀ (execCommit p m s) := by
  delta execCommit
  with_reducible repeat' first
    | assumption | apply finish_grows | apply State.jobRx_grows

theorem execCommitAck_grows {b₀ : State} {p : Path} {m : JobMsg} {s : State} (h0 : b₀.Grows s) :
    Safe b₀ (execCommitAck p m s) := by
  delta execCommitAck
  with_reducible repeat' first
    | assumption | apply finish_grows | apply State.jobRx_grows

theorem execConfirm_grows {b₀ : State} {p : Path} {m : JobMsg} {s : State} (h0 : b₀.Grows s) : Safe b₀ (execConfirm p m s) := by
  delta execConfirm
  with_reducible repeat' first
    | assumption | apply finish_grows | apply State.jobRx_grows

theorem execAbortRx_grows {b₀ : State} {p : Path} {m : JobMsg} {s : State} (h0 : b₀.Grows s) : Safe b₀ (execAbortRx p m s) := by
  delta execAbortRx
  with_reducible repeat' first
    | assumption | apply finish_grows | apply State.jobRx_grows

theorem execTeardown_grows {b₀ : State} {p : Path} {m : JobMsg} {s : State} (h0 : b₀.Grows s) : Safe b₀ (execTeardown p m s) := by
  delta execTeardown
  with_reducible repeat' first
    | assumption | apply finish_grows | apply State.jobRx_grows

theorem execDrained_grows {b₀ : State} {p : Path} {m : JobMsg} {s : State} (h0 : b₀.Grows s) : Safe b₀ (execDrained p m s) := by
  delta execDrained
  with_reducible repeat' first
    | assumption | apply finish_grows | apply State.jobRx_grows

theorem execRetire_grows {b₀ : State} {p : Path} {m : JobMsg} {s : State} (h0 : b₀.Grows s) : Safe b₀ (execRetire p m s) := by
  delta execRetire
  with_reducible repeat' first
    | assumption | apply finish_grows | apply State.jobRx_grows

theorem execJobFault_grows {b₀ : State} {p : Path} {m : JobMsg} {s : State} (h0 : b₀.Grows s) : Safe b₀ (execJobFault p m s) := by
  delta execJobFault
  with_reducible repeat' first
    | assumption | apply finish_grows | apply State.jobRx_grows

theorem execDefer_grows {b₀ : State} {p : Path} {m : JobMsg} {s : State} (h0 : b₀.Grows s) : Safe b₀ (execDefer p m s) := by
  delta execDefer
  with_reducible repeat' first
    | assumption | apply finish_grows | apply State.jobRx_grows

theorem execDeferReq_grows {b₀ : State} {p : Path} {m : JobMsg} {s : State} (h0 : b₀.Grows s) : Safe b₀ (execDeferReq p m s) := by
  delta execDeferReq
  with_reducible repeat' first
    | assumption | apply finish_grows | apply State.jobRx_grows

theorem execPause_grows {b₀ : State} {p : Path} {m : JobMsg} {s : State} (h0 : b₀.Grows s) : Safe b₀ (execPause p m s) := by
  delta execPause
  with_reducible repeat' first
    | assumption | apply finish_grows | apply State.jobRx_grows

theorem execPaused_grows {b₀ : State} {p : Path} {m : JobMsg} {s : State} (h0 : b₀.Grows s) : Safe b₀ (execPaused p m s) := by
  delta execPaused
  with_reducible repeat' first
    | assumption | apply finish_grows | apply State.jobRx_grows

theorem execResume_grows {b₀ : State} {p : Path} {m : JobMsg} {s : State} (h0 : b₀.Grows s) : Safe b₀ (execResume p m s) := by
  delta execResume
  with_reducible repeat' first
    | assumption | apply finish_grows | apply State.jobRx_grows

theorem execCheckRx_grows {b₀ : State} {p : Path} {m : JobMsg} {s : State} (h0 : b₀.Grows s) : Safe b₀ (execCheckRx p m s) := by
  delta execCheckRx
  with_reducible repeat' first
    | assumption | apply finish_grows | apply State.jobRx_grows

theorem execAckAggregateTimer_grows {b₀ : State} {d : Dev} {s : State} (h0 : b₀.Grows s) :
    Safe b₀ (execAckAggregateTimer d s) := by
  delta execAckAggregateTimer
  with_reducible repeat' first
    | assumption | apply finish_grows | apply State.aggTimer_grows

theorem execCommitDeadline_grows {b₀ : State} {d : Dev} {s : State} (h0 : b₀.Grows s) : Safe b₀ (execCommitDeadline d s) := by
  delta execCommitDeadline
  with_reducible repeat' first
    | assumption | apply finish_grows | apply State.commitDeadline_grows

theorem execStartCheckTimeout_grows {b₀ : State} {d : Dev} {s : State} (h0 : b₀.Grows s) :
    Safe b₀ (execStartCheckTimeout d s) := by
  delta execStartCheckTimeout
  with_reducible repeat' first
    | assumption | apply finish_grows | apply State.checkTimeout_grows

theorem execRetireTimeout_grows {b₀ : State} {d : Dev} {s : State} (h0 : b₀.Grows s) : Safe b₀ (execRetireTimeout d s) := by
  delta execRetireTimeout
  with_reducible repeat' first
    | assumption | apply finish_grows | apply State.retireTimeout_grows

theorem execDeferGatherTimer_grows {b₀ : State} {d : Dev} {s : State} (h0 : b₀.Grows s) : Safe b₀ (execDeferGatherTimer d s) := by
  delta execDeferGatherTimer
  with_reducible repeat' first
    | assumption | apply finish_grows | apply State.deferTimer_grows

theorem execPauseReportTimeout_grows {b₀ : State} {d : Dev} {s : State} (h0 : b₀.Grows s) :
    Safe b₀ (execPauseReportTimeout d s) := by
  delta execPauseReportTimeout
  with_reducible repeat' first
    | assumption | apply finish_grows | apply State.pauseTimeout_grows

theorem execJobArm_grows {b₀ : State} {c : CmdCtx} {gid : BitVec 24} {gen : BitVec 16} {prog flags : Byte} {limit : Word} {seed : BitVec 128} {s : State} (h0 : b₀.Grows s) :
    Safe b₀ (execJobArm c gid gen prog flags limit seed s) := by
  delta execJobArm
  with_reducible repeat' first
    | assumption | apply finish_grows | apply State.jobArm_grows

theorem execJobCommit_grows {b₀ : State} {c : CmdCtx} {gid : BitVec 24} {gen : BitVec 16} {t0 : Packed} {s : State} (h0 : b₀.Grows s) :
    Safe b₀ (execJobCommit c gid gen t0 s) := by
  delta execJobCommit
  with_reducible repeat' first
    | assumption | apply finish_grows | apply State.jobCommit_grows

theorem execJobAbort_grows {b₀ : State} {c : CmdCtx} {gid : BitVec 24} {gen : BitVec 16} {s : State} (h0 : b₀.Grows s) :
    Safe b₀ (execJobAbort c gid gen s) := by
  delta execJobAbort
  with_reducible repeat' first
    | assumption | apply finish_grows | apply State.jobAbort_grows

theorem execJobTeardown_grows {b₀ : State} {c : CmdCtx} {gid : BitVec 24} {gen : BitVec 16} {td : Packed} {s : State} (h0 : b₀.Grows s) :
    Safe b₀ (execJobTeardown c gid gen td s) := by
  delta execJobTeardown
  with_reducible repeat' first
    | assumption | apply finish_grows | apply State.jobTeardown_grows

theorem execJobStatus_grows {b₀ : State} {c : CmdCtx} {gid : BitVec 24} {s : State} (h0 : b₀.Grows s) :
    Safe b₀ (execJobStatus c gid s) := by
  delta execJobStatus
  with_reducible repeat' first
    | assumption | apply finish_grows | apply State.jobStatus_grows

theorem execJobPause_grows {b₀ : State} {c : CmdCtx} {gid : BitVec 24} {gen : BitVec 16} {a : Packed} {s : State} (h0 : b₀.Grows s) :
    Safe b₀ (execJobPause c gid gen a s) := by
  delta execJobPause
  with_reducible repeat' first
    | assumption | apply finish_grows | apply State.jobPause_grows

theorem execJobResume_grows {b₀ : State} {c : CmdCtx} {gid : BitVec 24} {gen : BitVec 16} {tr : Packed} {s : State} (h0 : b₀.Grows s) :
    Safe b₀ (execJobResume c gid gen tr s) := by
  delta execJobResume
  with_reducible repeat' first
    | assumption | apply finish_grows | apply State.jobResume_grows

end Sys2Proof.Machine
end

