-- ==== Sys2Proof/Laws/GrowsPacket.lean ====
section
/-! SUPPORT. Every operation and meaning of Machine/Packet.lean grows the state it is given: one lemma each. -/

namespace Sys2Proof.Machine

open Sys2Proof

theorem State.showReasm_grows {b₀ : State} {s : State} {d : Dev} (h0 : b₀.Grows s) : b₀.Grows (State.showReasm s d) := by
  delta State.showReasm
  with_reducible repeat' first
    | assumption | apply State.put_grows

theorem State.noticeFor_grows {b₀ : State} {s : State} {d : Dev} {h : PktHeader} {status : Nat} (h0 : b₀.Grows s) :
    b₀.Grows (State.noticeFor s d h status) := by
  delta State.noticeFor
  with_reducible repeat' first
    | assumption | apply State.notice_grows | apply ite_grows

theorem State.sendWays_grows {b₀ : State} {s : State} {d : Dev} {ws : List (Path × Nat)} {f : Fragment} (h0 : b₀.Grows s) :
    b₀.Grows (State.sendWays s d ws f) := by
  delta State.sendWays
  repeat' first
    | with_reducible assumption | intro _ | with_reducible apply State.sendFrag_grows
    | with_reducible apply foldl_grows

theorem State.cmdAbsorbed_grows {b₀ : State} {s : State} {path : Path} {f : Fragment} (h0 : b₀.Grows s) :
    b₀.Grows (State.cmdAbsorbed s path f) := by
  delta State.cmdAbsorbed
  with_reducible repeat' first
    | assumption | ((try lift_lets -underBinder); intro x; clear_value x) | apply State.returnCredit_grows

theorem State.reasmTake_grows {b₀ : State} {s : State} {d : Dev} {path : Path} {f : Fragment} (h0 : b₀.Grows s) :
    b₀.Grows (State.reasmTake s d path f) := by
  delta State.reasmTake
  with_reducible repeat' first
    | assumption
    | ((try lift_lets -underBinder); intro x; first | (refine (have _ : b₀.Grows x := ?_; ?_); (on_goal 2 => clear_value x); (on_goal 1 => dsimp only [x]; clear x)) | clear_value x)
    | apply State.setCmd_grows | apply State.enqueue_grows | apply State.showReasm_grows
    | fail_if_no_progress apply mk_grows | apply ite_grows | split

theorem State.fragFirst_grows {b₀ : State} {s : State} {d : Dev} {path : Path} {f : Fragment} (h0 : b₀.Grows s) :
    b₀.Grows (State.fragFirst s d path f) := by
  delta State.fragFirst
  repeat' first
    | with_reducible assumption | (intro x; fail_if_success clear_value x)
    | ((try lift_lets -underBinder); intro x; first | (refine (have _ : b₀.Grows x := ?_; ?_); (on_goal 2 => clear_value x); (on_goal 1 => dsimp only [x]; clear x)) | clear_value x)
    | intro _ | with_reducible apply State.cmdAbsorbed_grows | with_reducible apply State.doIf_grows
    | with_reducible apply State.noticeFor_grows | with_reducible apply State.bump_grows
    | with_reducible apply State.sendWays_grows | with_reducible apply State.setCmd_grows
    | with_reducible apply State.reasmTake_grows | with_reducible fail_if_no_progress apply mk_grows
    | with_reducible apply ite_grows

theorem State.fragNext_grows {b₀ : State} {s : State} {d : Dev} {path : Path} {f : Fragment} (h0 : b₀.Grows s) :
    b₀.Grows (State.fragNext s d path f) := by
  delta State.fragNext
  with_reducible repeat' first
    | assumption
    | ((try lift_lets -underBinder); intro x; first | (refine (have _ : b₀.Grows x := ?_; ?_); (on_goal 2 => clear_value x); (on_goal 1 => dsimp only [x]; clear x)) | clear_value x)
    | apply State.cmdAbsorbed_grows | apply State.sendWays_grows | apply State.setCmd_grows
    | apply State.reasmTake_grows | fail_if_no_progress apply mk_grows | apply ite_grows | split

theorem State.fragTake_grows {b₀ : State} {s : State} {d : Dev} {path : Path} {f : Fragment} (h0 : b₀.Grows s) :
    b₀.Grows (State.fragTake s d path f) := by
  delta State.fragTake
  with_reducible repeat' first
    | assumption | apply State.fragFirst_grows | apply State.fragNext_grows | apply ite_grows

theorem State.fragsOn_grows {b₀ : State} {s : State} {d : Dev} {x₀ : Nat} (h0 : b₀.Grows s) :
    b₀.Grows (State.fragsOn s d x₀) := by
  induction x₀ generalizing s with
  | zero => unfold State.fragsOn; with_reducible repeat' first
    | assumption
  | succ n ih =>
    unfold State.fragsOn
    with_reducible repeat' first
    | assumption | apply ih | apply State.setCmd_grows | apply State.fragTake_grows
    | fail_if_no_progress apply mk_grows | split

theorem State.fragsGo_grows {b₀ : State} {s : State} {d : Dev} (h0 : b₀.Grows s) : b₀.Grows (State.fragsGo s d) := by
  delta State.fragsGo
  with_reducible repeat' first
    | assumption | apply State.fragsOn_grows

theorem State.fragIn_grows {b₀ : State} {s : State} {d : Dev} {path : Path} {f : Fragment} (h0 : b₀.Grows s) :
    b₀.Grows (State.fragIn s d path f) := by
  delta State.fragIn
  with_reducible repeat' first
    | assumption | ((try lift_lets -underBinder); intro x; clear_value x) | apply State.setCmd_grows
    | apply State.fragTake_grows | apply State.fragsGo_grows | fail_if_no_progress apply mk_grows | apply ite_grows

theorem execCmdFragment_grows {b₀ : State} {path : Path} {f : Framed Fragment} {s : State} (h0 : b₀.Grows s) :
    Safe b₀ (execCmdFragment path f s) := by
  delta execCmdFragment
  with_reducible repeat' first
    | assumption
    | ((try lift_lets -underBinder); intro x; first | (refine (have _ : b₀.Grows x := ?_; ?_); (on_goal 2 => clear_value x); (on_goal 1 => dsimp only [x]; clear x)) | clear_value x)
    | apply finish_grows | apply State.frameDrop_grows | apply State.wakeAll_grows | apply State.cmdAbsorbed_grows
    | apply State.fragIn_grows | apply ite_safe | apply next_safe | apply ite_grows

theorem execReassemblyTimeout_grows {b₀ : State} {d : Dev} {s : State} (h0 : b₀.Grows s) :
    Safe b₀ (execReassemblyTimeout d s) := by
  delta execReassemblyTimeout
  with_reducible repeat' first
    | assumption | ((try lift_lets -underBinder); intro x; clear_value x) | apply finish_grows
    | apply State.setCmd_grows | apply State.bumpSat_grows | apply State.showReasm_grows | apply State.fragsGo_grows

theorem execRouteRecordExpiry_grows {b₀ : State} {d : Dev} {s : State} (h0 : b₀.Grows s) :
    Safe b₀ (execRouteRecordExpiry d s) := by
  delta execRouteRecordExpiry
  with_reducible repeat' first
    | assumption | ((try lift_lets -underBinder); intro x; clear_value x) | apply finish_grows
    | apply State.setCmd_grows | apply State.fragsGo_grows

end Sys2Proof.Machine
end

