-- ==== Sys2Proof/Laws/GrowsPins.lean ====
section
/-! SUPPORT. Every operation and meaning of Machine/Pins.lean grows the state it is given: one lemma each. -/

namespace Sys2Proof.Machine

open Sys2Proof

theorem execPinFaultDetect_grows {b₀ : State} {site : PinSite} {code : BitVec 4} {s : State} (h0 : b₀.Grows s) :
    Safe b₀ (execPinFaultDetect site code s) := by
  delta execPinFaultDetect
  with_reducible repeat' first
    | assumption
    | ((try lift_lets -underBinder); intro x; first | (refine (have _ : b₀.Grows x := ?_; ?_); (on_goal 2 => clear_value x); (on_goal 1 => dsimp only [x]; clear x)) | clear_value x)
    | apply finish_grows | apply State.put_grows | apply State.logChange_grows | apply State.hopOpen_grows
    | apply State.portGo_grows | apply State.switchLoss_grows | apply State.portFault_grows
    | apply State.rejectInput_grows | apply State.assistEnd_grows | apply State.measEnd_grows | apply ite_safe
    | apply next_safe | apply ite_grows | split

theorem execPinFaultClear_grows {b₀ : State} {site : PinSite} {s : State} (h0 : b₀.Grows s) :
    Safe b₀ (execPinFaultClear site s) := by
  delta execPinFaultClear
  with_reducible repeat' first
    | assumption | apply finish_grows | apply State.put_grows | apply State.logChange_grows | apply ite_safe
    | apply next_safe | apply ite_grows | split

end Sys2Proof.Machine
end

