-- ==== Sys2Proof/Laws/GrowsTimeCmd.lean ====
section
/-! SUPPORT. Every operation and meaning of Machine/TimeCmd.lean grows the state it is given: one lemma each. -/

namespace Sys2Proof.Machine

open Sys2Proof

theorem execTimeLatch_grows {b₀ : State} {d : Dev} {v : Word} {s : State} (h0 : b₀.Grows s) : Safe b₀ (execTimeLatch d v s) := by
  delta execTimeLatch
  repeat' first
    | with_reducible assumption | intro _ | with_reducible apply finish_grows
    | with_reducible apply State.viaBus_grows | with_reducible apply State.latch_grows

theorem execTimeCaptureDone_grows {b₀ : State} {d : Dev} {bins : BitVec 12} {s : State} (h0 : b₀.Grows s) :
    Safe b₀ (execTimeCaptureDone d bins s) := by
  delta execTimeCaptureDone
  with_reducible repeat' first
    | assumption | apply finish_grows | apply State.capture_grows

theorem State.edgeVerard_grows {b₀ : State} {s : State} (h0 : b₀.Grows s) : b₀.Grows (State.edgeVerard s) := by
  delta State.edgeVerard
  with_reducible repeat' first
    | assumption | apply State.setClk_grows | apply ite_grows

theorem execSpringEdge_grows {b₀ : State} {s : State} (h0 : b₀.Grows s) : Safe b₀ (execSpringEdge s) := by
  delta execSpringEdge
  with_reducible repeat' first
    | assumption | apply State.setClk_grows | apply State.edgeVerard_grows | apply State.deliverWakes_grows
    | apply State.releaseGaps_grows | apply State.doIf_grows | apply State.again_grows | apply State.retimeLotik_grows
    | apply ite_safe | apply next_safe

theorem execSlewDone_grows {b₀ : State} {d : Dev} {s : State} (h0 : b₀.Grows s) : Safe b₀ (execSlewDone d s) := by
  delta execSlewDone
  with_reducible repeat' first
    | assumption | ((try lift_lets -underBinder); intro x; clear_value x) | apply finish_grows
    | apply State.setClk_grows | apply State.setOwn_grows | apply State.showEst_grows | apply ite_safe
    | apply next_safe | fail_if_no_progress apply mk_grows | apply ite_grows

theorem execHoldoverUpdate_grows {b₀ : State} {d : Dev} {s : State} (h0 : b₀.Grows s) : Safe b₀ (execHoldoverUpdate d s) := by
  delta execHoldoverUpdate
  with_reducible repeat' first
    | assumption
    | ((try lift_lets -underBinder); intro x; first | (refine (have _ : b₀.Grows x := ?_; ?_); (on_goal 2 => clear_value x); (on_goal 1 => dsimp only [x]; clear x)) | clear_value x)
    | apply State.setClk_grows | apply State.setOwn_grows | apply State.showEst_grows | apply finish_grows
    | apply State.doIf_grows | apply State.sendStatus_grows | apply ite_safe | apply next_safe
    | fail_if_no_progress apply mk_grows | apply ite_grows

end Sys2Proof.Machine
end

