-- ==== Sys2Proof/Laws/GrowsRequest.lean ====
section
/-! SUPPORT. Every operation and meaning of Machine/Request.lean grows the state it is given: one lemma each. -/

namespace Sys2Proof.Machine

open Sys2Proof

theorem execNop_grows {b₀ : State} {c : CmdCtx} {data : List Byte} {s : State} (h0 : b₀.Grows s) :
    Safe b₀ (execNop c data s) := by
  delta execNop
  with_reducible repeat' first
    | assumption | apply finish_grows | apply State.answer_grows

theorem execInfo_grows {b₀ : State} {c : CmdCtx} {s : State} (h0 : b₀.Grows s) : Safe b₀ (execInfo c s) := by
  delta execInfo
  with_reducible repeat' first
    | assumption | ((try lift_lets -underBinder); intro x; clear_value x) | apply finish_grows
    | apply State.answer_grows

theorem runOp0_grows {b₀ : State} {op : Nat} {c : CmdCtx} {p : List Byte} {s : State} (h0 : b₀.Grows s) :
    Safe b₀ (runOp0 op c p s) := by
  delta runOp0
  with_reducible repeat' first
    | assumption | apply execNop_grows | apply execInfo_grows | apply execBootStatus_grows
    | apply execProfileSelect_grows | apply ite_safe | apply next_safe | split

theorem runOp1_grows {b₀ : State} {op : Nat} {c : CmdCtx} {p : List Byte} {s : State} (h0 : b₀.Grows s) :
    Safe b₀ (runOp1 op c p s) := by
  delta runOp1
  with_reducible repeat' first
    | assumption | apply execTimeRead_grows | apply execRefStatus_grows | apply execRefPriority_grows
    | apply execRefLockout_grows | apply execOutRealign_grows | apply execPtpTsqLookup_grows | apply execMeasRun_grows
    | apply execTrigArm_grows | apply ite_safe | apply next_safe | split

theorem runOp2_grows {b₀ : State} {op : Nat} {c : CmdCtx} {p : List Byte} {s : State} (h0 : b₀.Grows s) :
    Safe b₀ (runOp2 op c p s) := by
  delta runOp2
  with_reducible repeat' first
    | assumption | apply execJobArm_grows | apply execJobCommit_grows | apply execJobAbort_grows
    | apply execJobTeardown_grows | apply execJobStatus_grows | apply execStepRead_grows | apply ite_safe
    | apply next_safe | split

theorem runOp3_grows {b₀ : State} {op : Nat} {c : CmdCtx} {p : List Byte} {s : State} (h0 : b₀.Grows s) :
    Safe b₀ (runOp3 op c p s) := by
  delta runOp3
  with_reducible repeat' first
    | assumption | apply execSyncRead_grows | apply execSyncOp_grows | apply execSyncDebug_grows
    | apply execSyncSave_grows | apply execSyncRestore_grows | apply execSyncFlowReset_grows | apply ite_safe
    | apply next_safe | split

theorem runOp4_grows {b₀ : State} {op : Nat} {c : CmdCtx} {p : List Byte} {s : State} (h0 : b₀.Grows s) :
    Safe b₀ (runOp4 op c p s) := by
  delta runOp4
  with_reducible repeat' first
    | assumption | apply execGroupCreate_grows | apply execGroupAdd_grows | apply execGroupSeal_grows
    | apply execGroupRenew_grows | apply execGroupDelete_grows | apply execGroupStatus_grows | apply execGqBind_grows
    | apply execGqUnbind_grows | apply execGqStatus_grows | apply execGroupBasin_grows | apply ite_safe
    | apply next_safe | split

theorem runOp5_grows {b₀ : State} {op : Nat} {c : CmdCtx} {p : List Byte} {s : State} (h0 : b₀.Grows s) :
    Safe b₀ (runOp5 op c p s) := by
  delta runOp5
  with_reducible repeat' first
    | assumption | apply execCsStatus_grows | apply execCsLedger_grows | apply execCsFence_grows
    | apply execCsOpt_grows | apply execPgStatus_grows | apply execPgCap_grows | apply execPgEnergy_grows
    | apply execPgRegions_grows | apply execPgModel_grows | apply ite_safe | apply next_safe | split

theorem runOp6_grows {b₀ : State} {op : Nat} {c : CmdCtx} {p : List Byte} {image : Option (List Byte)} {s : State} (h0 : b₀.Grows s) :
    Safe b₀ (runOp6 op c p image s) := by
  delta runOp6
  with_reducible repeat' first
    | assumption | apply execDetStatus_grows | apply execDetDigest_grows | apply execDetDigestCheck_grows
    | apply execDetSeed_grows | apply execJobPause_grows | apply execJobResume_grows | apply execJobSave_grows
    | apply execJobLoad_grows | apply ite_safe | apply next_safe | split

theorem runOp7_grows {b₀ : State} {op : Nat} {c : CmdCtx} {p : List Byte} {s : State} (h0 : b₀.Grows s) :
    Safe b₀ (runOp7 op c p s) := by
  delta runOp7
  with_reducible repeat' first
    | assumption | apply execHmSound_grows | apply execHmStatus_grows | apply execHmMap_grows
    | apply execLogRead_grows | apply execLogAdvance_grows | apply execHmSetState_grows | apply execHmScore_grows
    | apply execHmSpares_grows | apply execHmExpel_grows | apply execHmHoldRelease_grows | apply ite_safe
    | apply next_safe | split

theorem runOp8_grows {b₀ : State} {op : Nat} {c : CmdCtx} {p : List Byte} {s : State} (h0 : b₀.Grows s) :
    Safe b₀ (runOp8 op c p s) := by
  delta runOp8
  with_reducible repeat' first
    | assumption | apply execOptStatus_grows | apply execOptLines_grows | apply execOptSwap_grows
    | apply execOptResearch_grows | apply execOcsArm_grows | apply execOcsCancel_grows | apply ite_safe
    | apply next_safe | split

theorem runOp9_grows {b₀ : State} {op : Nat} {c : CmdCtx} {p : List Byte} {s : State} (h0 : b₀.Grows s) :
    Safe b₀ (runOp9 op c p s) := by
  delta runOp9
  with_reducible repeat' first
    | assumption | apply execSessionClose_grows | apply execGroupSession_grows | apply execIdCert_grows
    | apply execSignStamp_grows | apply execLcStatus_grows | apply execLcTransition_grows | apply execKeyBind_grows
    | apply ite_safe | apply next_safe | split

theorem runOpA_grows {b₀ : State} {op : Nat} {c : CmdCtx} {p : List Byte} {s : State} (h0 : b₀.Grows s) :
    Safe b₀ (runOpA op c p s) := by
  delta runOpA
  with_reducible repeat' first
    | assumption | apply execFwBegin_grows | apply execFwChunk_grows | apply execFwStatus_grows
    | apply execFwCancel_grows | apply ite_safe | apply next_safe | split

theorem runOpF_grows {b₀ : State} {op : Nat} {c : CmdCtx} {p : List Byte} {s : State} (h0 : b₀.Grows s) :
    Safe b₀ (runOpF op c p s) := by
  delta runOpF
  with_reducible repeat' first
    | assumption | apply execDbgRead_grows | apply execDbgWrite_grows | apply ite_safe | apply next_safe | split

theorem runOp_grows {b₀ : State} {op : Nat} {c : CmdCtx} {p : List Byte} {image : Option (List Byte)} {s : State} (h0 : b₀.Grows s) :
    Safe b₀ (runOp op c p image s) := by
  delta runOp
  with_reducible repeat' first
    | assumption | apply runOp0_grows | apply runOp1_grows | apply runOp2_grows | apply runOp3_grows
    | apply runOp4_grows | apply runOp5_grows | apply runOp6_grows | apply runOp7_grows | apply runOp8_grows
    | apply runOp9_grows | apply runOpA_grows | apply runOpF_grows | apply ite_safe | apply next_safe | split

theorem resNext_grows {b₀ s : State} {x₀ : Res} (h0 : b₀.Grows s) (h1 : Safe b₀ x₀) : b₀.Grows (resNext s x₀) := by
  obtain ⟨t, rfl, h⟩ := h1
  exact h

theorem State.authFail_grows {b₀ : State} {s : State} {d : Dev} {session : Nat} {reason : Byte} (h0 : b₀.Grows s) :
    b₀.Grows (State.authFail s d session reason) := by
  delta State.authFail
  with_reducible repeat' first
    | assumption | apply State.bumpSat_grows | apply State.logKind_grows

theorem State.deny_grows {b₀ : State} {s : State} {c : CmdCtx} {op : Byte} {st : Nat} (h0 : b₀.Grows s) :
    b₀.Grows (State.deny s c op st) := by
  delta State.deny
  with_reducible repeat' first
    | assumption | apply State.bumpSat_grows | apply State.sendAnswer_grows

theorem State.runChecked_grows {b₀ : State} {s : State} {c : CmdCtx} {loc : Bool} {op : Byte} {key : Option Nat} {p : List Byte} {image : Option (List Byte)} (h0 : b₀.Grows s) :
    b₀.Grows (State.runChecked s c loc op key p image) := by
  delta State.runChecked
  with_reducible repeat' first
    | assumption | ((try lift_lets -underBinder); intro x; clear_value x) | apply State.sendAnswer_grows
    | apply State.deny_grows | apply resNext_grows | apply runOp_grows | apply State.bump_grows | apply ite_grows

theorem State.badVersion_grows {b₀ : State} {s : State} {c : CmdCtx} {type : Nat} {op : Byte} (h0 : b₀.Grows s) :
    b₀.Grows (State.badVersion s c type op) := by
  delta State.badVersion
  with_reducible repeat' first
    | assumption | apply State.sendAnswer_grows

theorem State.resend_grows {b₀ : State} {s : State} {c : CmdCtx} {a : Answer} (h0 : b₀.Grows s) :
    b₀.Grows (State.resend s c a) := by
  delta State.resend
  repeat' first
    | with_reducible assumption | (intro x; fail_if_success clear_value x)
    | ((try lift_lets -underBinder); intro x; first | (refine (have _ : b₀.Grows x := ?_; ?_); (on_goal 2 => clear_value x); (on_goal 1 => dsimp only [x]; clear x)) | clear_value x)
    | intro _ | with_reducible apply State.doIf_grows | with_reducible apply State.sendAnswer_grows
    | with_reducible fail_if_no_progress apply mk_grows | split

theorem State.runSession_grows {b₀ : State} {s : State} {c : CmdCtx} {loc : Bool} {h : PktHeader} {x : Session} {p : List Byte} {image : Option (List Byte)} (h0 : b₀.Grows s) :
    b₀.Grows (State.runSession s c loc h x p image) := by
  delta State.runSession
  with_reducible repeat' first
    | assumption
    | ((try lift_lets -underBinder); intro x; first | (refine (have _ : b₀.Grows x := ?_; ?_); (on_goal 2 => clear_value x); (on_goal 1 => dsimp only [x]; clear x)) | clear_value x)
    | apply State.endSessions_grows | apply State.bumpSat_grows | apply State.sendAnswer_grows
    | apply State.accept_grows | apply State.setSession_grows | apply State.badVersion_grows
    | apply State.resend_grows | apply State.runChecked_grows | fail_if_no_progress apply mk_grows | apply ite_grows
    | split

theorem State.request_grows {b₀ : State} {s : State} {d : Dev} {loc : Bool} {k : Packet} {raw : List Byte} {image : Option (List Byte)} (h0 : b₀.Grows s) :
    b₀.Grows (State.request s d loc k raw image) := by
  delta State.request
  with_reducible repeat' first
    | assumption | ((try lift_lets -underBinder); intro x; clear_value x) | apply State.noticeFor_grows
    | apply State.badVersion_grows | apply State.sendAnswer_grows | apply resNext_grows | apply execSessionOpen_grows
    | apply State.bump_grows | apply State.runChecked_grows | apply State.bumpSat_grows | apply State.authFail_grows
    | apply State.runSession_grows | fail_if_no_progress apply mk_grows | apply ite_grows | split

theorem State.takePacket_grows {b₀ : State} {s : State} {d : Dev} {path : Path} {raw : List Byte} {image : Option (List Byte)} (h0 : b₀.Grows s) :
    b₀.Grows (State.takePacket s d path raw image) := by
  delta State.takePacket
  repeat' first
    | with_reducible assumption | (intro x; fail_if_success clear_value x)
    | ((try lift_lets -underBinder); intro x; first | (refine (have _ : b₀.Grows x := ?_; ?_); (on_goal 2 => clear_value x); (on_goal 1 => dsimp only [x]; clear x)) | clear_value x)
    | intro _ | with_reducible apply State.noticeFor_grows | with_reducible apply State.setCmd_grows
    | with_reducible apply State.sendWays_grows | with_reducible apply State.toHost_grows
    | with_reducible apply State.request_grows | with_reducible fail_if_no_progress apply mk_grows
    | with_reducible apply ite_grows | with_reducible apply foldl_grows | split

theorem execPacketReassembled_grows {b₀ : State} {d : Dev} {image : Option (List Byte)} {s : State} (h0 : b₀.Grows s) :
    Safe b₀ (execPacketReassembled d image s) := by
  delta execPacketReassembled
  with_reducible repeat' first
    | assumption
    | ((try lift_lets -underBinder); intro x; first | (refine (have _ : b₀.Grows x := ?_; ?_); (on_goal 2 => clear_value x); (on_goal 1 => dsimp only [x]; clear x)) | clear_value x)
    | apply finish_grows | apply State.setCmd_grows | apply State.logicWork_grows | apply State.mboxFree_grows
    | apply State.takePacket_grows | apply State.showReasm_grows | apply State.fragsGo_grows | apply ite_safe
    | apply next_safe | fail_if_no_progress apply mk_grows | apply ite_grows | split

theorem execSessionIdleTimeout_grows {b₀ : State} {d : Dev} {s : State} (h0 : b₀.Grows s) :
    Safe b₀ (execSessionIdleTimeout d s) := by
  delta execSessionIdleTimeout
  with_reducible repeat' first
    | assumption | apply finish_grows | apply State.endSessions_grows

theorem execCommandCompletion_grows {b₀ : State} {slot : Fin 2} {s : State} (h0 : b₀.Grows s) :
    Safe b₀ (execCommandCompletion slot s) := by
  delta execCommandCompletion
  with_reducible repeat' first
    | assumption | apply finish_grows | apply State.complete_grows

end Sys2Proof.Machine
end

