-- ==== Sys2Proof/Laws/State.lean ====
section
/-! SUPPORT. What each update of the state leaves alone, field by field, so that no proof unfolds a record update. -/

namespace Sys2Proof.Machine

open Sys2Proof

-- setDet

@[simp] theorem State.setDet_reg (s : State) (x : Det) : (s.setDet x).reg = s.reg := rfl
@[simp] theorem State.setDet_lkPart (s : State) (x : Det) : (s.setDet x).lkPart = s.lkPart := rfl
@[simp] theorem State.setDet_vdPart (s : State) (x : Det) : (s.setDet x).vdPart = s.vdPart := rfl
@[simp] theorem State.setDet_vd (s : State) (x : Det) : (s.setDet x).vd = s.vd := rfl
@[simp] theorem State.setDet_ports (s : State) (x : Det) : (s.setDet x).ports = s.ports := rfl
@[simp] theorem State.setDet_out (s : State) (x : Det) : (s.setDet x).out = s.out := rfl
@[simp] theorem State.setDet_free (s : State) (x : Det) : (s.setDet x).free = s.free := rfl
@[simp] theorem State.setDet_pending (s : State) (x : Det) : (s.setDet x).pending = s.pending := rfl
@[simp] theorem State.setDet_get (s : State) (x : Det) (f : Field) : (s.setDet x).get f = s.get f := rfl
@[simp] theorem State.setDet_same (s : State) (x : Det) : (s.setDet x).lk.det = x := rfl

-- setHm

@[simp] theorem State.setHm_reg (s : State) (x : Health) : (s.setHm x).reg = s.reg := rfl
@[simp] theorem State.setHm_lkPart (s : State) (x : Health) : (s.setHm x).lkPart = s.lkPart := rfl
@[simp] theorem State.setHm_vdPart (s : State) (x : Health) : (s.setHm x).vdPart = s.vdPart := rfl
@[simp] theorem State.setHm_vd (s : State) (x : Health) : (s.setHm x).vd = s.vd := rfl
@[simp] theorem State.setHm_ports (s : State) (x : Health) : (s.setHm x).ports = s.ports := rfl
@[simp] theorem State.setHm_out (s : State) (x : Health) : (s.setHm x).out = s.out := rfl
@[simp] theorem State.setHm_free (s : State) (x : Health) : (s.setHm x).free = s.free := rfl
@[simp] theorem State.setHm_pending (s : State) (x : Health) : (s.setHm x).pending = s.pending := rfl
@[simp] theorem State.setHm_get (s : State) (x : Health) (f : Field) : (s.setHm x).get f = s.get f := rfl
@[simp] theorem State.setHm_same (s : State) (x : Health) : (s.setHm x).lk.hm = x := rfl

-- setJobs

@[simp] theorem State.setJobs_reg (s : State) (x : Jobs) : (s.setJobs x).reg = s.reg := rfl
@[simp] theorem State.setJobs_lkPart (s : State) (x : Jobs) : (s.setJobs x).lkPart = s.lkPart := rfl
@[simp] theorem State.setJobs_vdPart (s : State) (x : Jobs) : (s.setJobs x).vdPart = s.vdPart := rfl
@[simp] theorem State.setJobs_vd (s : State) (x : Jobs) : (s.setJobs x).vd = s.vd := rfl
@[simp] theorem State.setJobs_ports (s : State) (x : Jobs) : (s.setJobs x).ports = s.ports := rfl
@[simp] theorem State.setJobs_out (s : State) (x : Jobs) : (s.setJobs x).out = s.out := rfl
@[simp] theorem State.setJobs_free (s : State) (x : Jobs) : (s.setJobs x).free = s.free := rfl
@[simp] theorem State.setJobs_pending (s : State) (x : Jobs) : (s.setJobs x).pending = s.pending := rfl
@[simp] theorem State.setJobs_get (s : State) (x : Jobs) (f : Field) : (s.setJobs x).get f = s.get f := rfl
@[simp] theorem State.setJobs_same (s : State) (x : Jobs) : (s.setJobs x).lk.jobs = x := rfl

-- setRing

@[simp] theorem State.setRing_reg (s : State) (x : Ring) : (s.setRing x).reg = s.reg := rfl
@[simp] theorem State.setRing_lkPart (s : State) (x : Ring) : (s.setRing x).lkPart = s.lkPart := rfl
@[simp] theorem State.setRing_vdPart (s : State) (x : Ring) : (s.setRing x).vdPart = s.vdPart := rfl
@[simp] theorem State.setRing_vd (s : State) (x : Ring) : (s.setRing x).vd = s.vd := rfl
@[simp] theorem State.setRing_ports (s : State) (x : Ring) : (s.setRing x).ports = s.ports := rfl
@[simp] theorem State.setRing_out (s : State) (x : Ring) : (s.setRing x).out = s.out := rfl
@[simp] theorem State.setRing_free (s : State) (x : Ring) : (s.setRing x).free = s.free := rfl
@[simp] theorem State.setRing_pending (s : State) (x : Ring) : (s.setRing x).pending = s.pending := rfl
@[simp] theorem State.setRing_get (s : State) (x : Ring) (f : Field) : (s.setRing x).get f = s.get f := rfl
@[simp] theorem State.setRing_same (s : State) (x : Ring) : (s.setRing x).lk.ring = x := rfl

-- setCs

@[simp] theorem State.setCs_reg (s : State) (x : Steward) : (s.setCs x).reg = s.reg := rfl
@[simp] theorem State.setCs_lkPart (s : State) (x : Steward) : (s.setCs x).lkPart = s.lkPart := rfl
@[simp] theorem State.setCs_vdPart (s : State) (x : Steward) : (s.setCs x).vdPart = s.vdPart := rfl
@[simp] theorem State.setCs_vd (s : State) (x : Steward) : (s.setCs x).vd = s.vd := rfl
@[simp] theorem State.setCs_ports (s : State) (x : Steward) : (s.setCs x).ports = s.ports := rfl
@[simp] theorem State.setCs_out (s : State) (x : Steward) : (s.setCs x).out = s.out := rfl
@[simp] theorem State.setCs_free (s : State) (x : Steward) : (s.setCs x).free = s.free := rfl
@[simp] theorem State.setCs_pending (s : State) (x : Steward) : (s.setCs x).pending = s.pending := rfl
@[simp] theorem State.setCs_get (s : State) (x : Steward) (f : Field) : (s.setCs x).get f = s.get f := rfl
@[simp] theorem State.setCs_same (s : State) (x : Steward) : (s.setCs x).lk.cs = x := rfl

-- setPg

@[simp] theorem State.setPg_reg (s : State) (x : Power) : (s.setPg x).reg = s.reg := rfl
@[simp] theorem State.setPg_lkPart (s : State) (x : Power) : (s.setPg x).lkPart = s.lkPart := rfl
@[simp] theorem State.setPg_vdPart (s : State) (x : Power) : (s.setPg x).vdPart = s.vdPart := rfl
@[simp] theorem State.setPg_vd (s : State) (x : Power) : (s.setPg x).vd = s.vd := rfl
@[simp] theorem State.setPg_ports (s : State) (x : Power) : (s.setPg x).ports = s.ports := rfl
@[simp] theorem State.setPg_out (s : State) (x : Power) : (s.setPg x).out = s.out := rfl
@[simp] theorem State.setPg_free (s : State) (x : Power) : (s.setPg x).free = s.free := rfl
@[simp] theorem State.setPg_pending (s : State) (x : Power) : (s.setPg x).pending = s.pending := rfl
@[simp] theorem State.setPg_get (s : State) (x : Power) (f : Field) : (s.setPg x).get f = s.get f := rfl
@[simp] theorem State.setPg_same (s : State) (x : Power) : (s.setPg x).lk.pg = x := rfl

-- setSync

@[simp] theorem State.setSync_reg (s : State) (x : Sync) : (s.setSync x).reg = s.reg := rfl
@[simp] theorem State.setSync_lkPart (s : State) (x : Sync) : (s.setSync x).lkPart = s.lkPart := rfl
@[simp] theorem State.setSync_vdPart (s : State) (x : Sync) : (s.setSync x).vdPart = s.vdPart := rfl
@[simp] theorem State.setSync_vd (s : State) (x : Sync) : (s.setSync x).vd = s.vd := rfl
@[simp] theorem State.setSync_ports (s : State) (x : Sync) : (s.setSync x).ports = s.ports := rfl
@[simp] theorem State.setSync_out (s : State) (x : Sync) : (s.setSync x).out = s.out := rfl
@[simp] theorem State.setSync_free (s : State) (x : Sync) : (s.setSync x).free = s.free := rfl
@[simp] theorem State.setSync_pending (s : State) (x : Sync) : (s.setSync x).pending = s.pending := rfl
@[simp] theorem State.setSync_get (s : State) (x : Sync) (f : Field) : (s.setSync x).get f = s.get f := rfl
@[simp] theorem State.setSync_same (s : State) (x : Sync) : (s.setSync x).lk.sync = x := rfl

-- setSlot

@[simp] theorem State.setSlot_reg (s : State) (i : Nat) (x : Slot) : (s.setSlot i x).reg = s.reg := rfl
@[simp] theorem State.setSlot_lkPart (s : State) (i : Nat) (x : Slot) : (s.setSlot i x).lkPart = s.lkPart := rfl
@[simp] theorem State.setSlot_vdPart (s : State) (i : Nat) (x : Slot) : (s.setSlot i x).vdPart = s.vdPart := rfl
@[simp] theorem State.setSlot_vd (s : State) (i : Nat) (x : Slot) : (s.setSlot i x).vd = s.vd := rfl
@[simp] theorem State.setSlot_ports (s : State) (i : Nat) (x : Slot) : (s.setSlot i x).ports = s.ports := rfl
@[simp] theorem State.setSlot_out (s : State) (i : Nat) (x : Slot) : (s.setSlot i x).out = s.out := rfl
@[simp] theorem State.setSlot_free (s : State) (i : Nat) (x : Slot) : (s.setSlot i x).free = s.free := rfl
@[simp] theorem State.setSlot_pending (s : State) (i : Nat) (x : Slot) : (s.setSlot i x).pending = s.pending := rfl
@[simp] theorem State.setSlot_get (s : State) (i : Nat) (x : Slot) (f : Field) : (s.setSlot i x).get f = s.get f := rfl

-- setRun

@[simp] theorem State.setRun_reg (s : State) (i : Nat) (x : SlotRun) : (s.setRun i x).reg = s.reg := rfl
@[simp] theorem State.setRun_lkPart (s : State) (i : Nat) (x : SlotRun) : (s.setRun i x).lkPart = s.lkPart := rfl
@[simp] theorem State.setRun_vdPart (s : State) (i : Nat) (x : SlotRun) : (s.setRun i x).vdPart = s.vdPart := rfl
@[simp] theorem State.setRun_vd (s : State) (i : Nat) (x : SlotRun) : (s.setRun i x).vd = s.vd := rfl
@[simp] theorem State.setRun_ports (s : State) (i : Nat) (x : SlotRun) : (s.setRun i x).ports = s.ports := rfl
@[simp] theorem State.setRun_out (s : State) (i : Nat) (x : SlotRun) : (s.setRun i x).out = s.out := rfl
@[simp] theorem State.setRun_free (s : State) (i : Nat) (x : SlotRun) : (s.setRun i x).free = s.free := rfl
@[simp] theorem State.setRun_pending (s : State) (i : Nat) (x : SlotRun) : (s.setRun i x).pending = s.pending := rfl
@[simp] theorem State.setRun_get (s : State) (i : Nat) (x : SlotRun) (f : Field) : (s.setRun i x).get f = s.get f := rfl

-- setTrain

@[simp] theorem State.setTrain_reg (s : State) (i : Nat) (x : Train) : (s.setTrain i x).reg = s.reg := rfl
@[simp] theorem State.setTrain_lkPart (s : State) (i : Nat) (x : Train) : (s.setTrain i x).lkPart = s.lkPart := rfl
@[simp] theorem State.setTrain_vdPart (s : State) (i : Nat) (x : Train) : (s.setTrain i x).vdPart = s.vdPart := rfl
@[simp] theorem State.setTrain_vd (s : State) (i : Nat) (x : Train) : (s.setTrain i x).vd = s.vd := rfl
@[simp] theorem State.setTrain_ports (s : State) (i : Nat) (x : Train) : (s.setTrain i x).ports = s.ports := rfl
@[simp] theorem State.setTrain_out (s : State) (i : Nat) (x : Train) : (s.setTrain i x).out = s.out := rfl
@[simp] theorem State.setTrain_free (s : State) (i : Nat) (x : Train) : (s.setTrain i x).free = s.free := rfl
@[simp] theorem State.setTrain_pending (s : State) (i : Nat) (x : Train) : (s.setTrain i x).pending = s.pending := rfl
@[simp] theorem State.setTrain_get (s : State) (i : Nat) (x : Train) (f : Field) : (s.setTrain i x).get f = s.get f := rfl

-- setRegion

@[simp] theorem State.setRegion_reg (s : State) (i : Nat) (x : Region) : (s.setRegion i x).reg = s.reg := rfl
@[simp] theorem State.setRegion_lkPart (s : State) (i : Nat) (x : Region) : (s.setRegion i x).lkPart = s.lkPart := rfl
@[simp] theorem State.setRegion_vdPart (s : State) (i : Nat) (x : Region) : (s.setRegion i x).vdPart = s.vdPart := rfl
@[simp] theorem State.setRegion_vd (s : State) (i : Nat) (x : Region) : (s.setRegion i x).vd = s.vd := rfl
@[simp] theorem State.setRegion_ports (s : State) (i : Nat) (x : Region) : (s.setRegion i x).ports = s.ports := rfl
@[simp] theorem State.setRegion_out (s : State) (i : Nat) (x : Region) : (s.setRegion i x).out = s.out := rfl
@[simp] theorem State.setRegion_free (s : State) (i : Nat) (x : Region) : (s.setRegion i x).free = s.free := rfl
@[simp] theorem State.setRegion_pending (s : State) (i : Nat) (x : Region) : (s.setRegion i x).pending = s.pending := rfl
@[simp] theorem State.setRegion_get (s : State) (i : Nat) (x : Region) (f : Field) : (s.setRegion i x).get f = s.get f := rfl

-- setCrossing

@[simp] theorem State.setCrossing_reg (s : State) (a b : Nat) (x : Crossing) : (s.setCrossing a b x).reg = s.reg := rfl
@[simp] theorem State.setCrossing_lkPart (s : State) (a b : Nat) (x : Crossing) : (s.setCrossing a b x).lkPart = s.lkPart := rfl
@[simp] theorem State.setCrossing_vdPart (s : State) (a b : Nat) (x : Crossing) : (s.setCrossing a b x).vdPart = s.vdPart := rfl
@[simp] theorem State.setCrossing_vd (s : State) (a b : Nat) (x : Crossing) : (s.setCrossing a b x).vd = s.vd := rfl
@[simp] theorem State.setCrossing_ports (s : State) (a b : Nat) (x : Crossing) : (s.setCrossing a b x).ports = s.ports := rfl
@[simp] theorem State.setCrossing_out (s : State) (a b : Nat) (x : Crossing) : (s.setCrossing a b x).out = s.out := rfl
@[simp] theorem State.setCrossing_free (s : State) (a b : Nat) (x : Crossing) : (s.setCrossing a b x).free = s.free := rfl
@[simp] theorem State.setCrossing_pending (s : State) (a b : Nat) (x : Crossing) : (s.setCrossing a b x).pending = s.pending := rfl
@[simp] theorem State.setCrossing_get (s : State) (a b : Nat) (x : Crossing) (f : Field) : (s.setCrossing a b x).get f = s.get f := rfl

-- setObj

@[simp] theorem State.setObj_reg (s : State) (i : Nat) (x : SyncObj) : (s.setObj i x).reg = s.reg := rfl
@[simp] theorem State.setObj_lkPart (s : State) (i : Nat) (x : SyncObj) : (s.setObj i x).lkPart = s.lkPart := rfl
@[simp] theorem State.setObj_vdPart (s : State) (i : Nat) (x : SyncObj) : (s.setObj i x).vdPart = s.vdPart := rfl
@[simp] theorem State.setObj_vd (s : State) (i : Nat) (x : SyncObj) : (s.setObj i x).vd = s.vd := rfl
@[simp] theorem State.setObj_ports (s : State) (i : Nat) (x : SyncObj) : (s.setObj i x).ports = s.ports := rfl
@[simp] theorem State.setObj_out (s : State) (i : Nat) (x : SyncObj) : (s.setObj i x).out = s.out := rfl
@[simp] theorem State.setObj_free (s : State) (i : Nat) (x : SyncObj) : (s.setObj i x).free = s.free := rfl
@[simp] theorem State.setObj_pending (s : State) (i : Nat) (x : SyncObj) : (s.setObj i x).pending = s.pending := rfl
@[simp] theorem State.setObj_get (s : State) (i : Nat) (x : SyncObj) (f : Field) : (s.setObj i x).get f = s.get f := rfl

-- setFlow

@[simp] theorem State.setFlow_reg (s : State) (i : Nat) (x : Flow) : (s.setFlow i x).reg = s.reg := rfl
@[simp] theorem State.setFlow_lkPart (s : State) (i : Nat) (x : Flow) : (s.setFlow i x).lkPart = s.lkPart := rfl
@[simp] theorem State.setFlow_vdPart (s : State) (i : Nat) (x : Flow) : (s.setFlow i x).vdPart = s.vdPart := rfl
@[simp] theorem State.setFlow_vd (s : State) (i : Nat) (x : Flow) : (s.setFlow i x).vd = s.vd := rfl
@[simp] theorem State.setFlow_ports (s : State) (i : Nat) (x : Flow) : (s.setFlow i x).ports = s.ports := rfl
@[simp] theorem State.setFlow_out (s : State) (i : Nat) (x : Flow) : (s.setFlow i x).out = s.out := rfl
@[simp] theorem State.setFlow_free (s : State) (i : Nat) (x : Flow) : (s.setFlow i x).free = s.free := rfl
@[simp] theorem State.setFlow_pending (s : State) (i : Nat) (x : Flow) : (s.setFlow i x).pending = s.pending := rfl
@[simp] theorem State.setFlow_get (s : State) (i : Nat) (x : Flow) (f : Field) : (s.setFlow i x).get f = s.get f := rfl

-- setHop

@[simp] theorem State.setHop_reg (s : State) (i : RingPort) (x : Hop) : (s.setHop i x).reg = s.reg := by cases i <;> rfl
@[simp] theorem State.setHop_lkPart (s : State) (i : RingPort) (x : Hop) : (s.setHop i x).lkPart = s.lkPart := by cases i <;> rfl
@[simp] theorem State.setHop_vdPart (s : State) (i : RingPort) (x : Hop) : (s.setHop i x).vdPart = s.vdPart := by cases i <;> rfl
@[simp] theorem State.setHop_vd (s : State) (i : RingPort) (x : Hop) : (s.setHop i x).vd = s.vd := by cases i <;> rfl
@[simp] theorem State.setHop_ports (s : State) (i : RingPort) (x : Hop) : (s.setHop i x).ports = s.ports := by cases i <;> rfl
@[simp] theorem State.setHop_out (s : State) (i : RingPort) (x : Hop) : (s.setHop i x).out = s.out := by cases i <;> rfl
@[simp] theorem State.setHop_free (s : State) (i : RingPort) (x : Hop) : (s.setHop i x).free = s.free := by cases i <;> rfl
@[simp] theorem State.setHop_pending (s : State) (i : RingPort) (x : Hop) : (s.setHop i x).pending = s.pending := by cases i <;> rfl
@[simp] theorem State.setHop_get (s : State) (i : RingPort) (x : Hop) (f : Field) : (s.setHop i x).get f = s.get f := by cases i <;> rfl

-- setHu

@[simp] theorem State.setHu_reg (s : State) (x : HmUnit) : (s.setHu x).reg = s.reg := rfl
@[simp] theorem State.setHu_lkPart (s : State) (x : HmUnit) : (s.setHu x).lkPart = s.lkPart := rfl
@[simp] theorem State.setHu_vdPart (s : State) (x : HmUnit) : (s.setHu x).vdPart = s.vdPart := rfl
@[simp] theorem State.setHu_lk (s : State) (x : HmUnit) : (s.setHu x).lk = s.lk := rfl
@[simp] theorem State.setHu_ports (s : State) (x : HmUnit) : (s.setHu x).ports = s.ports := rfl
@[simp] theorem State.setHu_out (s : State) (x : HmUnit) : (s.setHu x).out = s.out := rfl
@[simp] theorem State.setHu_free (s : State) (x : HmUnit) : (s.setHu x).free = s.free := rfl
@[simp] theorem State.setHu_pending (s : State) (x : HmUnit) : (s.setHu x).pending = s.pending := rfl
@[simp] theorem State.setHu_get (s : State) (x : HmUnit) (f : Field) : (s.setHu x).get f = s.get f := rfl
@[simp] theorem State.setHu_same (s : State) (x : HmUnit) : (s.setHu x).vd.hm = x := rfl

-- setRefs

@[simp] theorem State.setRefs_reg (s : State) (x : Refs) : (s.setRefs x).reg = s.reg := rfl
@[simp] theorem State.setRefs_lkPart (s : State) (x : Refs) : (s.setRefs x).lkPart = s.lkPart := rfl
@[simp] theorem State.setRefs_vdPart (s : State) (x : Refs) : (s.setRefs x).vdPart = s.vdPart := rfl
@[simp] theorem State.setRefs_lk (s : State) (x : Refs) : (s.setRefs x).lk = s.lk := rfl
@[simp] theorem State.setRefs_ports (s : State) (x : Refs) : (s.setRefs x).ports = s.ports := rfl
@[simp] theorem State.setRefs_out (s : State) (x : Refs) : (s.setRefs x).out = s.out := rfl
@[simp] theorem State.setRefs_free (s : State) (x : Refs) : (s.setRefs x).free = s.free := rfl
@[simp] theorem State.setRefs_pending (s : State) (x : Refs) : (s.setRefs x).pending = s.pending := rfl
@[simp] theorem State.setRefs_get (s : State) (x : Refs) (f : Field) : (s.setRefs x).get f = s.get f := rfl
@[simp] theorem State.setRefs_same (s : State) (x : Refs) : (s.setRefs x).vd.refs = x := rfl

-- setWindows

@[simp] theorem State.setWindows_reg (s : State) (x : List Window) : (s.setWindows x).reg = s.reg := rfl
@[simp] theorem State.setWindows_lkPart (s : State) (x : List Window) : (s.setWindows x).lkPart = s.lkPart := rfl
@[simp] theorem State.setWindows_vdPart (s : State) (x : List Window) : (s.setWindows x).vdPart = s.vdPart := rfl
@[simp] theorem State.setWindows_lk (s : State) (x : List Window) : (s.setWindows x).lk = s.lk := rfl
@[simp] theorem State.setWindows_ports (s : State) (x : List Window) : (s.setWindows x).ports = s.ports := rfl
@[simp] theorem State.setWindows_out (s : State) (x : List Window) : (s.setWindows x).out = s.out := rfl
@[simp] theorem State.setWindows_free (s : State) (x : List Window) : (s.setWindows x).free = s.free := rfl
@[simp] theorem State.setWindows_pending (s : State) (x : List Window) : (s.setWindows x).pending = s.pending := rfl
@[simp] theorem State.setWindows_get (s : State) (x : List Window) (f : Field) : (s.setWindows x).get f = s.get f := rfl
@[simp] theorem State.setWindows_same (s : State) (x : List Window) : (s.setWindows x).vd.windows = x := rfl

-- setDie

@[simp] theorem State.setDie_reg (s : State) (i : Nat) (x : HmDie) : (s.setDie i x).reg = s.reg := rfl
@[simp] theorem State.setDie_lkPart (s : State) (i : Nat) (x : HmDie) : (s.setDie i x).lkPart = s.lkPart := rfl
@[simp] theorem State.setDie_vdPart (s : State) (i : Nat) (x : HmDie) : (s.setDie i x).vdPart = s.vdPart := rfl
@[simp] theorem State.setDie_lk (s : State) (i : Nat) (x : HmDie) : (s.setDie i x).lk = s.lk := rfl
@[simp] theorem State.setDie_ports (s : State) (i : Nat) (x : HmDie) : (s.setDie i x).ports = s.ports := rfl
@[simp] theorem State.setDie_out (s : State) (i : Nat) (x : HmDie) : (s.setDie i x).out = s.out := rfl
@[simp] theorem State.setDie_free (s : State) (i : Nat) (x : HmDie) : (s.setDie i x).free = s.free := rfl
@[simp] theorem State.setDie_pending (s : State) (i : Nat) (x : HmDie) : (s.setDie i x).pending = s.pending := rfl
@[simp] theorem State.setDie_get (s : State) (i : Nat) (x : HmDie) (f : Field) : (s.setDie i x).get f = s.get f := rfl

-- setMeas

@[simp] theorem State.setMeas_reg (s : State) (i : Nat) (x : MeasCh) : (s.setMeas i x).reg = s.reg := rfl
@[simp] theorem State.setMeas_lkPart (s : State) (i : Nat) (x : MeasCh) : (s.setMeas i x).lkPart = s.lkPart := rfl
@[simp] theorem State.setMeas_vdPart (s : State) (i : Nat) (x : MeasCh) : (s.setMeas i x).vdPart = s.vdPart := rfl
@[simp] theorem State.setMeas_lk (s : State) (i : Nat) (x : MeasCh) : (s.setMeas i x).lk = s.lk := rfl
@[simp] theorem State.setMeas_ports (s : State) (i : Nat) (x : MeasCh) : (s.setMeas i x).ports = s.ports := rfl
@[simp] theorem State.setMeas_out (s : State) (i : Nat) (x : MeasCh) : (s.setMeas i x).out = s.out := rfl
@[simp] theorem State.setMeas_free (s : State) (i : Nat) (x : MeasCh) : (s.setMeas i x).free = s.free := rfl
@[simp] theorem State.setMeas_pending (s : State) (i : Nat) (x : MeasCh) : (s.setMeas i x).pending = s.pending := rfl
@[simp] theorem State.setMeas_get (s : State) (i : Nat) (x : MeasCh) (f : Field) : (s.setMeas i x).get f = s.get f := rfl

-- setMeasIn

@[simp] theorem State.setMeasIn_reg (s : State) (i : Nat) (x : MeasIn) : (s.setMeasIn i x).reg = s.reg := rfl
@[simp] theorem State.setMeasIn_lkPart (s : State) (i : Nat) (x : MeasIn) : (s.setMeasIn i x).lkPart = s.lkPart := rfl
@[simp] theorem State.setMeasIn_vdPart (s : State) (i : Nat) (x : MeasIn) : (s.setMeasIn i x).vdPart = s.vdPart := rfl
@[simp] theorem State.setMeasIn_lk (s : State) (i : Nat) (x : MeasIn) : (s.setMeasIn i x).lk = s.lk := rfl
@[simp] theorem State.setMeasIn_ports (s : State) (i : Nat) (x : MeasIn) : (s.setMeasIn i x).ports = s.ports := rfl
@[simp] theorem State.setMeasIn_out (s : State) (i : Nat) (x : MeasIn) : (s.setMeasIn i x).out = s.out := rfl
@[simp] theorem State.setMeasIn_free (s : State) (i : Nat) (x : MeasIn) : (s.setMeasIn i x).free = s.free := rfl
@[simp] theorem State.setMeasIn_pending (s : State) (i : Nat) (x : MeasIn) : (s.setMeasIn i x).pending = s.pending := rfl
@[simp] theorem State.setMeasIn_get (s : State) (i : Nat) (x : MeasIn) (f : Field) : (s.setMeasIn i x).get f = s.get f := rfl

-- setOe

@[simp] theorem State.setOe_reg (s : State) (i : Nat) (x : Oe) : (s.setOe i x).reg = s.reg := rfl
@[simp] theorem State.setOe_lkPart (s : State) (i : Nat) (x : Oe) : (s.setOe i x).lkPart = s.lkPart := rfl
@[simp] theorem State.setOe_vdPart (s : State) (i : Nat) (x : Oe) : (s.setOe i x).vdPart = s.vdPart := rfl
@[simp] theorem State.setOe_lk (s : State) (i : Nat) (x : Oe) : (s.setOe i x).lk = s.lk := rfl
@[simp] theorem State.setOe_ports (s : State) (i : Nat) (x : Oe) : (s.setOe i x).ports = s.ports := rfl
@[simp] theorem State.setOe_out (s : State) (i : Nat) (x : Oe) : (s.setOe i x).out = s.out := rfl
@[simp] theorem State.setOe_free (s : State) (i : Nat) (x : Oe) : (s.setOe i x).free = s.free := rfl
@[simp] theorem State.setOe_pending (s : State) (i : Nat) (x : Oe) : (s.setOe i x).pending = s.pending := rfl
@[simp] theorem State.setOe_get (s : State) (i : Nat) (x : Oe) (f : Field) : (s.setOe i x).get f = s.get f := rfl

-- setLine

@[simp] theorem State.setLine_reg (s : State) (a b : Nat) (x : OeLine) : (s.setLine a b x).reg = s.reg := rfl
@[simp] theorem State.setLine_lkPart (s : State) (a b : Nat) (x : OeLine) : (s.setLine a b x).lkPart = s.lkPart := rfl
@[simp] theorem State.setLine_vdPart (s : State) (a b : Nat) (x : OeLine) : (s.setLine a b x).vdPart = s.vdPart := rfl
@[simp] theorem State.setLine_lk (s : State) (a b : Nat) (x : OeLine) : (s.setLine a b x).lk = s.lk := rfl
@[simp] theorem State.setLine_ports (s : State) (a b : Nat) (x : OeLine) : (s.setLine a b x).ports = s.ports := rfl
@[simp] theorem State.setLine_out (s : State) (a b : Nat) (x : OeLine) : (s.setLine a b x).out = s.out := rfl
@[simp] theorem State.setLine_free (s : State) (a b : Nat) (x : OeLine) : (s.setLine a b x).free = s.free := rfl
@[simp] theorem State.setLine_pending (s : State) (a b : Nat) (x : OeLine) : (s.setLine a b x).pending = s.pending := rfl
@[simp] theorem State.setLine_get (s : State) (a b : Nat) (x : OeLine) (f : Field) : (s.setLine a b x).get f = s.get f := rfl

-- setOring

@[simp] theorem State.setOring_reg (s : State) (a b : Nat) (x : OeRing) : (s.setOring a b x).reg = s.reg := rfl
@[simp] theorem State.setOring_lkPart (s : State) (a b : Nat) (x : OeRing) : (s.setOring a b x).lkPart = s.lkPart := rfl
@[simp] theorem State.setOring_vdPart (s : State) (a b : Nat) (x : OeRing) : (s.setOring a b x).vdPart = s.vdPart := rfl
@[simp] theorem State.setOring_lk (s : State) (a b : Nat) (x : OeRing) : (s.setOring a b x).lk = s.lk := rfl
@[simp] theorem State.setOring_ports (s : State) (a b : Nat) (x : OeRing) : (s.setOring a b x).ports = s.ports := rfl
@[simp] theorem State.setOring_out (s : State) (a b : Nat) (x : OeRing) : (s.setOring a b x).out = s.out := rfl
@[simp] theorem State.setOring_free (s : State) (a b : Nat) (x : OeRing) : (s.setOring a b x).free = s.free := rfl
@[simp] theorem State.setOring_pending (s : State) (a b : Nat) (x : OeRing) : (s.setOring a b x).pending = s.pending := rfl
@[simp] theorem State.setOring_get (s : State) (a b : Nat) (x : OeRing) (f : Field) : (s.setOring a b x).get f = s.get f := rfl

-- setRefIn

@[simp] theorem State.setRefIn_reg (s : State) (i : Nat) (x : RefIn) : (s.setRefIn i x).reg = s.reg := rfl
@[simp] theorem State.setRefIn_lkPart (s : State) (i : Nat) (x : RefIn) : (s.setRefIn i x).lkPart = s.lkPart := rfl
@[simp] theorem State.setRefIn_vdPart (s : State) (i : Nat) (x : RefIn) : (s.setRefIn i x).vdPart = s.vdPart := rfl
@[simp] theorem State.setRefIn_lk (s : State) (i : Nat) (x : RefIn) : (s.setRefIn i x).lk = s.lk := rfl
@[simp] theorem State.setRefIn_ports (s : State) (i : Nat) (x : RefIn) : (s.setRefIn i x).ports = s.ports := rfl
@[simp] theorem State.setRefIn_out (s : State) (i : Nat) (x : RefIn) : (s.setRefIn i x).out = s.out := rfl
@[simp] theorem State.setRefIn_free (s : State) (i : Nat) (x : RefIn) : (s.setRefIn i x).free = s.free := rfl
@[simp] theorem State.setRefIn_pending (s : State) (i : Nat) (x : RefIn) : (s.setRefIn i x).pending = s.pending := rfl
@[simp] theorem State.setRefIn_get (s : State) (i : Nat) (x : RefIn) (f : Field) : (s.setRefIn i x).get f = s.get f := rfl

-- setPtp

@[simp] theorem State.setPtp_reg (s : State) (i : Nat) (x : PtpPort) : (s.setPtp i x).reg = s.reg := rfl
@[simp] theorem State.setPtp_lkPart (s : State) (i : Nat) (x : PtpPort) : (s.setPtp i x).lkPart = s.lkPart := rfl
@[simp] theorem State.setPtp_vdPart (s : State) (i : Nat) (x : PtpPort) : (s.setPtp i x).vdPart = s.vdPart := rfl
@[simp] theorem State.setPtp_lk (s : State) (i : Nat) (x : PtpPort) : (s.setPtp i x).lk = s.lk := rfl
@[simp] theorem State.setPtp_ports (s : State) (i : Nat) (x : PtpPort) : (s.setPtp i x).ports = s.ports := rfl
@[simp] theorem State.setPtp_out (s : State) (i : Nat) (x : PtpPort) : (s.setPtp i x).out = s.out := rfl
@[simp] theorem State.setPtp_free (s : State) (i : Nat) (x : PtpPort) : (s.setPtp i x).free = s.free := rfl
@[simp] theorem State.setPtp_pending (s : State) (i : Nat) (x : PtpPort) : (s.setPtp i x).pending = s.pending := rfl
@[simp] theorem State.setPtp_get (s : State) (i : Nat) (x : PtpPort) (f : Field) : (s.setPtp i x).get f = s.get f := rfl

-- setOcs

@[simp] theorem State.setOcs_reg (s : State) (i : Nat) (x : Ocs) : (s.setOcs i x).reg = s.reg := rfl
@[simp] theorem State.setOcs_lkPart (s : State) (i : Nat) (x : Ocs) : (s.setOcs i x).lkPart = s.lkPart := rfl
@[simp] theorem State.setOcs_vdPart (s : State) (i : Nat) (x : Ocs) : (s.setOcs i x).vdPart = s.vdPart := rfl
@[simp] theorem State.setOcs_lk (s : State) (i : Nat) (x : Ocs) : (s.setOcs i x).lk = s.lk := rfl
@[simp] theorem State.setOcs_ports (s : State) (i : Nat) (x : Ocs) : (s.setOcs i x).ports = s.ports := rfl
@[simp] theorem State.setOcs_out (s : State) (i : Nat) (x : Ocs) : (s.setOcs i x).out = s.out := rfl
@[simp] theorem State.setOcs_free (s : State) (i : Nat) (x : Ocs) : (s.setOcs i x).free = s.free := rfl
@[simp] theorem State.setOcs_pending (s : State) (i : Nat) (x : Ocs) : (s.setOcs i x).pending = s.pending := rfl
@[simp] theorem State.setOcs_get (s : State) (i : Nat) (x : Ocs) (f : Field) : (s.setOcs i x).get f = s.get f := rfl

-- setPart

@[simp] theorem State.setPart_reg (s : State) (d : Dev) (x : Part) : (s.setPart d x).reg = s.reg := by cases d <;> rfl
@[simp] theorem State.setPart_lk (s : State) (d : Dev) (x : Part) : (s.setPart d x).lk = s.lk := by cases d <;> rfl
@[simp] theorem State.setPart_vd (s : State) (d : Dev) (x : Part) : (s.setPart d x).vd = s.vd := by cases d <;> rfl
@[simp] theorem State.setPart_ports (s : State) (d : Dev) (x : Part) : (s.setPart d x).ports = s.ports := by cases d <;> rfl
@[simp] theorem State.setPart_out (s : State) (d : Dev) (x : Part) : (s.setPart d x).out = s.out := by cases d <;> rfl
@[simp] theorem State.setPart_free (s : State) (d : Dev) (x : Part) : (s.setPart d x).free = s.free := by cases d <;> rfl
@[simp] theorem State.setPart_pending (s : State) (d : Dev) (x : Part) : (s.setPart d x).pending = s.pending := by cases d <;> rfl
@[simp] theorem State.setPart_get (s : State) (d : Dev) (x : Part) (f : Field) : (s.setPart d x).get f = s.get f := by cases d <;> rfl
@[simp] theorem State.setPart_same (s : State) (d : Dev) (x : Part) : (s.setPart d x).part d = x := by cases d <;> rfl
@[simp] theorem State.setPart_lotik (s : State) (x : Part) : (s.setPart .lotik x).vdPart = s.vdPart := rfl
@[simp] theorem State.setPart_verard (s : State) (x : Part) : (s.setPart .verard x).lkPart = s.lkPart := rfl

-- setClk

@[simp] theorem State.setClk_reg (s : State) (d : Dev) (x : Clock) : (s.setClk d x).reg = s.reg := by cases d <;> rfl
@[simp] theorem State.setClk_lk (s : State) (d : Dev) (x : Clock) : (s.setClk d x).lk = s.lk := by cases d <;> rfl
@[simp] theorem State.setClk_vd (s : State) (d : Dev) (x : Clock) : (s.setClk d x).vd = s.vd := by cases d <;> rfl
@[simp] theorem State.setClk_ports (s : State) (d : Dev) (x : Clock) : (s.setClk d x).ports = s.ports := by cases d <;> rfl
@[simp] theorem State.setClk_out (s : State) (d : Dev) (x : Clock) : (s.setClk d x).out = s.out := by cases d <;> rfl
@[simp] theorem State.setClk_free (s : State) (d : Dev) (x : Clock) : (s.setClk d x).free = s.free := by cases d <;> rfl
@[simp] theorem State.setClk_pending (s : State) (d : Dev) (x : Clock) : (s.setClk d x).pending = s.pending := by cases d <;> rfl
@[simp] theorem State.setClk_get (s : State) (d : Dev) (x : Clock) (f : Field) : (s.setClk d x).get f = s.get f := by cases d <;> rfl
@[simp] theorem State.setClk_same (s : State) (d : Dev) (x : Clock) : (s.setClk d x).clk d = x := by cases d <;> rfl
@[simp] theorem State.setClk_lotik (s : State) (x : Clock) : (s.setClk .lotik x).vdPart = s.vdPart := rfl
@[simp] theorem State.setClk_verard (s : State) (x : Clock) : (s.setClk .verard x).lkPart = s.lkPart := rfl

-- setLog

@[simp] theorem State.setLog_reg (s : State) (d : Dev) (x : Log) : (s.setLog d x).reg = s.reg := by cases d <;> rfl
@[simp] theorem State.setLog_lk (s : State) (d : Dev) (x : Log) : (s.setLog d x).lk = s.lk := by cases d <;> rfl
@[simp] theorem State.setLog_vd (s : State) (d : Dev) (x : Log) : (s.setLog d x).vd = s.vd := by cases d <;> rfl
@[simp] theorem State.setLog_ports (s : State) (d : Dev) (x : Log) : (s.setLog d x).ports = s.ports := by cases d <;> rfl
@[simp] theorem State.setLog_out (s : State) (d : Dev) (x : Log) : (s.setLog d x).out = s.out := by cases d <;> rfl
@[simp] theorem State.setLog_free (s : State) (d : Dev) (x : Log) : (s.setLog d x).free = s.free := by cases d <;> rfl
@[simp] theorem State.setLog_pending (s : State) (d : Dev) (x : Log) : (s.setLog d x).pending = s.pending := by cases d <;> rfl
@[simp] theorem State.setLog_get (s : State) (d : Dev) (x : Log) (f : Field) : (s.setLog d x).get f = s.get f := by cases d <;> rfl
@[simp] theorem State.setLog_same (s : State) (d : Dev) (x : Log) : (s.setLog d x).log d = x := by cases d <;> rfl
@[simp] theorem State.setLog_lotik (s : State) (x : Log) : (s.setLog .lotik x).vdPart = s.vdPart := rfl
@[simp] theorem State.setLog_verard (s : State) (x : Log) : (s.setLog .verard x).lkPart = s.lkPart := rfl

-- setCmd

@[simp] theorem State.setCmd_reg (s : State) (d : Dev) (x : CmdPath) : (s.setCmd d x).reg = s.reg := by cases d <;> rfl
@[simp] theorem State.setCmd_lk (s : State) (d : Dev) (x : CmdPath) : (s.setCmd d x).lk = s.lk := by cases d <;> rfl
@[simp] theorem State.setCmd_vd (s : State) (d : Dev) (x : CmdPath) : (s.setCmd d x).vd = s.vd := by cases d <;> rfl
@[simp] theorem State.setCmd_ports (s : State) (d : Dev) (x : CmdPath) : (s.setCmd d x).ports = s.ports := by cases d <;> rfl
@[simp] theorem State.setCmd_out (s : State) (d : Dev) (x : CmdPath) : (s.setCmd d x).out = s.out := by cases d <;> rfl
@[simp] theorem State.setCmd_free (s : State) (d : Dev) (x : CmdPath) : (s.setCmd d x).free = s.free := by cases d <;> rfl
@[simp] theorem State.setCmd_pending (s : State) (d : Dev) (x : CmdPath) : (s.setCmd d x).pending = s.pending := by cases d <;> rfl
@[simp] theorem State.setCmd_get (s : State) (d : Dev) (x : CmdPath) (f : Field) : (s.setCmd d x).get f = s.get f := by cases d <;> rfl
@[simp] theorem State.setCmd_same (s : State) (d : Dev) (x : CmdPath) : (s.setCmd d x).cmd d = x := by cases d <;> rfl
@[simp] theorem State.setCmd_lotik (s : State) (x : CmdPath) : (s.setCmd .lotik x).vdPart = s.vdPart := rfl
@[simp] theorem State.setCmd_verard (s : State) (x : CmdPath) : (s.setCmd .verard x).lkPart = s.lkPart := rfl

-- setSec

@[simp] theorem State.setSec_reg (s : State) (d : Dev) (x : Sec) : (s.setSec d x).reg = s.reg := by cases d <;> rfl
@[simp] theorem State.setSec_lk (s : State) (d : Dev) (x : Sec) : (s.setSec d x).lk = s.lk := by cases d <;> rfl
@[simp] theorem State.setSec_vd (s : State) (d : Dev) (x : Sec) : (s.setSec d x).vd = s.vd := by cases d <;> rfl
@[simp] theorem State.setSec_ports (s : State) (d : Dev) (x : Sec) : (s.setSec d x).ports = s.ports := by cases d <;> rfl
@[simp] theorem State.setSec_out (s : State) (d : Dev) (x : Sec) : (s.setSec d x).out = s.out := by cases d <;> rfl
@[simp] theorem State.setSec_free (s : State) (d : Dev) (x : Sec) : (s.setSec d x).free = s.free := by cases d <;> rfl
@[simp] theorem State.setSec_pending (s : State) (d : Dev) (x : Sec) : (s.setSec d x).pending = s.pending := by cases d <;> rfl
@[simp] theorem State.setSec_get (s : State) (d : Dev) (x : Sec) (f : Field) : (s.setSec d x).get f = s.get f := by cases d <;> rfl
@[simp] theorem State.setSec_same (s : State) (d : Dev) (x : Sec) : (s.setSec d x).sec d = x := by cases d <;> rfl
@[simp] theorem State.setSec_lotik (s : State) (x : Sec) : (s.setSec .lotik x).vdPart = s.vdPart := rfl
@[simp] theorem State.setSec_verard (s : State) (x : Sec) : (s.setSec .verard x).lkPart = s.lkPart := rfl

-- setSecRun

@[simp] theorem State.setSecRun_reg (s : State) (d : Dev) (x : SecRun) : (s.setSecRun d x).reg = s.reg := by cases d <;> rfl
@[simp] theorem State.setSecRun_lk (s : State) (d : Dev) (x : SecRun) : (s.setSecRun d x).lk = s.lk := by cases d <;> rfl
@[simp] theorem State.setSecRun_vd (s : State) (d : Dev) (x : SecRun) : (s.setSecRun d x).vd = s.vd := by cases d <;> rfl
@[simp] theorem State.setSecRun_ports (s : State) (d : Dev) (x : SecRun) : (s.setSecRun d x).ports = s.ports := by cases d <;> rfl
@[simp] theorem State.setSecRun_out (s : State) (d : Dev) (x : SecRun) : (s.setSecRun d x).out = s.out := by cases d <;> rfl
@[simp] theorem State.setSecRun_free (s : State) (d : Dev) (x : SecRun) : (s.setSecRun d x).free = s.free := by cases d <;> rfl
@[simp] theorem State.setSecRun_pending (s : State) (d : Dev) (x : SecRun) : (s.setSecRun d x).pending = s.pending := by cases d <;> rfl
@[simp] theorem State.setSecRun_get (s : State) (d : Dev) (x : SecRun) (f : Field) : (s.setSecRun d x).get f = s.get f := by cases d <;> rfl
@[simp] theorem State.setSecRun_same (s : State) (d : Dev) (x : SecRun) : (s.setSecRun d x).secRun d = x := by cases d <;> rfl
@[simp] theorem State.setSecRun_lotik (s : State) (x : SecRun) : (s.setSecRun .lotik x).vdPart = s.vdPart := rfl
@[simp] theorem State.setSecRun_verard (s : State) (x : SecRun) : (s.setSecRun .verard x).lkPart = s.lkPart := rfl

-- setTree

@[simp] theorem State.setTree_reg (s : State) (d : Dev) (x : Tree) : (s.setTree d x).reg = s.reg := by cases d <;> rfl
@[simp] theorem State.setTree_lk (s : State) (d : Dev) (x : Tree) : (s.setTree d x).lk = s.lk := by cases d <;> rfl
@[simp] theorem State.setTree_vd (s : State) (d : Dev) (x : Tree) : (s.setTree d x).vd = s.vd := by cases d <;> rfl
@[simp] theorem State.setTree_ports (s : State) (d : Dev) (x : Tree) : (s.setTree d x).ports = s.ports := by cases d <;> rfl
@[simp] theorem State.setTree_out (s : State) (d : Dev) (x : Tree) : (s.setTree d x).out = s.out := by cases d <;> rfl
@[simp] theorem State.setTree_free (s : State) (d : Dev) (x : Tree) : (s.setTree d x).free = s.free := by cases d <;> rfl
@[simp] theorem State.setTree_pending (s : State) (d : Dev) (x : Tree) : (s.setTree d x).pending = s.pending := by cases d <;> rfl
@[simp] theorem State.setTree_get (s : State) (d : Dev) (x : Tree) (f : Field) : (s.setTree d x).get f = s.get f := by cases d <;> rfl
@[simp] theorem State.setTree_same (s : State) (d : Dev) (x : Tree) : (s.setTree d x).tree d = x := by cases d <;> rfl
@[simp] theorem State.setTree_lotik (s : State) (x : Tree) : (s.setTree .lotik x).vdPart = s.vdPart := rfl
@[simp] theorem State.setTree_verard (s : State) (x : Tree) : (s.setTree .verard x).lkPart = s.lkPart := rfl

-- The register store, the ports, the outputs and the free values

@[simp] theorem State.put_lkPart (s : State) (f : Field) (x : Nat) : (s.put f x).lkPart = s.lkPart := rfl
@[simp] theorem State.put_vdPart (s : State) (f : Field) (x : Nat) : (s.put f x).vdPart = s.vdPart := rfl
@[simp] theorem State.put_lk (s : State) (f : Field) (x : Nat) : (s.put f x).lk = s.lk := rfl
@[simp] theorem State.put_vd (s : State) (f : Field) (x : Nat) : (s.put f x).vd = s.vd := rfl
@[simp] theorem State.put_ports (s : State) (f : Field) (x : Nat) : (s.put f x).ports = s.ports := rfl
@[simp] theorem State.put_out (s : State) (f : Field) (x : Nat) : (s.put f x).out = s.out := rfl
@[simp] theorem State.put_free (s : State) (f : Field) (x : Nat) : (s.put f x).free = s.free := rfl
@[simp] theorem State.put_pending (s : State) (f : Field) (x : Nat) : (s.put f x).pending = s.pending := rfl
@[simp] theorem State.putB_lkPart (s : State) (f : Field) (x : Bool) : (s.putB f x).lkPart = s.lkPart := rfl
@[simp] theorem State.putB_vdPart (s : State) (f : Field) (x : Bool) : (s.putB f x).vdPart = s.vdPart := rfl
@[simp] theorem State.putB_lk (s : State) (f : Field) (x : Bool) : (s.putB f x).lk = s.lk := rfl
@[simp] theorem State.putB_vd (s : State) (f : Field) (x : Bool) : (s.putB f x).vd = s.vd := rfl
@[simp] theorem State.putB_ports (s : State) (f : Field) (x : Bool) : (s.putB f x).ports = s.ports := rfl
@[simp] theorem State.putB_out (s : State) (f : Field) (x : Bool) : (s.putB f x).out = s.out := rfl
@[simp] theorem State.putB_free (s : State) (f : Field) (x : Bool) : (s.putB f x).free = s.free := rfl
@[simp] theorem State.putB_pending (s : State) (f : Field) (x : Bool) : (s.putB f x).pending = s.pending := rfl
@[simp] theorem State.putS_lkPart (s : State) (f : Field) (x : Int) : (s.putS f x).lkPart = s.lkPart := rfl
@[simp] theorem State.putS_vdPart (s : State) (f : Field) (x : Int) : (s.putS f x).vdPart = s.vdPart := rfl
@[simp] theorem State.putS_lk (s : State) (f : Field) (x : Int) : (s.putS f x).lk = s.lk := rfl
@[simp] theorem State.putS_vd (s : State) (f : Field) (x : Int) : (s.putS f x).vd = s.vd := rfl
@[simp] theorem State.putS_ports (s : State) (f : Field) (x : Int) : (s.putS f x).ports = s.ports := rfl
@[simp] theorem State.putS_out (s : State) (f : Field) (x : Int) : (s.putS f x).out = s.out := rfl
@[simp] theorem State.putS_free (s : State) (f : Field) (x : Int) : (s.putS f x).free = s.free := rfl
@[simp] theorem State.putS_pending (s : State) (f : Field) (x : Int) : (s.putS f x).pending = s.pending := rfl
@[simp] theorem State.putSat_lkPart (s : State) (f : Field) (x : Nat) : (s.putSat f x).lkPart = s.lkPart := rfl
@[simp] theorem State.putSat_vdPart (s : State) (f : Field) (x : Nat) : (s.putSat f x).vdPart = s.vdPart := rfl
@[simp] theorem State.putSat_lk (s : State) (f : Field) (x : Nat) : (s.putSat f x).lk = s.lk := rfl
@[simp] theorem State.putSat_vd (s : State) (f : Field) (x : Nat) : (s.putSat f x).vd = s.vd := rfl
@[simp] theorem State.putSat_ports (s : State) (f : Field) (x : Nat) : (s.putSat f x).ports = s.ports := rfl
@[simp] theorem State.putSat_out (s : State) (f : Field) (x : Nat) : (s.putSat f x).out = s.out := rfl
@[simp] theorem State.putSat_free (s : State) (f : Field) (x : Nat) : (s.putSat f x).free = s.free := rfl
@[simp] theorem State.putSat_pending (s : State) (f : Field) (x : Nat) : (s.putSat f x).pending = s.pending := rfl
@[simp] theorem State.putSSat_lkPart (s : State) (f : Field) (x : Int) : (s.putSSat f x).lkPart = s.lkPart := rfl
@[simp] theorem State.putSSat_vdPart (s : State) (f : Field) (x : Int) : (s.putSSat f x).vdPart = s.vdPart := rfl
@[simp] theorem State.putSSat_lk (s : State) (f : Field) (x : Int) : (s.putSSat f x).lk = s.lk := rfl
@[simp] theorem State.putSSat_vd (s : State) (f : Field) (x : Int) : (s.putSSat f x).vd = s.vd := rfl
@[simp] theorem State.putSSat_ports (s : State) (f : Field) (x : Int) : (s.putSSat f x).ports = s.ports := rfl
@[simp] theorem State.putSSat_out (s : State) (f : Field) (x : Int) : (s.putSSat f x).out = s.out := rfl
@[simp] theorem State.putSSat_free (s : State) (f : Field) (x : Int) : (s.putSSat f x).free = s.free := rfl
@[simp] theorem State.putSSat_pending (s : State) (f : Field) (x : Int) : (s.putSSat f x).pending = s.pending := rfl
@[simp] theorem State.setPort_reg (s : State) (p : PortId) (x : TPort) : (s.setPort p x).reg = s.reg := rfl
@[simp] theorem State.setPort_lkPart (s : State) (p : PortId) (x : TPort) : (s.setPort p x).lkPart = s.lkPart := rfl
@[simp] theorem State.setPort_vdPart (s : State) (p : PortId) (x : TPort) : (s.setPort p x).vdPart = s.vdPart := rfl
@[simp] theorem State.setPort_lk (s : State) (p : PortId) (x : TPort) : (s.setPort p x).lk = s.lk := rfl
@[simp] theorem State.setPort_vd (s : State) (p : PortId) (x : TPort) : (s.setPort p x).vd = s.vd := rfl
@[simp] theorem State.setPort_out (s : State) (p : PortId) (x : TPort) : (s.setPort p x).out = s.out := rfl
@[simp] theorem State.setPort_free (s : State) (p : PortId) (x : TPort) : (s.setPort p x).free = s.free := rfl
@[simp] theorem State.setPort_pending (s : State) (p : PortId) (x : TPort) : (s.setPort p x).pending = s.pending := rfl
@[simp] theorem State.setPort_get (s : State) (p : PortId) (x : TPort) (f : Field) : (s.setPort p x).get f = s.get f := rfl
@[simp] theorem State.emit_reg (s : State) (x : Out) : (s.emit x).reg = s.reg := rfl
@[simp] theorem State.emit_lkPart (s : State) (x : Out) : (s.emit x).lkPart = s.lkPart := rfl
@[simp] theorem State.emit_vdPart (s : State) (x : Out) : (s.emit x).vdPart = s.vdPart := rfl
@[simp] theorem State.emit_lk (s : State) (x : Out) : (s.emit x).lk = s.lk := rfl
@[simp] theorem State.emit_vd (s : State) (x : Out) : (s.emit x).vd = s.vd := rfl
@[simp] theorem State.emit_ports (s : State) (x : Out) : (s.emit x).ports = s.ports := rfl
@[simp] theorem State.emit_free (s : State) (x : Out) : (s.emit x).free = s.free := rfl
@[simp] theorem State.emit_pending (s : State) (x : Out) : (s.emit x).pending = s.pending := rfl
@[simp] theorem State.emit_get (s : State) (x : Out) (f : Field) : (s.emit x).get f = s.get f := rfl
@[simp] theorem State.emit_same (s : State) (x : Out) : (s.emit x).out = x :: s.out := rfl
@[simp] theorem State.drawn_reg (s : State) : s.drawn.reg = s.reg := rfl
@[simp] theorem State.drawn_lkPart (s : State) : s.drawn.lkPart = s.lkPart := rfl
@[simp] theorem State.drawn_vdPart (s : State) : s.drawn.vdPart = s.vdPart := rfl
@[simp] theorem State.drawn_lk (s : State) : s.drawn.lk = s.lk := rfl
@[simp] theorem State.drawn_vd (s : State) : s.drawn.vd = s.vd := rfl
@[simp] theorem State.drawn_ports (s : State) : s.drawn.ports = s.ports := rfl
@[simp] theorem State.drawn_out (s : State) : s.drawn.out = s.out := rfl
@[simp] theorem State.drawn_pending (s : State) : s.drawn.pending = s.pending := rfl
@[simp] theorem State.drawn_free (s : State) : s.drawn.free = s.free + 1 := rfl

-- Read after write in the tables

@[simp] theorem State.setSlot_slot_same (s : State) (i : Nat) (x : Slot) : (s.setSlot i x).slot i = x := smGet_smPut_same _ _ _ _
theorem State.setSlot_slot_ne (s : State) (i j : Nat) (x : Slot) (h : j ≠ i) : (s.setSlot i x).slot j = s.slot j := smGet_smPut_ne _ _ _ _ _ h
@[simp] theorem State.setRun_run_same (s : State) (i : Nat) (x : SlotRun) : (s.setRun i x).run i = x := smGet_smPut_same _ _ _ _
theorem State.setRun_run_ne (s : State) (i j : Nat) (x : SlotRun) (h : j ≠ i) : (s.setRun i x).run j = s.run j := smGet_smPut_ne _ _ _ _ _ h
@[simp] theorem State.setObj_obj_same (s : State) (i : Nat) (x : SyncObj) : (s.setObj i x).obj i = x := smGet_smPut_same _ _ _ _
theorem State.setObj_obj_ne (s : State) (i j : Nat) (x : SyncObj) (h : j ≠ i) : (s.setObj i x).obj j = s.obj j := smGet_smPut_ne _ _ _ _ _ h
@[simp] theorem State.setFlow_flow_same (s : State) (i : Nat) (x : Flow) : (s.setFlow i x).flow i = x := smGet_smPut_same _ _ _ _
theorem State.setFlow_flow_ne (s : State) (i j : Nat) (x : Flow) (h : j ≠ i) : (s.setFlow i x).flow j = s.flow j := smGet_smPut_ne _ _ _ _ _ h
@[simp] theorem State.setRegion_region_same (s : State) (i : Nat) (x : Region) : (s.setRegion i x).region i = x := smGet_smPut_same _ _ _ _
theorem State.setRegion_region_ne (s : State) (i j : Nat) (x : Region) (h : j ≠ i) : (s.setRegion i x).region j = s.region j := smGet_smPut_ne _ _ _ _ _ h
@[simp] theorem State.setDie_die_same (s : State) (i : Nat) (x : HmDie) : (s.setDie i x).die i = x := smGet_smPut_same _ _ _ _
theorem State.setDie_die_ne (s : State) (i j : Nat) (x : HmDie) (h : j ≠ i) : (s.setDie i x).die j = s.die j := smGet_smPut_ne _ _ _ _ _ h
@[simp] theorem State.setMeas_meas_same (s : State) (i : Nat) (x : MeasCh) : (s.setMeas i x).meas i = x := smGet_smPut_same _ _ _ _
theorem State.setMeas_meas_ne (s : State) (i j : Nat) (x : MeasCh) (h : j ≠ i) : (s.setMeas i x).meas j = s.meas j := smGet_smPut_ne _ _ _ _ _ h
@[simp] theorem State.setMeasIn_measIn_same (s : State) (i : Nat) (x : MeasIn) : (s.setMeasIn i x).measIn i = x := smGet_smPut_same _ _ _ _
theorem State.setMeasIn_measIn_ne (s : State) (i j : Nat) (x : MeasIn) (h : j ≠ i) : (s.setMeasIn i x).measIn j = s.measIn j := smGet_smPut_ne _ _ _ _ _ h
@[simp] theorem State.setOe_oe_same (s : State) (i : Nat) (x : Oe) : (s.setOe i x).oe i = x := smGet_smPut_same _ _ _ _
theorem State.setOe_oe_ne (s : State) (i j : Nat) (x : Oe) (h : j ≠ i) : (s.setOe i x).oe j = s.oe j := smGet_smPut_ne _ _ _ _ _ h
@[simp] theorem State.setRefIn_refIn_same (s : State) (i : Nat) (x : RefIn) : (s.setRefIn i x).refIn i = x := smGet_smPut_same _ _ _ _
theorem State.setRefIn_refIn_ne (s : State) (i j : Nat) (x : RefIn) (h : j ≠ i) : (s.setRefIn i x).refIn j = s.refIn j := smGet_smPut_ne _ _ _ _ _ h
@[simp] theorem State.setPtp_ptp_same (s : State) (i : Nat) (x : PtpPort) : (s.setPtp i x).ptp i = x := smGet_smPut_same _ _ _ _
theorem State.setPtp_ptp_ne (s : State) (i j : Nat) (x : PtpPort) (h : j ≠ i) : (s.setPtp i x).ptp j = s.ptp j := smGet_smPut_ne _ _ _ _ _ h
@[simp] theorem State.setOcs_ocs_same (s : State) (i : Nat) (x : Ocs) : (s.setOcs i x).ocs i = x := smGet_smPut_same _ _ _ _
theorem State.setOcs_ocs_ne (s : State) (i j : Nat) (x : Ocs) (h : j ≠ i) : (s.setOcs i x).ocs j = s.ocs j := smGet_smPut_ne _ _ _ _ _ h
@[simp] theorem State.setTrain_train_same (s : State) (i : Nat) (x : Train) : (s.setTrain i x).train i = x := smGet_smPut_same _ _ _ _
theorem State.setTrain_train_ne (s : State) (i j : Nat) (x : Train) (h : j ≠ i) : (s.setTrain i x).train j = s.train j := smGet_smPut_ne _ _ _ _ _ h

end Sys2Proof.Machine
end

