-- ==== Sys2Proof/WellFormed.lean ====
section
/-! DEFINITION. Well-formed commands: the sizes that the types of the operands do not fix. -/

namespace Sys2Proof

/-- Whether a command's operands have the sizes the spec gives them. -/
def Instr.wf (i : Instr) : Bool :=
  match i with
  | .registerWrite _ _ _ => true
  | .registerReadClear _ _ _ => true
  | .badSizeAccess bar off _ size => !((size == 4 || (bar == 2 && size == 8)) && off.toNat % size.toNat == 0)
  | .unmappedAccess _ _ _ => true
  | .lotikReset _ _ => true
  | .hostReset => true
  | .verardReset _ => true
  | .pcieReset => true
  | .verardThermalHold _ => true
  | .springClockArrive => true
  | .fuseLoadDone _ _ => true
  | .thermalHoldRelease _ => true
  | .bootBlockReadDone err block => err || decide (block.length ≤ 33856)
  | .profileSelectTimeout => true
  | .ringStageDone => true
  | .gridPllLocked => true
  | .gridPllLockTimeout => true
  | .verardStageDone _ area0 area1 _ => decide (area0.length ≤ 4160) && decide (area1.length ≤ 4160)
  | .logicDomainSleep => true
  | .logicDomainWake => true
  | .fclkLoss => true
  | .timingCoreSleep => true
  | .timingCoreWake => true
  | .timeLatch _ _ => true
  | .timeCaptureDone _ _ => true
  | .tickSend _ _ => true
  | .tickBlockRx _ _ _ => true
  | .timeFrameRx _ _ _ => true
  | .authFrameRx _ _ tag => tag.body.length == 16
  | .enumFrameRx _ _ => true
  | .enumAckRx _ _ _ _ => true
  | .calFrameRx _ b => (match b.body with | .keyAgreement k => decide (k.length ≤ 1024) | _ => true)
  | .healthFrameRx _ kind body =>
    kind == 1 && body.body.length == 32 || kind == 2 && (body.body.length == 64 || body.body.length == 128)
  | .portEnableWrite _ _ => true
  | .portRetry _ => true
  | .portCalNow _ => true
  | .detectLightValid _ => true
  | .pinFaultDetect _ _ => true
  | .pinFaultClear _ => true
  | .trainDone _ _ => true
  | .trainTimeout _ _ => true
  | .linkKeyAgreed _ => true
  | .linkKeyFail _ _ => true
  | .foldCalDone _ low high => decide (low ≤ high)
  | .tickTimeout _ => true
  | .portFaultRetry _ => true
  | .routineRecal _ => true
  | .linkRekey _ => true
  | .linkKeyExpiry _ => true
  | .ringTimeSend => true
  | .ringTimeRx _ _ _ _ _ _ _ _ => true
  | .ringEchoSend _ => true
  | .ringEchoRx _ _ _ _ _ => true
  | .ringEnumStart => true
  | .ringEnumSymbol _ _ _ _ _ => true
  | .ringEnumTimeout => true
  | .ringStatusRx _ _ _ _ _ _ _ _ _ _ _ _ _ _ => true
  | .handoverRx _ _ _ _ _ => true
  | .handoverEffective => true
  | .ringMasterSilent => true
  | .wake _ _ _ _ _ => true
  | .ringDataRx _ _ _ _ _ _ => true
  | .ringClockTimeout => true
  | .ringHopOpen _ _ => true
  | .ringHopClose _ => true
  | .selectorUpdate => true
  | .inputQualified _ _ => true
  | .wtrExpiry _ => true
  | .ptpMessageRx _ _ _ => true
  | .ptpMessageTx _ _ _ => true
  | .announceTimeout _ => true
  | .ppsEdge _ _ => true
  | .ppsEdgeTimeout => true
  | .ref10mLoss => true
  | .bearingRefresh => true
  | .bearingResidualDone => true
  | .refPrioWrite _ _ => true
  | .refLockoutWrite _ _ => true
  | .ocxoWarmChange _ => true
  | .ocxoReadySet => true
  | .ocxoFail => true
  | .ocxoRecover => true
  | .lockAchieved _ => true
  | .slewDone _ => true
  | .holdoverUpdate _ => true
  | .ppsOutPulse => true
  | .vdOutCtrlRealign => true
  | .realignEffective => true
  | .ptpTsqKeyLookup _ _ _ => true
  | .ptpTsqPop _ _ _ => true
  | .refStatus _ => true
  | .refPriority _ _ _ => true
  | .refLockout _ _ _ => true
  | .outRealign _ => true
  | .ptpTsqLookup _ _ _ _ => true
  | .measStart _ _ => true
  | .measAbort _ _ => true
  | .measStartInstant _ => true
  | .measEdge _ _ _ => true
  | .measTimeout _ => true
  | .measGateClose _ => true
  | .measFitDone _ => true
  | .measCalNow => true
  | .measLaneCalDue _ _ => true
  | .measLaneCalDone _ => true
  | .measRun _ _ _ _ _ _ => true
  | .trigInEdge _ _ _ => true
  | .trigPop _ => true
  | .trigOutArm _ _ => true
  | .trigOutCancel _ _ => true
  | .trigOutEdge _ => true
  | .trigArm _ _ _ _ _ _ => true
  | .stepDoneWrite => true
  | .hostAbortWrite => true
  | .progEntryWrite _ _ _ => true
  | .fetchBurstDone _ _ wps => decide (wps.length ≤ 64)
  | .prefetchDone _ => true
  | .prefetchTimeout _ => true
  | .markTimed => true
  | .overrunTest => true
  | .markRaise => true
  | .waypointNop => true
  | .waypointFreq => true
  | .waypointPowerHint => true
  | .waypointOptical => true
  | .waypointCapture => true
  | .waypointSounding => true
  | .waypointEnd => true
  | .gateLimitExpiry => true
  | .arm _ _ => true
  | .armAck _ _ => true
  | .commit _ _ => true
  | .commitAck _ _ => true
  | .confirm _ _ => true
  | .abortRx _ _ => true
  | .teardown _ _ => true
  | .drained _ _ => true
  | .retire _ _ => true
  | .jobFault _ _ => true
  | .defer _ _ => true
  | .deferReq _ _ => true
  | .deferGatherTimer _ => true
  | .pause _ _ => true
  | .paused _ _ => true
  | .pauseReportTimeout _ => true
  | .resume _ _ => true
  | .checkRx _ _ => true
  | .ackAggregateTimer _ => true
  | .commitDeadline _ => true
  | .lastAbortTime _ => true
  | .jobStartT0 => true
  | .startCheckTimeout _ => true
  | .teardownInstant => true
  | .drainComplete => true
  | .retireTimeout _ => true
  | .jobArm _ _ _ _ _ _ _ => true
  | .jobCommit _ _ _ _ => true
  | .jobAbort _ _ _ => true
  | .jobTeardown _ _ _ _ => true
  | .jobStatus _ _ => true
  | .stepRead _ => true
  | .stepLoRead => true
  | .syncSignal _ _ _ _ => true
  | .syncArrive _ _ _ _ => true
  | .syncReset _ _ _ _ => true
  | .syncReadOp _ _ _ _ => true
  | .syncWait _ _ _ _ _ => true
  | .syncWaitConsume _ _ _ _ => true
  | .syncCancel _ _ _ _ => true
  | .remoteSignal _ => true
  | .feedBeat _ _ => true
  | .pendSlotStale => true
  | .syncOpWrite _ _ => true
  | .syncCfgWrite _ _ => true
  | .syncFlowResetWrite _ => true
  | .syncSaveWrite _ => true
  | .syncRestoreWrite _ => true
  | .syncSaveDone _ => true
  | .syncRestoreDone _ _ => true
  | .syncDbgSelWrite _ => true
  | .syncRead _ _ => true
  | .syncOp _ _ _ _ => true
  | .syncDebug _ _ _ => true
  | .syncSave _ _ _ _ _ _ => true
  | .syncRestore _ _ => true
  | .syncFlowReset _ _ => true
  | .sqDoorbell _ _ => true
  | .submissionFetched _ ok entry => !ok || entry.length == 256
  | .cqHeadWrite _ _ => true
  | .gqEnableWrite _ _ => true
  | .arriveRx _ _ => true
  | .partialRx _ _ => true
  | .completeRx _ _ => true
  | .resultRx _ _ => true
  | .faultRx _ _ => true
  | .pathRx _ _ => true
  | .bind _ _ => true
  | .bindAck _ _ => true
  | .creditRx _ _ _ _ _ _ => true
  | .renewRx _ _ => true
  | .unbind _ _ => true
  | .quiet _ _ => true
  | .opLimitTimeout _ => true
  | .sealTimeout _ => true
  | .renewTimeout _ => true
  | .creditStall _ => true
  | .groupCreate _ _ _ _ _ _ _ => true
  | .groupAdd _ _ _ entries => decide (entries.length ≤ 500)
  | .groupSeal _ _ _ => true
  | .groupRenew _ _ _ => true
  | .groupDelete _ _ _ => true
  | .groupStatus _ _ => true
  | .gqBind _ _ _ _ _ _ _ _ _ => true
  | .gqUnbind _ _ => true
  | .gqStatus _ _ => true
  | .groupBasin _ _ _ => true
  | .regionDroop _ => true
  | .regionStretchRecover _ => true
  | .opSwitchPrepare => true
  | .opSwitchCheck _ _ => true
  | .opSwitch => true
  | .opSwitchFinish => true
  | .marginErrorEdge _ => true
  | .marginLowSet _ => true
  | .regionLor _ => true
  | .gridPllLockLoss => true
  | .regionRejoinTick _ => true
  | .fenceCore _ => true
  | .fenceRegion _ => true
  | .csRegionCapture _ => true
  | .csStatus _ => true
  | .csLedger _ _ _ => true
  | .csFence _ _ _ => true
  | .csOpt _ => true
  | .activitySample temps => decide (temps.length ≤ 64)
  | .boostRearm => true
  | .pgCapWrite _ => true
  | .pgLoCapture _ => true
  | .pgRegionCapture _ => true
  | .thermalWarning _ _ => true
  | .twarnCeilStep => true
  | .twarnClear => true
  | .thermalTrip _ _ => true
  | .pgStatus _ => true
  | .pgCap _ _ _ => true
  | .pgEnergy _ => true
  | .pgRegions _ _ _ => true
  | .pgModel _ => true
  | .alignRequest => true
  | .alignReadyCheck _ => true
  | .digestBeat _ => true
  | .digReqGo _ => true
  | .digestRecordCapture _ => true
  | .seedRequest _ _ _ => true
  | .seedGoWrite _ => true
  | .timePortRequest => true
  | .detStatus _ => true
  | .detDigest _ _ => true
  | .detDigestCheck _ _ _ => true
  | .detSeed _ _ _ _ => true
  | .jobPause _ _ _ _ => true
  | .jobResume _ _ _ _ => true
  | .jobSave _ _ => true
  | .jobLoad _ _ image => (match image with | some b => b.length == 896 | none => true)
  | .oeEnableWrite _ _ => true
  | .laserQualified _ => true
  | .laserWaitTimeout _ _ => true
  | .opticalSearchDone _ mods drops _ => mods.length == 64 && drops.length == 64
  | .oeFaultRetry _ => true
  | .oeResearch _ => true
  | .ringLockUpdate _ errs _ _ pwr => errs.length == 16 && pwr.length == 16
  | .toneCheck _ tones => tones.length == 16
  | .wrongLineRecovered _ _ _ => true
  | .dropRingFreezeExpiry _ => true
  | .lineBiasAdjust _ pwr => pwr.length == 10
  | .linePowerFall _ _ => true
  | .spareWarm _ _ => true
  | .spareSwap _ => true
  | .swapConfirm _ => true
  | .swapWaitTimeout _ _ => true
  | .lsStatusRx _ _ _ => true
  | .ocsArmWrite _ _ => true
  | .ocsCancelWrite _ _ => true
  | .ocsPulse _ => true
  | .ocsSwitchTimeout _ => true
  | .optStatus _ _ => true
  | .optLines _ _ => true
  | .optSwap _ _ _ => true
  | .optResearch _ _ => true
  | .ocsArm _ _ _ _ _ _ _ _ => true
  | .ocsCancel _ _ => true
  | .soundNow _ => true
  | .autoSounding => true
  | .soundingDone _ _ _ _ => true
  | .katStart => true
  | .katSignature _ _ => true
  | .katTimeout => true
  | .soundingRecordRx => true
  | .healthSilence _ => true
  | .healthRecoverTick _ => true
  | .probationExpiry _ => true
  | .expelRateWindow => true
  | .logRdWrite _ _ => true
  | .logSpillDone _ => true
  | .rateSummary _ => true
  | .logSelWrite _ => true
  | .hmSound _ _ => true
  | .hmStatus _ => true
  | .hmMap _ => true
  | .logRead _ _ _ => true
  | .logAdvance _ _ => true
  | .hmSetState _ _ => true
  | .hmScore _ _ _ => true
  | .hmSpares _ _ => true
  | .hmExpel _ _ => true
  | .hmHoldRelease _ => true
  | .bootStatus _ => true
  | .profileSelect _ _ => true
  | .cmdFragment path f => (match path with | .host _ => false | _ => true) && decide (f.body.total.toNat ≤ 38) &&
    decide (f.body.index < f.body.total) && decide (f.body.part.length ≤ 108)
  | .packetReassembled _ image => (match image with | some b => b.length == 896 | none => true)
  | .reassemblyTimeout _ => true
  | .routeRecordExpiry _ => true
  | .sessionIdleTimeout _ => true
  | .commandCompletion _ => true
  | .mboxClaim => true
  | .mboxSend => true
  | .mboxRelease => true
  | .cmdReqDoorbell _ slots => slots.all (fun b => b.length == 4096)
  | .cmdRspHeadWrite _ => true
  | .nop _ data => decide (data.length ≤ 4028)
  | .info _ => true
  | .timeRead _ _ => true
  | .sessionOpen _ _ hdr pay => hdr.length == 32 && decide (pay.length ≤ 4032)
  | .sessionClose _ => true
  | .groupSession _ _ _ _ key _ => key.length == 32
  | .dbgRead _ _ _ => true
  | .dbgWrite _ _ _ => true
  | .idCert _ install => install.length == 0 || install.length == 512
  | .signStamp _ digest _ => digest.length == 16
  | .stampSigned _ => true
  | .lcStatus _ => true
  | .lcTransition _ _ _ token => token.length == 0 || token.length == 136
  | .keyBind _ index _ key => key.length == (if index = 0xFE then 0 else if index = 0xFD then 32 else 97)
  | .fwBegin _ _ _ _ => true
  | .fwEraseDone _ => true
  | .fwChunk _ _ _ data => decide (1 ≤ data.length) && decide (data.length ≤ 2048)
  | .fwChunkProgrammed => true
  | .fwStatus _ => true
  | .fwCancel _ _ => true
  | .profileProgram => true
  | .profileReload => true
  | .profileProgramDone _ => true
  | .hostResetRelease => true
  | .commitHoldDeadline _ => true
  | .lorReferenceValid _ => true
  | .detSlotBoundary _ => true
  | .regionClockEdge _ _ _ _ _ => true
  | .activityEvent _ _ => true
  | .springEdge => true
  | .logCoalesceEnd _ => true
  | .lightReturn _ => true

end Sys2Proof
end

