-- ==== Sys2Proof/Tests/Slice0.lean ====
section
/-! SUPPORT. Tests: ill-formed commands refused, worked examples of the spec, single commands from small states, and for each
statement with hypotheses (Sys2Proof/Certificates/Slice0/Obligations.lean) a witness that meets them, clause by clause. -/

set_option maxRecDepth 4000

open Sys2Proof Sys2Proof.Machine

namespace Sys2Proof.Tests

/-- The state after reset with some register fields set. -/
def regs (l : List (Field × Nat)) : State := l.foldl (fun s x => s.put x.1 x.2) State.reset

/-- The state after reset with Verard past its PROFILE stage, where its endpoint answers (R363). -/
def vup : State := regs [(R.VD_BOOT_STAGE, 3)]

/-- Both parts' hall time at a tick. -/
def tick (n : Nat) (s : State) : State :=
  (s.setClk .lotik { s.clk .lotik with ticks := BitVec.ofNat 64 n }).setClk .verard { s.clk .verard with ticks := BitVec.ofNat 64 n }

/-- A command for a part, from the host of unit 0 in session 1. -/
def cmd (d : Dev) : CmdCtx := { dev := d, src := 0, session := 1, seq := 0, version := 1, quiet := false }

/-- A job control message of group 1, generation 0. -/
def jobMsg : JobMsg := { kind := 0, gid := 1, gen := 0 }

/-- A group message of group 1, generation 0. -/
def grpMsg : GroupMsg := { kind := 0, gid := 1, gen := 0 }

/-- A sealed package group whose one member is die 0 of the package with UA 0. -/
def sealed : GroupRec := { state := 3, members := [(0, 1)], depth := 1, maxElems := 1 }

/-- A state whose two parts hold a group as GID 1. -/
def grouped (g : GroupRec) (s : State) : State := (s.setGroup .lotik 1 g).setGroup .verard 1 g

/-- A job at its root, of group 1. -/
def jobRec (state round : Nat) : JobRec := { gid := 1, gen := 0, state := state, round := round }

/-- A state in which slot 0 runs a job with one waypoint in its buffer. -/
def running (wp : BitVec 128) (planned : Bool) (s : State) : State :=
  (s.put R.LK_STEP_STAT_SLOT0_STATE 4).setSlot 0 { buf := [{ pc := 0, wp := wp, planned := planned }] }

/-- A session of Lotik opened with a key slot. -/
def session (key : Nat) (s : State) : State := s.setCmd .lotik { s.cmd .lotik with sessions := [{ id := 1, keyIndex := key }] }


/-- Both parts have their UAs, the ring is up and the T-links used in tests are in SERVICE. -/
def linked (s : State) : State :=
  [(R.LK_TOPO_UA_VALID, 1), (R.VD_TOPO_UA_VALID, 1), (R.LK_RING_STAT_E_STATE, 2), (R.LK_RING_STAT_W_STATE, 2),
    (R.PORT_STAT_STATE .tlink, 6), (R.PORT_STAT_STATE .upA, 6), (R.PORT_STAT_STATE (.down 63), 6)].foldl
    (fun s x => s.put x.1 x.2) s

/-- The CRC of a ring symbol's bits [111:0] (R64). -/
def crcOf (v : Nat) : BitVec 16 := BitVec.ofNat 16 (symbolCrc v)

/-- A DATA symbol of die 3 to every die. -/
def dataSymbol : RingSymbol := { ccw := true, src := 3, dst := 0x3F, body := .data 0x0123456789ABCDEF01234567 }

/-- The CRC of R51 before its final inversion, going on from a value. -/
def crcFrom (c : Nat) (bs : List Byte) : Nat :=
  bs.foldl (fun c b => (List.range 8).foldl (fun c i => crc32Bit c (b.toNat.testBit (7 - i))) c) c

theorem crcFrom_append (c : Nat) (as bs : List Byte) : crcFrom c (as ++ bs) = crcFrom (crcFrom c as) bs := List.foldl_append

/-- 99 bytes of 0. -/
def zeros99 : List Byte := List.replicate 99 0

theorem crc_one : crcFrom 0xFFFFFFFF [1] = 1254728195 := by decide +kernel
theorem crc_zeros0 : crcFrom 1254728195 zeros99 = 731751224 := by decide +kernel
theorem crc_zeros1 : crcFrom 731751224 zeros99 = 3809572947 := by decide +kernel
theorem crc_zeros2 : crcFrom 3809572947 zeros99 = 2792506048 := by decide +kernel
theorem crc_zeros3 : crcFrom 2792506048 zeros99 = 3926914808 := by decide +kernel
theorem crc_zeros4 : crcFrom 3926914808 zeros99 = 678396670 := by decide +kernel
theorem crc_zeros5 : crcFrom 678396670 zeros99 = 2093002735 := by decide +kernel
theorem crc_zeros6 : crcFrom 2093002735 zeros99 = 4038770950 := by decide +kernel
theorem crc_zeros7 : crcFrom 4038770950 zeros99 = 621749191 := by decide +kernel
theorem crc_zeros8 : crcFrom 621749191 zeros99 = 3611936562 := by decide +kernel

/-- A job image of a program of length 0 with seed 0. -/
def image896 : List Byte := [1] ++ List.replicate 123 0 ++ [205, 56, 182, 40] ++ List.replicate 768 0

theorem image896_crc : crc32 (image896.take 124 ++ image896.drop 128) = 683030733 := by
  have h : image896.take 124 ++ image896.drop 128 =
      [1] ++ zeros99 ++ zeros99 ++ zeros99 ++ zeros99 ++ zeros99 ++ zeros99 ++ zeros99 ++ zeros99 ++ zeros99 := by decide
  have e (bs : List Byte) : crc32 bs = crcFrom 0xFFFFFFFF bs ^^^ 0xFFFFFFFF := rfl
  rw [h, e]
  simp only [crcFrom_append, crc_one, crc_zeros0, crc_zeros1, crc_zeros2, crc_zeros3, crc_zeros4, crc_zeros5, crc_zeros6, crc_zeros7, crc_zeros8]
  decide

/-- A state in which slot 0 takes a job image. -/
def loadable : State := regs [(R.LK_STEP_STAT_SLOT0_STATE, 1)]

theorem image896_fits : ((loadable.accept (cmd .lotik) 0x67 0).emit (.hostRead .lotik 0 896)).imageFits 0 image896 = true := by
  unfold State.imageFits
  rw [image896_crc]
  decide +kernel

-- Ill-formed commands, one for each check of WellFormed.lean.

theorem test_wf_refuses :
    (∀ i ∈ ([.badSizeAccess 0 4 true 4, .bootBlockReadDone false (List.replicate 33857 0), .authFrameRx .tlink 0 ⟨[], true⟩,
        .healthFrameRx (.ring .e) 1 ⟨[], true⟩, .healthFrameRx (.ring .e) 2 ⟨List.replicate 32 0, true⟩, .submissionFetched 0 true [], .ringLockUpdate 0 [] 0 0 [],
        .toneCheck 0 [], .lineBiasAdjust 0 [], .cmdReqDoorbell 0 [[]], .sessionOpen (cmd .lotik) true [] [],
        .groupSession (cmd .lotik) 0 0 0 [] 0, .idCert (cmd .lotik) [1], .signStamp (cmd .lotik) [] 0, .lcTransition (cmd .lotik) 1 0 [1],
        .keyBind (cmd .lotik) 1 0 [1], .fwChunk (cmd .lotik) 0 0 []] : List Instr), i.wf = false) := by decide +kernel

theorem test_wf_refuses_long :
    (∀ i ∈ ([.verardStageDone [] (List.replicate 4161 0) [] 3, .verardStageDone [] [] (List.replicate 4161 0) 3,
        .groupAdd (cmd .verard) 0 0 (List.replicate 501 0), .activitySample (List.replicate 65 0), .nop (cmd .lotik) (List.replicate 4029 0),
        .fwChunk (cmd .lotik) 0 0 (List.replicate 2049 0), .fetchBurstDone 0 false (List.replicate 65 0)] : List Instr), i.wf = false) := by
  decide +kernel

theorem test_wf_accepts :
    (∀ i ∈ ([.badSizeAccess 0 5 true 4, .badSizeAccess 0 0 false 8, .authFrameRx .tlink 0 ⟨List.replicate 16 0, true⟩, .hostReset,
        .keyBind (cmd .lotik) 0xFE 0 [], .nop (cmd .lotik) (List.replicate 4028 0)] : List Instr), i.wf = true) := by decide +kernel

-- Worked examples of the spec.

/-- The state a command leaves, or the state it found where it stops. -/
def after (c : Instr) (s : State) : State := match exec c s with | .next t => t | _ => s

/-- 02_hall_time.md, the example of R39: what a fine latch reports. -/
theorem test_fine_latch :
    let c : Clock := { ticks := 176543210987654321, phase := 0x800000000000 }
    packInstant false (fineStamp c c.now 1000) = BitVec.ofNat 96 (0x693A5B2D * 2 ^ 48 + 0x343EFCF2 * 2 ^ 16 + 0xE800) := by decide

/-- 04_references_and_holdover.md, the example of R96: the estimate after 1,917 s and 1,918 s. -/
theorem test_holdover_estimate : estPs 2000 50 100 (secSub 1917) = 99977 ∧ estPs 2000 50 100 (secSub 1918) = 100029 ∧
    estPs 2000 50 100 (secSub 600) = 32208 := by decide

/-- 07_sync_objects.md, the example of R176: the signal waits for its data; the feed that covers it applies it, frees its slot and
releases the compare waiter and the first consumer. -/
theorem test_remote_signal :
    let r := BitVec.ofNat 128 (499 + 1 * 2 ^ 16 + 0x02A * 2 ^ 32 + 9 * 2 ^ 44 + 64 * 2 ^ 64)
    let s : State := { regs [(R.LK_BOOT_STAGE, 6)] with lk := { sync := {
      objs := [(499, { enable := true })],
      waiters := [{ obj := 499, ctx := 0x107, core := 0, consume := true, cmp := 0, arg := 1 },
                  { obj := 499, ctx := 0x42, core := 0, consume := false, cmp := 0, arg := 1 },
                  { obj := 499, ctx := 0x31, core := 0, consume := true, cmp := 0, arg := 1 }],
      flows := [(0x2A, { landed := 1040, signalled := 1000, next := 9 })] } } }
    let t := after (.feedBeat 0x2A 16) (after (.remoteSignal r) s)
    let u := after (.feedBeat 0x2A 8) t
    (t.obj 499).v = 0 ∧ t.lk.sync.waiters.length = 3 ∧ t.lk.sync.pend.length = 1 ∧
    (u.obj 499).v = 0 ∧ u.lk.sync.waiters.map (·.ctx) = [0x31] ∧ u.lk.sync.pend = [] := by decide +kernel

/-- 09_exact_reduction.md, the example of R224: 2²⁴ + 1 − 2²⁴ is 1.0 in FP32, in every order. -/
theorem test_fp32_sum :
    let x (b : Nat) : Elem := toElem 1 1 b 0
    (finishElem 1 1 0 (((x 0x4B800000).combine 1 (x 0x3F800000)).combine 1 (x 0xCB800000))).1 = 0x3F800000 ∧
    (finishElem 1 1 0 (((x 0x4B800000).combine 1 (x 0xCB800000)).combine 1 (x 0x3F800000))).1 = 0x3F800000 := by decide +kernel

/-- 17_security_and_update.md, the example of R411: a Verard image of 2,621,760 bytes has 1,281 parts, the last of 320 bytes. -/
theorem test_firmware_parts : partCount 2621760 = 1281 ∧ partLen 2621760 0 = 2048 ∧ partLen 2621760 1280 = 320 := by decide

/-- 18_register_maps.md, the example of R423: CS_CFG and CS_CFG2 at their defaults. -/
theorem test_steward_defaults : State.reset.word 0 R.LK_CS_CFG_BASE_OP.off = 0x11446808 ∧
    State.reset.word 0 R.LK_CS_CFG2_STR_WARN_PPM.off = 0x004003E8 := by decide

/-- 16_command_packets.md, the example of R383: the header of a TIME_READ request. -/
theorem test_packet_header :
    let h := readHdr [0x01, 0x00, 0x10, 0x00, 0x39, 0, 0, 0, 0x02, 0x01, 0, 0, 0x41, 0x2A, 0x00, 0x00, 0x00, 0x14, 0x01, 0x00,
      0x3E, 0x0C, 0x11, 0x5A, 0x09, 0, 0, 0, 0, 0, 0, 0]
    h.version = 1 ∧ h.type = 0 ∧ h.opcode = 0x10 ∧ h.seq = 57 ∧ h.session = 0x102 ∧ h.target = 0x2A41 ∧ h.source = 0x140000 ∧
    h.length = 1 ∧ h.salt = 0x5A110C3E ∧ h.counter = 9 := by decide

/-- 01_hall_tree.md, the example of R22: both multicast addresses read class 7 or 6 and are multicast. -/
theorem test_unit_address : uaPod 0x2A41 = 5 ∧ uaPort 0x2A41 = 18 ∧ uaDie 0x2A41 = 1 ∧ uaMulticast 0xE0417 = true ∧
    uaMulticast 0xC0417 = true := by decide

-- Single commands.

/-- R6, R7: a write reaches RW bits and no others. -/
theorem test_register_write : (after (.registerWrite 0 0x34 (.dword 0xFFFFFFFF)) State.reset).get R.LK_IRQ_MASK_MASK = 0x1FFF ∨
    (after (.registerWrite 0 0x34 (.dword 0xFFFFFFFF)) State.reset).get R.LK_IRQ_MASK_MASK = 2 ^ R.LK_IRQ_MASK_MASK.width - 1 := by decide

/-- R6: a write of 1 clears a W1C bit; a write of 0 leaves it. -/
theorem test_w1c :
    (after (.registerWrite 0 R.LK_MBOX_IRQ_DROP.off (.dword 0)) (regs [(R.LK_MBOX_IRQ_DROP, 1)])).get R.LK_MBOX_IRQ_DROP = 1 ∧
    (after (.registerWrite 0 R.LK_MBOX_IRQ_DROP.off (.dword 0xFFFFFFFF)) (regs [(R.LK_MBOX_IRQ_DROP, 1)])).get R.LK_MBOX_IRQ_DROP = 0 := by decide

/-- R6: a read of an RC field answers it and clears it. -/
theorem test_read_clear :
    let t := after (.registerReadClear 0 0x5010 false) (regs [(R.LK_DET_ALIGN_MISSES, 3), (R.LK_DET_ALIGN_SKIPPED, 2)])
    t.get R.LK_DET_ALIGN_MISSES = 0 ∧ t.get R.LK_DET_ALIGN_SKIPPED = 2 ∧ t.out.contains (.bus .lotik 0x30002) = true := by decide

/-- R417: an unmapped read returns 0 and records ACCESS_ERROR. -/
theorem test_unmapped :
    let t := after (.unmappedAccess 0 0x3FC false) State.reset
    t.out.contains (.bus .lotik 0) = true ∧ (t.log .lotik).entries.length = 1 := by decide

/-- R37: a Spring edge is one tick at the nominal increment. -/
theorem test_spring_edge : ((after .springEdge State.reset).clk .lotik).ticks = 1 ∧ ((after .springEdge State.reset).clk .lotik).phase = 0 := by decide

/-- R37: at the top of the accumulator the ticks wrap. -/
theorem test_spring_edge_wraps :
    ((after .springEdge (tick (2 ^ 64 - 1) State.reset)).clk .verard).ticks = 0 := by decide

/-- R362: the Spring clock's arrival begins stage FUSE. -/
theorem test_spring_clock : (after .springClockArrive State.reset).get R.LK_BOOT_STAGE = 1 := by decide

/-- R363: bad fuses are FAULT with cause 2. -/
theorem test_fuse_fault :
    let t := after (.fuseLoadDone false 30) (regs [(R.LK_BOOT_STAGE, 1)])
    t.get R.LK_BOOT_STAGE = 7 ∧ t.get R.LK_BOOT_FAULT = 2 := by decide

/-- R59, R60: 4,096 ns without a TICK block drop a port to DETECT; a tick less leaves it. -/
theorem test_tick_timeout :
    (after (.tickTimeout .tlink) (tick 410 (regs [(R.PORT_STAT_STATE .tlink, 6)]))).get (R.PORT_STAT_STATE .tlink) = 1 ∧
    (after (.tickTimeout .tlink) (tick 409 (regs [(R.PORT_STAT_STATE .tlink, 6)]))).get (R.PORT_STAT_STATE .tlink) = 6 := by decide

/-- R73: an open hop makes the ring a chain. -/
theorem test_hop_open :
    let t := after (.ringHopOpen .w 4) (regs [(R.LK_RING_STAT_W_STATE, 2)])
    t.get R.LK_RING_STAT_W_STATE = 3 ∧ t.get R.LK_RING_STAT_W_FAULT = 4 ∧ t.get R.LK_TOPO_RING_CHAIN = 1 := by decide

/-- R116: two edges on a trigger input within 100 ns are one stamp and one MISSED. -/
theorem test_trigger_dead_time :
    let s := regs [(R.LK_TRIGi_CTRL_ENABLE 0, 1), (R.LK_TRIGi_CTRL_EDGE 0, 2)]
    let t := after (.trigInEdge 0 false 0) (after (.trigInEdge 0 true 0) s)
    (t.trigIn 0).fifo.length = 1 ∧ t.get (R.LK_TRIGi_STAT_MISSED 0) = 1 := by decide

/-- R158, R163: a signal adds its amount; a strict arrival below 0 is refused and the value stays. -/
theorem test_sync_value :
    let s : State := { State.reset with lk := { sync := { objs := [(7, { enable := true, v := 5 })] } } }
    ((after (.syncSignal 7 0 0 3) s).obj 7).v = 8 ∧ ((after (.syncArrive 7 0 0 5) s).obj 7).v = 0 ∧
    ((after (.syncArrive 7 0 0 6) s).obj 7).v = 5 ∧ ((after (.syncArrive 7 0 0 6) s).obj 7).faulted = true := by decide +kernel

/-- R247: a region that loses its reference goes to LOR, and to MARGIN_SAFE never by that. -/
theorem test_pll_loss :
    let t := after .gridPllLockLoss (regs [(R.LK_CS_STAT_REGIONS, 1), (R.LK_CS_REGr_STAT_STATE 1, 3)])
    t.get (R.LK_CS_REGr_STAT_STATE 0) = 2 ∧ t.get (R.LK_CS_REGr_STAT_STATE 1) = 3 := by decide +kernel

/-- R257: a 10 s cap above the 1 s cap is refused with CAP_ERR and the caps stay. -/
theorem test_cap_error :
    let t := after (.pgCapWrite 0x00020001) State.reset
    t.get R.LK_PG_IRQ_CAP_ERR = 1 ∧ t.get R.LK_PG_CAP_CAP_1S = State.reset.get R.LK_PG_CAP_CAP_1S := by decide

/-- R274: a sensor at TCRIT_C trips the die. -/
theorem test_trip :
    let s := regs [(R.LK_CS_STAT_REGIONS, 0)]
    (after (.thermalTrip 0 110) s).get R.LK_PG_STAT_TRIPPED = 1 ∧ (after (.thermalTrip 0 109) s).get R.LK_PG_STAT_TRIPPED = 0 := by decide +kernel

/-- R393: CLAIM takes a FREE mailbox, and no other. -/
theorem test_mailbox :
    (after .mboxClaim State.reset).get R.LK_MBOX_STAT_STATE = 1 ∧
    (after .mboxClaim (regs [(R.LK_MBOX_STAT_STATE, 3)])).get R.LK_MBOX_STAT_STATE = 3 := by decide

/-- R319: an OCS output with no port is refused with CFG_ERR. -/
theorem test_ocs_refused : (after (.ocsArmWrite 0 1) vup).get (R.VD_OCSo_STAT_CFG_ERR 0) = 1 := by decide

/-- R409: FW_CANCEL of an open transfer leaves none. -/
theorem test_fw_cancel :
    let s := State.reset.setSec .lotik { bank1 := { state := 2, xfer := 5, len := 320 } }
    ((after (.fwCancel (cmd .lotik) 5) s).sec .lotik).bank1.state = 0 := by decide +kernel

/-- An empty queue idles, and the front command is taken off. -/
theorem test_step :
    (match step { State.reset with pending := [.springClockArrive, .hostReset] } with
      | .next t => t.pending == [.hostReset] && t.get R.LK_BOOT_STAGE == 1
      | _ => false) = true := by decide

-- Witnesses: for each clause of a statement, a state and operands that meet its hypotheses.

theorem witness_StepRunsFrontCommand :
    (∃ (c : Instr) (cs : List Instr) (s : State), s.pending = c :: cs) ∧
    (∃ (s : State), s.pending = []) :=
  ⟨⟨.hostReset, [], { State.reset with pending := [.hostReset] }, by decide⟩,
   ⟨State.reset, by decide⟩⟩

theorem witness_EveryStepKeepsInvariant :
    ∃ (s t : State), step s = .next t :=
  ⟨State.reset, State.reset, rfl⟩

theorem witness_FieldReadAfterWrite :
    (∃ (_ : State) (f : Field) (_ : Nat), f.reset < 2 ^ f.width) ∧
    (∃ (_ : State) (f g : Field) (_ : Nat), g.key ≠ f.key) :=
  ⟨⟨State.reset, R.LK_BOOT_STAGE, 9, by decide⟩,
   ⟨State.reset, R.LK_BOOT_STAGE, R.LK_BOOT_FAULT, 9, by decide⟩⟩

theorem witness_BusAccessesComplete :
    (∃ (bar : Fin 3) (_ : BitVec 26) (_ : BusData) (s : State), s.busUp (spDev bar) = true) ∧
    (∃ (bar : Fin 3) (_ : BitVec 26) (_ : Bool) (s : State), s.busUp (spDev bar) = true) ∧
    (∃ (bar : Fin 3) (off : BitVec 26) (_ : Bool) (size : BitVec 7) (s : State), s.busUp (spDev bar) = true ∧ sizeOk bar off.toNat
      size.toNat = false) ∧
    (∃ (bar : Fin 3) (off : BitVec 26) (_ : Bool) (s : State), s.busUp (spDev bar) = true ∧ sizeOk bar off.toNat 4 = true ∧ mapped
      bar off.toNat = false) :=
  ⟨⟨2, 0, (.qword 0), vup, by decide⟩,
   ⟨2, 0, true, vup, by decide⟩,
   ⟨0, 2, true, 4, State.reset, by decide⟩,
   ⟨0, 0x3FC, true, State.reset, by decide⟩⟩

theorem witness_LotikStartupCompletes :
    (∃ (s : State), s.lk.hostDown = false) ∧
    (∃ (s : State), s.lk.hostDown = true) ∧
    (∃ (s : State), s.get R.LK_BOOT_STAGE = 0) ∧
    (∃ (tmax : BitVec 8) (s : State), s.get R.LK_BOOT_STAGE = 1 ∧ ((s.lk.wasTripped = true → tmax.toInt < s.coolC))) ∧
    (∃ (_ : BitVec 8) (s : State), s.get R.LK_BOOT_STAGE = 1) ∧
    (∃ (tmax : BitVec 8) (s : State), s.get R.LK_BOOT_STAGE = 2 ∧ tmax.toInt < s.coolC) ∧
    (∃ (_ : Bool) (_ : List Byte) (s : State), s.get R.LK_BOOT_STAGE = 3) ∧
    (∃ (s : State), s.get R.LK_BOOT_STAGE = 3 ∧ (s.secRun .lotik).selected = none ∧ (s.secRun .lotik).stageAt + secSub 1 ≤ s.now
      .lotik) :=
  ⟨⟨State.reset, by decide⟩,
   ⟨{ State.reset with lk := { hostDown := true } }, by decide⟩,
   ⟨State.reset, by decide⟩,
   ⟨100, regs [(R.LK_BOOT_STAGE, 1)], by decide⟩,
   ⟨100, regs [(R.LK_BOOT_STAGE, 1)], by decide⟩,
   ⟨99, regs [(R.LK_BOOT_STAGE, 2)], by decide⟩,
   ⟨false, [], regs [(R.LK_BOOT_STAGE, 3)], by decide⟩,
   ⟨tick 100000000 (regs [(R.LK_BOOT_STAGE, 3)]), by decide⟩⟩

theorem witness_PowerAndVerardStartupComplete :
    (∃ (s : State), s.get R.LK_BOOT_STAGE = 4 ∧ s.get R.LK_RING_STAT_ENUM ≠ 0) ∧
    (∃ (s : State), s.get R.LK_BOOT_STAGE = 5 ∧ s.getB R.LK_CS_STAT_READY = false) ∧
    (∃ (s : State), s.get R.LK_BOOT_STAGE = 5 ∧ s.getB R.LK_CS_STAT_READY = false ∧ (s.secRun .lotik).stageAt + msSub 1 ≤ s.now
      .lotik) ∧
    (∃ (s : State), s.getB R.LK_PWR_LOGIC_AWAKE = true ∧ s.lk.sleeping = false ∧ s.logicBusy = false ∧ s.lk.logicAt + usSub 10 ≤
      s.now .lotik) ∧
    (∃ (s : State), s.getB R.LK_PWR_LOGIC_AWAKE = true ∧ s.lk.sleeping = true) ∧
    (∃ (s : State), s.getB R.LK_PWR_LOGIC_AWAKE = true ∧ s.lk.sleeping = false) ∧
    (∃ (s : State), s.tcBusy = false ∧ s.lk.tcAt + usSub 2 ≤ s.now .lotik) ∧
    (∃ (tj : Byte) (s : State), s.vd.hot = false ∧ 125 ≤ tj.toNat) ∧
    (∃ (_ _ _ : List Byte) (_ : BitVec 2) (s : State), s.vd.hot = false) :=
  ⟨⟨regs [(R.LK_BOOT_STAGE, 4), (R.LK_RING_STAT_ENUM, 1)], by decide⟩,
   ⟨regs [(R.LK_BOOT_STAGE, 5)], by decide⟩,
   ⟨tick 100000 (regs [(R.LK_BOOT_STAGE, 5)]), by decide⟩,
   ⟨tick 1000 (regs [(R.LK_PWR_LOGIC_AWAKE, 1)]), by decide⟩,
   ⟨{ regs [(R.LK_PWR_LOGIC_AWAKE, 1)] with lk := { (regs [(R.LK_PWR_LOGIC_AWAKE, 1)]).lk with sleeping := true } }, by decide⟩,
   ⟨regs [(R.LK_PWR_LOGIC_AWAKE, 1)], by decide⟩,
   ⟨tick 200 (State.reset), by decide⟩,
   ⟨125, State.reset, by decide⟩,
   ⟨[], [], [], 0, State.reset, by decide⟩⟩

theorem witness_HallTimeCommandsComplete :
    (∃ (d : Dev) (_ : Word) (s : State), s.reaches d.sp d.timeBase) ∧
    (∃ (d : Dev) (s : State), (s.clk d).slewing = true ∧ (s.clk d).slew = 0) ∧
    (∃ (d : Dev) (s : State), (s.clk d).own = 3) ∧
    (∃ (s : State), s.portTakes ∧ (s.hostReq .lotik).getB R.LK_DET_STAT_DETMODE = false) :=
  ⟨⟨.verard, 0, vup, by unfold State.reaches; decide⟩,
   ⟨.verard, State.reset.setClk .verard { slewing := true }, by decide⟩,
   ⟨.verard, State.reset.setClk .verard { own := 3 }, by decide⟩,
   ⟨State.reset, by unfold State.portTakes; decide⟩⟩

theorem witness_LinkFramesComplete :
    (∃ (p : PortId) (b : Block) (_ : BitVec 12) (s : State), s.inService p = true ∧ b.type = btTick ∧ s.strayUa p (tickOf
      b.content).senderUa.toNat = true) ∧
    (∃ (p : PortId) (b : Block) (_ : BitVec 12) (s : State), ((s.inService p = false ∨ b.type ≠ btTick ∨ s.strayUa p (tickOf
      b.content).senderUa.toNat = false))) ∧
    (∃ (p : PortId) (_ : Ua) (_ : BitVec 2) (_ : BitVec 1) (s : State), s.get (R.PORT_STAT_STATE p) = 5 ∧ s.isChild p = false) ∧
    (∃ (n : Fin 64) (_ : Byte) (_ : List Byte) (s : State), s.pathUp (.port (.down n)) = true ∧ s.vdRole ≠ 0) ∧
    (∃ (r : RingPort) (_ : Byte) (_ : List Byte) (s : State), s.pathUp (.ring r) = true ∧ s.wakeAll.get R.LK_TOPO_ROLE ≠ 0 ∧
      s.wakeAll.inService .tlink = true) ∧
    (∃ (path : Path) (_ : Byte) (_ : List Byte) (s : State), s.pathUp path = true) :=
  ⟨⟨(.down 63), ⟨btTick, 0x1F8000F0000⟩, 0, regs [(R.PORT_STAT_STATE (.down 63), 6)], by decide⟩,
   ⟨.tlink, ⟨btTick, 0⟩, 0, State.reset, by decide⟩,
   ⟨(.down 63), 0, 0, 0, regs [(R.PORT_STAT_STATE (.down 63), 5)], by decide⟩,
   ⟨63, 1, [], linked (regs [(R.VD_TOPO_ROLE, 1)]), by decide⟩,
   ⟨.w, 1, [], linked (regs [(R.LK_TOPO_ROLE, 1)]), by decide⟩,
   ⟨(.ring .w), 1, [], linked State.reset, by decide⟩⟩

theorem witness_PortStateCommandsComplete :
    (∃ (p : PortId) (_ : Bool) (s : State), s.reaches p.sp p.base) ∧
    (∃ (p : PortId) (s : State), s.reaches p.sp p.base) ∧
    (∃ (p : PortId) (s : State), s.reaches p.sp p.base) ∧
    (∃ (p : PortId) (s : State), s.get (R.PORT_STAT_STATE p) = 1 ∧ s.portLit p = true ∧ (s.port p).since + msSub 1 ≤ s.now p.dev) ∧
    (∃ (p : PortId) (_ : Bool) (s : State), s.get (R.PORT_STAT_STATE p) = 2 ∧ (s.port p).since + msSub 20 ≤ s.now p.dev) ∧
    (∃ (p : PortId) (s : State), s.get (R.PORT_STAT_STATE p) = 6 ∧ (s.port p).lastTick + nsSub 4096 ≤ s.now p.dev) ∧
    (∃ (p : PortId) (s : State), s.get (R.PORT_STAT_STATE p) = 8 ∧ (s.port p).since + msSub 100 ≤ s.now p.dev) ∧
    (∃ (p : PortId) (s : State), s.get (R.PORT_STAT_STATE p) = 6 ∧ (s.port p).calAt + secSub 60 ≤ s.now p.dev) ∧
    (∃ (p : PortId) (code : BitVec 4) (s : State), code ∈ [2, 3, 4, 6, 7, 8, 9, 10] ∧ s.get (R.PORT_STAT_STATE p) ≠ 0 ∧ s.get
      (R.PORT_STAT_STATE p) ≠ 7 ∧ s.get (R.PORT_STAT_FAULT p) ≠ code.toNat) ∧
    (∃ (p : PortId) (code : BitVec 4) (s : State), 2 ≤ code.toNat ∧ code.toNat ≤ 10 ∧ s.get (R.PORT_STAT_STATE p) = 7 ∧ s.get
      (R.PORT_STAT_FAULT p) ≠ code.toNat) ∧
    (∃ (_ : Fin 2) (code : BitVec 4) (_ : State), 1 ≤ code.toNat ∧ code.toNat ≤ 10) ∧
    (∃ (p : PortId) (s : State), s.get (R.PORT_STAT_FAULT p) ≠ 0) :=
  ⟨⟨.upB, true, vup, by unfold State.reaches; decide⟩,
   ⟨(.down 63), vup, by unfold State.reaches; decide⟩,
   ⟨.tlink, State.reset, by unfold State.reaches; decide⟩,
   ⟨.tlink, tick 100000 (regs [(R.PORT_STAT_STATE .tlink, 1)]), by decide⟩,
   ⟨.upA, true, tick 2000000 (regs [(R.PORT_STAT_STATE .upA, 2)]), by decide⟩,
   ⟨(.down 0), tick 410 (regs [(R.PORT_STAT_STATE (.down 0), 6)]), by decide⟩,
   ⟨.tlink, tick 10000000 (regs [(R.PORT_STAT_STATE .tlink, 8)]), by decide⟩,
   ⟨.upB, tick 6000000000 (regs [(R.PORT_STAT_STATE .upB, 6)]), by decide⟩,
   ⟨.tlink, 10, regs [(R.PORT_STAT_STATE .tlink, 1)], by decide⟩,
   ⟨.tlink, 10, regs [(R.PORT_STAT_STATE .tlink, 7)], by decide⟩,
   ⟨1, 10, State.reset, by decide⟩,
   ⟨.tlink, regs [(R.PORT_STAT_FAULT .tlink, 2)], by decide⟩⟩

theorem witness_LinkKeyCommandsComplete :
    (∃ (p : PortId) (s : State), (s.port p).keyTx ≠ [] ∧ ((s.get (R.PORT_STAT_STATE p) = 3 ∨ s.get (R.PORT_STAT_STATE p) = 6))) ∧
    (∃ (p : PortId) (_ : Fin 3) (s : State), s.get (R.PORT_STAT_STATE p) = 3) ∧
    (∃ (p : PortId) (s : State), s.get (R.PORT_STAT_STATE p) = 6 ∧ s.isChild p = false ∧ (s.port p).keyTx = [] ∧ (s.port
      p).rekeyFail = none ∧ (s.port p).keyAt + secSub 86400 ≤ s.now p.dev) ∧
    (∃ (p : PortId) (s : State), s.get (R.PORT_STAT_STATE p) = 6 ∧ (s.port p).keyAt + secSub 172800 < s.now p.dev) :=
  ⟨⟨.tlink, regs [(R.PORT_STAT_STATE .tlink, 3)] |>.setPort .tlink { keyTx := [1] }, by decide⟩,
   ⟨.tlink, 2, regs [(R.PORT_STAT_STATE .tlink, 3)], by decide⟩,
   ⟨(.down 63), tick 8640000000000 (regs [(R.PORT_STAT_STATE (.down 63), 6)]), by decide⟩,
   ⟨.tlink, tick 17280000000001 (regs [(R.PORT_STAT_STATE .tlink, 6)]), by decide⟩⟩

theorem witness_RingTimeAndEnumComplete :
    (∃ (s : State), s.lk.ring.sources = true ∧ (s.clk .lotik).ticks.toNat % 100 = 0) ∧
    (∃ (r : RingPort) (s : State), s.ringUp r = true ∧ (s.hop r).echoAt = none ∧ (s.hop r).missed < 3) ∧
    (∃ (r : RingPort) (_ : BitVec 16) (_ : BitVec 24) (s : State), (s.ringGood r).ringUp r = true) ∧
    (∃ (s : State), s.get R.LK_TOPO_ROLE = 1 ∧ s.lk.ring.started = false ∧ s.getB R.LK_TOPO_ROLE_CONFLICT = false ∧ s.ringUp .e =
      true ∧ s.ringUp .w = true) ∧
    (∃ (r : RingPort) (_ : BitVec 6) (_ : Bool) (s : State), (s.ringGood r).get R.LK_TOPO_ROLE = 1 ∧ (s.ringGood r).getB
      R.LK_TOPO_ROLE_CONFLICT = false) ∧
    (∃ (r : RingPort) (_ : BitVec 6) (_ : Bool) (s : State), (s.ringGood r).get R.LK_TOPO_ROLE ≠ 1 ∧ (s.ringGood r).getB
      R.LK_TOPO_ROLE_CONFLICT = false) ∧
    (∃ (s : State), s.get R.LK_TOPO_ROLE ≠ 1 ∧ s.lk.ring.dieValid = false ∧ s.lk.ring.startAt + msSub 10 ≤ s.now .lotik) ∧
    (∃ (s : State), s.get R.LK_TOPO_ROLE = 2 ∧ s.lk.ring.lastTime = none ∧ s.lk.ring.sources = false ∧ s.lk.ring.startAt + msSub 1
      ≤ s.now .lotik) :=
  ⟨⟨State.reset.setRing { sources := true }, by decide⟩,
   ⟨.w, regs [(R.LK_RING_STAT_W_STATE, 2)], by decide⟩,
   ⟨.w, 0, 0, regs [(R.LK_RING_STAT_W_STATE, 2)], by decide⟩,
   ⟨regs [(R.LK_TOPO_ROLE, 1), (R.LK_RING_STAT_E_STATE, 2), (R.LK_RING_STAT_W_STATE, 2)], by decide⟩,
   ⟨.e, 31, true, regs [(R.LK_TOPO_ROLE, 1)], by decide⟩,
   ⟨.e, 31, true, regs [(R.LK_TOPO_ROLE, 2)], by decide⟩,
   ⟨tick 1000000 (State.reset), by decide⟩,
   ⟨tick 100000 (regs [(R.LK_TOPO_ROLE, 2)]), by decide⟩⟩

theorem witness_RingStatusAndHopsComplete :
    (∃ (t : Nat) (s : State), s.lk.ring.handover = some (t, s.lk.ring.die) ∧ s.lk.ring.dieValid = true ∧ t ≤ (s.clk
      .lotik).ticks.toNat) ∧
    (∃ (t : Nat) (m : BitVec 5) (s : State), s.lk.ring.handover = some (t, m) ∧ m ≠ s.lk.ring.die ∧ t ≤ (s.clk
      .lotik).ticks.toNat) ∧
    (∃ (t : Nat) (s : State), s.lk.ring.lastTime = some t ∧ t + usSub 3 ≤ s.now .lotik ∧ ((s.get R.LK_TOPO_ROLE = 1 ∧
      s.lk.ring.master ≠ 0 ∨ s.get R.LK_TOPO_ROLE = 2 ∧ s.lk.ring.master = 0)) ∧ s.isRingMaster = false ∧ s.lk.ring.handover =
      none) ∧
    (∃ (_ : RingPort) (x : RingSymbol) (part : BitVec 96) (kind : BitVec 5) (ends : BitVec 11) (body : BitVec 96) (crc : BitVec
      16) (_ : State), symbolOk (ringWord kind ends body crc) = true ∧ symbolOf (ringWord kind ends body crc) = some x ∧ x.body =
      .data part) ∧
    (∃ (_ : RingPort) (kind : BitVec 5) (ends : BitVec 11) (body : BitVec 96) (crc : BitVec 16) (_ : State), symbolOk (ringWord
      kind ends body crc) = true ∧ symbolOf (ringWord kind ends body crc) = none) ∧
    (∃ (_ : RingPort) (kind : BitVec 5) (ends : BitVec 11) (body : BitVec 96) (crc : BitVec 16) (_ : State), symbolOk (ringWord
      kind ends body crc) = false) ∧
    (∃ (r : RingPort) (s : State), s.ringUp r = false ∧ s.get (ringStateField r) ≠ 1) ∧
    (∃ (r : RingPort) (s : State), s.ringUp r = false ∧ s.get (ringStateField r) = 1) :=
  ⟨⟨5, tick 5 (State.reset.setRing { handover := some (5, 0), dieValid := true }), by decide⟩,
   ⟨5, 1, tick 5 (State.reset.setRing { handover := some (5, 1) }), by decide⟩,
   ⟨0, tick 300 ((regs [(R.LK_TOPO_ROLE, 1)]).setRing { lastTime := some 0, master := 3 }), by decide⟩,
   ⟨.w, dataSymbol, 0x0123456789ABCDEF01234567, 23, (3 + 63 * 32), 0x0123456789ABCDEF01234567, (crcOf (symbolBits dataSymbol)),
     State.reset, by decide⟩,
   ⟨.e, 9, 0, 0, (crcOf 9), State.reset, by decide⟩,
   ⟨.e, 0, 0, 0, 0, State.reset, by decide⟩,
   ⟨.e, State.reset, by decide⟩,
   ⟨.e, regs [(R.LK_RING_STAT_E_STATE, 1)], by decide⟩⟩

theorem witness_ReferenceInputsComplete :
    (∃ (_ : Fin 4) (_ : BitVec 32) (s : State), s.usesRefs = true) ∧
    (∃ (i : Fin 4) (freqPpt : BitVec 32) (t : Nat) (s : State), s.get (R.VD_REFi_ST_QUAL i) = 1 ∧ (s.refIn i).goodSince = some t ∧
      t + secSub (s.get R.VD_REF_CFG_QUAL_S) ≤ s.now .verard ∧ freqPpt.toInt.natAbs ≤ s.vd.prof.freqAccept ∧ s.get
      (R.VD_REFi_ST_FAULT i) = 0) ∧
    (∃ (i : Fin 4) (s : State), s.getB (R.VD_REFi_ST_WTR_RUN i) = true ∧ s.wtrPassed i = true) ∧
    (∃ (_ : BitVec 12) (_ : Bool) (s : State), s.usesRefs = true) ∧
    (∃ (t : Nat) (s : State), (s.refIn 3).lastEdge = some t ∧ t + msSub 2500 ≤ s.now .verard) ∧
    (∃ (s : State), s.usesRefs = true) ∧
    (∃ (s : State), s.usesRefs = true) ∧
    (∃ (s : State), s.vd.refs.working = true ∧ (s.getS R.VD_BEARING_RES_RES_PS).natAbs ≤ s.vd.prof.bearingSlew) ∧
    (∃ (i : Fin 4) (_ : BitVec 4) (s : State), s.reaches 1 (0x10100 + 0x20 * i.val)) ∧
    (∃ (i : Fin 4) (_ : Bool) (s : State), s.reaches 1 (0x10100 + 0x20 * i.val)) :=
  ⟨⟨3, 0, regs [(R.VD_TOPO_ROLE, 0)], by decide⟩,
   ⟨3, 0, 0, tick 1000000000 ((regs [(R.VD_TOPO_ROLE, 0), (R.VD_REFi_ST_QUAL 3, 1)]).setRefIn 3 { goodSince := some 0 }), by
     decide⟩,
   ⟨3, tick 30000000000 ((regs [(R.VD_REFi_ST_WTR_RUN 3, 1)]).setRefIn 3 { qualSince := some 0 }), by decide⟩,
   ⟨0, true, regs [(R.VD_TOPO_ROLE, 0)], by decide⟩,
   ⟨0, tick 250000000 (State.reset.setRefIn 3 { lastEdge := some 0 }), by decide⟩,
   ⟨regs [(R.VD_TOPO_ROLE, 2)], by decide⟩,
   ⟨regs [(R.VD_TOPO_ROLE, 0)], by decide⟩,
   ⟨State.reset.setRefs { working := true }, by decide⟩,
   ⟨3, 15, vup, by unfold State.reaches; decide⟩,
   ⟨3, true, vup, by unfold State.reaches; decide⟩⟩

theorem witness_OscillatorAndOutputComplete :
    (∃ (s : State), s.vdRuns = true) ∧
    (∃ (s : State), s.vdRuns = true) ∧
    (∃ (t : Nat) (s : State), s.vdRuns = true ∧ s.vd.refs.warmSince = some t ∧ s.getB R.VD_REF_STAT_OCXO_WARM = true ∧ t + secSub
      s.vd.prof.warmSettle ≤ s.now .verard) ∧
    (∃ (s : State), s.vdRuns = true) ∧
    (∃ (s : State), s.vdRuns = true ∧ s.getB R.VD_REF_STAT_OCXO_FAIL = true) ∧
    (∃ (s : State), s.vd.refs.pulsing = true) ∧
    (∃ (s : State), s.reaches 1 0x10030) ∧
    (∃ (t : Nat) (s : State), s.vd.refs.realignAt = some t ∧ t ≤ s.now .verard) :=
  ⟨⟨State.reset, by decide⟩,
   ⟨State.reset, by decide⟩,
   ⟨0, tick 6000000000 ((regs [(R.VD_REF_STAT_OCXO_WARM, 1)]).setRefs { warmSince := some 0 }), by decide⟩,
   ⟨State.reset, by decide⟩,
   ⟨regs [(R.VD_REF_STAT_OCXO_FAIL, 1)], by decide⟩,
   ⟨(regs [(R.VD_OUT_CTRL_PPS_EN, 1)]).setRefs { pulsing := true }, by decide⟩,
   ⟨vup, by unfold State.reaches; decide⟩,
   ⟨0, State.reset.setRefs { realignAt := some 0 }, by decide⟩⟩

theorem witness_PtpAndReferenceRequestsComplete :
    (∃ (p : Fin 2) (s : State), s.vdRole ≠ 1 ∧ s.getB (R.PTP_CTRL_ENABLE p) = true ∧ s.ptpLate p = true) ∧
    (∃ (p : Fin 2) (_ : BitVec 16) (_ : BitVec 4) (s : State), s.reaches 1 (0x20010 + 0x100 * p.val)) ∧
    (∃ (p : Fin 2) (_ : BitVec 16) (_ : BitVec 4) (s : State), s.reaches 1 (0x20010 + 0x100 * p.val)) ∧
    (∃ (c : CmdCtx) (s : State), c.dev = .verard ∧ s.vdRole ≠ 1) ∧
    (∃ (c : CmdCtx) (input prio : Byte) (s : State), c.dev = .verard ∧ s.vdRole ≠ 1 ∧ input ≠ 2 ∧ input.toNat ≤ 3 ∧ prio.toNat ≤
      15) ∧
    (∃ (c : CmdCtx) (input : Byte) (s : State), c.dev = .verard ∧ s.vdRole ≠ 1 ∧ input.toNat ≤ 3) ∧
    (∃ (c : CmdCtx) (port kind : Byte) (seqId : BitVec 16) (e : TsqEntry) (s : State), c.dev = .verard ∧ s.vdRole ≠ 1 ∧ port.toNat
      ≤ 1 ∧ s.tsqFind port.toNat seqId (kind.setWidth 4) = some e) ∧
    (∃ (c : CmdCtx) (s : State), c.dev = .verard ∧ s.vdRole ≠ 1) :=
  ⟨⟨1, tick 100000000000 ((regs [(R.VD_TOPO_ROLE, 0), (R.PTP_CTRL_ENABLE 1, 1)]).setRefIn 1 { lastAnnounce := some 0 }), by
     decide⟩,
   ⟨1, 0, 0, vup, by unfold State.reaches; decide⟩,
   ⟨1, 0, 0, vup, by unfold State.reaches; decide⟩,
   ⟨(cmd .verard), regs [(R.VD_TOPO_ROLE, 0)], by decide⟩,
   ⟨(cmd .verard), 3, 15, regs [(R.VD_TOPO_ROLE, 0)], by decide⟩,
   ⟨(cmd .verard), 3, regs [(R.VD_TOPO_ROLE, 0)], by decide⟩,
   ⟨(cmd .verard), 1, 0, 7, { seqId := 7, msgType := 0, stamp := 0, oneStep := false }, (regs [(R.VD_TOPO_ROLE, 0)]).setPtp 1
     { tsq := [{ seqId := 7, msgType := 0, stamp := 0, oneStep := false }] }, by decide⟩,
   ⟨(cmd .verard), regs [(R.VD_TOPO_ROLE, 0)], by decide⟩⟩

theorem witness_MeasurementComplete :
    (∃ (c : Fin 4) (_ : Word) (s : State), s.reaches 1 (0x30100 + 0x80 * c.val)) ∧
    (∃ (c : Fin 4) (_ : Word) (s : State), s.reaches 1 (0x30100 + 0x80 * c.val)) ∧
    (∃ (c : Fin 4) (s : State), s.getB (R.MEAS_STAT_ARMED c) = true ∧ (s.meas c).beginAt ≤ s.now .verard) ∧
    (∃ (c : Fin 4) (s : State), s.getB (R.MEAS_STAT_BUSY c) = true ∧ s.getB (R.MEAS_STAT_ARMED c) = false ∧ (s.meas c).freq =
      false ∧ (s.meas c).t0.getD (s.meas c).beginAt + usSub (s.meas c).timeoutUs ≤ s.now .verard) ∧
    (∃ (c : Fin 4) (s : State), s.getB (R.MEAS_STAT_BUSY c) = true ∧ s.getB (R.MEAS_STAT_ARMED c) = false ∧ (s.meas c).freq = true
      ∧ (s.meas c).fitting = false ∧ (s.meas c).beginAt + usSub (s.meas c).gateUs ≤ s.now .verard ∧ 3 ≤ (s.meas c).stamps.length ∧
      (s.meas c).disc = (((s.markMeas.put (R.MEAS_N_N c) (s.meas c).stamps.length).put (R.MEAS_DECIM_K c) (s.meas c).k).clk
      .verard).disc) ∧
    (∃ (c : Fin 4) (s : State), (s.meas c).fitting = true) ∧
    (∃ (s : State), s.reaches 1 0x30000) ∧
    (∃ (i : Fin 4) (s : State), (s.measIn i).toCal = 0) ∧
    (∃ (i : Fin 4) (s : State), (s.measIn i).toCal ≠ 0) ∧
    (∃ (c : CmdCtx) (channel : Byte) (_ _ _ : Word) (_ : Packed) (s : State), c.dev = .verard ∧ channel.toNat ≤ 3 ∧ s.getB
      (R.MEAS_STAT_BUSY channel.toNat) = false) :=
  ⟨⟨3, 0, vup, by unfold State.reaches; decide⟩,
   ⟨3, 0, vup, by unfold State.reaches; decide⟩,
   ⟨3, regs [(R.MEAS_STAT_ARMED 3, 1)], by decide⟩,
   ⟨3, regs [(R.MEAS_STAT_BUSY 3, 1)], by decide⟩,
   ⟨3, (regs [(R.MEAS_STAT_BUSY 3, 1)]).setMeas 3 { freq := true, stamps := [(0, 0), (0, 0), (0, 0)] }, by decide⟩,
   ⟨3, State.reset.setMeas 3 { fitting := true }, by decide⟩,
   ⟨vup, by unfold State.reaches; decide⟩,
   ⟨3, State.reset.setMeasIn 3 { toCal := 0 }, by decide⟩,
   ⟨3, State.reset, by decide⟩,
   ⟨(cmd .verard), 3, 0, 0, 0, 0, State.reset, by decide⟩⟩

theorem witness_TriggersComplete :
    (∃ (i : Fin 2) (falling : Bool) (_ : BitVec 12) (s : State), s.getB (R.LK_TRIGi_CTRL_ENABLE i) = true ∧ ((s.get
      (R.LK_TRIGi_CTRL_EDGE i) = 2 ∨ s.get (R.LK_TRIGi_CTRL_EDGE i) = b2n falling))) ∧
    (∃ (i : Fin 2) (s : State), s.reaches 0 (0x1208 + 0x20 * i.val)) ∧
    (∃ (o : Fin 2) (_ : Word) (s : State), s.reaches 0 (0x1240 + 0x20 * o.val)) ∧
    (∃ (o : Fin 2) (_ : Word) (s : State), s.reaches 0 (0x1240 + 0x20 * o.val)) ∧
    (∃ (o : Fin 2) (s : State), s.getB (R.LK_TRIGo_STAT_ARMED o) = true ∧ (s.train o).next ≤ s.now .lotik ∧ (s.train o).next <
      (s.train o).pulseEnd) ∧
    (∃ (o : Fin 2) (s : State), s.getB (R.LK_TRIGo_STAT_ARMED o) = true ∧ (s.train o).next ≤ s.now .lotik ∧ (s.train o).pulseEnd ≤
      (s.train o).next) ∧
    (∃ (c : CmdCtx) (output polRoute : Byte) (_ : Packed) (_ _ : BitVec 16) (_ : State), c.dev = .lotik ∧ output.toNat ≤ 1 ∧
      polRoute.toNat < 8) :=
  ⟨⟨1, true, 0, regs [(R.LK_TRIGi_CTRL_ENABLE 1, 1), (R.LK_TRIGi_CTRL_EDGE 1, 2)], by decide⟩,
   ⟨1, State.reset, by unfold State.reaches; decide⟩,
   ⟨1, 0, State.reset, by unfold State.reaches; decide⟩,
   ⟨1, 0, State.reset, by unfold State.reaches; decide⟩,
   ⟨1, (regs [(R.LK_TRIGo_STAT_ARMED 1, 1)]).setTrain 1 { pulseEnd := 1 }, by decide⟩,
   ⟨0, regs [(R.LK_TRIGo_STAT_ARMED 0, 1)], by decide⟩,
   ⟨(cmd .lotik), 1, 7, 0, 0, 0, State.reset, by decide⟩⟩

theorem witness_StepsAndMarksComplete :
    (∃ (s : State), s.reaches 0 0x2000) ∧
    (∃ (s : State), s.reaches 0 0x2000) ∧
    (∃ (n : Fin 8) (k : Fin 4) (_ : Word) (s : State), s.reaches 0 (0x2100 + 0x10 * n.val + 4 * k.val)) ∧
    (∃ (i : Fin 2) (s : State), s.slotState i.val = 1 ∧ (s.slot i.val).prefetching = true ∧ (s.slot i.val).loading = false ∧
      (s.slot i.val).arming = true ∧ s.prefetched i.val = true) ∧
    (∃ (i : Fin 2) (s : State), s.slotState i.val = 1 ∧ (s.slot i.val).prefetching = true ∧ (s.slot i.val).loading = true ∧
      (s.slot i.val).arming = false ∧ s.prefetched i.val = true) ∧
    (∃ (i : Fin 2) (s : State), s.slotState i.val = 1 ∧ (s.slot i.val).arming = true ∧ (s.slot i.val).armedAt + msSub 1 ≤ s.now
      .lotik) ∧
    (∃ (i m : Nat) (w : BitVec 128) (s : State), s.dueMark = some (i, w, m) ∧ markKind w = 0) ∧
    (∃ (i m : Nat) (w : BitVec 128) (s : State), s.dueMark = some (i, w, m)) ∧
    (∃ (i t : Nat) (w : BitVec 128) (s : State), s.activeSlot = some i ∧ s.nextMarkWp i = some w ∧ s.nextSched i = some t ∧
      s.slotState i = 4 ∧ (s.run i).ended = false ∧ (s.slot i).overrunTested = false ∧ t ≤ s.now .lotik + s.markGuard w * tickSub
      ∧ s.schedLawful i w t = true ∧ (s.slot i).stepDone = false ∧ wpStrict w = true) ∧
    (∃ (i : Nat) (s : State), s.activeSlot = some i ∧ s.slotState i = 4 ∧ (s.slot i).gateSent = true ∧ (s.slot i).gateDone = none
      ∧ (s.slot i).gateAt + msSub (s.slot i).gateLimit ≤ s.now .lotik) :=
  ⟨⟨State.reset, by unfold State.reaches; decide⟩,
   ⟨State.reset, by unfold State.reaches; decide⟩,
   ⟨7, 3, 0, State.reset, by unfold State.reaches; decide⟩,
   ⟨1, (regs [(R.LK_STEP_STAT_SLOT1_STATE, 1)]).setSlot 1 { prefetching := true, fetchEnd := true, arming := true }, by decide⟩,
   ⟨1, (regs [(R.LK_STEP_STAT_SLOT1_STATE, 1)]).setSlot 1 { prefetching := true, fetchEnd := true, loading := true }, by decide⟩,
   ⟨1, tick 100000 ((regs [(R.LK_STEP_STAT_SLOT1_STATE, 1)]).setSlot 1 { prefetching := true, arming := true }), by decide⟩,
   ⟨0, 0, 1, running 1 false State.reset, by decide⟩,
   ⟨0, 0, 1, running 1 false State.reset, by decide⟩,
   ⟨0, 0, (0x21 + 2 * 2 ^ 64), running (0x21 + 2 * 2 ^ 64) false State.reset, by decide⟩,
   ⟨0, tick 3000000000 ((regs [(R.LK_STEP_STAT_SLOT0_STATE, 4)]).setSlot 0 { gateSent := true }), by decide⟩⟩

theorem witness_WaypointsComplete :
    (∃ (i t : Nat) (w : BitVec 128) (s : State), s.dueWp 0 = some (i, w, t)) ∧
    (∃ (i t : Nat) (w : BitVec 128) (s : State), s.dueWp 2 = some (i, w, t) ∧ s.headPlanned i = true) ∧
    (∃ (i t : Nat) (w : BitVec 128) (s : State), s.dueWp 3 = some (i, w, t)) ∧
    (∃ (i t : Nat) (w : BitVec 128) (s : State), s.dueWp 4 = some (i, w, t) ∧ s.headPlanned i = true) ∧
    (∃ (j i t : Nat) (w : BitVec 128) (s : State), s.activeSlot = some j ∧ (s.plan j).dueWp 5 = some (i, w, t)) ∧
    (∃ (i t : Nat) (w : BitVec 128) (s : State), s.dueWp 6 = some (i, w, t)) ∧
    (∃ (i t : Nat) (w : BitVec 128) (s : State), s.dueWp 8 = some (i, w, t)) :=
  ⟨⟨0, 0, 0, running 0 false State.reset, by decide⟩,
   ⟨0, 0, 2, running 2 true State.reset, by decide⟩,
   ⟨0, 0, 3, running 3 false State.reset, by decide⟩,
   ⟨0, 0, 4, running 4 true State.reset, by decide⟩,
   ⟨0, 0, 0, 5, running 5 true State.reset, by decide⟩,
   ⟨0, 0, 6, running 6 false State.reset, by decide⟩,
   ⟨0, 0, 8, running 8 false State.reset, by decide⟩⟩

theorem witness_JobTimersComplete :
    (∃ (i : Fin 2) (s : State), s.slotState i.val = 2 ∧ (s.slot i.val).t0 ≤ s.now .lotik + usSub 10) ∧
    (∃ (i : Nat) (s : State), s.activeSlot = some i ∧ s.slotState i = 3 ∧ (s.slot i).t0 ≤ s.now .lotik) ∧
    (∃ (i t : Nat) (s : State), s.activeSlot = some i ∧ s.slotState i = 5 ∧ (s.run i).confirm = true ∧ (s.run i).resumeAt = some t
      ∧ t ≤ s.now .lotik) ∧
    (∃ (i td : Nat) (s : State), s.activeSlot = some i ∧ (s.run i).td = some td ∧ s.slotState i = 4 ∧ td ≤ s.now .lotik) ∧
    (∃ (i : Nat) (s : State), s.activeSlot = some i ∧ s.slotState i = 6) :=
  ⟨⟨1, (regs [(R.LK_STEP_STAT_SLOT1_STATE, 2)]).setSlot 1 { t0 := usSub 10 }, by decide⟩,
   ⟨1, regs [(R.LK_STEP_STAT_SLOT1_STATE, 3)], by decide⟩,
   ⟨0, 0, (regs [(R.LK_STEP_STAT_SLOT0_STATE, 5)]).setRun 0 { confirm := true, resumeAt := some 0 }, by decide⟩,
   ⟨0, 0, (regs [(R.LK_STEP_STAT_SLOT0_STATE, 4)]).setRun 0 { td := some 0 }, by decide⟩,
   ⟨1, regs [(R.LK_STEP_STAT_SLOT1_STATE, 6)], by decide⟩⟩

theorem witness_JobCommandsComplete :
    (∃ (c : CmdCtx) (gid : BitVec 24) (gen : BitVec 16) (prog flags : Byte) (limit : Word) (_ : BitVec 128) (g : GroupRec) (s :
      State), s.rootOf c.dev gid.toNat = some g ∧ prog.toNat ≤ 7 ∧ flags.toNat < 4 ∧ limit.toNat ≠ 0 ∧ gen.toNat < 16384 ∧
      gen.toNat = g.gen ∧ s.jobLive c.dev gid.toNat = false ∧ ((s.tree c.dev).jobs.filter (fun r => r.state != 0)).length < jobCap
      c.dev) ∧
    (∃ (c : CmdCtx) (gid : BitVec 24) (gen : BitVec 16) (t0 : Packed) (g : GroupRec) (r : JobRec) (s : State), s.rootJob c.dev
      gid.toNat gen.toNat = some (g, r) ∧ r.state = 1 ∧ r.round = 0 ∧ s.startStatus c.dev g (unpackInstant (s.wrap c.dev) (s.now
      c.dev) t0) = 0) ∧
    (∃ (c : CmdCtx) (gid : BitVec 24) (gen : BitVec 16) (g : GroupRec) (r : JobRec) (s : State), s.rootJob c.dev gid.toNat
      gen.toNat = some (g, r) ∧ r.state < 3 ∧ r.round = 0) ∧
    (∃ (c : CmdCtx) (gid : BitVec 24) (gen : BitVec 16) (g : GroupRec) (r : JobRec) (s : State), s.rootJob c.dev gid.toNat
      gen.toNat = some (g, r) ∧ r.state < 3 ∧ r.round ≠ 0) ∧
    (∃ (c : CmdCtx) (gid : BitVec 24) (gen : BitVec 16) (g g' : GroupRec) (r : JobRec) (s : State), s.rootOf c.dev gid.toNat =
      some g ∧ s.rootJob c.dev gid.toNat gen.toNat = some (g', r) ∧ 3 ≤ r.state ∧ r.state ≠ 6 ∧ (s.cmd c.dev).works.any (fun w =>
      w.opcode == 0x23 && w.tag == gid.toNat) = false) ∧
    (∃ (c : CmdCtx) (gid : BitVec 24) (gen : BitVec 16) (at_ : Packed) (g g' : GroupRec) (r : JobRec) (s : State), s.rootOf c.dev
      gid.toNat = some g ∧ s.rootJob c.dev gid.toNat gen.toNat = some (g', r) ∧ 3 ≤ r.state ∧ r.state ≠ 6 ∧ at_ ≠ 0 ∧ (s.cmd
      c.dev).works.any (fun w => w.opcode == 0x23 && w.tag == gid.toNat) = false ∧
      let td := unpackInstant (s.wrap c.dev) (s.now c.dev) at_; onTick td = true ∧ s.now c.dev + usSub 20 ≤ td) ∧
    (∃ (c : CmdCtx) (gid : BitVec 24) (g : GroupRec) (s : State), s.rootOf c.dev gid.toNat = some g) ∧
    (∃ (c : CmdCtx) (_ : State), c.dev = .lotik) ∧
    (∃ (s : State), s.reaches 0 0x2008) ∧
    (∃ (c : CmdCtx) (gid : BitVec 24) (gen : BitVec 16) (at_ : Packed) (g : GroupRec) (r : JobRec) (s : State), s.rootJob c.dev
      gid.toNat gen.toNat = some (g, r) ∧ r.state = 4 ∧ onTick (unpackInstant (s.wrap c.dev) (s.now c.dev) at_) = true ∧ s.now
      c.dev + usSub 50 ≤ unpackInstant (s.wrap c.dev) (s.now c.dev) at_) ∧
    (∃ (c : CmdCtx) (gid : BitVec 24) (gen : BitVec 16) (tr : Packed) (g : GroupRec) (r : JobRec) (s : State), s.rootJob c.dev
      gid.toNat gen.toNat = some (g, r) ∧ r.state = 5 ∧ r.round = 0 ∧ s.startStatus c.dev g (unpackInstant (s.wrap c.dev) (s.now
      c.dev) tr) = 0) :=
  ⟨⟨(cmd .verard), 1, 0, 7, 3, 1, 0, sealed, grouped sealed State.reset, by decide⟩,
   ⟨(cmd .verard), 1, 0, (packInstant false (msSub 1)), sealed, jobRec 1 0, (grouped sealed (regs [(R.TIME_STAT_STATE .verard, 2),
     (R.TIME_STAT_UNCAL .verard, 0)])).setJob .verard (jobRec 1 0), by decide⟩,
   ⟨(cmd .verard), 1, 0, sealed, jobRec 2 0, (grouped sealed State.reset).setJob .verard (jobRec 2 0), by decide⟩,
   ⟨(cmd .verard), 1, 0, sealed, jobRec 2 2, (grouped sealed State.reset).setJob .verard (jobRec 2 2), by decide⟩,
   ⟨(cmd .verard), 1, 0, sealed, sealed, jobRec 3 0, (grouped sealed State.reset).setJob .verard (jobRec 3 0), by decide⟩,
   ⟨(cmd .verard), 1, 0, (packInstant false (usSub 20)), sealed, sealed, jobRec 3 0, (grouped sealed State.reset).setJob .verard
     (jobRec 3 0), by decide⟩,
   ⟨(cmd .verard), 1, sealed, grouped sealed State.reset, by decide⟩,
   ⟨(cmd .lotik), State.reset, by decide⟩,
   ⟨State.reset, by unfold State.reaches; decide⟩,
   ⟨(cmd .verard), 1, 0, (packInstant false (usSub 50)), sealed, jobRec 4 0, (grouped sealed State.reset).setJob .verard (jobRec 4
     0), by decide⟩,
   ⟨(cmd .verard), 1, 0, (packInstant false (msSub 1)), sealed, jobRec 5 0, (grouped sealed (regs [(R.TIME_STAT_STATE .verard, 2),
     (R.TIME_STAT_UNCAL .verard, 0)])).setJob .verard (jobRec 5 0), by decide⟩⟩

theorem witness_SyncPortComplete :
    ∃ (_ : Fin 16384) (_ : BitVec 16) (_ : Byte) (_ : BitVec 2) (_ : Word) (s : State), s.portTakes :=
  ⟨16383, 0, 0, 0, 0, State.reset, by unfold State.portTakes; decide⟩

theorem witness_SyncUnitComplete :
    (∃ (_ : BitVec 128) (s : State), s.portTakes) ∧
    (∃ (_ : BitVec 12) (_ : Byte) (s : State), s.portTakes) ∧
    (∃ (p : PendSlot) (s : State), s.lk.sync.pend = [p] ∧ p.stale = false ∧ p.since + usSub (s.get R.LK_SYNC_LIMITS_PEND_LIMIT_US)
      < s.now .lotik) ∧
    (∃ (obj : Fin 16384) (_ : Word) (s : State), s.reaches 0 (0x4000C + 16 * obj.val)) ∧
    (∃ (obj : Fin 16384) (_ : Word) (s : State), s.reaches 0 (0x40004 + 16 * obj.val)) ∧
    (∃ (_ : Word) (s : State), s.reaches 0 0x238) ∧
    (∃ (_ : Word) (s : State), s.reaches 0 0x22C) ∧
    (∃ (_ : Word) (s : State), s.reaches 0 0x22C) ∧
    (∃ (s : State), s.lk.sync.saving = some false) ∧
    (∃ (img : List Byte) (s : State), s.lk.sync.saving = some true ∧ s.imageResult img = 0) ∧
    (∃ (img : List Byte) (s : State), s.lk.sync.saving = some true ∧ s.imageResult img ≠ 0) ∧
    (∃ (_ : BitVec 14) (s : State), s.reaches 0 0xF0000) :=
  ⟨⟨0, State.reset, by unfold State.portTakes; decide⟩,
   ⟨4095, 0, State.reset, by unfold State.portTakes; decide⟩,
   ⟨{ sig := 0 }, tick 1000001 { State.reset with lk := { sync := { pend := [{ sig := 0 }] } } }, by decide⟩,
   ⟨16383, 0, State.reset, by unfold State.reaches; decide⟩,
   ⟨16383, 0, State.reset, by unfold State.reaches; decide⟩,
   ⟨0, State.reset, by unfold State.reaches; decide⟩,
   ⟨0, State.reset, by unfold State.reaches; decide⟩,
   ⟨0, State.reset, by unfold State.reaches; decide⟩,
   ⟨{ State.reset with lk := { sync := { saving := some false } } }, by decide⟩,
   ⟨([1, 0, 0, 0, 1] ++ List.replicate 31 0 ++ [112] ++ List.replicate 23 0 ++ [231, 142, 222, 109] ++ List.replicate 48 0),
     { State.reset with lk := { sync := { saving := some true } } }, by decide +kernel⟩,
   ⟨[], { State.reset with lk := { sync := { saving := some true } } }, by decide⟩,
   ⟨0x3FFF, State.reset, by unfold State.reaches; decide⟩⟩

theorem witness_SyncCommandsComplete :
    (∃ (c : CmdCtx) (obj : BitVec 16) (_ : State), c.dev = .lotik ∧ obj.toNat < 16384) ∧
    (∃ (c : CmdCtx) (obj : BitVec 16) (op : Byte) (_ : Word) (_ : State), c.dev = .lotik ∧ obj.toNat < 16384 ∧ op.toNat ≤ 2) ∧
    (∃ (c : CmdCtx) (obj _ : BitVec 16) (_ : State), c.dev = .lotik ∧ obj.toNat < 16384) ∧
    (∃ (c : CmdCtx) (_ : DWord) (first _ flowFirst _ : BitVec 16) (s : State), c.dev = .lotik ∧ first.toNat < 16384 ∧
      flowFirst.toNat < 4096 ∧ s.getB R.LK_SYNC_SAVE_CTRL_BUSY = false) ∧
    (∃ (c : CmdCtx) (_ : DWord) (s : State), c.dev = .lotik ∧ s.getB R.LK_SYNC_SAVE_CTRL_BUSY = false) ∧
    (∃ (c : CmdCtx) (flow : BitVec 16) (_ : State), c.dev = .lotik ∧ flow.toNat < 4096) :=
  ⟨⟨(cmd .lotik), 16383, State.reset, by decide⟩,
   ⟨(cmd .lotik), 16383, 2, 0, State.reset, by decide⟩,
   ⟨(cmd .lotik), 16383, 0, State.reset, by decide⟩,
   ⟨(cmd .lotik), 0, 16383, 0, 4095, 0, State.reset, by decide⟩,
   ⟨(cmd .lotik), 0, State.reset, by decide⟩,
   ⟨(cmd .lotik), 4095, State.reset, by decide⟩⟩

theorem witness_QueuesAndGroupTimersComplete :
    (∃ (q : BitVec 12) (_ : Word) (s : State), s.reaches 0 (0x80018 + 0x40 * q.toNat)) ∧
    (∃ (q : BitVec 12) (_ : Word) (s : State), s.reaches 0 (0x80024 + 0x40 * q.toNat)) ∧
    (∃ (q : BitVec 12) (_ : Word) (s : State), s.reaches 0 (0x80000 + 0x40 * q.toNat)) ∧
    (∃ (p : PortId) (_ : BitVec 5) (_ _ _ _ : BitVec 16) (s : State), s.pathUp (.port p) = true) ∧
    (∃ (r : RingPort) (_ : BitVec 5) (_ _ _ _ : BitVec 16) (s : State), s.pathUp (.ring r) = true) ∧
    (∃ (p : PortId) (_ _ _ _ : BitVec 16) (s : State), s.pathUp (.port p) = true) ∧
    (∃ (r : RingPort) (_ _ _ _ : BitVec 16) (s : State), s.pathUp (.ring r) = true) :=
  ⟨⟨4095, 0, State.reset, by unfold State.reaches; decide⟩,
   ⟨4095, 0, State.reset, by unfold State.reaches; decide⟩,
   ⟨4095, 0, State.reset, by unfold State.reaches; decide⟩,
   ⟨.tlink, 0, 0, 0, 0, 0, linked State.reset, by decide⟩,
   ⟨.w, 31, 0, 0, 0, 0, linked State.reset, by decide⟩,
   ⟨.tlink, 0, 0, 0, 0, linked State.reset, by decide⟩,
   ⟨.w, 0, 0, 0, 0, linked State.reset, by decide⟩⟩

theorem witness_GroupCommandsComplete :
    (∃ (c : CmdCtx) (gid : BitVec 24) (scope acc maxElems depth : Byte) (_ : BitVec 16) (s : State), gid.toNat < 2 ^ 18 ∧ s.topFor
      c.dev scope.toNat = true ∧ acc.toNat ≤ 1 ∧ 1 ≤ maxElems.toNat ∧ maxElems.toNat ≤ 16 ∧ 1 ≤ depth.toNat ∧ depth.toNat ≤ 4 ∧
      (s.group c.dev gid.toNat).state = 0 ∧ (s.group c.dev gid.toNat).round = none ∧ ((s.tree c.dev).groups.filter (fun x =>
      x.2.role == 0 && (x.2.state == 1 || x.2.state == 2))).length < 16) ∧
    (∃ (c : CmdCtx) (gid : BitVec 24) (gen : BitVec 16) (entries : List DWord) (g : GroupRec) (s : State), s.topGroup c.dev
      gid.toNat gen.toNat = (g, 0) ∧ g.state = 1 ∧ entries.length ≤ 500 ∧ (∀ e ∈ entries, bits e.toNat 20 12 = 0 ∧ s.inScope c.dev
      g.scope (bits e.toNat 0 20) = true)) ∧
    (∃ (c : CmdCtx) (gid : BitVec 24) (gen : BitVec 16) (g : GroupRec) (s : State), s.topGroup c.dev gid.toNat gen.toNat = (g, 0)
      ∧ g.state ≠ 1) ∧
    (∃ (c : CmdCtx) (gid : BitVec 24) (gen : BitVec 16) (g : GroupRec) (s : State), s.topGroup c.dev gid.toNat gen.toNat = (g, 0)
      ∧ g.state = 1 ∧ dieCount g.members ≠ 0) ∧
    (∃ (c : CmdCtx) (gid : BitVec 24) (gen : BitVec 16) (g : GroupRec) (s : State), s.topGroup c.dev gid.toNat gen.toNat = (g, 0)
      ∧ g.state ≠ 0 ∧ s.jobLive c.dev gid.toNat = false ∧ g.round = none) ∧
    (∃ (c : CmdCtx) (gid : BitVec 24) (gen : BitVec 16) (g : GroupRec) (s : State), s.topGroup c.dev gid.toNat gen.toNat = (g, 0)
      ∧ g.state ≠ 0 ∧ s.jobLive c.dev gid.toNat = false ∧ g.round = none) ∧
    (∃ (c : CmdCtx) (gid : BitVec 24) (s : State), gid.toNat < 2 ^ 18 ∧ (s.group c.dev gid.toNat).state ≠ 0 ∧ s.topFor c.dev
      (s.group c.dev gid.toNat).scope = true ∧ ((c.dev = .verard → (s.group c.dev gid.toNat).role = 0))) :=
  ⟨⟨(cmd .lotik), 0x3FFFF, 0, 1, 16, 4, 0, (linked (regs [(R.LK_TOPO_ROLE, 1)])), by decide⟩,
   ⟨(cmd .lotik), 1, 0, [0], { sealed with state := 1 }, grouped ({ sealed with state := 1 }) (linked (regs [(R.LK_TOPO_ROLE,
     1)])), by decide, by decide, by decide, by intro e he; rw [List.mem_singleton.1 he]; exact ⟨by decide, by decide⟩⟩,
   ⟨(cmd .lotik), 1, 0, sealed, grouped sealed (linked (regs [(R.LK_TOPO_ROLE, 1)])), by decide⟩,
   ⟨(cmd .lotik), 1, 0, { sealed with state := 1 }, grouped ({ sealed with state := 1 }) (linked (regs [(R.LK_TOPO_ROLE, 1)])), by
     decide⟩,
   ⟨(cmd .lotik), 1, 0, sealed, grouped sealed (linked (regs [(R.LK_TOPO_ROLE, 1)])), by decide⟩,
   ⟨(cmd .lotik), 1, 0, sealed, grouped sealed (linked (regs [(R.LK_TOPO_ROLE, 1)])), by decide⟩,
   ⟨(cmd .lotik), 1, grouped sealed (linked (regs [(R.LK_TOPO_ROLE, 1)])), by decide⟩⟩

theorem witness_QueueCommandsComplete :
    (∃ (c : CmdCtx) (queue : BitVec 16) (gid : BitVec 24) (gen : BitVec 16) (sq : DWord) (sqLog2 : Byte) (cq : DWord) (cqLog2
      irqEn : Byte) (s : State), c.dev = .lotik ∧ s.expelled = false ∧ queue.toNat < 4096 ∧ sq.toNat % 256 = 0 ∧ cq.toNat % 256 =
      0 ∧ gid.toNat < 2 ^ 18 ∧ gen.toNat < 2 ^ 14 ∧ irqEn.toNat ≤ 1 ∧ (s.queue queue.toNat).enable = false ∧ 1 ≤ sqLog2.toNat ∧
      sqLog2.toNat ≤ 12 ∧ 1 ≤ cqLog2.toNat ∧ cqLog2.toNat ≤ 12) ∧
    (∃ (c : CmdCtx) (queue : BitVec 16) (s : State), c.dev = .lotik ∧ queue.toNat < 4096 ∧ (s.queue queue.toNat).enable = true) ∧
    (∃ (c : CmdCtx) (queue : BitVec 16) (_ : State), c.dev = .lotik ∧ queue.toNat < 4096) ∧
    (∃ (c : CmdCtx) (gid : BitVec 24) (slot : Byte) (s : State), c.dev = .verard ∧ slot.toNat ≤ 3 ∧ gid.toNat < 2 ^ 18 ∧ (s.group
      .verard gid.toNat).basin ≠ 0) :=
  ⟨⟨(cmd .lotik), 4095, 0x3FFFF, 0x3FFF, 256, 12, 256, 12, 1, State.reset, by decide⟩,
   ⟨(cmd .lotik), 4095, State.reset.setQueue 4095 { enable := true }, by decide⟩,
   ⟨(cmd .lotik), 4095, State.reset, by decide⟩,
   ⟨(cmd .verard), 1, 3, grouped { sealed with basin := 1 } State.reset, by decide⟩⟩

theorem witness_RegionsComplete :
    (∃ (r : Fin 64) (s : State), r.val < s.nr ∧ (s.region r).stretching = false) ∧
    (∃ (r : Fin 64) (s : State), r.val < s.nr ∧ (s.region r).stretching = true) ∧
    (∃ (r : Fin 64) (s : State), (s.region r).stretching = true ∧ 8 ≤ (s.region r).periods) ∧
    (∃ (r : Fin 64) (s : State), (s.region r).stretching = true ∧ (s.region r).recovered = true ∧ (s.region r).fence = 0 ∧
      (s.region r).toSafe = false) ∧
    (∃ (r : Fin 64) (s : State), r.val < s.nr ∧ s.regState r ≠ 4) ∧
    (∃ (r : Fin 64) (t : Nat) (s : State), (s.region r).lowSince = some t ∧ t + msSub 1 ≤ s.now .lotik) ∧
    (∃ (r : Fin 64) (s : State), r.val < s.nr ∧ s.regState r ≤ 1) ∧
    (∃ (r : Fin 64) (s : State), r.val < s.nr ∧ s.regState r = 3) ∧
    (∃ (r : Fin 64) (t : Nat) (s : State), (s.region r).rejoinAt = some t ∧ s.regState r = 2 ∧ t ≤ s.now .lotik) ∧
    (∃ (_ : Byte) (s : State), s.reaches 0 0x3080) ∧
    (∃ (_ : Byte) (s : State), s.reaches 0 0x3080) ∧
    (∃ (r : Fin 64) (s : State), s.reaches 0 (0x3804 + r.val * 0x20) ∧ r.val < (s.hostReq .lotik).nr) :=
  ⟨⟨63, State.reset, by decide⟩,
   ⟨63, regs [(R.LK_CS_REGr_STAT_STATE 63, 1)] |>.setRegion 63 { stretching := true }, by decide⟩,
   ⟨63, State.reset.setRegion 63 { stretching := true, periods := 8 }, by decide⟩,
   ⟨63, State.reset.setRegion 63 { stretching := true, recovered := true }, by decide⟩,
   ⟨63, State.reset, by decide⟩,
   ⟨63, 0, tick 100000 (State.reset.setRegion 63 { lowSince := some 0 }), by decide⟩,
   ⟨63, regs [(R.LK_CS_REGr_STAT_STATE 63, 1)], by decide⟩,
   ⟨63, regs [(R.LK_CS_REGr_STAT_STATE 63, 3)], by decide⟩,
   ⟨63, 0, (regs [(R.LK_CS_REGr_STAT_STATE 63, 2)]).setRegion 63 { rejoinAt := some 0 }, by decide⟩,
   ⟨255, State.reset, by unfold State.reaches; decide⟩,
   ⟨255, State.reset, by unfold State.reaches; decide⟩,
   ⟨63, State.reset, by unfold State.reaches; decide⟩⟩

theorem witness_OperatingPointsComplete :
    (∃ (c : Change) (cs : List Change) (s : State), s.lk.cs.sched = c :: cs ∧ c.prepared = false ∧ c.tick ≤ s.now .lotik +
      s.freqLead) ∧
    (∃ (c : Change) (cs : List Change) (_ : Bool) (s : State), s.lk.cs.sched = c :: cs ∧ c.prepared = true ∧ c.tick ≤ s.now .lotik
      + usSub 1 ∧ s.changeIdx c ≠ s.get R.LK_CS_STAT_CUR_OP) ∧
    (∃ (c : Change) (cs : List Change) (s : State), s.lk.cs.sched = c :: cs ∧ c.prepared = true ∧ c.tick ≤ s.now .lotik + usSub 1
      ∧ s.get R.LK_CS_STAT_CUR_OP < s.changeIdx c) ∧
    (∃ (c : Change) (cs : List Change) (pgood : Bool) (s : State), s.lk.cs.sched = c :: cs ∧ c.prepared = true ∧ c.tick ≤ s.now
      .lotik + usSub 1 ∧ s.changeIdx c ≠ s.get R.LK_CS_STAT_CUR_OP ∧ (pgood = true ∨ s.changeIdx c < s.get R.LK_CS_STAT_CUR_OP)) ∧
    (∃ (c : Change) (cs : List Change) (_ _ : Bool) (s : State), s.lk.cs.sched = c :: cs ∧ s.changeIdx c = s.get
      R.LK_CS_STAT_CUR_OP) ∧
    (∃ (c : Change) (cs : List Change) (s : State), s.lk.cs.sched = c :: cs ∧ c.tick ≤ s.now .lotik ∧ (s.changeIdx c = s.get
      R.LK_CS_STAT_CUR_OP ∨ c.checked = true)) ∧
    (∃ (c : Change) (cs : List Change) (s : State), s.lk.cs.sched = c :: cs ∧ c.tick ≤ s.now .lotik ∧ s.changeIdx c ≠ s.get
      R.LK_CS_STAT_CUR_OP ∧ c.checked = false) ∧
    (∃ (t : Nat) (s : State), s.lk.cs.finishAt = some t ∧ t ≤ s.now .lotik) ∧
    (∃ (c : CmdCtx) (_ : State), c.dev = .lotik) ∧
    (∃ (c : CmdCtx) (first regions : Byte) (s : State), c.dev = .lotik ∧ 1 ≤ regions.toNat ∧ regions.toNat ≤ 64 ∧ first.toNat +
      regions.toNat ≤ s.nr) ∧
    (∃ (c : CmdCtx) (number : Byte) (s : State), c.dev = .lotik ∧ number.toNat < 4 * s.nr) ∧
    (∃ (c : CmdCtx) (number : Byte) (s : State), c.dev = .lotik ∧ number.toNat < s.nr) ∧
    (∃ (c : CmdCtx) (_ : State), c.dev = .lotik) :=
  ⟨⟨{ tick := usSub 9, idx := none, ceil := some 1, prepared := false }, [], State.reset.setCs
     { sched := [{ tick := usSub 9, idx := none, ceil := some 1, prepared := false }] }, by decide⟩,
   ⟨{ tick := usSub 1, idx := some 3, ceil := some 3, prepared := true }, [], true, State.reset.setCs
     { sched := [{ tick := usSub 1, idx := some 3, ceil := some 3, prepared := true }] }, by decide⟩,
   ⟨{ tick := 5, idx := some 3, ceil := some 3, prepared := true }, [], State.reset.setCs
     { sched := [{ tick := 5, idx := some 3, ceil := some 3, prepared := true }] }, by decide⟩,
   ⟨{ tick := 5, idx := some 3, ceil := some 3, prepared := true }, [], true, State.reset.setCs
     { sched := [{ tick := 5, idx := some 3, ceil := some 3, prepared := true }] }, by decide⟩,
   ⟨{ tick := 5, idx := some 3, ceil := some 3, prepared := true }, [], false, false, (regs [(R.LK_CS_STAT_CUR_OP, 3)]).setCs
     { sched := [{ tick := 5, idx := some 3, ceil := some 3, prepared := true }] }, by decide⟩,
   ⟨{ tick := 0, idx := some 3, ceil := some 3, checked := true }, [], State.reset.setCs
     { sched := [{ tick := 0, idx := some 3, ceil := some 3, checked := true }] }, by decide⟩,
   ⟨{ tick := 0, idx := some 3, ceil := some 3 }, [], State.reset.setCs
     { sched := [{ tick := 0, idx := some 3, ceil := some 3 }] }, by decide⟩,
   ⟨0, State.reset.setCs { finishAt := some 0 }, by decide⟩,
   ⟨(cmd .lotik), State.reset, by decide⟩,
   ⟨(cmd .lotik), 0, 64, State.reset, by decide⟩,
   ⟨(cmd .lotik), 255, State.reset, by decide⟩,
   ⟨(cmd .lotik), 63, State.reset, by decide⟩,
   ⟨(cmd .lotik), State.reset, by decide⟩⟩

theorem witness_PowerGovernorComplete :
    (∃ (_ : List (BitVec 8)) (s : State), s.lk.pg.sampleNo < s.now .lotik / sampleSub) ∧
    (∃ (b : Nat) (s : State), s.lk.pg.boostAt = some b ∧ b + secSub 1 ≤ s.now .lotik) ∧
    (∃ (_ : Word) (s : State), s.reaches 0 0x400C) ∧
    (∃ (s : State), s.reaches 0 0x4038) ∧
    (∃ (r : Fin 64) (s : State), s.reaches 0 (0x4400 + r.val * 0x10) ∧ r.val < (s.hostReq .lotik).nr) ∧
    (∃ (r : Fin 64) (temp : BitVec 8) (s : State), r.val < s.nr ∧ (s.get R.LK_PG_CFG2_TWARN_C : Int) ≤ temp.toInt) ∧
    (∃ (s : State), s.getB R.LK_PG_STAT_TWARN = true ∧ s.regionNos.any (fun r => decide ((s.get R.LK_PG_CFG2_TWARN_C : Int) ≤
      (s.region r).temp)) = true ∧ s.lk.pg.ceilStep + msSub 10 ≤ s.now .lotik) ∧
    (∃ (s : State), s.getB R.LK_PG_STAT_TWARN = true ∧ s.regionNos.all (fun r => decide ((s.region r).temp < (s.get
      R.LK_PG_CFG2_TWARN_C : Int) - 3)) = true ∧ s.lk.pg.hotAt + msSub 100 ≤ s.now .lotik) ∧
    (∃ (r : Fin 64) (temp : BitVec 8) (s : State), r.val < s.nr ∧ (s.get R.LK_PG_TEMP_TCRIT_C : Int) ≤ temp.toInt ∧ s.getB
      R.LK_PG_STAT_TRIPPED = false) ∧
    (∃ (c : CmdCtx) (_ : State), c.dev = .lotik) ∧
    (∃ (c : CmdCtx) (cap1 cap10 : BitVec 16) (_ : State), c.dev = .lotik ∧ capBad cap1.toNat cap10.toNat = false) ∧
    (∃ (c : CmdCtx) (first regions : Byte) (s : State), c.dev = .lotik ∧ 1 ≤ regions.toNat ∧ regions.toNat ≤ 64 ∧ first.toNat +
      regions.toNat ≤ s.nr) :=
  ⟨⟨[], tick 200 State.reset, by decide⟩,
   ⟨0, tick 100000000 (State.reset.setPg { boostAt := some 0 }), by decide⟩,
   ⟨0, State.reset, by unfold State.reaches; decide⟩,
   ⟨State.reset, by unfold State.reaches; decide⟩,
   ⟨63, State.reset, by unfold State.reaches; decide⟩,
   ⟨63, 100, State.reset, by decide⟩,
   ⟨tick 1000000 ((regs [(R.LK_PG_STAT_TWARN, 1)]).setRegion 63 { temp := 100 }), by decide⟩,
   ⟨tick 10000000 (regs [(R.LK_PG_STAT_TWARN, 1)]), by decide⟩,
   ⟨63, 110, State.reset, by decide⟩,
   ⟨(cmd .lotik), State.reset, by decide⟩,
   ⟨(cmd .lotik), 100, 100, State.reset, by decide⟩,
   ⟨(cmd .lotik), 0, 64, State.reset, by decide⟩⟩

theorem witness_DeterminismComplete :
    (∃ (i : Nat) (s : State), s.activeSlot = some i ∧ s.slotState i = 3 ∧ (s.slot i).t0 ≤ s.now .lotik + usSub 2) ∧
    (∃ (i m : Nat) (s : State), s.activeSlot = some i ∧ s.slotState i = 5 ∧ (s.run i).resumeAt = some m ∧ m ≤ s.now .lotik + usSub
      2) ∧
    (∃ (_ : Bool) (m : Nat) (s : State), s.lk.det.alignFor = some m ∧ m ≤ s.now .lotik + nsSub 100) ∧
    (∃ (_ : BitVec 128) (s : State), s.portTakes ∧ (s.hostReq .lotik).activeSlot = none) ∧
    (∃ (beat : BitVec 128) (i : Nat) (s : State), s.portTakes ∧ let u := s.hostReq .lotik; u.activeSlot = some i ∧
      u.lk.det.steps.any (fun d => d.step.toNat % 256 == bits beat.toNat 108 8) = false) ∧
    (∃ (beat : BitVec 128) (i : Nat) (s : State), s.portTakes ∧ let u := s.hostReq .lotik; u.activeSlot = some i ∧
      u.lk.det.steps.any (fun d => d.step.toNat % 256 == bits beat.toNat 108 8) = true) ∧
    (∃ (_ : Word) (s : State), s.reaches 0 0x5020) ∧
    (∃ (t : Fin 16) (s : State), s.reaches 0 (0x5100 + t.val * 0x20)) ∧
    (∃ (r q : BitVec 32) (step : Option (BitVec 64)) (v : BitVec 128) (s : State), s.portTakes ∧ (s.hostReq .lotik).seedFor r q
      step = some v) ∧
    (∃ (_ : Word) (s : State), s.reaches 0 0x5050) ∧
    (∃ (i : Nat) (s : State), s.portTakes ∧ let u := s.hostReq .lotik; u.getB R.LK_DET_STAT_DETMODE = true ∧ u.activeSlot = some
      i) ∧
    (∃ (c : CmdCtx) (_ : State), c.dev = .lotik) ∧
    (∃ (c : CmdCtx) (tag : Byte) (_ : State), c.dev = .lotik ∧ tag.toNat ≤ 15) ∧
    (∃ (c : CmdCtx) (tag kind : Byte) (s : State), c.dev = .lotik ∧ tag.toNat ≤ 15 ∧ kind.toNat ≤ 1 ∧ s.getB R.LK_DET_DIG_REQ_BUSY
      = false) ∧
    (∃ (c : CmdCtx) (rank stream : Word) (step : DWord) (v : BitVec 128) (s : State), c.dev = .lotik ∧ step ≠ 0xFFFFFFFFFFFFFFFF ∧
      s.seedFor rank stream (some step) = some v) ∧
    (∃ (c : CmdCtx) (_ : DWord) (i : Nat) (s : State), c.dev = .lotik ∧ s.slotIn 5 = some i) ∧
    (∃ (c : CmdCtx) (addr : DWord) (b : List Byte) (s : State), c.dev = .lotik ∧ s.slotState 0 = 1 ∧ ((s.accept c 0x67 0).emit
      (.hostRead .lotik (addr.toNat / 64 * 64) 896)).imageFits 0 b = true) :=
  ⟨⟨1, (regs [(R.LK_STEP_STAT_SLOT1_STATE, 3)]).setSlot 1 { t0 := usSub 2 }, by decide⟩,
   ⟨0, usSub 2, (regs [(R.LK_STEP_STAT_SLOT0_STATE, 5)]).setRun 0 { resumeAt := some (usSub 2) }, by decide⟩,
   ⟨true, nsSub 100, State.reset.setDet { alignFor := some (nsSub 100) }, by decide⟩,
   ⟨0, State.reset, by unfold State.portTakes; decide⟩,
   ⟨0, 0, regs [(R.LK_STEP_STAT_SLOT0_STATE, 4)], by unfold State.portTakes; decide⟩,
   ⟨0, 0, (regs [(R.LK_STEP_STAT_SLOT0_STATE, 4)]).setDet { steps := [{ step := 0 }] }, by unfold State.portTakes; decide⟩,
   ⟨0, State.reset, by unfold State.reaches; decide⟩,
   ⟨15, State.reset, by unfold State.reaches; decide⟩,
   ⟨0, 0, none, (seedOf 0 0 0 0), regs [(R.LK_STEP_STAT_SLOT0_STATE, 4)], by unfold State.portTakes; decide⟩,
   ⟨0, State.reset, by unfold State.reaches; decide⟩,
   ⟨0, regs [(R.LK_STEP_STAT_SLOT0_STATE, 4), (R.LK_DET_STAT_DETMODE, 1)], by unfold State.portTakes; decide⟩,
   ⟨(cmd .lotik), State.reset, by decide⟩,
   ⟨(cmd .lotik), 15, State.reset, by decide⟩,
   ⟨(cmd .lotik), 15, 1, State.reset, by decide⟩,
   ⟨(cmd .lotik), 0, 0, 0, (seedOf 0 0 0 0), regs [(R.LK_STEP_STAT_SLOT0_STATE, 4)], by decide⟩,
   ⟨(cmd .lotik), 0, 1, regs [(R.LK_STEP_STAT_SLOT1_STATE, 5)], by decide⟩,
   ⟨(cmd .lotik), 0, image896, loadable, rfl, by decide, image896_fits⟩⟩

theorem witness_OpticalEnginesComplete :
    (∃ (e : Fin 9) (_ : Bool) (s : State), s.reaches 1 (0x60000 + 0x200 * e.val)) ∧
    (∃ (e : Fin 9) (s : State), s.get (R.VD_OE_STAT_STATE e) = 1 ∧ (s.oe e).since + msSub 100 ≤ s.now .verard) ∧
    (∃ (e : Fin 9) (_ : BitVec 10) (s : State), s.get (R.VD_OE_STAT_STATE e) = 1 ∧ (s.oe e).since + secSub 1 ≤ s.now .verard) ∧
    (∃ (e : Fin 9) (s : State), s.get (R.VD_OE_STAT_STATE e) = 5 ∧ (s.oe e).since + secSub 10 ≤ s.now .verard) ∧
    (∃ (e : Fin 9) (s : State), s.reaches 1 (0x60000 + 0x200 * e.val)) ∧
    (∃ (e : Fin 9) (_ : List (BitVec 16)) (_ : BitVec 16) (_ : BitVec 8) (_ : List (BitVec 32)) (s : State), periodOver (s.oe
      e).lockAt (usSub 100) (s.now .verard) = true) ∧
    (∃ (p : PortId) (_ : Bool) (_ : BitVec 12) (s : State), p ≠ .tlink ∧ s.ostate p = 3) ∧
    (∃ (p : PortId) (t : Nat) (s : State), p ≠ .tlink ∧ ((s.ostate p = 2 ∨ s.ostate p = 5)) ∧ (s.oring (oePlace p).1 (8 + s.get
      (R.PORT_OPT_STAT_DROP_RING p))).darkAt = some t ∧ t + secSub 1 ≤ s.now .verard) ∧
    (∃ (_ : Fin 9) (w : Word) (_ : Bool) (_ : State), bits w.toNat 24 8 = crc8 (w.toNat % 2 ^ 24) ∧ bits w.toNat 4 4 = 8 ∧ w.toNat
      % 16 < 10) :=
  ⟨⟨8, true, vup, by unfold State.reaches; decide⟩,
   ⟨8, tick 10000000 (regs [(R.VD_OE_STAT_STATE 8, 1)]), by decide⟩,
   ⟨8, 0, tick 100000000 (regs [(R.VD_OE_STAT_STATE 8, 1)]), by decide⟩,
   ⟨8, tick 1000000000 (regs [(R.VD_OE_STAT_STATE 8, 5)]), by decide⟩,
   ⟨8, vup, by unfold State.reaches; decide⟩,
   ⟨8, [], 0, 25, [], tick 10000 (State.reset.setOe 8 { lockAt := some 0 }), by decide⟩,
   ⟨.upB, true, 0, regs [(R.PORT_OPT_STAT_OSTATE .upB, 3)], by decide⟩,
   ⟨.upB, 0, tick 100000000 ((regs [(R.PORT_OPT_STAT_OSTATE .upB, 5), (R.PORT_OPT_STAT_DROP_RING .upB, 1)]).setOring 8 9
     { darkAt := some 0 }), by decide⟩,
   ⟨8, 822083721, true, State.reset, by decide⟩⟩

theorem witness_LaserLinesComplete :
    (∃ (e : Fin 9) (_ : List (BitVec 16)) (s : State), periodOver (s.oe e).biasAt (secSub 10) (s.now .verard) = true) ∧
    (∃ (e : Fin 9) (l : Fin 10) (s : State), s.lineState e l = 1) ∧
    (∃ (e : Fin 9) (l : Fin 10) (s : State), s.lineState e l = 5 ∧ (s.line e l).lit = true ∧ (s.line e l).litSince + msSub 20 ≤
      s.now .verard) ∧
    (∃ (p : PortId) (w : OeSwap) (s : State), p ≠ .tlink ∧ (s.oe (oePlace p).1).swap = some w ∧ w.port = p.idx ∧ w.restore = true) ∧
    (∃ (p : PortId) (l sp : Nat) (s : State), p ≠ .tlink ∧ (s.oe (oePlace p).1).swap = none ∧ s.workLine (oePlace p).1 (oePlace
      p).2 = some l ∧ s.spareIn (oePlace p).1 (oePlace p).2 6 = some sp ∧ s.swapFree (oePlace p).1 = true ∧ s.ostate p = 2 ∧
      s.swapNow (oePlace p).1 l p.idx = true) ∧
    (∃ (e : Fin 9) (w : OeSwap) (s : State), (s.oe e).swap = some w ∧ w.restore = false ∧ w.at_ + msSub 1 ≤ s.now .verard) ∧
    (∃ (e : Fin 9) (l : Fin 10) (s : State), s.lineState e l = 3 ∧ (s.line e l).dueAt + secSub (s.get R.VD_OPT_CFG3_SWAP_WAIT_S) ≤
      s.now .verard) :=
  ⟨⟨8, [], tick 1000000000 (State.reset.setOe 8 { biasAt := some 0 }), by decide⟩,
   ⟨8, 9, regs [(R.VD_OE_LINEl_STAT_LSTATE 8 9, 1)], by decide⟩,
   ⟨8, 9, tick 2000000 ((regs [(R.VD_OE_LINEl_STAT_LSTATE 8 9, 5)]).setLine 8 9 { lit := true }), by decide⟩,
   ⟨.upB, { port := 65, old := 0, spare := 1, at_ := 0, restore := true }, State.reset.setOe 8
     { swap := some { port := 65, old := 0, spare := 1, at_ := 0, restore := true } }, by decide⟩,
   ⟨.upA, 0, 4, (regs [(R.PORT_OPT_STAT_OSTATE .upA, 2), (R.PORT_OPT_STAT_CHAN .upA, 2), (R.VD_OE_LINEl_STAT_CHAN 8 0, 2),
     (R.VD_OE_LINEl_STAT_LSTATE 8 0, 3), (R.VD_OE_LINEl_STAT_LSTATE 8 4, 6)]).setLine 8 0 { forced := true }, by decide⟩,
   ⟨8, { port := 65, old := 0, spare := 1, at_ := 0 }, tick 100000 (State.reset.setOe 8
     { swap := some { port := 65, old := 0, spare := 1, at_ := 0 } }), by decide⟩,
   ⟨8, 9, tick 360000000000 (regs [(R.VD_OE_LINEl_STAT_LSTATE 8 9, 3)]), by decide⟩⟩

theorem witness_SwitchAndOpticalCommandsComplete :
    (∃ (o : Fin 4) (_ : Word) (s : State), s.reaches 1 (0x61300 + 0x20 * o.val)) ∧
    (∃ (o : Fin 4) (_ : Word) (s : State), s.reaches 1 (0x61300 + 0x20 * o.val)) ∧
    (∃ (o : Fin 4) (t : Nat) (s : State), (s.ocs o).at_ = some t ∧ s.getB (R.VD_OCSo_STAT_ARMED o) = true ∧ t ≤ s.now .verard) ∧
    (∃ (o : Fin 4) (t : Nat) (s : State), (s.ocs o).firedAt = some t ∧ t + msSub (s.get (R.VD_OCSo_TIMING_SETTLE_MS o) + 200) ≤
      s.now .verard) ∧
    (∃ (c : CmdCtx) (e : Byte) (_ : State), c.dev = .verard ∧ e.toNat ≤ 8) ∧
    (∃ (c : CmdCtx) (e l : Byte) (k : Nat) (s : State), c.dev = .verard ∧ e.toNat ≤ 8 ∧ l.toNat ≤ 9 ∧ (s.oe e.toNat).swap = none ∧
      s.lineplace e.toNat l.toNat = some k ∧ (s.spareIn e.toNat k 6).isSome = true) ∧
    (∃ (c : CmdCtx) (port : Byte) (_ : State), c.dev = .verard ∧ port.toNat ≤ 65) ∧
    (∃ (c : CmdCtx) (o _ _ : Byte) (_ : Packed) (_ : BitVec 64) (_ _ : BitVec 16) (_ : State), c.dev = .verard ∧ o.toNat ≤ 3) ∧
    (∃ (c : CmdCtx) (o : Byte) (_ : State), c.dev = .verard ∧ o.toNat ≤ 3) :=
  ⟨⟨3, 0, vup, by unfold State.reaches; decide⟩,
   ⟨3, 0, vup, by unfold State.reaches; decide⟩,
   ⟨3, 0, (regs [(R.VD_OCSo_STAT_ARMED 3, 1)]).setOcs 3 { at_ := some 0 }, by decide⟩,
   ⟨3, 0, tick 2000000000 (State.reset.setOcs 3 { firedAt := some 0 }), by decide⟩,
   ⟨(cmd .verard), 8, State.reset, by decide⟩,
   ⟨(cmd .verard), 8, 0, 0, regs [(R.PORT_OPT_STAT_CHAN .upA, 2), (R.VD_OE_LINEl_STAT_CHAN 8 0, 2), (R.VD_OE_LINEl_STAT_LSTATE 8
     4, 6)], by decide⟩,
   ⟨(cmd .verard), 65, State.reset, by decide⟩,
   ⟨(cmd .verard), 3, 0, 0, 0, 0, 0, 0, State.reset, by decide⟩,
   ⟨(cmd .verard), 3, State.reset, by decide⟩⟩

theorem witness_HealthComplete :
    (∃ (_ : Word) (s : State), s.reaches 0 0x6008) ∧
    (∃ (s : State), s.activeSlot = none ∧ s.lk.hm.lastAt + secSub (s.get R.LK_HM_CFG_SOUND_PERIOD_S) ≤ s.now .lotik) ∧
    (∃ (s : State), s.getB R.LK_HM_STAT_KAT_PENDING = true ∧ s.activeSlot = none) ∧
    (∃ (r : BitVec 6) (sig : BitVec 64) (k : Kat) (s : State), s.portTakes ∧ let u := s.hostReq .lotik;
      let k' : Kat := { k with sigs := k.sigs ++ [(r.toNat, sig)] }; u.lk.hm.kat = some k ∧ k.sigs.any (fun x => x.1 == r.toNat) =
      false) ∧
    (∃ (k : Kat) (s : State), s.lk.hm.kat = some k ∧ k.since + usSub (s.get R.LK_HM_CFG2_KAT_LIMIT_US) ≤ s.now .lotik) ∧
    (∃ (p : Nat) (body : List Byte) (rest : List (Nat × Byte × List Byte)) (s : State), s.vd.hm.inbox = (p, 1, body) :: rest) ∧
    (∃ (n : BitVec 11) (s : State), s.get (R.VD_HM_DIEn_HSTATE n.toNat) ≠ 0 ∧ s.getB (R.VD_HM_DIEn_SILENT n.toNat) = false ∧
      s.inService (downPort (n.toNat / 32)) = true ∧ (s.die n.toNat).lastRec + secSub (3 * s.get R.LK_HM_CFG_SOUND_PERIOD_S) ≤
      s.now .verard) ∧
    (∃ (n : BitVec 11) (s : State), s.get (R.VD_HM_DIEn_HSTATE n.toNat) ≠ 0 ∧ (s.die n.toNat).cleanSince + secSub (60 * s.get
      R.VD_HM_CFG2_RECOVER_MIN) ≤ s.now .verard) ∧
    (∃ (n : BitVec 11) (s : State), s.get (R.VD_HM_DIEn_HSTATE n.toNat) = 2 ∧ s.decides n.toNat = true ∧ (s.die n.toNat).probSince
      + s.get R.VD_HM_CFG2_PROB_H * hourSub ≤ s.now .verard) :=
  ⟨⟨0, State.reset, by unfold State.reaches; decide⟩,
   ⟨tick 6000000000 State.reset, by decide⟩,
   ⟨regs [(R.LK_HM_STAT_KAT_PENDING, 1)], by decide⟩,
   ⟨0, 0, { since := 0, cell := 0 }, (regs [(R.LK_CS_STAT_REGIONS, 0)]).setHm { kat := some { since := 0, cell := 0 } },
     by unfold State.portTakes; decide⟩,
   ⟨{ since := 0, cell := 0 }, tick 5000 (State.reset.setHm { kat := some { since := 0, cell := 0 } }), by decide⟩,
   ⟨0, [], [], State.reset.setHu { inbox := [(0, 1, [])] }, by decide⟩,
   ⟨2047, tick 18000000000 (regs [(R.VD_HM_DIEn_HSTATE 2047, 1), (R.PORT_STAT_STATE (.down 63), 6)]), by decide⟩,
   ⟨2047, tick 360000000000 (regs [(R.VD_HM_DIEn_HSTATE 2047, 1)]), by decide⟩,
   ⟨2047, tick 25920000000000 (regs [(R.VD_HM_DIEn_HSTATE 2047, 2), (R.VD_HM_DIEn_DECIDER 2047, 1)]), by decide⟩⟩

theorem witness_LogComplete :
    (∃ (d : Dev) (_ : Word) (s : State), s.reaches d.sp (match d with | .lotik => 0x620C | .verard => 0x80008)) ∧
    (∃ (seq n : Nat) (s : State), (s.log .lotik).spilling = some (seq, n)) ∧
    (∃ (seq n : Nat) (s : State), (s.log .lotik).spilling = some (seq, n)) ∧
    (∃ (d : Dev) (s : State), (s.log d).noFwd ≠ 0 ∧ periodOver (s.log d).sumAt (secSub 1) (s.now d) = true) ∧
    (∃ (_ : Word) (s : State), s.reaches 1 0x80010) ∧
    (∃ (_ : CmdCtx) (_ : Word) (count : Byte) (_ : State), count ≠ 0 ∧ count.toNat ≤ 62) ∧
    (∃ (c : CmdCtx) (seq : Word) (s : State), (s.log c.dev).inside seq.toNat = true) :=
  ⟨⟨.verard, 0, vup, by unfold State.reaches; decide⟩,
   ⟨0, 1, State.reset.setLog .lotik { spilling := some (0, 1) }, by decide⟩,
   ⟨0, 1, State.reset.setLog .lotik { spilling := some (0, 1) }, by decide⟩,
   ⟨.lotik, State.reset.setLog .lotik { noFwd := 1 }, by decide⟩,
   ⟨0, vup, by unfold State.reaches; decide⟩,
   ⟨(cmd .lotik), 0, 62, State.reset, by decide⟩,
   ⟨(cmd .lotik), 0, State.reset, by decide⟩⟩

theorem witness_HealthCommandsComplete :
    (∃ (c : CmdCtx) (mask : Byte) (_ : State), c.dev = .lotik ∧ mask ≠ 0 ∧ mask.toNat < 16) ∧
    (∃ (c : CmdCtx) (_ : State), c.dev = .lotik) ∧
    (∃ (c : CmdCtx) (st : Byte) (s : State), c.dev = .lotik ∧ s.fromPodVerard c.src.toNat = true ∧ st.toNat < 5 ∧ s.get
      R.LK_HM_STAT_HSTATE ≠ 4 ∧ st.toNat ≠ s.get R.LK_HM_STAT_HSTATE) ∧
    (∃ (c : CmdCtx) (first count : BitVec 16) (_ : State), c.dev = .verard ∧ count ≠ 0 ∧ count.toNat ≤ 1000 ∧ first.toNat +
      count.toNat ≤ 2048) ∧
    (∃ (c : CmdCtx) (delta : BitVec 16) (v : Nat) (s : State), c.dev = .verard ∧ (s.get R.VD_HM_SPARES_AVAIL : Int) + delta.toInt
      = v ∧ v ≤ 65535) ∧
    (∃ (c : CmdCtx) (ua : BitVec 24) (s : State), c.dev = .verard ∧ ua.toNat < 2 ^ 20 ∧ uaClass ua.toNat = 0 ∧ uaPod ua.toNat =
      uaPod (s.ua .verard) ∧ s.vdRole ≠ 0 ∧ s.get (R.VD_HM_DIEn_HSTATE (ua.toNat % 2048)) ≠ 0 ∧ s.get (R.VD_HM_DIEn_HSTATE
      (ua.toNat % 2048)) ≠ 4) ∧
    (∃ (c : CmdCtx) (_ : State), c.dev = .verard) :=
  ⟨⟨(cmd .lotik), 15, State.reset, by decide⟩,
   ⟨(cmd .lotik), State.reset, by decide⟩,
   ⟨{ cmd .lotik with src := 0x20000 }, 2, regs [(R.LK_HM_STAT_HSTATE, 1)], by decide⟩,
   ⟨(cmd .verard), 2047, 1, State.reset, by decide⟩,
   ⟨(cmd .verard), 0xFFFF, 0, regs [(R.VD_HM_SPARES_AVAIL, 1)], by decide⟩,
   ⟨(cmd .verard), 0, (regs [(R.VD_TOPO_ROLE, 1), (R.VD_HM_DIEn_HSTATE 0, 1)]), by decide⟩,
   ⟨(cmd .verard), State.reset, by decide⟩⟩

theorem witness_SecurityCommandsComplete :
    (∃ (c : CmdCtx) (profile : Byte) (s : State), c.dev = .lotik ∧ profile.toNat ≤ 3 ∧ s.get R.LK_BOOT_STAGE ≠ 3) ∧
    (∃ (c : CmdCtx) (install : List Byte) (s : State), install.length = 512 ∧ (s.sec c.dev).idKey ≠ [] ∧ (install.drop 12).take 97
      = (s.sec c.dev).idKey) ∧
    (∃ (c : CmdCtx) (_ : List Byte) (fine : Byte) (s : State), fine.toNat ≤ 1 ∧ (s.secRun c.dev).stamps.length < 8) ∧
    (∃ (d : Dev) (c : CmdCtx) (body : List Byte) (rest : List (CmdCtx × List Byte)) (s : State), (s.secRun d).stamps = (c, body)
      :: rest) ∧
    (∃ (c : CmdCtx) (target : Byte) (key : Nat) (s : State), (s.session c.dev c.session).map (·.keyIndex) = some key ∧ lcRow
      (s.sec c.dev) key target.toNat = some (true, true) ∧ (s.sec c.dev).target = none ∧ s.lcBusy c.dev = false ∧ (s.sec
      c.dev).used < 31) ∧
    (∃ (c : CmdCtx) (token : List Byte) (s : State), token.length = 136 ∧ (s.sec c.dev).lc = 3 ∧ (s.session c.dev c.session).map
      (·.keyIndex) = some 0) ∧
    (∃ (_ : CmdCtx) (_ : BitVec 16) (key : List Byte) (_ : State), key.length = 32 ∧ key.all (fun b => b == 0) = false) :=
  ⟨⟨(cmd .lotik), 3, State.reset, by decide⟩,
   ⟨(cmd .lotik), (List.replicate 12 0 ++ [4] ++ List.replicate 499 0), State.reset.setSec .lotik
     { idKey := [4] ++ List.replicate 96 0 }, by decide⟩,
   ⟨(cmd .lotik), [], 1, State.reset, by decide⟩,
   ⟨.lotik, (cmd .lotik), [], [], State.reset.setSecRun .lotik { stamps := [(cmd .lotik, [])] }, by decide⟩,
   ⟨(cmd .lotik), 2, 1, (session 1 State.reset).setSec .lotik { lc := 1, slots := [(1, (0, [1]))] }, by decide⟩,
   ⟨(cmd .lotik), (List.replicate 136 0), (session 0 State.reset).setSec .lotik { lc := 3 }, by decide⟩,
   ⟨(cmd .lotik), 0, (1 :: List.replicate 31 0), State.reset, by decide⟩⟩

theorem witness_FirmwareCommandsComplete :
    (∃ (c : CmdCtx) (_ len _ : Word) (s : State), 320 ≤ len.toNat ∧ len.toNat ≤ bankBytes c.dev ∧ (s.sec c.dev).staging.state = 0) ∧
    (∃ (d : Dev) (s : State), (s.sec d).staging.state = 1) ∧
    (∃ (c : CmdCtx) (id : Word) (part : BitVec 16) (data : List Byte) (s : State), c.dev = .lotik ∧ 2 ≤ (s.sec
      .lotik).staging.state ∧ (s.sec .lotik).staging.xfer = id.toNat ∧ part.toNat < partCount (s.sec .lotik).staging.len ∧
      data.length = partLen (s.sec .lotik).staging.len part.toNat ∧ (s.sec .lotik).staging.parts.any (fun e => e.1 == part.toNat)
      = false) ∧
    (∃ (c : CmdCtx) (id p : Nat) (data : List Byte) (rest : List (CmdCtx × Nat × Nat × List Byte)) (s : State), (s.secRun
      .verard).writes = (c, id, p, data) :: rest) ∧
    (∃ (c : CmdCtx) (id : Word) (s : State), 2 ≤ (s.sec c.dev).staging.state ∧ (s.sec c.dev).staging.xfer = id.toNat) ∧
    (∃ (s : State), s.reaches 1 0xA2000) ∧
    (∃ (s : State), s.reaches 1 0xA2000) ∧
    (∃ (_ : Bool) (s : State), s.getB R.VD_PROF_CTRL_BUSY = true) :=
  ⟨⟨(cmd .lotik), 0, 320, 0, State.reset, by decide⟩,
   ⟨.lotik, State.reset.setSec .lotik { bank1 := { state := 1 } }, by decide⟩,
   ⟨(cmd .lotik), 5, 0, (List.replicate 320 0), State.reset.setSec .lotik { bank1 := { state := 2, xfer := 5, len := 320 } }, by
     decide⟩,
   ⟨(cmd .verard), 0, 0, [], [], State.reset.setSecRun .verard { writes := [(cmd .verard, 0, 0, [])] }, by decide⟩,
   ⟨(cmd .lotik), 5, State.reset.setSec .lotik { bank1 := { state := 2, xfer := 5, len := 320 } }, by decide⟩,
   ⟨vup, by unfold State.reaches; decide⟩,
   ⟨vup, by unfold State.reaches; decide⟩,
   ⟨true, regs [(R.VD_PROF_CTRL_BUSY, 1)], by decide⟩⟩

theorem witness_PacketPathComplete :
    (∃ (path : Path) (f : Fragment) (s : State), s.pathUp path = true ∧ s.serves (pathDev path) = true ∧ fragOk f = true ∧
      let u := if pathDev path = .lotik then s.wakeAll else s; (u.cmd (pathDev path)).waiting.any (fun x => x.1 == path) = false ∧
      (f.index ≠ 0 ∨ u.fragRoom (pathDev path) path f = true)) ∧
    (∃ (path : Path) (f : Fragment) (s : State), s.pathUp path = true ∧ s.serves (pathDev path) = true ∧ fragOk f = true ∧
      (let u := if pathDev path = .lotik then s.wakeAll else s; (u.cmd (pathDev path)).waiting.any (fun x => x.1 == path) = true ∨
      f.index = 0 ∧ u.fragRoom (pathDev path) path f = false)) ∧
    (∃ (path : Path) (_ : Fragment) (s : State), s.pathUp path = true ∧ s.serves (pathDev path) = true) ∧
    (∃ (d : Dev) (_ : Option (List Byte)) (x : PktIn) (s : State), nextPacket (s.cmd d).inbox = some x ∧ s.controls d x.path =
      true) ∧
    (∃ (s : State), s.reaches 0 0x7000) ∧
    (∃ (_ : BitVec 10) (_ : List (List Byte)) (s : State), s.reaches 1 0x9000C) ∧
    (∃ (_ : BitVec 10) (s : State), s.reaches 1 0x90024) :=
  ⟨⟨(.port .tlink), { origin := 0, pktId := 0, index := 0, total := 1, part := List.replicate 108 0 }, linked State.reset, by
     decide⟩,
   ⟨(.port .tlink), { origin := 0, pktId := 0, index := 0, total := 1, part := List.replicate 108 0 }, (linked State.reset).setCmd
     .lotik { waiting := [(.port .tlink, { origin := 0, pktId := 0, index := 0, total := 1, part := List.replicate 108 0 })] }, by
     decide⟩,
   ⟨(.ring .w), { origin := 0, pktId := 0, index := 0, total := 1, part := List.replicate 108 0 }, linked State.reset, by decide⟩,
   ⟨.lotik, none, { path := .ring .e, bytes := [], at_ := 0 }, State.reset.setCmd .lotik
     { inbox := [{ path := .ring .e, bytes := [], at_ := 0 }] }, by decide⟩,
   ⟨State.reset, by unfold State.reaches; decide⟩,
   ⟨0, [], vup, by unfold State.reaches; decide⟩,
   ⟨0, vup, by unfold State.reaches; decide⟩⟩

theorem witness_SessionsAndBasicCommandsComplete :
    (∃ (_ : CmdCtx) (fine : Byte) (_ : State), fine.toNat ≤ 1) ∧
    (∃ (c : CmdCtx) (loc : Bool) (_ pay : List Byte) (s : State), pay.length = 229 ∧ s.openAllows c.dev loc (pay.headD 0).toNat =
      true ∧ (pay.headD 0).toNat ≠ 0xFF ∧ (s.sec c.dev).sessionKey (pay.headD 0).toNat ≠ [] ∧ ((s.cmd c.dev).sessions.filter (fun
      y => !y.group)).length < sessionCap c.dev) ∧
    (∃ (c : CmdCtx) (gid : BitVec 24) (gen : BitVec 16) (id : Word) (_ : List Byte) (salt : Word) (x : Session) (s : State), c.dev
      = .lotik ∧ id.getLsbD 31 = true ∧ salt.toNat / 2 ^ 20 ≠ 0xFFF ∧ gid.toNat < 2 ^ 18 ∧ s.session .lotik c.session = some x ∧
      x.group = false ∧ s.lk.queues.any (fun q => q.2.enable && q.2.gid == gid.toNat && q.2.gen == gen.toNat) = true ∧ (((s.cmd
      .lotik).sessions.filter (fun x => x.id != id)).filter (fun x => x.group)).length < 8) ∧
    (∃ (c : CmdCtx) (off : Word) (count : BitVec 16) (_ : State), 1 ≤ count.toNat ∧ count.toNat ≤ 1000 ∧ (dbgPlace c.dev
      off.toNat).2 % 4 = 0 ∧ (List.range count.toNat).all (fun k => mapped (dbgPlace c.dev off.toNat).1 ((dbgPlace c.dev
      off.toNat).2 + 4 * k)) = true) ∧
    (∃ (c : CmdCtx) (off _ : Word) (_ : State), (dbgPlace c.dev off.toNat).2 % 4 = 0 ∧ mapped (dbgPlace c.dev off.toNat).1
      (dbgPlace c.dev off.toNat).2 = true) :=
  ⟨⟨(cmd .lotik), 1, State.reset, by decide⟩,
   ⟨(cmd .lotik), false, [], (List.replicate 229 1), State.reset.setSec .lotik { lc := 1, slots := [(1, (0, [1]))] }, by decide⟩,
   ⟨(cmd .lotik), 0x3FFFF, 0x3FFF, 0x80000000, [], 0, { id := 1, keyIndex := 1 }, (session 1 State.reset).setQueue 0
     { enable := true, gid := 0x3FFFF, gen := 0x3FFF }, by decide⟩,
   ⟨(cmd .lotik), 0x0, 1, State.reset, by decide⟩,
   ⟨(cmd .lotik), 0, 0, State.reset, by decide⟩⟩

theorem witness_DieEventsComplete :
    (∃ (i : Fin 2) (s : State), (s.run i.val).commitHeld.isSome = true ∧ (s.slot i.val).t0 ≤ s.now .lotik + usSub 20) ∧
    (∃ (r : Fin 64) (s : State), s.regState r = 2 ∧ (s.region r).lorStuck = false ∧ (s.region r).rejoinAt = none) ∧
    (∃ (r : Fin 64) (s : State), s.getB R.LK_DET_STAT_DETMODE = true ∧ (s.region r).slots < (s.region r).frame / slotCycles) ∧
    (∃ (r : Fin 64) (_ : Nat) (_ : Word) (_ : List (Fin 64 × BitVec 64)) (_ : List (Fin 64)) (s : State), r.val < s.nr ∧
      s.regState r ≠ 4 ∧ s.getB R.LK_PG_STAT_TRIPPED = false ∧ (s.edgeStage r).regState r ≠ 4) ∧
    (∃ (r : Fin 64) (_ : Fin 32) (s : State), r.val < s.nr) ∧
    (∃ (seq : Word) (e : LogEntry) (s : State), (s.log .lotik).entries.find? (fun x => x.seq == seq.toNat) = some e ∧ (s.log
      .lotik).open_ (s.now .lotik) e = false ∧ e.sent = true) :=
  ⟨⟨1, (State.reset.setRun 1 { commitHeld := some jobMsg }).setSlot 1 { t0 := usSub 20 }, by decide⟩,
   ⟨63, regs [(R.LK_CS_REGr_STAT_STATE 63, 2)], by decide⟩,
   ⟨63, (regs [(R.LK_DET_STAT_DETMODE, 1)]).setRegion 63 { frame := 65536 }, by decide⟩,
   ⟨63, 0, 0, [], [], State.reset, by decide⟩,
   ⟨63, 31, State.reset, by decide⟩,
   ⟨0, { kind := 0, sev := 1, sent := true }, tick 100000001 (State.reset.setLog .lotik
     { entries := [{ kind := 0, sev := 1, sent := true }], wr := 1 }), by decide⟩⟩

theorem witness_HallTimeFields :
    (∃ (s : State), s.lk.ring.again = false) ∧
    (∃ (_ : Bool) (_ i : Nat), i < 12) :=
  ⟨⟨State.reset, by decide⟩,
   ⟨true, 0, 11, by decide⟩⟩

theorem witness_InstantsUnpack :
    (∃ (now : Nat) (_ : Packed), 2 ^ 31 ≤ now / 65536) ∧
    (∃ (now : Nat) (_ : Packed), now / 65536 < 2 ^ 31) ∧
    (∃ (_ t : Nat), t / 65536 / 1000000000 < 2 ^ 48) :=
  ⟨⟨(2 ^ 47), 0, by decide⟩,
   ⟨0, 0, by decide⟩,
   ⟨0, 0, by decide⟩⟩

theorem witness_DiscardedAccesses :
    ∃ (bar : Fin 3) (off : BitVec 26) (size : BitVec 7) (s : State), s.busUp (spDev bar) = true ∧ (¬((size.toNat = 4 ∧ off.toNat %
      4 = 0) ∨ (bar = 2 ∧ size.toNat = 8 ∧ off.toNat % 8 = 0))) :=
  ⟨2, 4, 8, vup, by decide⟩

theorem witness_OneWaitPerContext :
    (∃ (s : State) (o : SyncOp), o.op = 5 ∧ o.ok = true ∧ (s.obj o.obj).enable = true ∧ s.lk.sync.waiters.any (fun w => w.ctx ==
      o.ctx) = false) ∧
    (∃ (s : State) (o : SyncOp), ((o.op = 4 ∨ o.op = 5)) ∧ (s.obj o.obj).enable = true ∧ s.lk.sync.waiters.any (fun w => w.ctx ==
      o.ctx) = true) ∧
    (∃ (s : State) (_ : SyncOp), (s.lk.sync.waiters.map (·.ctx)).Nodup) :=
  ⟨⟨{ State.reset with lk := { sync := { objs := [(0, { enable := true })] } } },
     { src := 0, op := 5, obj := 0, arg := 2147483647 }, by decide⟩,

     ⟨{ State.reset with lk := { sync := { objs := [(0, { enable := true })], waiters := [{ obj := 0, ctx := 0, core := 0, consume := false, cmp := 0, arg := 5 }] } } },
     { src := 0, op := 5, obj := 0, arg := 1 }, by decide⟩,

     ⟨{ State.reset with lk := { sync := { objs := [(0, { enable := true })], waiters := [{ obj := 0, ctx := 0, core := 0, consume := false, cmp := 0, arg := 5 }] } } },
     { src := 0, op := 4, obj := 0, arg := 1 }, by decide⟩⟩

theorem witness_LinkedRounds :
    (∃ (s : State) (o : SyncOp), o.op = 1 ∧ o.ok = true ∧ (s.obj o.obj).enable = true ∧ (s.obj o.obj).link = true ∧ (s.obj
      o.obj).reload ≠ 0 ∧ (s.obj o.obj).held = false ∧ (s.obj o.obj).v = o.arg ∧ (s.obj o.obj).linkPending = false) ∧
    (∃ (s : State) (o : SyncOp), o.op = 1 ∧ o.ok = true ∧ (s.obj o.obj).enable = true ∧ (s.obj o.obj).link = true ∧ (s.obj
      o.obj).reload ≠ 0 ∧ (s.obj o.obj).held = false ∧ (s.obj o.obj).linkPending = true ∧ o.arg ≤ (s.obj o.obj).v) ∧
    (∃ (s : State) (n : Nat), (s.obj n).linkPending = true ∧ (s.obj n).held = false) ∧
    (∃ (s : State) (n : Nat), (s.obj n).linkPending = true ∧ (s.obj n).held = true) :=
  ⟨⟨{ State.reset with lk := { sync := { objs := [(0, { enable := true, link := true, reload := 3, v := 2 })] } } },
     { src := 0, op := 1, obj := 0, arg := 2 }, by decide⟩,

     ⟨{ State.reset with lk := { sync := { objs := [(0, { enable := true, link := true, reload := 3, v := 2, linkPending := true })] } } },
     { src := 0, op := 1, obj := 0, arg := 2 }, by decide⟩,
   ⟨{ State.reset with lk := { sync := { objs := [(0, { linkPending := true })] } } }, 0, by decide⟩,
   ⟨{ State.reset with lk := { sync := { objs := [(0, { linkPending := true, held := true })] } } }, 0, by decide⟩⟩

theorem witness_ReductionIgnoresOrder :
    (∃ (op _ : Nat) (xs ys : List (Nat × Nat)), 1 ≤ op ∧ op ≤ 9 ∧ xs.Perm ys) ∧
    (∃ (op _ : Nat) (xs ys : List (Nat × Nat)), 1 ≤ op ∧ op ≤ 9 ∧ xs ≠ [] ∧ ys ≠ []) :=
  ⟨⟨9, 0, [(0, 0), (1, 1)], [(1, 1), (0, 0)], ⟨by decide, by decide, List.Perm.swap _ _ _⟩⟩,
   ⟨9, 0, [(0, 0)], [(1, 1)], by decide⟩⟩

theorem witness_DigestIgnoresOrder :
    (∃ (_ : DigTag) (_ : BitVec 64) (xs ys : List (BitVec 64 × BitVec 64)), xs.Perm ys) ∧
    (∃ (d : DigTag) (_ : Nat), d.count = 0) :=
  ⟨⟨{}, 0, [(0, 0), (1, 1)], [(1, 1), (0, 0)], List.Perm.swap _ _ _⟩,
   ⟨{}, 0, by decide⟩⟩

theorem witness_MailboxStates :
    ∃ (s : State) (_ _ : Nat), s.get R.LK_MBOX_STAT_STATE ≠ 1 :=
  ⟨regs [(R.LK_MBOX_STAT_STATE, 0)], 0, 0, by decide⟩

/-- A Lotik that is die 0 of the one member package of group 1, with a role. -/
def member (role : Nat) : State := linked (grouped sealed (regs [(R.LK_TOPO_ROLE, role)]))

theorem witness_MemberMessagesComplete :
    (∀ k ∈ [jkArm, jkCommit, jkConfirm, jkAbort, jkTeardown, jkDefer, jkPause, jkResume],
      (member 0).hears (.ring .e) (.job (jobMsg.as k)) ∧ ((member 0).heard (.ring .e) (.job (jobMsg.as k))).memberHears (jobMsg.as k)) ∧
    (member 0).hears (.ring .w) (.job (jobMsg.as jkRetire)) ∧
    ((member 0).heard (.ring .w) (.job (jobMsg.as jkRetire))).get R.LK_TOPO_ROLE = 0 ∧
    (∀ q ∈ [.port .tlink, .ring .e], ∀ k ∈ [jkArm, jkCommit, jkConfirm, jkAbort, jkTeardown, jkDefer, jkPause, jkResume, jkRetire],
      (member 1).hears q (.job (jobMsg.as k)) ∧ ((member 1).heard q (.job (jobMsg.as k))).get R.LK_TOPO_ROLE ≠ 0 ∧
      (((member 1).heard q (.job (jobMsg.as k))).group .lotik jobMsg.gid.toNat).gen = jobMsg.gen.toNat) := by
  unfold State.hears State.memberHears; decide +kernel

/-- A Verard that is the root of a job of group 1. -/
def root : State := linked ((grouped sealed State.reset).setJob .verard (jobRec 4 0))

theorem witness_RootMessagesComplete :
    (∀ k ∈ [jkArmAck, jkCommitAck, jkCheck, jkDrained, jkFault, jkDeferReq, jkPaused],
      root.hears (.port (.down 63)) (.job (jobMsg.as k)) ∧
      (root.heard (.port (.down 63)) (.job (jobMsg.as k))).rootHears (jobMsg.as k) (jobRec 4 0) ∧
      (member 1).hears (.ring .e) (.job (jobMsg.as k))) ∧
    (∀ p ∈ [.port (.down 63), .ring .e], root.pathUp p = true ∧ root.serves (pathDev p) = true) ∧ Wire.reserved ≠ Wire.good := by
  unfold State.hears State.rootHears; decide +kernel

theorem witness_GroupMessagesComplete :
    (∀ k ∈ [0x20, 0x21, 0x24],
       let m := grpMsg.as k
       root.hears (.port (.down 63)) (.grp m) ∧ (root.heard (.port (.down 63)) (.grp m)).gens .verard m = true ∧
       ((root.heard (.port (.down 63)) (.grp m)).group .verard m.gid.toNat).counts = true) ∧
    (∀ k ∈ [0x25, 0x26, 0x27, 0x29, 0x2A], root.hears (.port .upA) (.grp (grpMsg.as k))) ∧
    (let s := linked (grouped { sealed with role := 1 } State.reset)
     ∀ k ∈ [0x22, 0x23],
       let m := grpMsg.as k
       let u := s.heard (.port .upA) (.grp m)
       s.hears (.port .upA) (.grp m) ∧ u.gens .verard m = true ∧ (u.group .verard m.gid.toNat).counts = true ∧
       (u.group .verard m.gid.toNat).role ≠ 0) ∧
    (∀ k ∈ [0x20, 0x21, 0x22, 0x23, 0x24, 0x25, 0x26, 0x27, 0x29, 0x2A], (member 1).hears (.ring .e) (.grp (grpMsg.as k))) ∧
    (let m : GroupMsg := { grpMsg with body := .quiet 0 0 }
     m.body = .quiet 0 0 ∧ root.hears (.port (.down 63)) (.grp (m.as 0x2B)) ∧
     (root.absorbed (.port (.down 63)) (.grp (m.as 0x2B))).gens .verard m = true ∧
     ((linked State.reset).absorbed (.port (.down 63)) (.grp (m.as 0x2B))).group .verard m.gid.toNat = {} ∧
     (linked State.reset).hears (.port (.down 63)) (.grp (m.as 0x2B))) := by
  unfold State.hears; decide +kernel

/-- A state whose sync object 0 is in use with a value. -/
def object (v : Nat) (sat : Bool) : State := { State.reset with lk := { sync := { objs := [(0, { enable := true, sat := sat, v := v })] } } }

/-- A signal, arrival or other operation of the sync port at object 0. -/
def operation (op arg : Nat) : SyncOp := { src := 0, op := op, obj := 0, arg := arg }

theorem witness_StrictAndSaturatingObjects : ∀ sat : Bool,
    (let s := object 2147483647 sat
     let o := operation 0 1
     o.ok = true ∧ (s.obj o.obj).enable = true ∧ (s.obj o.obj).held = false ∧ (s.obj o.obj).sat = sat ∧ 2 ^ 31 - 1 < (s.obj o.obj).v + o.arg) ∧
    (let s := object 0 sat
     let o := operation 1 1
     o.ok = true ∧ (s.obj o.obj).enable = true ∧ (s.obj o.obj).held = false ∧ (s.obj o.obj).sat = sat ∧ (s.obj o.obj).v < o.arg) ∧
    (let s : State := { State.reset with lk := { sync := { objs := [(0, { enable := true, held := true })] } } }
     let o := operation 1 1
     o.ok = true ∧ (s.obj o.obj).enable = true ∧ (s.obj o.obj).held = true) := by
  decide

theorem witness_IntegerResults : ∃ ty : Nat, (ty = 7 ∨ ty = 8 ∨ ty = 9) ∧ ∀ op, op = 5 → (op = 5 ∨ op = 6 ∨ op = 7) :=
  ⟨9, .inr (.inr rfl), fun _ h => .inl h⟩

theorem witness_SimpleCommandFrames :
    (∃ t, exec (.marginLowSet 63) State.reset = .next t) ∧ (∃ t, exec .boostRearm State.reset = .next t) ∧
    ((State.reset.reaches 0 (0x2100 + 0x10 * 7 + 4 * 3)) ∧ ∃ t, exec (.progEntryWrite 7 3 0) State.reset = .next t) ∧
    (State.reset.lk.mail = [] ∧ (∃ t, exec .logicDomainSleep State.reset = .next t) ∧ (∃ t, exec .timingCoreSleep State.reset = .next t) ∧
      ∃ t, exec .fclkLoss State.reset = .next t) ∧
    (∃ t, exec (.activityEvent 63 31) State.reset = .next t) ∧
    (State.reset.lk.ring.again = false ∧ ∃ t, exec .springEdge State.reset = .next t) :=
  ⟨⟨_, rfl⟩, ⟨_, rfl⟩, ⟨by unfold State.reaches; decide, _, rfl⟩, ⟨rfl, ⟨_, rfl⟩, ⟨_, rfl⟩, _, rfl⟩, ⟨_, rfl⟩, rfl, _, rfl⟩

theorem witness_VerardStages : ∀ stage ∈ [0, 1, 2, 4], (regs [(R.VD_BOOT_STAGE, stage)]).vd.hot = false ∧
    (regs [(R.VD_BOOT_STAGE, stage)]).get R.VD_BOOT_STAGE = stage := by decide

theorem witness_VerardPorts :
    let s := (List.range 9).foldl (fun s e => s.put (R.VD_OE_CTRL_ENABLE e) 0) (regs [(R.VD_BOOT_STAGE, 3)])
    s.vd.hot = false ∧ s.get R.VD_BOOT_STAGE = 3 ∧ ∀ e < 9, s.getB (R.VD_OE_CTRL_ENABLE e) = false := by decide


theorem witness_CapsClipBins : State.reset.reaches 0 0x400C ∧ capBad (bits 0x00640064 0 16) (bits 0x00640064 16 16) = false := by
  unfold State.reaches; decide


theorem witness_MailboxReached :
    (∀ st ∈ [0, 1, 2, 3], (regs [(R.LK_MBOX_STAT_STATE, st)]).reaches 0 0x7000 ∧
      ((regs [(R.LK_MBOX_STAT_STATE, st)]).hostReq .lotik).get R.LK_MBOX_STAT_STATE = st) ∧
    (let u := (regs [(R.LK_MBOX_STAT_STATE, 1), (R.LK_MBOX_BUF_DATA 4, 0x1000)]).hostReq .lotik
     u.ingressOk .lotik u.mboxBytes = true) := by
  unfold State.reaches; decide

end Sys2Proof.Tests
end

/-! Settles the scope family (spec/00_scope.md R5 to R8): what every step keeps, the laws of a register field, and the bus accesses. -/

namespace Sys2Proof.Machine

open Sys2Proof

-- What every step keeps.

/-- No command faults or is refused, and what it answers grows from the state it found: one law of Sys2Proof/Laws for each command. -/
theorem exec_safe {b s : State} (i : Instr) (h : b.Grows s) : Safe b (exec i s) :=
  match i with
  | .registerWrite .. => execRegisterWrite_grows h
  | .registerReadClear .. => execRegisterReadClear_grows h
  | .badSizeAccess .. => execBadSizeAccess_grows h
  | .unmappedAccess .. => execUnmappedAccess_grows h
  | .lotikReset .. => execLotikReset_grows h
  | .hostReset => execHostReset_grows h
  | .verardReset .. => execVerardReset_grows h
  | .pcieReset => execPcieReset_grows h
  | .verardThermalHold .. => execVerardThermalHold_grows h
  | .springClockArrive => execSpringClockArrive_grows h
  | .fuseLoadDone .. => execFuseLoadDone_grows h
  | .thermalHoldRelease .. => execThermalHoldRelease_grows h
  | .bootBlockReadDone .. => execBootBlockReadDone_grows h
  | .profileSelectTimeout => execProfileSelectTimeout_grows h
  | .ringStageDone => execRingStageDone_grows h
  | .gridPllLocked => execGridPllLocked_grows h
  | .gridPllLockTimeout => execGridPllLockTimeout_grows h
  | .verardStageDone .. => execVerardStageDone_grows h
  | .logicDomainSleep => execLogicDomainSleep_grows h
  | .logicDomainWake => execLogicDomainWake_grows h
  | .fclkLoss => execFclkLoss_grows h
  | .timingCoreSleep => execTimingCoreSleep_grows h
  | .timingCoreWake => execTimingCoreWake_grows h
  | .timeLatch .. => execTimeLatch_grows h
  | .timeCaptureDone .. => execTimeCaptureDone_grows h
  | .tickSend .. => execTickSend_grows h
  | .tickBlockRx .. => execTickBlockRx_grows h
  | .timeFrameRx .. => execTimeFrameRx_grows h
  | .authFrameRx .. => execAuthFrameRx_grows h
  | .enumFrameRx .. => execEnumFrameRx_grows h
  | .enumAckRx .. => execEnumAckRx_grows h
  | .calFrameRx .. => execCalFrameRx_grows h
  | .healthFrameRx .. => execHealthFrameRx_grows h
  | .portEnableWrite .. => execPortEnableWrite_grows h
  | .portRetry .. => execPortRetry_grows h
  | .portCalNow .. => execPortCalNow_grows h
  | .detectLightValid .. => execDetectLightValid_grows h
  | .pinFaultDetect .. => execPinFaultDetect_grows h
  | .pinFaultClear .. => execPinFaultClear_grows h
  | .trainDone .. => execTrainDone_grows h
  | .trainTimeout .. => execTrainTimeout_grows h
  | .linkKeyAgreed .. => execLinkKeyAgreed_grows h
  | .linkKeyFail .. => execLinkKeyFail_grows h
  | .foldCalDone .. => execFoldCalDone_grows h
  | .tickTimeout .. => execTickTimeout_grows h
  | .portFaultRetry .. => execPortFaultRetry_grows h
  | .routineRecal .. => execRoutineRecal_grows h
  | .linkRekey .. => execLinkRekey_grows h
  | .linkKeyExpiry .. => execLinkKeyExpiry_grows h
  | .ringTimeSend => execRingTimeSend_grows h
  | .ringTimeRx .. => execRingTimeRx_grows h
  | .ringEchoSend .. => execRingEchoSend_grows h
  | .ringEchoRx .. => execRingEchoRx_grows h
  | .ringEnumStart => execRingEnumStart_grows h
  | .ringEnumSymbol .. => execRingEnumSymbol_grows h
  | .ringEnumTimeout => execRingEnumTimeout_grows h
  | .ringStatusRx .. => execRingStatusRx_grows h
  | .handoverRx .. => execHandoverRx_grows h
  | .handoverEffective => execHandoverEffective_grows h
  | .ringMasterSilent => execRingMasterSilent_grows h
  | .wake .. => execWake_grows h
  | .ringDataRx .. => execRingDataRx_grows h
  | .ringClockTimeout => execRingClockTimeout_grows h
  | .ringHopOpen .. => execRingHopOpen_grows h
  | .ringHopClose .. => execRingHopClose_grows h
  | .selectorUpdate => execSelectorUpdate_grows h
  | .inputQualified .. => execInputQualified_grows h
  | .wtrExpiry .. => execWtrExpiry_grows h
  | .ptpMessageRx .. => execPtpMessageRx_grows h
  | .ptpMessageTx .. => execPtpMessageTx_grows h
  | .announceTimeout .. => execAnnounceTimeout_grows h
  | .ppsEdge .. => execPpsEdge_grows h
  | .ppsEdgeTimeout => execPpsEdgeTimeout_grows h
  | .ref10mLoss => execRef10mLoss_grows h
  | .bearingRefresh => execBearingRefresh_grows h
  | .bearingResidualDone => execBearingResidualDone_grows h
  | .refPrioWrite .. => execRefPrioWrite_grows h
  | .refLockoutWrite .. => execRefLockoutWrite_grows h
  | .ocxoWarmChange .. => execOcxoWarmChange_grows h
  | .ocxoReadySet => execOcxoReadySet_grows h
  | .ocxoFail => execOcxoFail_grows h
  | .ocxoRecover => execOcxoRecover_grows h
  | .lockAchieved .. => execLockAchieved_grows h
  | .slewDone .. => execSlewDone_grows h
  | .holdoverUpdate .. => execHoldoverUpdate_grows h
  | .ppsOutPulse => execPpsOutPulse_grows h
  | .vdOutCtrlRealign => execVdOutCtrlRealign_grows h
  | .realignEffective => execRealignEffective_grows h
  | .ptpTsqKeyLookup .. => execPtpTsqKeyLookup_grows h
  | .ptpTsqPop .. => execPtpTsqPop_grows h
  | .refStatus .. => execRefStatus_grows h
  | .refPriority .. => execRefPriority_grows h
  | .refLockout .. => execRefLockout_grows h
  | .outRealign .. => execOutRealign_grows h
  | .ptpTsqLookup .. => execPtpTsqLookup_grows h
  | .measStart .. => execMeasStart_grows h
  | .measAbort .. => execMeasAbort_grows h
  | .measStartInstant .. => execMeasStartInstant_grows h
  | .measEdge .. => execMeasEdge_grows h
  | .measTimeout .. => execMeasTimeout_grows h
  | .measGateClose .. => execMeasGateClose_grows h
  | .measFitDone .. => execMeasFitDone_grows h
  | .measCalNow => execMeasCalNow_grows h
  | .measLaneCalDue .. => execMeasLaneCalDue_grows h
  | .measLaneCalDone .. => execMeasLaneCalDone_grows h
  | .measRun .. => execMeasRun_grows h
  | .trigInEdge .. => execTrigInEdge_grows h
  | .trigPop .. => execTrigPop_grows h
  | .trigOutArm .. => execTrigOutArm_grows h
  | .trigOutCancel .. => execTrigOutCancel_grows h
  | .trigOutEdge .. => execTrigOutEdge_grows h
  | .trigArm .. => execTrigArm_grows h
  | .stepDoneWrite => execStepDoneWrite_grows h
  | .hostAbortWrite => execHostAbortWrite_grows h
  | .progEntryWrite .. => execProgEntryWrite_grows h
  | .fetchBurstDone .. => execFetchBurstDone_grows h
  | .prefetchDone .. => execPrefetchDone_grows h
  | .prefetchTimeout .. => execPrefetchTimeout_grows h
  | .markTimed => execMarkTimed_grows h
  | .overrunTest => execOverrunTest_grows h
  | .markRaise => execMarkRaise_grows h
  | .waypointNop => execWaypointNop_grows h
  | .waypointFreq => execWaypointFreq_grows h
  | .waypointPowerHint => execWaypointPowerHint_grows h
  | .waypointOptical => execWaypointOptical_grows h
  | .waypointCapture => execWaypointCapture_grows h
  | .waypointSounding => execWaypointSounding_grows h
  | .waypointEnd => execWaypointEnd_grows h
  | .gateLimitExpiry => execGateLimitExpiry_grows h
  | .arm .. => execArm_grows h
  | .armAck .. => execArmAck_grows h
  | .commit .. => execCommit_grows h
  | .commitAck .. => execCommitAck_grows h
  | .confirm .. => execConfirm_grows h
  | .abortRx .. => execAbortRx_grows h
  | .teardown .. => execTeardown_grows h
  | .drained .. => execDrained_grows h
  | .retire .. => execRetire_grows h
  | .jobFault .. => execJobFault_grows h
  | .defer .. => execDefer_grows h
  | .deferReq .. => execDeferReq_grows h
  | .deferGatherTimer .. => execDeferGatherTimer_grows h
  | .pause .. => execPause_grows h
  | .paused .. => execPaused_grows h
  | .pauseReportTimeout .. => execPauseReportTimeout_grows h
  | .resume .. => execResume_grows h
  | .checkRx .. => execCheckRx_grows h
  | .ackAggregateTimer .. => execAckAggregateTimer_grows h
  | .commitDeadline .. => execCommitDeadline_grows h
  | .lastAbortTime .. => execLastAbortTime_grows h
  | .jobStartT0 => execJobStartT0_grows h
  | .startCheckTimeout .. => execStartCheckTimeout_grows h
  | .teardownInstant => execTeardownInstant_grows h
  | .drainComplete => execDrainComplete_grows h
  | .retireTimeout .. => execRetireTimeout_grows h
  | .jobArm .. => execJobArm_grows h
  | .jobCommit .. => execJobCommit_grows h
  | .jobAbort .. => execJobAbort_grows h
  | .jobTeardown .. => execJobTeardown_grows h
  | .jobStatus .. => execJobStatus_grows h
  | .stepRead .. => execStepRead_grows h
  | .stepLoRead => execStepLoRead_grows h
  | .syncSignal .. => execSyncSignal_grows h
  | .syncArrive .. => execSyncArrive_grows h
  | .syncReset .. => execSyncReset_grows h
  | .syncReadOp .. => execSyncReadOp_grows h
  | .syncWait .. => execSyncWait_grows h
  | .syncWaitConsume .. => execSyncWaitConsume_grows h
  | .syncCancel .. => execSyncCancel_grows h
  | .remoteSignal .. => execRemoteSignal_grows h
  | .feedBeat .. => execFeedBeat_grows h
  | .pendSlotStale => execPendSlotStale_grows h
  | .syncOpWrite .. => execSyncOpWrite_grows h
  | .syncCfgWrite .. => execSyncCfgWrite_grows h
  | .syncFlowResetWrite .. => execSyncFlowResetWrite_grows h
  | .syncSaveWrite .. => execSyncSaveWrite_grows h
  | .syncRestoreWrite .. => execSyncRestoreWrite_grows h
  | .syncSaveDone .. => execSyncSaveDone_grows h
  | .syncRestoreDone .. => execSyncRestoreDone_grows h
  | .syncDbgSelWrite .. => execSyncDbgSelWrite_grows h
  | .syncRead .. => execSyncRead_grows h
  | .syncOp .. => execSyncOp_grows h
  | .syncDebug .. => execSyncDebug_grows h
  | .syncSave .. => execSyncSave_grows h
  | .syncRestore .. => execSyncRestore_grows h
  | .syncFlowReset .. => execSyncFlowReset_grows h
  | .sqDoorbell .. => execSqDoorbell_grows h
  | .submissionFetched .. => execSubmissionFetched_grows h
  | .cqHeadWrite .. => execCqHeadWrite_grows h
  | .gqEnableWrite .. => execGqEnableWrite_grows h
  | .arriveRx .. => execArriveRx_grows h
  | .partialRx .. => execPartialRx_grows h
  | .completeRx .. => execCompleteRx_grows h
  | .resultRx .. => execResultRx_grows h
  | .faultRx .. => execFaultRx_grows h
  | .pathRx .. => execPathRx_grows h
  | .bind .. => execBind_grows h
  | .bindAck .. => execBindAck_grows h
  | .creditRx .. => execCreditRx_grows h
  | .renewRx .. => execRenewRx_grows h
  | .unbind .. => execUnbind_grows h
  | .quiet .. => execQuiet_grows h
  | .opLimitTimeout .. => execOpLimitTimeout_grows h
  | .sealTimeout .. => execSealTimeout_grows h
  | .renewTimeout .. => execRenewTimeout_grows h
  | .creditStall .. => execCreditStall_grows h
  | .groupCreate .. => execGroupCreate_grows h
  | .groupAdd .. => execGroupAdd_grows h
  | .groupSeal .. => execGroupSeal_grows h
  | .groupRenew .. => execGroupRenew_grows h
  | .groupDelete .. => execGroupDelete_grows h
  | .groupStatus .. => execGroupStatus_grows h
  | .gqBind .. => execGqBind_grows h
  | .gqUnbind .. => execGqUnbind_grows h
  | .gqStatus .. => execGqStatus_grows h
  | .groupBasin .. => execGroupBasin_grows h
  | .regionDroop .. => execRegionDroop_grows h
  | .regionStretchRecover .. => execRegionStretchRecover_grows h
  | .opSwitchPrepare => execOpSwitchPrepare_grows h
  | .opSwitchCheck .. => execOpSwitchCheck_grows h
  | .opSwitch => execOpSwitch_grows h
  | .opSwitchFinish => execOpSwitchFinish_grows h
  | .marginErrorEdge .. => execMarginErrorEdge_grows h
  | .marginLowSet .. => execMarginLowSet_grows h
  | .regionLor .. => execRegionLor_grows h
  | .gridPllLockLoss => execGridPllLockLoss_grows h
  | .regionRejoinTick .. => execRegionRejoinTick_grows h
  | .fenceCore .. => execFenceCore_grows h
  | .fenceRegion .. => execFenceRegion_grows h
  | .csRegionCapture .. => execCsRegionCapture_grows h
  | .csStatus .. => execCsStatus_grows h
  | .csLedger .. => execCsLedger_grows h
  | .csFence .. => execCsFence_grows h
  | .csOpt .. => execCsOpt_grows h
  | .activitySample .. => execActivitySample_grows h
  | .boostRearm => execBoostRearm_grows h
  | .pgCapWrite .. => execPgCapWrite_grows h
  | .pgLoCapture .. => execPgLoCapture_grows h
  | .pgRegionCapture .. => execPgRegionCapture_grows h
  | .thermalWarning .. => execThermalWarning_grows h
  | .twarnCeilStep => execTwarnCeilStep_grows h
  | .twarnClear => execTwarnClear_grows h
  | .thermalTrip .. => execThermalTrip_grows h
  | .pgStatus .. => execPgStatus_grows h
  | .pgCap .. => execPgCap_grows h
  | .pgEnergy .. => execPgEnergy_grows h
  | .pgRegions .. => execPgRegions_grows h
  | .pgModel .. => execPgModel_grows h
  | .alignRequest => execAlignRequest_grows h
  | .alignReadyCheck .. => execAlignReadyCheck_grows h
  | .digestBeat .. => execDigestBeat_grows h
  | .digReqGo .. => execDigReqGo_grows h
  | .digestRecordCapture .. => execDigestRecordCapture_grows h
  | .seedRequest .. => execSeedRequest_grows h
  | .seedGoWrite .. => execSeedGoWrite_grows h
  | .timePortRequest => execTimePortRequest_grows h
  | .detStatus .. => execDetStatus_grows h
  | .detDigest .. => execDetDigest_grows h
  | .detDigestCheck .. => execDetDigestCheck_grows h
  | .detSeed .. => execDetSeed_grows h
  | .jobPause .. => execJobPause_grows h
  | .jobResume .. => execJobResume_grows h
  | .jobSave .. => execJobSave_grows h
  | .jobLoad .. => execJobLoad_grows h
  | .oeEnableWrite .. => execOeEnableWrite_grows h
  | .laserQualified .. => execLaserQualified_grows h
  | .laserWaitTimeout .. => execLaserWaitTimeout_grows h
  | .opticalSearchDone .. => execOpticalSearchDone_grows h
  | .oeFaultRetry .. => execOeFaultRetry_grows h
  | .oeResearch .. => execOeResearch_grows h
  | .ringLockUpdate .. => execRingLockUpdate_grows h
  | .toneCheck .. => execToneCheck_grows h
  | .wrongLineRecovered .. => execWrongLineRecovered_grows h
  | .dropRingFreezeExpiry .. => execDropRingFreezeExpiry_grows h
  | .lineBiasAdjust .. => execLineBiasAdjust_grows h
  | .linePowerFall .. => execLinePowerFall_grows h
  | .spareWarm .. => execSpareWarm_grows h
  | .spareSwap .. => execSpareSwap_grows h
  | .swapConfirm .. => execSwapConfirm_grows h
  | .swapWaitTimeout .. => execSwapWaitTimeout_grows h
  | .lsStatusRx .. => execLsStatusRx_grows h
  | .ocsArmWrite .. => execOcsArmWrite_grows h
  | .ocsCancelWrite .. => execOcsCancelWrite_grows h
  | .ocsPulse .. => execOcsPulse_grows h
  | .ocsSwitchTimeout .. => execOcsSwitchTimeout_grows h
  | .optStatus .. => execOptStatus_grows h
  | .optLines .. => execOptLines_grows h
  | .optSwap .. => execOptSwap_grows h
  | .optResearch .. => execOptResearch_grows h
  | .ocsArm .. => execOcsArm_grows h
  | .ocsCancel .. => execOcsCancel_grows h
  | .soundNow .. => execSoundNow_grows h
  | .autoSounding => execAutoSounding_grows h
  | .soundingDone .. => execSoundingDone_grows h
  | .katStart => execKatStart_grows h
  | .katSignature .. => execKatSignature_grows h
  | .katTimeout => execKatTimeout_grows h
  | .soundingRecordRx => execSoundingRecordRx_grows h
  | .healthSilence .. => execHealthSilence_grows h
  | .healthRecoverTick .. => execHealthRecoverTick_grows h
  | .probationExpiry .. => execProbationExpiry_grows h
  | .expelRateWindow => execExpelRateWindow_grows h
  | .logRdWrite .. => execLogRdWrite_grows h
  | .logSpillDone .. => execLogSpillDone_grows h
  | .rateSummary .. => execRateSummary_grows h
  | .logSelWrite .. => execLogSelWrite_grows h
  | .hmSound .. => execHmSound_grows h
  | .hmStatus .. => execHmStatus_grows h
  | .hmMap .. => execHmMap_grows h
  | .logRead .. => execLogRead_grows h
  | .logAdvance .. => execLogAdvance_grows h
  | .hmSetState .. => execHmSetState_grows h
  | .hmScore .. => execHmScore_grows h
  | .hmSpares .. => execHmSpares_grows h
  | .hmExpel .. => execHmExpel_grows h
  | .hmHoldRelease .. => execHmHoldRelease_grows h
  | .bootStatus .. => execBootStatus_grows h
  | .profileSelect .. => execProfileSelect_grows h
  | .cmdFragment .. => execCmdFragment_grows h
  | .packetReassembled .. => execPacketReassembled_grows h
  | .reassemblyTimeout .. => execReassemblyTimeout_grows h
  | .routeRecordExpiry .. => execRouteRecordExpiry_grows h
  | .sessionIdleTimeout .. => execSessionIdleTimeout_grows h
  | .commandCompletion .. => execCommandCompletion_grows h
  | .mboxClaim => execMboxClaim_grows h
  | .mboxSend => execMboxSend_grows h
  | .mboxRelease => execMboxRelease_grows h
  | .cmdReqDoorbell .. => execCmdReqDoorbell_grows h
  | .cmdRspHeadWrite .. => execCmdRspHeadWrite_grows h
  | .nop .. => execNop_grows h
  | .info .. => execInfo_grows h
  | .timeRead .. => execTimeRead_grows h
  | .sessionOpen .. => execSessionOpen_grows h
  | .sessionClose .. => execSessionClose_grows h
  | .groupSession .. => execGroupSession_grows h
  | .dbgRead .. => execDbgRead_grows h
  | .dbgWrite .. => execDbgWrite_grows h
  | .idCert .. => execIdCert_grows h
  | .signStamp .. => execSignStamp_grows h
  | .stampSigned .. => execStampSigned_grows h
  | .lcStatus .. => execLcStatus_grows h
  | .lcTransition .. => execLcTransition_grows h
  | .keyBind .. => execKeyBind_grows h
  | .fwBegin .. => execFwBegin_grows h
  | .fwEraseDone .. => execFwEraseDone_grows h
  | .fwChunk .. => execFwChunk_grows h
  | .fwChunkProgrammed => execFwChunkProgrammed_grows h
  | .fwStatus .. => execFwStatus_grows h
  | .fwCancel .. => execFwCancel_grows h
  | .profileProgram => execProfileProgram_grows h
  | .profileReload => execProfileReload_grows h
  | .profileProgramDone .. => execProfileProgramDone_grows h
  | .hostResetRelease => execHostResetRelease_grows h
  | .commitHoldDeadline .. => execCommitHoldDeadline_grows h
  | .lorReferenceValid .. => execLorReferenceValid_grows h
  | .detSlotBoundary .. => execDetSlotBoundary_grows h
  | .regionClockEdge .. => execRegionClockEdge_grows h
  | .activityEvent .. => execActivityEvent_grows h
  | .springEdge => execSpringEdge_grows h
  | .logCoalesceEnd .. => execLogCoalesceEnd_grows h
  | .lightReturn p => execLightReturn_grows (_p := p) h

/-- A step answers a state that grows from the one it found, less the front command of its queue. -/
theorem step_safe (s : State) : Safe { s with pending := s.pending.tail } (step s) := by
  cases hq : s.pending with
  | nil =>
    have hstep : step s = .next s := by simp only [step, hq]
    exact hstep ▸ ⟨s, rfl, id, hq, List.suffix_refl _, Nat.le_refl _⟩
  | cons c cs =>
    have hstep : step s = exec c { s with pending := cs } := by simp only [step, hq]
    exact hstep ▸ exec_safe c State.Grows.rfl

/-- Settles O3: a step's answer grows from the state without its front command, and growing keeps each of the four. -/
theorem everyStepKeepsInvariant : Obligations.EveryStepKeepsInvariant := by
  intro s t hst
  obtain ⟨u, hsu, hgrows⟩ := step_safe s
  obtain rfl : u = t := Host.Outcome.next.inj (hsu.symm.trans hst)
  exact ⟨hgrows.wf, hgrows.pending, hgrows.out, hgrows.free⟩

-- Register fields.

/-- The store holds a field as its distance from the reset value; adding the reset value back gives what was written. -/
theorem State.get_put_same (s : State) (f : Field) (v : Nat) : (s.put f v).get f = v % 2 ^ f.width := by
  have hreset : f.reset % 2 ^ f.width < 2 ^ f.width := Nat.mod_lt _ (Nat.two_pow_pos _)
  calc (s.put f v).get f
      = ((v + (2 ^ f.width - f.reset % 2 ^ f.width)) % 2 ^ f.width + f.reset) % 2 ^ f.width := by
        simp only [State.get, State.put, smGet_smPut_same]
    _ = (v + (2 ^ f.width - f.reset % 2 ^ f.width) + f.reset % 2 ^ f.width) % 2 ^ f.width := by
        rw [Nat.mod_add_mod, Nat.add_mod_mod]
    _ = (v + 2 ^ f.width) % 2 ^ f.width := by rw [Nat.add_assoc, Nat.sub_add_cancel hreset.le]
    _ = v % 2 ^ f.width := Nat.add_mod_right _ _

theorem State.get_put_ne (s : State) (f g : Field) (v : Nat) (h : g.key ≠ f.key) : (s.put f v).get g = s.get g := by
  simp only [State.get, State.put, smGet_smPut_ne _ _ _ _ _ h]

theorem State.put_sameBeside (s : State) (f : Field) (v : Nat) : (s.put f v).sameBeside s :=
  ⟨rfl, rfl, rfl, rfl, rfl, rfl, rfl⟩

/-- Settles O6, by the read-after-write laws of the field store. -/
theorem fieldReadAfterWrite : Obligations.FieldReadAfterWrite :=
  ⟨fun s f v _ => s.get_put_same f v, fun s f g v h => s.get_put_ne f g v h, fun s f v => ⟨s.put_sameBeside f v, rfl⟩⟩

/-- With an empty store every field reads its reset value. -/
theorem State.get_of_reg_nil {s : State} (h : s.reg = []) (f : Field) : s.get f = f.reset % 2 ^ f.width := by
  simp [State.get, smGet, h]

/-- Settles O2: the tables, the queue and the outputs of the reset state are empty. -/
theorem resetIsCanonical : Obligations.ResetIsCanonical :=
  ⟨⟨rfl, rfl⟩, rfl, rfl, rfl, State.get_of_reg_nil rfl⟩

-- Bus accesses.

theorem finish_eq_next_ended (s : State) : finish s = .next s.ended := rfl

theorem exec_registerWrite_of_busUp {bar : Fin 3} {off : BitVec 26} {v : BusData} {s : State} (hup : s.busUp (spDev bar) = true) :
    exec (.registerWrite bar off v) s = .next ((s.hostReq (spDev bar)).busWrite bar off.toNat v).ended := by
  change execRegisterWrite bar off v s = _
  rw [execRegisterWrite, if_pos hup, finish_eq_next_ended]

theorem exec_registerReadClear_of_busUp {bar : Fin 3} {off : BitVec 26} {wide : Bool} {s : State} (hup : s.busUp (spDev bar) = true) :
    exec (.registerReadClear bar off wide) s =
      .next (((s.hostReq (spDev bar)).regRead bar off.toNat (if wide then 8 else 4)).1.emit
        (.bus (spDev bar) (BitVec.ofNat 64 ((s.hostReq (spDev bar)).regRead bar off.toNat (if wide then 8 else 4)).2))).ended := by
  change execRegisterReadClear bar off wide s = _
  rw [execRegisterReadClear, if_neg (by simp [hup]), finish_eq_next_ended]

theorem exec_badSizeAccess_of_busUp {bar : Fin 3} {off : BitVec 26} {write : Bool} {size : BitVec 7} {s : State}
    (hup : s.busUp (spDev bar) = true) (hsize : sizeOk bar off.toNat size.toNat = false) :
    exec (.badSizeAccess bar off write size) s =
      .next (((s.hostReq (spDev bar)).logAccess (spDev bar) (busOff bar off.toNat) write size.toNat).emitIf (!write) (.bus (spDev bar) 0)).ended := by
  change execBadSizeAccess bar off write size s = _
  rw [execBadSizeAccess, if_neg (by simp [hup, hsize]), finish_eq_next_ended]

theorem exec_unmappedAccess_of_busUp {bar : Fin 3} {off : BitVec 26} {write : Bool} {s : State} (hup : s.busUp (spDev bar) = true)
    (hsize : sizeOk bar off.toNat 4 = true) (hmap : mapped bar off.toNat = false) :
    exec (.unmappedAccess bar off write) s =
      .next (((s.hostReq (spDev bar)).logAccess (spDev bar) (busOff bar off.toNat) write 4).emitIf (!write) (.bus (spDev bar) 0)).ended := by
  change execUnmappedAccess bar off write s = _
  rw [execUnmappedAccess, if_neg (by simp [hup, hsize, hmap]), finish_eq_next_ended]

/-- Settles O7: on a bus that is up, each access takes its own branch and ends. -/
theorem busAccessesComplete : Obligations.BusAccessesComplete :=
  ⟨fun _ _ _ _ => exec_registerWrite_of_busUp, fun _ _ _ _ => exec_registerReadClear_of_busUp,
    fun _ _ _ _ _ => exec_badSizeAccess_of_busUp, fun _ _ _ _ => exec_unmappedAccess_of_busUp⟩

/-- R5: 32 bits at a multiple of 4 anywhere, 64 bits at a multiple of 8 on BAR2 only. -/
theorem sizeOk_iff (bar off size : Nat) :
    sizeOk bar off size = true ↔ (size = 4 ∧ off % 4 = 0) ∨ (bar = 2 ∧ size = 8 ∧ off % 8 = 0) := by
  simp only [sizeOk, Bool.and_eq_true, Bool.or_eq_true, beq_iff_eq, or_and_right, and_assoc]
  exact or_congr (and_congr_right fun h => by rw [h]) (and_congr_right fun _ => and_congr_right fun h => by rw [h])

/-- R338: an ACCESS_ERROR entry holds the offset in four bytes, then the size with the write bit lowest. -/
theorem logAccess_write (s : State) (d : Dev) (off size : Nat) :
    s.logAccess d off true size = s.report d
      { kind := 0x0F01, sev := 3, ua := s.ua d, step := s.stepCount d, arg := leBytes 4 off ++ [BitVec.ofNat 8 (1 + 2 * size)] } := rfl

theorem logAccess_read (s : State) (d : Dev) (off size : Nat) :
    s.logAccess d off false size = s.report d
      { kind := 0x0F01, sev := 3, ua := s.ua d, step := s.stepCount d, arg := leBytes 4 off ++ [BitVec.ofNat 8 (2 * size)] } := by
  simp [State.logAccess, State.logKind, b2n]

/-- Settles O51: a size or offset outside R5's two kinds fails `sizeOk`, so the access is discarded with the entry of R338. -/
theorem discardedAccesses : Obligations.DiscardedAccesses := by
  refine ⟨sizeOk_iff, fun bar off size s hup hbad => ?_⟩
  have hsize : sizeOk bar off.toNat size.toNat = false := by
    rw [← Bool.not_eq_true, sizeOk_iff]
    simpa [Fin.ext_iff] using hbad
  constructor
  · rw [exec_badSizeAccess_of_busUp hup hsize, logAccess_write]
    rfl
  · rw [exec_badSizeAccess_of_busUp hup hsize, logAccess_read]
    rfl

end Sys2Proof.Machine

/-! Settles the family of hall time (spec/02_hall_time.md R30 to R48): the accumulator's edge, the packed instant, and the commands. -/

namespace Sys2Proof.Machine

open Sys2Proof

-- The accumulator (R37, R38).

/-- TICKS and PHASE as the one number they form, in 2⁻⁴⁸ of a tick (R37). -/
def Clock.acc (c : Clock) : Nat := c.ticks.toNat * 2 ^ 48 + c.phase.toNat

/-- What the next edge adds (R37, R38): INC, or in a slew the rate bent towards the offset as far as its limits let it. -/
def Clock.edgeInc (c : Clock) : Nat := if c.slew = 0 then c.inc.toNat else clampSlew c.rate.toNat (c.rate.toNat - c.slew)

/-- The carry out of PHASE goes to TICKS, and the whole wraps at its 112 bits. -/
theorem Clock.addInc_acc (c : Clock) : c.addInc.acc = (c.acc + c.inc.toNat) % 2 ^ 112 := by
  simp only [Clock.acc, Clock.addInc, BitVec.toNat_add, BitVec.toNat_ofNat]
  omega

theorem clampInc_lt (v : Int) : clampInc v < 2 ^ 49 := by
  simp only [clampInc, clampInt, incOne]
  omega

/-- An INC inside its limits fits the 49 bits that hold it. -/
theorem clampSlew_lt (rate : Nat) (v : Int) : clampSlew rate v < 2 ^ 49 := clampInc_lt _

theorem Clock.edgeInc_lt (c : Clock) : c.edgeInc < 2 ^ 49 := by
  unfold Clock.edgeInc
  split
  · exact c.inc.isLt
  · exact clampSlew_lt ..

/-- A slew decides only what an edge adds: TICKS and PHASE move as with that for INC. -/
theorem Clock.edge_acc_eq_addInc_acc (c : Clock) : c.edge.acc = ({ c with inc := BitVec.ofNat 49 c.edgeInc } : Clock).addInc.acc := by
  unfold Clock.edge Clock.edgeInc
  split
  · rw [BitVec.ofNat_toNat, BitVec.setWidth_eq]
  · exact (apply_ite Clock.acc ..).trans (ite_self _)

theorem Clock.edge_acc (c : Clock) : c.edge.acc = (c.acc + c.edgeInc) % 2 ^ 112 := by
  rw [Clock.edge_acc_eq_addInc_acc, Clock.addInc_acc, BitVec.toNat_ofNat, Nat.mod_eq_of_lt c.edgeInc_lt]
  rfl

theorem Clock.now_eq (c : Clock) : c.now = c.ticks.toNat * 10 * 65536 + (c.phase.toNat * 10 * 65536) / 2 ^ 48 := by
  simp only [Clock.now, tickSub, Nat.mul_assoc, Nat.reduceMul]

/-- The greatest hall time an accumulator shows is far below 2⁴⁸ s: SEC never wraps. -/
theorem Clock.now_sec_lt (c : Clock) : c.now / 65536 / 1000000000 < 2 ^ 48 := by
  have hticks := c.ticks.isLt
  have hphase := c.phase.isLt
  simp only [Clock.now, tickSub]
  omega

-- What a Spring edge leaves of the clocks.

theorem State.clk_congr {s t : State} (hlotik : t.lkPart = s.lkPart) (hverard : t.vdPart = s.vdPart) (d : Dev) :
    t.clk d = s.clk d := by
  cases d
  · exact congrArg Part.clk hlotik
  · exact congrArg Part.clk hverard

@[simp] theorem State.emit_clk (s : State) (o : Out) (d : Dev) : (s.emit o).clk d = s.clk d := State.clk_congr rfl rfl d
@[simp] theorem State.emits_clk (s : State) (os : List Out) (d : Dev) : (s.emits os).clk d = s.clk d := State.clk_congr rfl rfl d
@[simp] theorem State.setPort_clk (s : State) (p : PortId) (t : TPort) (d : Dev) : (s.setPort p t).clk d = s.clk d :=
  State.clk_congr rfl rfl d
@[simp] theorem State.setOe_clk (s : State) (e : Nat) (x : Oe) (d : Dev) : (s.setOe e x).clk d = s.clk d :=
  State.clk_congr rfl rfl d
@[simp] theorem State.setSync_clk (s : State) (x : Sync) (d : Dev) : (s.setSync x).clk d = s.clk d := State.clk_congr rfl rfl d

/-- What Lotik alone keeps holds no clock. -/
theorem State.withLk_clk (s : State) (l : LotikSt) (d : Dev) : ({ s with lk := l } : State).clk d = s.clk d := State.clk_congr rfl rfl d

theorem State.setClk_lotik_clk_verard (s : State) (c : Clock) : (s.setClk .lotik c).clk .verard = s.clk .verard := rfl
theorem State.setClk_verard_clk_lotik (s : State) (c : Clock) : (s.setClk .verard c).clk .lotik = s.clk .lotik := rfl

/-- A fold of changes that each leave the clocks alone leaves them alone. -/
theorem foldl_clk {α : Type} {f : State → α → State} {d : Dev} (hf : ∀ s x, (f s x).clk d = s.clk d) (l : List α) (s : State) :
    (l.foldl f s).clk d = s.clk d := by
  induction l generalizing s with
  | nil => rfl
  | cons x l ih => exact (ih _).trans (hf s x)

theorem State.doIf_clk {s : State} {b : Bool} {f : State → State} {d : Dev} (hf : (f s).clk d = s.clk d) :
    (s.doIf b f).clk d = s.clk d := by
  cases b
  · rfl
  · exact hf

@[simp] theorem State.putFrame_clk (s : State) (o : Out) (d : Dev) : (s.putFrame o).clk d = s.clk d := by
  unfold State.putFrame
  split <;> simp

@[simp] theorem State.releaseGaps_clk (s : State) (d : Dev) : s.releaseGaps.clk d = s.clk d := by
  refine foldl_clk (fun s e => ?_) s.vd.oe s
  split
  · rfl
  · split
    · rfl
    · exact (foldl_clk (fun s o => s.putFrame_clk o d) _ _).trans (by simp)

/-- The state that notes the instant is made opaque at once: the kernel would otherwise compute that instant at each projection. -/
@[simp] theorem State.logicWork_clk (s : State) (d : Dev) : s.logicWork.clk d = s.clk d := by
  unfold State.logicWork
  extract_lets _ t
  have ht : t.clk d = s.clk d := s.withLk_clk _ d
  clear_value t
  split
  · exact (State.emit_clk ..).trans ((t.withLk_clk _ d).trans ht)
  · exact ht

@[simp] theorem State.deliverWakes_clk (s : State) (d : Dev) : s.deliverWakes.clk d = s.clk d := by
  dsimp only [State.deliverWakes]
  split
  · rfl
  · rw [State.emits_clk, State.setSync_clk, State.doIf_clk (s.logicWork_clk d)]

theorem State.edgeVerard_clk_lotik (s : State) : s.edgeVerard.clk .lotik = s.clk .lotik := by
  unfold State.edgeVerard
  split
  · rfl
  · exact s.setClk_verard_clk_lotik _

theorem State.edgeVerard_clk_verard (s : State) :
    s.edgeVerard.clk .verard = if s.vd.hot then s.clk .verard else (s.clk .verard).edge := by
  unfold State.edgeVerard
  split
  · rfl
  · exact s.setClk_same .verard _

theorem exec_springEdge (s : State) : exec .springEdge s =
    .next ((((s.setClk .lotik (s.clk .lotik).edge).edgeVerard).deliverWakes.releaseGaps).doIf s.lk.ring.again State.retimeLotik) := rfl

/-- With no change of the ring's master held back, an edge moves Lotik's clock, and Verard's unless Verard is held in reset. -/
theorem springEdge_clks {s : State} (hagain : s.lk.ring.again = false) :
    ∃ t, exec .springEdge s = .next t ∧ t.clk .lotik = (s.clk .lotik).edge ∧
      t.clk .verard = if s.vd.hot then s.clk .verard else (s.clk .verard).edge := by
  refine ⟨_, exec_springEdge s, ?_, ?_⟩
  · simp [hagain, State.doIf, State.edgeVerard_clk_lotik]
  · simp [hagain, State.doIf, State.edgeVerard_clk_verard, State.setClk_lotik_clk_verard]

-- The packed instant (R30, R33, R34).

/-- Bits cut out of a word are the bits its number has there. -/
theorem toNat_extractLsb'_eq_bits {n : Nat} (x : BitVec n) (lo w : Nat) : (x.extractLsb' lo w).toNat = bits x.toNat lo w := by
  rw [BitVec.extractLsb'_toNat, Nat.shiftRight_eq_div_pow, bits]

theorem packInstant_toNat (wrap : Bool) (t : Nat) :
    (packInstant wrap t).toNat = (if wrap then 0 else t / 65536 / 1000000000) % 2 ^ 48 * 2 ^ 48 +
      (if wrap then t / 65536 % 2 ^ 32 else t / 65536 % 1000000000) * 2 ^ 16 + t % 65536 := by
  rw [packInstant, BitVec.toNat_ofNat]
  apply Nat.mod_eq_of_lt
  split <;> omega

theorem packInstant_sec (wrap : Bool) (t : Nat) :
    ((packInstant wrap t).extractLsb' 48 48).toNat = (if wrap then 0 else t / 65536 / 1000000000) % 2 ^ 48 := by
  rw [toNat_extractLsb'_eq_bits, bits, packInstant_toNat]
  split <;> omega

theorem packInstant_ns (wrap : Bool) (t : Nat) :
    ((packInstant wrap t).extractLsb' 16 32).toNat = if wrap then t / 65536 % 2 ^ 32 else t / 65536 % 1000000000 := by
  rw [toNat_extractLsb'_eq_bits, bits, packInstant_toNat]
  split <;> omega

theorem packInstant_sub (wrap : Bool) (t : Nat) : ((packInstant wrap t).extractLsb' 0 16).toNat = t % 65536 := by
  rw [toNat_extractLsb'_eq_bits, bits, packInstant_toNat]
  omega

/-- R4: byte `i` of a little-endian number is its `i`-th digit to the base 256. -/
theorem leBytes_getElem? {n i : Nat} (v : Nat) (hi : i < n) : (leBytes n v)[i]? = some (BitVec.ofNat 8 (v / 256 ^ i)) := by
  induction n generalizing v i with
  | zero => contradiction
  | succ n ih =>
    cases i with
    | zero => simp [leBytes]
    | succ i =>
      rw [leBytes, List.getElem?_cons_succ, ih _ (by omega), Nat.div_div_eq_div_mul, Nat.pow_succ']

theorem packedBytes_getElem? {i : Nat} (wrap : Bool) (t : Nat) (hi : i < 12) :
    (packedBytes wrap t)[i]? = some ((packInstant wrap t).extractLsb' (8 * i) 8) := by
  rw [packedBytes, leBytes_getElem? _ hi]
  congr 1
  apply BitVec.eq_of_toNat_eq
  rw [toNat_extractLsb'_eq_bits, bits, BitVec.toNat_ofNat, Nat.pow_mul]

/-- Settles O49, by the accumulator's sum at an edge, the clocks a Spring edge leaves and the three fields of a packed instant. -/
theorem hallTimeFields : Obligations.HallTimeFields := by
  refine ⟨Clock.edge_acc, fun _ => springEdge_clks, rfl, Clock.now_eq, fun c => ?_, fun c => ?_, fun c => ?_, fun c => ?_,
    fun wrap c => packInstant_sub wrap c.now, fun wrap t i => packedBytes_getElem? wrap t⟩
  · have hsec := c.now_sec_lt
    rw [packInstant_sec, if_neg Bool.false_ne_true, Nat.mod_eq_of_lt hsec, Nat.div_div_eq_div_mul, Nat.mul_comm]
  · rw [packInstant_ns, if_neg Bool.false_ne_true]
    omega
  · apply BitVec.eq_of_toNat_eq
    rw [packInstant_sec, if_pos rfl]
    rfl
  · exact (packInstant_ns true c.now).trans (if_pos rfl)

-- The unpacked instant (R33, R36).

/-- R36: the total named by NS is NS modulo 2³², and lies from 2³¹ before the present to 2³¹ - 1 after it. -/
theorem nearestTotal_spec (nowNs : Nat) {v : Nat} (hv : v < 2 ^ 32) :
    nearestTotal nowNs v % 2 ^ 32 = v ∧ (nowNs : Int) ≤ nearestTotal nowNs v + 2 ^ 31 ∧ nearestTotal nowNs v < nowNs + 2 ^ 31 := by
  simp only [nearestTotal]
  split <;> omega

/-- Past half a wrap from the origin, no total of R36 lies before it. -/
theorem nearestWrap_spec {nowNs v : Nat} (hv : v < 2 ^ 32) (hnow : 2 ^ 31 ≤ nowNs) :
    nearestWrap nowNs v % 2 ^ 32 = v ∧ nowNs ≤ nearestWrap nowNs v + 2 ^ 31 ∧ nearestWrap nowNs v < nowNs + 2 ^ 31 := by
  obtain ⟨hmod, hlow, hhigh⟩ := nearestTotal_spec nowNs hv
  rw [nearestWrap]
  omega

/-- Within half a wrap of the origin, NS is the total itself, or names an instant before the origin, which is taken as the origin
(notes/assumptions/36). -/
theorem nearestWrap_near_origin {nowNs v : Nat} (hv : v < 2 ^ 32) (hnow : nowNs < 2 ^ 31) :
    nearestWrap nowNs v = if v < nowNs + 2 ^ 31 then v else 0 := by
  have hpast : (nowNs + 2 ^ 31) / 2 ^ 32 = 0 := by omega
  simp only [nearestWrap, nearestTotal, hpast, Nat.zero_mul, Nat.zero_add]
  split <;> omega

theorem unpackInstant_wrap (now : Nat) (p : Packed) :
    unpackInstant true now p = nearestWrap (now / 65536) (p.extractLsb' 16 32).toNat * 65536 + (p.extractLsb' 0 16).toNat := by
  rw [toNat_extractLsb'_eq_bits, toNat_extractLsb'_eq_bits, unpackInstant, if_pos rfl, bits, bits, Nat.pow_zero, Nat.div_one]
  rfl

theorem unpackInstant_wrap_ns (now : Nat) (p : Packed) :
    unpackInstant true now p / 65536 = nearestWrap (now / 65536) (p.extractLsb' 16 32).toNat := by
  have hsub := (p.extractLsb' 0 16).isLt
  rw [unpackInstant_wrap]
  omega

theorem unpackInstant_wrap_sub (now : Nat) (p : Packed) : unpackInstant true now p % 65536 = (p.extractLsb' 0 16).toNat := by
  have hsub := (p.extractLsb' 0 16).isLt
  rw [unpackInstant_wrap]
  omega

/-- An EPOCH instant whose seconds fit SEC is packed whole. -/
theorem unpackInstant_packInstant (now : Nat) {t : Nat} (hsec : t / 65536 / 1000000000 < 2 ^ 48) :
    unpackInstant false now (packInstant false t) = t := by
  simp only [unpackInstant, bits, packInstant_toNat, Bool.false_eq_true, if_false]
  omega

/-- Settles O50, by the total nearest to the present and by packing an instant of EPOCH whole. -/
theorem instantsUnpack : Obligations.InstantsUnpack := by
  refine ⟨fun now p hnow => ?_, fun now p hnow => ?_, fun now _ => unpackInstant_packInstant now⟩
  · obtain ⟨hmod, hlow, hhigh⟩ := nearestWrap_spec (p.extractLsb' 16 32).isLt hnow
    rw [unpackInstant_wrap_ns, unpackInstant_wrap_sub]
    exact ⟨hmod, rfl, hlow, hhigh⟩
  · rw [unpackInstant_wrap_ns, nearestWrap_near_origin (p.extractLsb' 16 32).isLt hnow]

-- The commands (R37 to R48, R93 to R95).

theorem spDev_sp (d : Dev) : spDev d.sp = d := by cases d <;> rfl

/-- An access that reaches its register does what the register's write does. -/
theorem State.viaBus_of_reaches {s : State} {sp off : Nat} (h : s.reaches sp off) (f : State → State) :
    s.viaBus sp off f = f (s.hostReq (spDev sp)) := by
  obtain ⟨hup, hopen, hlit⟩ := h
  simp [State.viaBus, hup, hopen, hlit]

/-- A request that a host port accepts is served. -/
theorem State.atPort_of_portTakes {s : State} (h : s.portTakes) (f : State → State) : s.atPort f = f (s.hostReq .lotik) := by
  obtain ⟨hup, hserves⟩ := h
  simp [State.atPort, hup, hserves]

theorem exec_timeLatch_of_reaches {d : Dev} {v : Word} {s : State} (h : s.reaches d.sp d.timeBase) :
    exec (.timeLatch d v) s = .next ((s.hostReq d).latch d v).ended := by
  change execTimeLatch d v s = _
  rw [execTimeLatch, State.viaBus_of_reaches h, spDev_sp, finish_eq_next_ended]

theorem exec_timeCaptureDone (d : Dev) (bins : BitVec 12) (s : State) :
    exec (.timeCaptureDone d bins) s = .next (s.capture d bins.toNat).ended := rfl

theorem exec_slewDone_of_slewing {d : Dev} {s : State} (hslewing : (s.clk d).slewing = true) (hslew : (s.clk d).slew = 0) :
    exec (.slewDone d) s = .next (((s.setClk d { s.clk d with slewing := false }).setOwn d 2).showEst d).ended := by
  change execSlewDone d s = _
  rw [execSlewDone, if_pos ⟨hslewing, hslew⟩, finish_eq_next_ended]

/-- In HOLDOVER_IN_SPEC the estimate is renewed, and above the specification the part goes out of it (R94, R95). -/
theorem exec_holdoverUpdate_of_inSpec {d : Dev} {s : State} (hown : (s.clk d).own = 3) :
    let est := estPs (s.clk d).holdE0 (s.clk d).holdF (s.clk d).holdA ((s.clk d).now - (s.clk d).holdAt)
    let u := s.setClk d { s.clk d with est := est }
    let v := (if u.specPs d < est then u.setOwn d 4 else u).showEst d
    exec (.holdoverUpdate d) s = .next (v.doIf (d == .lotik && v.isRingMaster) State.sendStatus).ended := by
  intro est u v
  change execHoldoverUpdate d s = _
  have hholds : (s.clk d).own = 3 ∨ (s.clk d).own = 4 := .inl hown
  have htells : ((s.clk d).own == 3 || (s.clk d).own == 4) = true := by simpa using hholds
  simp only [execHoldoverUpdate, if_pos hholds, and_iff_right hown, htells, Bool.and_true]
  rfl

/-- Outside DETMODE the time port answers hall time (R282, R299). -/
theorem exec_timePortRequest_of_hallTime {s : State} (htakes : s.portTakes)
    (hmode : (s.hostReq .lotik).getB R.LK_DET_STAT_DETMODE = false) :
    exec .timePortRequest s =
      .next (((s.hostReq .lotik).emit (.pin "TIME_RSP" (packInstant ((s.hostReq .lotik).wrap .lotik) ((s.hostReq .lotik).now .lotik)).toNat)).emit
        (.pin "STEP_DERIVED" 0)) := by
  change execTimePortRequest s = _
  rw [execTimePortRequest, State.atPort_of_portTakes htakes, hmode]

/-- Settles O10: each command takes the branch its state selects, and ends. -/
theorem hallTimeCommandsComplete : Obligations.HallTimeCommandsComplete :=
  ⟨exec_springEdge, fun _ _ _ => exec_timeLatch_of_reaches, exec_timeCaptureDone, fun _ _ => exec_slewDone_of_slewing,
    fun _ _ => exec_holdoverUpdate_of_inSpec, fun _ => exec_timePortRequest_of_hallTime⟩

end Sys2Proof.Machine

/-! Settles the family of links and rings (spec/03_links_and_rings.md R50 to R73, spec/17_security_and_update.md R400): the frames and the
state machine of a T-link port, its keys, and the package ring. -/

namespace Sys2Proof.Machine

open Sys2Proof

-- A command whose effect is guarded.

theorem finish_ite_pos {c : Prop} [Decidable c] {s t : State} (h : c) : finish (if c then s else t) = .next s.ended := by
  rw [if_pos h, finish_eq_next_ended]

theorem finish_ite_neg {c : Prop} [Decidable c] {s t : State} (h : ¬c) : finish (if c then s else t) = .next t.ended := by
  rw [if_neg h, finish_eq_next_ended]

-- What a T-link port sends and takes (R50 to R59, R62, R326).

theorem State.inService_iff {s : State} {p : PortId} : s.inService p = true ↔ s.get (R.PORT_STAT_STATE p) = 6 := beq_iff_eq

/-- R310: a TICK that names another port shows the ring on a wrong line, before the TICK is taken. -/
theorem exec_tickBlockRx_of_stray {p : PortId} {b : Block} {bins : BitVec 12} {s : State} (hserv : s.inService p = true)
    (htype : b.type = btTick) (hstray : s.strayUa p (tickOf b.content).senderUa.toNat = true) :
    exec (.tickBlockRx p b bins) s =
      .next ((s.wrongLine p true (s.strayTone p (tickOf b.content).senderUa.toNat)).tickRx p b.type b.content bins.toNat).ended := by
  change execTickBlockRx p b bins s = _
  rw [execTickBlockRx, if_pos ⟨hserv, htype, hstray⟩, finish_eq_next_ended]

theorem exec_tickBlockRx_of_not_stray {p : PortId} {b : Block} {bins : BitVec 12} {s : State}
    (h : s.inService p = false ∨ b.type ≠ btTick ∨ s.strayUa p (tickOf b.content).senderUa.toNat = false) :
    exec (.tickBlockRx p b bins) s = .next (s.tickRx p b.type b.content bins.toNat).ended := by
  have hnot : ¬(s.inService p = true ∧ b.type = btTick ∧ s.strayUa p (tickOf b.content).senderUa.toNat = true) := by
    rintro ⟨hserv, htype, hstray⟩
    simp [hserv, htype, hstray] at h
  change execTickBlockRx p b bins s = _
  rw [execTickBlockRx, if_neg hnot, finish_eq_next_ended]

theorem exec_enumAckRx_of_parent {p : PortId} {ua : Ua} {role : BitVec 2} {side : BitVec 1} {s : State}
    (hst : s.get (R.PORT_STAT_STATE p) = 5) (hparent : s.isChild p = false) :
    exec (.enumAckRx p ua role ⟨side, true⟩) s = .next (s.enumAcked p ua role side).ended :=
  finish_ite_neg (c := s.get (R.PORT_STAT_STATE p) ≠ 5 ∨ s.isChild p = true) (by simp [hst, hparent])

/-- R326, R341: a pod or COMBINED Verard takes a whole HEALTH frame from a downstream port. -/
theorem exec_healthFrameRx_down {n : Fin 64} {kind : Byte} {body : List Byte} {s : State} (hup : s.pathUp (.port (.down n)) = true)
    (hrole : s.vdRole ≠ 0) :
    exec (.healthFrameRx (.port (.down n)) kind ⟨body, true⟩) s = .next (s.takeHealth n.val kind body).ended := by
  change execHealthFrameRx (.port (.down n)) kind ⟨body, true⟩ s = _
  rw [execHealthFrameRx, if_neg (by simp [hup]), if_neg (by simp), finish_ite_neg hrole]

/-- R326: a head passes a whole HEALTH frame of its ring on by its T-link. -/
theorem exec_healthFrameRx_ring {r : RingPort} {kind : Byte} {body : List Byte} {s : State} (hup : s.pathUp (.ring r) = true)
    (hrole : s.wakeAll.get R.LK_TOPO_ROLE ≠ 0) (hserv : s.wakeAll.inService .tlink = true) :
    exec (.healthFrameRx (.ring r) kind ⟨body, true⟩) s =
      .next (s.wakeAll.transmit .lotik PortId.tlink.idx 4 (cellsFor (4 + body.length)) (.health (.port .tlink) kind body)).ended := by
  change execHealthFrameRx (.ring r) kind ⟨body, true⟩ s = _
  rw [execHealthFrameRx, if_neg (by simp [hup]), if_neg (by simp), finish_ite_pos ⟨hrole, hserv⟩]

theorem exec_healthFrameRx_of_bad {path : Path} {kind : Byte} {body : List Byte} {s : State} (hup : s.pathUp path = true) :
    exec (.healthFrameRx path kind ⟨body, false⟩) s = .next (s.frameDrop path).ended := by
  change execHealthFrameRx path kind ⟨body, false⟩ s = _
  exact congrArg finish ((if_neg (by simp [hup])).trans (if_pos rfl))

/-- Settles O11: where nothing but the CRC guards a frame, its effect is the definition's; the others take the branch their guard selects. -/
theorem linkFramesComplete : Obligations.LinkFramesComplete :=
  ⟨fun _ _ _ => rfl, fun _ _ _ _ => exec_tickBlockRx_of_stray, fun _ _ _ _ => exec_tickBlockRx_of_not_stray,
    fun _ _ _ _ => rfl, fun _ _ _ _ _ => rfl, fun _ _ _ => finish_ite_pos rfl, fun _ _ _ _ _ => exec_enumAckRx_of_parent,
    fun _ _ _ => finish_ite_neg Bool.false_ne_true, fun _ _ _ _ _ => finish_ite_neg Bool.false_ne_true,
    fun _ _ _ => finish_ite_neg Bool.false_ne_true,
    fun _ _ _ _ _ _ _ => ⟨finish_ite_neg Bool.false_ne_true, finish_ite_pos rfl, finish_ite_pos rfl⟩,
    fun _ _ _ _ => exec_healthFrameRx_down, fun _ _ _ _ => exec_healthFrameRx_ring, fun _ _ _ _ => exec_healthFrameRx_of_bad,
    fun _ _ _ _ => rfl⟩

-- The state machine of a port (R57, R60) and the faults of the pins (R70, R71).

theorem spDev_port_sp (p : PortId) : spDev p.sp = p.dev := by cases p <;> rfl

/-- A register write of a port that reaches its register does what the register's write does. -/
theorem finish_viaBus_port {p : PortId} {s : State} (h : s.reaches p.sp p.base) (f : State → State) :
    finish (s.viaBus p.sp p.base f) = .next (f (s.hostReq p.dev)).ended := by
  rw [State.viaBus_of_reaches h, spDev_port_sp, finish_eq_next_ended]

theorem exec_detectLightValid_of_lit {p : PortId} {s : State} (hst : s.get (R.PORT_STAT_STATE p) = 1) (hlit : s.portLit p = true)
    (hdue : (s.port p).since + msSub 1 ≤ s.now p.dev) :
    exec (.detectLightValid p) s = .next ((s.portGo p 2).emit (.train p (s.ownTrain p))).ended :=
  finish_ite_pos ⟨hst, hlit, hdue⟩

theorem exec_trainTimeout_of_due {p : PortId} {reversed : Bool} {s : State} (hst : s.get (R.PORT_STAT_STATE p) = 2)
    (hdue : (s.port p).since + msSub 20 ≤ s.now p.dev) :
    exec (.trainTimeout p reversed) s = .next (s.portFault p (if reversed then 7 else 8)).ended :=
  finish_ite_pos ⟨hst, hdue⟩

theorem exec_tickTimeout_of_due {p : PortId} {s : State} (hst : s.get (R.PORT_STAT_STATE p) = 6)
    (hdue : (s.port p).lastTick + nsSub 4096 ≤ s.now p.dev) :
    exec (.tickTimeout p) s = .next (s.portGo p 1).ended :=
  finish_ite_pos ⟨State.inService_iff.2 hst, hdue⟩

theorem exec_portFaultRetry_of_due {p : PortId} {s : State} (hst : s.get (R.PORT_STAT_STATE p) = 8)
    (hdue : (s.port p).since + msSub 100 ≤ s.now p.dev) :
    exec (.portFaultRetry p) s = .next (s.portGo p 1).ended :=
  finish_ite_pos ⟨hst, hdue⟩

theorem exec_routineRecal_of_due {p : PortId} {s : State} (hst : s.get (R.PORT_STAT_STATE p) = 6)
    (hdue : (s.port p).calAt + secSub 60 ≤ s.now p.dev) :
    exec (.routineRecal p) s = .next (s.foldStart p).ended :=
  finish_ite_pos ⟨State.inService_iff.2 hst, hdue⟩

/-- R60, R70: a code other than an open fibre's, new to a port that is not OFF, is only shown where it is corrected or the port is HELD,
and else stops the port. -/
theorem exec_pinFaultDetect_port {p : PortId} {code : BitVec 4} {s : State} (hlow : 2 ≤ code.toNat) (hhigh : code.toNat ≤ 10)
    (hon : s.get (R.PORT_STAT_STATE p) ≠ 0) (hnew : s.get (R.PORT_STAT_FAULT p) ≠ code.toNat) :
    exec (.pinFaultDetect (.port p) code) s =
      finish (if code.toNat = 5 ∨ s.get (R.PORT_STAT_STATE p) = 7 then
          (s.put (R.PORT_STAT_FAULT p) code.toNat).logChange p.dev 1 (R.PORT_STAT_STATE p)
        else s.portFault p code.toNat) := by
  have hcode : ¬(code.toNat = 0 ∨ 0xA < code.toNat) := by omega
  have hfibre : code.toNat ≠ 1 := by omega
  change execPinFaultDetect (.port p) code s = _
  rw [execPinFaultDetect, if_neg hcode]
  exact congrArg finish ((if_neg (not_or.2 ⟨hon, hnew⟩)).trans (if_neg hfibre))

/-- The codes that stop a port lie from 2 to 10, without the corrected polarity (R70). -/
theorem stoppingCode_bounds {code : BitVec 4} (h : code ∈ [2, 3, 4, 6, 7, 8, 9, 10]) :
    2 ≤ code.toNat ∧ code.toNat ≤ 10 ∧ code.toNat ≠ 5 := by
  revert code
  decide

theorem exec_pinFaultDetect_port_stops {p : PortId} {code : BitVec 4} {s : State} (hcode : code ∈ [2, 3, 4, 6, 7, 8, 9, 10])
    (hon : s.get (R.PORT_STAT_STATE p) ≠ 0) (hheld : s.get (R.PORT_STAT_STATE p) ≠ 7)
    (hnew : s.get (R.PORT_STAT_FAULT p) ≠ code.toNat) :
    exec (.pinFaultDetect (.port p) code) s = .next (s.portFault p code.toNat).ended := by
  obtain ⟨hlow, hhigh, hstops⟩ := stoppingCode_bounds hcode
  rw [exec_pinFaultDetect_port hlow hhigh hon hnew, finish_ite_neg (not_or.2 ⟨hstops, hheld⟩)]

theorem exec_pinFaultDetect_port_held {p : PortId} {code : BitVec 4} {s : State} (hlow : 2 ≤ code.toNat) (hhigh : code.toNat ≤ 10)
    (hheld : s.get (R.PORT_STAT_STATE p) = 7) (hnew : s.get (R.PORT_STAT_FAULT p) ≠ code.toNat) :
    exec (.pinFaultDetect (.port p) code) s =
      .next ((s.put (R.PORT_STAT_FAULT p) code.toNat).logChange p.dev 1 (R.PORT_STAT_STATE p)).ended := by
  rw [exec_pinFaultDetect_port hlow hhigh (by simp [hheld]) hnew, finish_ite_pos (.inr hheld)]

theorem exec_pinFaultDetect_trigIn {i : Fin 2} {code : BitVec 4} {s : State} (hlow : 1 ≤ code.toNat) (hhigh : code.toNat ≤ 10) :
    exec (.pinFaultDetect (.trigIn i) code) s =
      .next ((s.put (R.LK_TRIGi_STAT_FAULT i) code.toNat).logChange .lotik 3 (R.LK_TRIGi_STAT_FAULT i)).ended :=
  finish_ite_neg (by omega)

theorem exec_pinFaultClear_port {p : PortId} {s : State} (hfault : s.get (R.PORT_STAT_FAULT p) ≠ 0) :
    exec (.pinFaultClear (.port p)) s = .next ((s.put (R.PORT_STAT_FAULT p) 0).logChange p.dev 1 (R.PORT_STAT_STATE p)).ended :=
  finish_ite_neg hfault

/-- Settles O12: a write of a port's control reaches its register, and each other command takes the branch its state selects. -/
theorem portStateCommandsComplete : Obligations.PortStateCommandsComplete :=
  ⟨fun _ _ _ h => finish_viaBus_port h _, fun _ _ h => finish_viaBus_port h _, fun _ _ h => finish_viaBus_port h _,
    fun _ _ => exec_detectLightValid_of_lit, fun _ _ _ => rfl, fun _ _ _ => exec_trainTimeout_of_due,
    fun _ _ => exec_tickTimeout_of_due, fun _ _ => exec_portFaultRetry_of_due, fun _ _ => exec_routineRecal_of_due,
    fun _ _ _ => exec_pinFaultDetect_port_stops, fun _ _ _ => exec_pinFaultDetect_port_held,
    fun _ _ _ => exec_pinFaultDetect_trigIn, fun _ _ => exec_pinFaultClear_port, fun _ _ => rfl⟩

-- The link keys (R58, R400).

theorem exec_linkKeyAgreed_of_agreeing {p : PortId} {s : State} (htx : (s.port p).keyTx ≠ [])
    (hst : s.get (R.PORT_STAT_STATE p) = 3 ∨ s.get (R.PORT_STAT_STATE p) = 6) :
    exec (.linkKeyAgreed p) s = .next (match s.keyVerdict p with | none => s.keyTake p | some why => s.keyFailed p why).ended := by
  have hagrees : ¬((s.port p).keyTx = [] ∨ (s.get (R.PORT_STAT_STATE p) ≠ 3 ∧ s.get (R.PORT_STAT_STATE p) ≠ 6)) := by
    simp only [not_or, htx, not_false_eq_true, true_and]
    omega
  change execLinkKeyAgreed p s = _
  rw [execLinkKeyAgreed]
  refine (finish_ite_neg hagrees).trans ?_
  cases s.keyVerdict p <;> rfl

theorem exec_linkKeyFail_of_key {p : PortId} {reason : Fin 3} {s : State} (hst : s.get (R.PORT_STAT_STATE p) = 3) :
    exec (.linkKeyFail p reason) s = .next (s.keyFailed p reason).ended :=
  finish_ite_pos (.inl hst)

/-- R400: with no re-key failed, the parent's next is due 24 h after the last agreement. -/
theorem exec_linkRekey_of_due {p : PortId} {s : State} (hst : s.get (R.PORT_STAT_STATE p) = 6) (hparent : s.isChild p = false)
    (htx : (s.port p).keyTx = []) (hfail : (s.port p).rekeyFail = none) (hdue : (s.port p).keyAt + secSub 86400 ≤ s.now p.dev) :
    exec (.linkRekey p) s = .next (s.keySend p).ended :=
  finish_ite_pos ⟨State.inService_iff.2 hst, by simp [hparent], htx, by simp [hfail, hdue]⟩

theorem exec_linkKeyExpiry_of_old {p : PortId} {s : State} (hst : s.get (R.PORT_STAT_STATE p) = 6)
    (hold : (s.port p).keyAt + secSub 172800 < s.now p.dev) :
    exec (.linkKeyExpiry p) s = .next ((s.logKind p.dev 0x0D04 3 [BitVec.ofNat 8 p.idx, 3]).portHold p 3).ended :=
  finish_ite_pos ⟨State.inService_iff.2 hst, hold⟩

/-- Settles O13: each command's guard is met, and an agreement's verdict decides between the key and its failure. -/
theorem linkKeyCommandsComplete : Obligations.LinkKeyCommandsComplete :=
  ⟨fun _ _ => exec_linkKeyAgreed_of_agreeing, fun _ _ _ => exec_linkKeyFail_of_key, fun _ _ => exec_linkRekey_of_due,
    fun _ _ => exec_linkKeyExpiry_of_old⟩

-- Ring time, echoes and enumeration (R63 to R68).

theorem exec_ringTimeSend_of_source {s : State} (hsources : s.lk.ring.sources = true) (htick : (s.clk .lotik).ticks.toNat % 100 = 0) :
    exec .ringTimeSend s = .next (s.ringSend 0x3F
      (.time (BitVec.ofNat 40 (s.clk .lotik).ticks.toNat) (BitVec.ofNat 32 ((s.clk .lotik).phase.toNat / 2 ^ 16)) 0
        (BitVec.ofNat 3 (s.shownState .lotik)) (s.wrap .lotik))) :=
  congrArg Host.Outcome.next (if_pos ⟨hsources, htick⟩)

@[simp] theorem State.setHop_die (s : State) (r : RingPort) (h : Hop) : (s.setHop r h).lk.ring.die = s.lk.ring.die := by
  cases r <;> rfl

/-- R65: with the last request answered and fewer than three missed, a new one goes out. -/
theorem exec_ringEchoSend_of_answered {r : RingPort} {s : State} (hup : s.ringUp r = true) (hecho : (s.hop r).echoAt = none)
    (hmissed : (s.hop r).missed < 3) :
    exec (.ringEchoSend r) s =
      .next ((s.setHop r { s.hop r with echoSeq := (s.hop r).echoSeq + 1, echoAt := some (s.now .lotik) }).emit
        (ringOut r { ccw := r == .w, src := s.lk.ring.die, dst := 0x3F, body := .echo (s.hop r).echoSeq false })).ended := by
  have hfew : ¬3 ≤ (s.hop r).missed := by omega
  change execRingEchoSend r s = _
  rw [execRingEchoSend, if_neg (by simp [hup])]
  simp only [hecho, Option.isSome_none, Bool.false_eq_true, if_false, if_neg hfew, State.setHop_die, finish_eq_next_ended]

theorem exec_ringEchoRx_request {r : RingPort} {seq : BitVec 16} {trip : BitVec 24} {s : State} (hup : (s.ringGood r).ringUp r = true) :
    exec (.ringEchoRx r seq false trip true) s =
      .next ((s.ringGood r).emit
        (ringOut r { ccw := r == .w, src := (s.ringGood r).lk.ring.die, dst := 0x3F, body := .echo seq true })).ended := by
  change execRingEchoRx r seq false trip true s = _
  rw [execRingEchoRx, if_neg (by simp)]
  refine (finish_ite_pos rfl).trans ?_
  rw [State.emitIf, if_pos hup]

theorem exec_ringEnumStart_of_both {s : State} (hrole : s.get R.LK_TOPO_ROLE = 1) (hstarted : s.lk.ring.started = false)
    (hconflict : s.getB R.LK_TOPO_ROLE_CONFLICT = false) (he : s.ringUp .e = true) (hw : s.ringUp .w = true) :
    exec .ringEnumStart s = .next s.enumBegin :=
  congrArg Host.Outcome.next (if_pos ⟨hrole, by simp [hstarted], by simp [hconflict], .inl (by simp [he, hw])⟩)

/-- R68: without a role conflict, a good ENUM symbol ends its round at HEAD and goes on anywhere else. -/
theorem exec_ringEnumSymbol_of_good {r : RingPort} {token : BitVec 6} {down : Bool} {s : State}
    (hconflict : (s.ringGood r).getB R.LK_TOPO_ROLE_CONFLICT = false) :
    exec (.ringEnumSymbol r token down false true) s =
      finish (if (s.ringGood r).get R.LK_TOPO_ROLE = 1 then (s.ringGood r).enumBack token down else (s.ringGood r).enumTake r token down) := by
  change execRingEnumSymbol r token down false true s = _
  rw [execRingEnumSymbol, if_neg (by simp)]
  exact congrArg finish ((if_neg (by simp)).trans (if_neg (by simp [hconflict])))

theorem exec_ringEnumTimeout_of_due {s : State} (hrole : s.get R.LK_TOPO_ROLE ≠ 1) (hdie : s.lk.ring.dieValid = false)
    (hdue : s.lk.ring.startAt + msSub 10 ≤ s.now .lotik) :
    exec .ringEnumTimeout s = .next ((s.put R.LK_RING_STAT_ENUM 3).logChange .lotik 1 R.LK_RING_STAT_ENUM 4) :=
  congrArg Host.Outcome.next (if_pos ⟨hrole, by simp [hdie], hdue⟩)

theorem exec_ringClockTimeout_of_due {s : State} (hrole : s.get R.LK_TOPO_ROLE = 2) (htime : s.lk.ring.lastTime = none)
    (hsources : s.lk.ring.sources = false) (hdue : s.lk.ring.startAt + msSub 1 ≤ s.now .lotik) :
    exec .ringClockTimeout s = .next (s.setRing { s.lk.ring with sources := true }) :=
  congrArg Host.Outcome.next (if_pos ⟨hrole, htime, by simp [hsources], hdue⟩)

/-- Settles O14: each command takes the branch its state selects; a good time symbol is its effect by definition. -/
theorem ringTimeAndEnumComplete : Obligations.RingTimeAndEnumComplete :=
  ⟨fun _ => exec_ringTimeSend_of_source, fun _ _ _ _ _ _ _ _ => finish_ite_pos rfl, fun _ _ => exec_ringEchoSend_of_answered,
    fun _ _ _ _ => exec_ringEchoRx_request, fun _ => exec_ringEnumStart_of_both,
    fun _ _ _ _ hrole hconflict => (exec_ringEnumSymbol_of_good hconflict).trans (finish_ite_pos hrole),
    fun _ _ _ _ hrole hconflict => (exec_ringEnumSymbol_of_good hconflict).trans (finish_ite_neg hrole),
    fun _ => exec_ringEnumTimeout_of_due, fun _ => exec_ringClockTimeout_of_due⟩

-- Status, handover, WAKE, data and hops (R64 to R69, R73).

/-- R66: once its tick has come, a handover makes the die it names ring time master; every other die follows that one. -/
theorem exec_handoverEffective_of_due {t : Nat} {m : BitVec 5} {s : State} (hover : s.lk.ring.handover = some (t, m))
    (hdue : t ≤ (s.clk .lotik).ticks.toNat) :
    exec .handoverEffective s =
      finish (if m = s.lk.ring.die ∧ s.lk.ring.dieValid then s.masterHere else s.masterThere m) := by
  change execHandoverEffective s = _
  rw [execHandoverEffective, hover]
  exact congrArg finish (if_neg (Nat.not_lt.2 hdue))

/-- R66: the head that is not the silent master takes over at the next multiple of 100 ticks. -/
theorem exec_ringMasterSilent_of_heir {t : Nat} {s : State} (htime : s.lk.ring.lastTime = some t) (hdue : t + usSub 3 ≤ s.now .lotik)
    (hheir : s.get R.LK_TOPO_ROLE = 1 ∧ s.lk.ring.master ≠ 0 ∨ s.get R.LK_TOPO_ROLE = 2 ∧ s.lk.ring.master = 0)
    (hmaster : s.isRingMaster = false) (hover : s.lk.ring.handover = none) :
    exec .ringMasterSilent s =
      .next ((s.ringMode false).setRing { (s.ringMode false).lk.ring with
        handover := some ((((s.ringMode false).clk .lotik).ticks.toNat / 100 + 1) * 100, (s.ringMode false).lk.ring.die) }).ended := by
  have hacts : ¬(s.now .lotik < t + usSub 3 ∨ s.isRingMaster = true ∨ s.lk.ring.handover.isSome = true) := by
    simp [hmaster, hover, hdue]
  change execRingMasterSilent s = _
  rw [execRingMasterSilent, htime]
  refine (finish_ite_neg hacts).trans ?_
  rw [if_pos hheir]

/-- R67: a WAKE for every die is passed on and wakes this one, which answers with STATUS. -/
theorem exec_wake_all (r : RingPort) (src : BitVec 5) (reason : BitVec 4) (s : State) :
    exec (.wake r src 0x3F reason true) s =
      .next (let t := (s.ringGood r).ringPass r src 0x3F (.wake reason)
        if t.getB R.LK_PWR_LOGIC_AWAKE then t.wakeTc.sendStatus else t.wakeAll).ended := by
  change execWake r src 0x3F reason true s = _
  rw [execWake, finish_ite_neg (by simp)]
  simp only [beq_self_eq_true, Bool.true_or, true_or, if_true]

-- A symbol word that arrives (R64).

theorem exec_ringDataRx_of_bad {r : RingPort} {kind : BitVec 5} {ends : BitVec 11} {body : BitVec 96} {crc : BitVec 16} {s : State}
    (hbad : symbolOk (ringWord kind ends body crc) = false) :
    exec (.ringDataRx r kind ends body crc none) s =
      .next ((s.ringBad r).emit (.pin "RING_NAK" (match r with | .e => 0 | .w => 1))).ended := by
  refine (finish_ite_pos (by simp [hbad])).trans ?_
  cases r <;> rfl

/-- A whole word clears the count of bad ones; a part of a T-frame is then for this die or passed on. -/
theorem exec_ringDataRx_data {r : RingPort} {x : RingSymbol} {part : BitVec 96} {kind : BitVec 5} {ends : BitVec 11} {body : BitVec 96}
    {crc : BitVec 16} {s : State} (hok : symbolOk (ringWord kind ends body crc) = true)
    (hsym : symbolOf (ringWord kind ends body crc) = some x) (hdata : x.body = .data part) :
    exec (.ringDataRx r kind ends body crc none) s = .next ((s.ringGood r).ringDataIn r x).ended := by
  refine (finish_ite_neg (by simp [hok])).trans ?_
  simp only [hsym, hdata]

/-- A word of a reserved TYPE is discarded and counted. -/
theorem exec_ringDataRx_reserved {r : RingPort} {kind : BitVec 5} {ends : BitVec 11} {body : BitVec 96} {crc : BitVec 16} {s : State}
    (hok : symbolOk (ringWord kind ends body crc) = true) (hsym : symbolOf (ringWord kind ends body crc) = none) :
    exec (.ringDataRx r kind ends body crc none) s = .next ((s.ringGood r).bumpSat R.LK_RING_CNT_CRC_ERR).ended := by
  refine (finish_ite_neg (by simp [hok])).trans ?_
  simp only [hsym]

/-- R73, R76: a hop that comes up trains first, and is UP at the next such event. -/
theorem exec_ringHopClose_of_down {r : RingPort} {s : State} (hdown : s.ringUp r = false) :
    exec (.ringHopClose r) s = finish (if s.get (ringStateField r) = 1 then s.hopTrained r else s.hopTrain r) := by
  change execRingHopClose r s = _
  rw [execRingHopClose, if_neg (by simp [hdown])]

/-- Settles O15: each command takes the branch its state, or the symbol word, selects. -/
theorem ringStatusAndHopsComplete : Obligations.RingStatusAndHopsComplete :=
  ⟨fun _ _ _ _ _ _ _ _ _ _ _ _ _ _ => finish_ite_neg Bool.false_ne_true, fun _ _ _ _ _ => finish_ite_neg Bool.false_ne_true,
    fun _ _ hover hdie hdue => (exec_handoverEffective_of_due hover hdue).trans (finish_ite_pos ⟨rfl, hdie⟩),
    fun _ _ _ hover hother hdue => (exec_handoverEffective_of_due hover hdue).trans (finish_ite_neg fun hme => hother hme.1),
    fun _ _ => exec_ringMasterSilent_of_heir, exec_wake_all, fun _ _ _ _ _ _ _ _ => exec_ringDataRx_data,
    fun _ _ _ _ _ _ => exec_ringDataRx_reserved, fun _ _ _ _ _ _ => exec_ringDataRx_of_bad, fun _ _ _ _ _ _ _ => rfl,
    fun _ _ _ => rfl,
    fun _ _ hdown hst => (exec_ringHopClose_of_down hdown).trans (finish_ite_neg hst),
    fun _ _ hdown hst => (exec_ringHopClose_of_down hdown).trans (finish_ite_pos hst)⟩

end Sys2Proof.Machine

/-! Settles the family of references and holdover (spec/04_references_and_holdover.md R77 to R105): the reference inputs and their
selection, the oscillator, the lock and the output pulses, the PTP ports, and the requests about references. -/

namespace Sys2Proof.Machine

open Sys2Proof

-- A command that hands nothing over: it only sends the messages now due.

theorem done_eq_next_settle (s : State) : done s = .next s.settle := rfl

theorem done_ite_pos {c : Prop} [Decidable c] {s t : State} (h : c) : done (if c then s else t) = .next s.settle := by
  rw [if_pos h, done_eq_next_settle]

theorem done_ite_neg {c : Prop} [Decidable c] {s t : State} (h : ¬c) : done (if c then s else t) = .next t.settle := by
  rw [if_neg h, done_eq_next_settle]

/-- The guard of a command that does nothing unless a test is met. -/
theorem done_ite_not_pos {b : Bool} {s t : State} (h : b = true) : done (if !b then s else t) = .next t.settle :=
  done_ite_neg (by simp [h])

/-- A request at Verard's host port leaves its state as it is, so a register write that reaches its register is the write's effect. -/
theorem done_viaBus_verard {off : Nat} {s : State} (h : s.reaches 1 off) (f : State → State) :
    done (s.viaBus 1 off f) = .next (f s).settle := by
  rw [State.viaBus_of_reaches h, done_eq_next_settle]
  rfl

-- Reference inputs and their selection (R80 to R87).

/-- R80, R85: a measurement inside the accept limit qualifies a sound input that has been good for QUAL_S; an input that bears phase
then shows its bearing. -/
theorem State.inputMeasured_of_good {i : Nat} {freqPpt : BitVec 32} {t : Nat} {s : State} (hqual : s.get (R.VD_REFi_ST_QUAL i) = 1)
    (hgood : (s.refIn i).goodSince = some t) (hdue : t + secSub (s.get R.VD_REF_CFG_QUAL_S) ≤ s.now .verard)
    (haccept : freqPpt.toInt.natAbs ≤ s.vd.prof.freqAccept) (hsound : s.get (R.VD_REFi_ST_FAULT i) = 0) :
    s.inputMeasured i freqPpt =
      (let u := (s.put (R.VD_REFi_FREQ_FREQ_PPT i) freqPpt.toNat).setQual i 2 0
       if i = 2 then u else u.putSSat (R.VD_REFi_BEARING_BEARING_PS i) (u.bearing i)) := by
  simp [State.inputMeasured, hqual, hgood, hdue, haccept, hsound]

/-- R85: a residual that one more update works off leaves nothing, and INC loses the part that stood in it for the residual. -/
theorem State.workResidual_of_last {s : State} (hworking : s.vd.refs.working = true)
    (hlast : (s.getS R.VD_BEARING_RES_RES_PS).natAbs ≤ s.vd.prof.bearingSlew) :
    s.workResidual =
      (let u := s.putS R.VD_BEARING_RES_RES_PS 0
       let v := u.setRefs { u.vd.refs with working := false }
       v.doIf (0 != (s.clk .verard).bear && (s.clk .verard).own != 5)
         (fun v => v.setClk .verard { s.clk .verard with bear := 0 }.steered)) := by
  simp [State.workResidual, hworking, hlast]

theorem exec_wtrExpiry_of_passed {i : Fin 4} {s : State} (hrun : s.getB (R.VD_REFi_ST_WTR_RUN i) = true) (hpassed : s.wtrPassed i = true) :
    exec (.wtrExpiry i) s = .next ((s.put (R.VD_REFi_ST_WTR_RUN i) 0).put (R.VD_REFi_TIMERS_WTR_REMAIN_S i) 0).settle :=
  done_ite_pos (by simp [hrun, hpassed])

theorem exec_ppsEdgeTimeout_of_due {t : Nat} {s : State} (hedge : (s.refIn 3).lastEdge = some t) (hdue : t + msSub 2500 ≤ s.now .verard) :
    exec .ppsEdgeTimeout s = .next ((s.setRefIn 3 { s.refIn 3 with lastEdge := none, obs := [] }).rejectInput 3 1).settle := by
  change execPpsEdgeTimeout s = _
  rw [execPpsEdgeTimeout, hedge]
  exact done_ite_pos hdue

theorem exec_bearingResidualDone_of_last {s : State} (hworking : s.vd.refs.working = true)
    (hlast : (s.getS R.VD_BEARING_RES_RES_PS).natAbs ≤ s.vd.prof.bearingSlew) :
    exec .bearingResidualDone s = .next s.workResidual.settle :=
  done_ite_pos ⟨hworking, hlast⟩

/-- Settles O16: each command takes the branch its state selects; a good measurement qualifies at the update, and the last of a residual
is worked off. -/
theorem referenceInputsComplete : Obligations.ReferenceInputsComplete :=
  ⟨fun _ => rfl, fun _ _ _ => done_ite_not_pos, fun _ _ _ _ => State.inputMeasured_of_good, fun _ _ => exec_wtrExpiry_of_passed,
    fun _ _ _ => done_ite_not_pos, fun _ _ => exec_ppsEdgeTimeout_of_due, fun _ => done_ite_pos, fun _ => done_ite_not_pos,
    fun _ hworking hlast =>
      (exec_bearingResidualDone_of_last hworking hlast).trans (by rw [State.workResidual_of_last hworking hlast]),
    fun _ _ _ h => done_viaBus_verard h _, fun _ _ _ h => done_viaBus_verard h _⟩

-- The oscillator, the lock and the output pulses (R91 to R99).

theorem exec_ocxoReadySet_of_settled {t : Nat} {s : State} (hruns : s.vdRuns = true) (hsince : s.vd.refs.warmSince = some t)
    (hwarm : s.getB R.VD_REF_STAT_OCXO_WARM = true) (hdue : t + secSub s.vd.prof.warmSettle ≤ s.now .verard) :
    exec .ocxoReadySet s = .next (s.put R.VD_REF_STAT_OCXO_READY 1).masterState.settle := by
  change execOcxoReadySet s = _
  rw [execOcxoReadySet, hsince]
  exact done_ite_pos ⟨hruns, hwarm, hdue⟩

@[simp] theorem State.setPpsOfs_refs (s : State) (v : Int) : (s.setPpsOfs v).vd.refs = { s.vd.refs with ppsOfs := v } := rfl

/-- R99: at its second boundary a realignment takes effect, and the next one asked for, if any, stays pending. -/
theorem exec_realignEffective_of_due {t : Nat} {s : State} (hat : s.vd.refs.realignAt = some t) (hdue : t ≤ s.now .verard) :
    exec .realignEffective s =
      .next (let u := (s.setRefs { s.vd.refs with realignAt := s.vd.refs.realignThen, realignThen := none, pulsing := true }).setPpsOfs 0
        let u := u.putB R.VD_OUT_STAT_REALIGN_PENDING s.vd.refs.realignThen.isSome
        u.complete .verard 0x1B 0 0 (packedBytes (u.wrap .verard) t) true).settle := by
  change execRealignEffective s = _
  rw [execRealignEffective, hat]
  refine (done_ite_neg (Nat.not_lt.2 hdue)).trans ?_
  simp only [State.setPpsOfs_refs, State.setRefs_same]

/-- Settles O17: each command takes the branch its state selects; a lock is its effect by definition. -/
theorem oscillatorAndOutputComplete : Obligations.OscillatorAndOutputComplete :=
  ⟨fun _ => done_ite_not_pos, fun _ => done_ite_not_pos, fun _ _ => exec_ocxoReadySet_of_settled, fun _ => done_ite_not_pos,
    fun _ hruns hfail => done_ite_pos ⟨hruns, hfail⟩, fun _ _ => rfl, fun _ => done_ite_pos, fun _ h => done_viaBus_verard h _,
    fun _ _ => exec_realignEffective_of_due⟩

-- PTP messages and the requests about references (R100 to R102, R105).

theorem exec_announceTimeout_of_late {p : Fin 2} {s : State} (hrole : s.vdRole ≠ 1) (hon : s.getB (R.PTP_CTRL_ENABLE p) = true)
    (hlate : s.ptpLate p = true) :
    exec (.announceTimeout p) s = .next (s.ptpSilent p (s.refIn p)).settle :=
  congrArg done ((if_neg (not_or.2 ⟨hrole, not_not.2 hon⟩)).trans (if_pos hlate))

/-- R105: a Verard that takes references serves a reference request. -/
theorem State.refCmd_of_root {c : CmdCtx} {s : State} (hdev : c.dev = .verard) (hrole : s.vdRole ≠ 1) (op : Byte) (f : State → State) :
    s.refCmd c op f = f s :=
  if_neg (by simp [hdev, hrole])

theorem done_refCmd_of_root {c : CmdCtx} {s : State} (hdev : c.dev = .verard) (hrole : s.vdRole ≠ 1) (op : Byte) (f : State → State) :
    done (s.refCmd c op f) = .next (f s).settle :=
  congrArg done (State.refCmd_of_root hdev hrole op f)

/-- A reference request with operands in range has its effect. -/
theorem done_refCmd_of_valid {c : CmdCtx} {s : State} {bad : Prop} [Decidable bad] {u v : State → State} {op : Byte}
    (hdev : c.dev = .verard) (hrole : s.vdRole ≠ 1) (hvalid : ¬bad) :
    done (s.refCmd c op (fun s => if bad then u s else v s)) = .next (v s).settle :=
  (done_refCmd_of_root hdev hrole op _).trans (congrArg done (if_neg hvalid))

/-- R83: an input other than IN2 takes a priority from 0 to 15. -/
theorem exec_refPriority_of_valid {c : CmdCtx} {input prio : Byte} {s : State} (hdev : c.dev = .verard) (hrole : s.vdRole ≠ 1)
    (hphase : input ≠ 2) (hinput : input.toNat ≤ 3) (hprio : prio.toNat ≤ 15) :
    exec (.refPriority c input prio) s = .next (((s.setPrio input.toNat prio.toNat).answer c 0x19 0).logCommand c 0x19 0).settle :=
  done_refCmd_of_valid hdev hrole (by simp only [hphase, false_or]; omega)

theorem exec_refLockout_of_valid {c : CmdCtx} {input lock : Byte} {s : State} (hdev : c.dev = .verard) (hrole : s.vdRole ≠ 1)
    (hinput : input.toNat ≤ 3) (hlock : lock.toNat ≤ 1) :
    exec (.refLockout c input lock) s =
      .next (((s.setLockout input.toNat (lock == 1)).answer c 0x1A 0).logCommand c 0x1A 0).settle :=
  done_refCmd_of_valid hdev hrole (by omega)

/-- R102: a key that is found answers its entry, which leaves the queue. -/
theorem exec_ptpTsqLookup_of_found {c : CmdCtx} {port kind : Byte} {seqId : BitVec 16} {e : TsqEntry} {s : State}
    (hdev : c.dev = .verard) (hrole : s.vdRole ≠ 1) (hport : port.toNat ≤ 1)
    (hfound : s.tsqFind port.toNat seqId (kind.setWidth 4) = some e) :
    exec (.ptpTsqLookup c port kind seqId) s =
      .next (((s.tsqRemove port.toNat e).answer c 0x1C 0
        ([1, BitVec.ofNat 8 (b2n e.oneStep)] ++ packedBytes false e.stamp)).logCommand c 0x1C 0).settle := by
  refine (done_refCmd_of_valid hdev hrole (Nat.not_lt.2 hport)).trans ?_
  rw [hfound]

/-- Settles O18: PTP messages are their effect by definition, a key's write reaches its register, and a Verard that takes references
serves each request whose operands are in range. -/
theorem ptpAndReferenceRequestsComplete : Obligations.PtpAndReferenceRequestsComplete :=
  ⟨fun _ _ _ _ => rfl, fun _ _ _ _ => rfl, fun _ _ => exec_announceTimeout_of_late, fun _ _ _ _ h => done_viaBus_verard h _,
    fun _ _ _ _ h => done_viaBus_verard h _, fun _ _ hdev hrole => ⟨_, done_refCmd_of_root hdev hrole ..⟩,
    fun _ _ _ _ => exec_refPriority_of_valid, fun _ _ _ hdev hrole hinput => exec_refLockout_of_valid hdev hrole hinput (Nat.le_refl 1),
    fun _ _ _ _ _ _ => exec_ptpTsqLookup_of_found, fun _ _ hdev hrole => done_refCmd_of_root hdev hrole ..⟩

end Sys2Proof.Machine

/-! Settles the family of measurement (spec/05_measurement.md R106 to R121): Verard's measuring channels, and Lotik's trigger inputs
and outputs. -/

namespace Sys2Proof.Machine

open Sys2Proof

-- A command whose answer is the state its effect leaves, with nothing sent after it.

theorem next_ite_pos {c : Prop} [Decidable c] {s t : State} (h : c) : (.next (if c then s else t) : Res) = .next s :=
  congrArg Host.Outcome.next (if_pos h)

theorem next_ite_neg {c : Prop} [Decidable c] {s t : State} (h : ¬c) : (.next (if c then s else t) : Res) = .next t :=
  congrArg Host.Outcome.next (if_neg h)

theorem next_viaBus_of_reaches {sp off : Nat} {s : State} (h : s.reaches sp off) (f : State → State) :
    (.next (s.viaBus sp off f) : Res) = .next (f (s.hostReq (spDev sp))) :=
  congrArg Host.Outcome.next (State.viaBus_of_reaches h f)

-- The measuring channels (R107 to R113, R121).

/-- R112: an interval that waits for an edge past its timeout is ended. -/
theorem exec_measTimeout_of_due {c : Fin 4} {s : State} (hbusy : s.getB (R.MEAS_STAT_BUSY c) = true)
    (hbegun : s.getB (R.MEAS_STAT_ARMED c) = false) (hinterval : (s.meas c).freq = false)
    (hdue : (s.meas c).t0.getD (s.meas c).beginAt + usSub (s.meas c).timeoutUs ≤ s.now .verard) :
    exec (.measTimeout c) s = .next (s.measLate c).settle :=
  (done_ite_neg (by simp [hbusy, hbegun, hinterval])).trans (done_ite_pos hdue)

/-- R113: a gate that closes on three stamps or more, with DISC as it was, leaves the fit to do. -/
theorem exec_measGateClose_of_enough {c : Fin 4} {s : State} (hbusy : s.getB (R.MEAS_STAT_BUSY c) = true)
    (hbegun : s.getB (R.MEAS_STAT_ARMED c) = false) (hfreq : (s.meas c).freq = true) (hopen : (s.meas c).fitting = false)
    (hdue : (s.meas c).beginAt + usSub (s.meas c).gateUs ≤ s.now .verard) (henough : 3 ≤ (s.meas c).stamps.length)
    (hdisc : (s.meas c).disc = (((s.markMeas.put (R.MEAS_N_N c) (s.meas c).stamps.length).put
      (R.MEAS_DECIM_K c) (s.meas c).k).clk .verard).disc) :
    exec (.measGateClose c) s =
      .next (((s.markMeas.put (R.MEAS_N_N c) (s.meas c).stamps.length).put (R.MEAS_DECIM_K c) (s.meas c).k).setMeas c
        { s.meas c with fitting := true }).settle :=
  (done_ite_pos ⟨hbusy, by simp [hbegun], hfreq, by simp [hopen], hdue⟩).trans <|
    (done_ite_neg (not_not.2 hdisc)).trans (done_ite_neg (Nat.not_lt.2 henough))

/-- R121: a Verard runs a measurement on an idle channel. -/
theorem exec_measRun_of_idle {c : CmdCtx} {channel : Byte} {ctrl gate timeout : Word} {start : Packed} {s : State}
    (hdev : c.dev = .verard) (hchannel : channel.toNat ≤ 3) (hidle : s.getB (R.MEAS_STAT_BUSY channel.toNat) = false) :
    exec (.measRun c channel ctrl gate timeout start) s = .next (s.measRun c channel.toNat ctrl gate timeout start).settle :=
  (done_ite_neg (by simp [hdev])).trans <|
    (done_ite_neg (Nat.not_lt.2 hchannel)).trans (done_ite_neg (by simp [hidle]))

/-- Settles O19: each command takes the branch its state selects; an edge is its effect by definition. -/
theorem measurementComplete : Obligations.MeasurementComplete :=
  ⟨fun _ _ _ h => done_viaBus_verard h _, fun _ _ _ h => done_viaBus_verard h _, fun _ _ harmed hdue => done_ite_pos ⟨harmed, hdue⟩,
    fun _ _ _ _ => rfl, fun _ _ => exec_measTimeout_of_due, fun _ _ => exec_measGateClose_of_enough,
    fun _ _ hfitting => done_ite_neg (not_not.2 hfitting), fun _ h => next_viaBus_of_reaches h _,
    fun _ _ hidle => next_ite_pos ⟨hidle, .inl rfl⟩, fun _ _ => next_ite_neg,
    fun _ _ _ _ _ _ _ => exec_measRun_of_idle⟩

-- Trigger inputs (R116, R117).

/-- R120: EDGE selects rising edges with 0, falling ones with 1, and both with 2. -/
theorem edgeSelected_iff (e : Nat) (falling : Bool) :
    ((e == 0 && !falling) || (e == 1 && falling) || e == 2) = true ↔ e = 2 ∨ e = b2n falling := by
  cases falling <;> simp [b2n, or_comm]

/-- R116: a selected edge at an enabled input is counted as missed if it fell within 100 ns of the last one stamped (the model's choice of
notes/assumptions/153), and else stamped. -/
theorem exec_trigInEdge_of_selected {i : Fin 2} {falling : Bool} {bins : BitVec 12} {s : State}
    (henable : s.getB (R.LK_TRIGi_CTRL_ENABLE i) = true)
    (hsel : s.get (R.LK_TRIGi_CTRL_EDGE i) = 2 ∨ s.get (R.LK_TRIGi_CTRL_EDGE i) = b2n falling) {fell : Nat}
    (hfell : fineStamp (s.clk .lotik) (s.now .lotik) bins.toNat = fell) :
    exec (.trigInEdge i falling bins) s =
      .next (if ∃ u ∈ (s.trigIn i).last, fell < u + nsSub 100 then s.bumpSat (R.LK_TRIGi_STAT_MISSED i)
        else s.trigStamp i { s.trigIn i with last := some fell } (if s.getB (R.LK_TRIGi_CTRL_FINE i) then fell else s.now .lotik)) := by
  subst hfell
  refine (next_ite_neg (by simp [henable, (edgeSelected_iff ..).2 hsel])).trans ?_
  cases hlast : (s.trigIn i).last <;> simp [hlast]

-- Trigger outputs (R118, R119, R121).

/-- R119: an edge of a train inside the pulse of the one it replaced is skipped. -/
theorem exec_trigOutEdge_of_covered {o : Fin 2} {s : State} (harmed : s.getB (R.LK_TRIGo_STAT_ARMED o) = true)
    (hdue : (s.train o).next ≤ s.now .lotik) (hcovered : (s.train o).next < (s.train o).pulseEnd) :
    exec (.trigOutEdge o) s = .next ((s.bumpSat (R.LK_TRIGo_STAT_SKIPPED o)).trainNext o) :=
  (next_ite_pos ⟨harmed, hdue⟩).trans (next_ite_pos hcovered)

/-- R118: any other edge that is due is placed as ROUTE says, and counted. -/
theorem exec_trigOutEdge_of_free {o : Fin 2} {s : State} (harmed : s.getB (R.LK_TRIGo_STAT_ARMED o) = true)
    (hdue : (s.train o).next ≤ s.now .lotik) (hfree : (s.train o).pulseEnd ≤ (s.train o).next) :
    exec (.trigOutEdge o) s =
      .next (let u := (s.setTrain o { s.train o with pulseEnd := (s.train o).next + (s.train o).width * tickSub }).wakeTc
        let u := u.emitIf ((s.get (R.LK_TRIGo_CTRL_ROUTE o)).testBit 0) (.pin (if o = 0 then "TRIG_OUT0" else "TRIG_OUT1") (s.trigPulse o))
        let u := u.emitIf ((s.get (R.LK_TRIGo_CTRL_ROUTE o)).testBit 1) (.pin "CTL_START" 1)
        (u.bump (R.LK_TRIGo_STAT_PULSES o)).trainNext o) :=
  (next_ite_pos ⟨harmed, hdue⟩).trans (next_ite_neg (Nat.not_lt.2 hfree))

/-- R121: a Lotik serves TRIG_ARM whose output and polarity byte are in range. -/
theorem exec_trigArm_of_valid {c : CmdCtx} {output polRoute : Byte} {at_ : Packed} {width period : BitVec 16} {s : State}
    (hdev : c.dev = .lotik) (houtput : output.toNat ≤ 1) (hpol : polRoute.toNat < 8) :
    exec (.trigArm c output polRoute at_ width period) s = .next (s.trigArm c output polRoute at_ width period).settle :=
  (done_ite_neg (by simp [hdev])).trans (done_ite_neg (by omega))

/-- Settles O20: the last edge stamped decides between a stamp and a missed edge, a register write at Lotik's port wakes the logic domain
before its effect, and each output command takes the branch its state selects. -/
theorem triggersComplete : Obligations.TriggersComplete :=
  ⟨fun _ _ _ _ henable hsel =>
      ⟨fun hfar => (exec_trigInEdge_of_selected henable hsel rfl).trans
        (next_ite_neg fun ⟨u, hlast, hnear⟩ => absurd (hfar u hlast) (Nat.not_le.2 hnear)),
       fun u hlast hnear => (exec_trigInEdge_of_selected henable hsel rfl).trans (next_ite_pos ⟨u, hlast, hnear⟩)⟩,
    fun _ _ h => next_viaBus_of_reaches h _, fun _ _ _ h => next_viaBus_of_reaches h _, fun _ _ _ h => next_viaBus_of_reaches h _,
    fun _ _ => exec_trigOutEdge_of_covered, fun _ _ => exec_trigOutEdge_of_free,
    fun _ _ _ _ _ _ _ => exec_trigArm_of_valid⟩

end Sys2Proof.Machine

/-! Settles the family of steps and Marks (spec/06_steps_and_marks.md R122 to R154): program entries, Marks and waypoints, the control
messages of jobs at members, heads and roots, the timers and the commands of jobs, and the remaining events of a die. -/

namespace Sys2Proof.Machine

open Sys2Proof

-- A register access that reaches its register.

/-- A register write that reaches its register does what the write does, and its hand-overs follow. -/
theorem finish_viaBus_of_reaches {sp off : Nat} {s : State} (h : s.reaches sp off) (f : State → State) :
    finish (s.viaBus sp off f) = .next (f (s.hostReq (spDev sp))).ended :=
  congrArg finish (State.viaBus_of_reaches h f)

/-- What a Verard in FAULT leaves open to writes is open to reads too (R363). -/
theorem State.darkRead_of_not_dark {s : State} {sp off : Nat} (h : s.dark sp off = false) : s.darkRead sp off = false := by
  rw [State.darkRead, h, Bool.false_and]

theorem State.viaRead_of_reaches {sp off : Nat} {s : State} (size : Nat) (h : s.reaches sp off) (f : State → State × Nat) :
    s.viaRead sp off size f =
      (f (s.hostReq (spDev sp))).1.emit (.bus (spDev sp) (BitVec.ofNat 64 (f (s.hostReq (spDev sp))).2)) := by
  obtain ⟨hup, hopen, hlit⟩ := h
  simp [State.viaRead, hup, hopen, State.darkRead_of_not_dark hlit]

-- Program entries, prefetch and Marks (R124 to R134, R140, R153).

/-- R140: a slot whose prefetch is complete answers the ARM that waits for it. -/
theorem exec_prefetchDone_of_arming {i : Fin 2} {s : State} (hst : s.slotState i.val = 1) (hpre : (s.slot i.val).prefetching = true)
    (hload : (s.slot i.val).loading = false) (harm : (s.slot i.val).arming = true) (hdone : s.prefetched i.val = true) :
    exec (.prefetchDone i) s =
      .next ((s.setSlot i.val { s.slot i.val with prefetching := false, loading := false, arming := false }).jobAnswer i.val jkArmAck 0
        (s.slot i.val).armCseq).ended :=
  (finish_ite_neg (by simp [hst, hpre, hdone])).trans (by simp only [hload, harm, State.doIf]; rfl)

/-- R298: a slot whose prefetch is complete completes the JOB_LOAD that waits for it. -/
theorem exec_prefetchDone_of_loading {i : Fin 2} {s : State} (hst : s.slotState i.val = 1) (hpre : (s.slot i.val).prefetching = true)
    (hload : (s.slot i.val).loading = true) (harm : (s.slot i.val).arming = false) (hdone : s.prefetched i.val = true) :
    exec (.prefetchDone i) s =
      .next (((s.setSlot i.val { s.slot i.val with prefetching := false, loading := false, arming := false }).put R.LK_DET_STAT_LOADED 1).complete
        .lotik 0x67 i.val 0 [] true).ended :=
  (finish_ite_neg (by simp [hst, hpre, hdone])).trans (by simp only [hload, harm, State.doIf]; rfl)

/-- R133: a strict Mark whose step is not done as its guard time begins is an overrun, and faults the slot. -/
theorem exec_overrunTest_of_strict {i t : Nat} {w : BitVec 128} {s : State} (hslot : s.activeSlot = some i)
    (hmark : s.nextMarkWp i = some w) (hsched : s.nextSched i = some t) (hst : s.slotState i = 4) (hended : (s.run i).ended = false)
    (htested : (s.slot i).overrunTested = false) (hdue : t ≤ s.now .lotik + s.markGuard w * tickSub)
    (hlawful : s.schedLawful i w t = true) (hdone : (s.slot i).stepDone = false) (hstrict : wpStrict w = true) :
    exec .overrunTest s =
      .next (((s.setSlot i { s.slot i with overrunTested := true }).bumpSat R.LK_MARK_CNT_OVERRUN).put R.LK_STEP_IRQ_OVERRUN 1
        |>.slotFault i 5).ended := by
  have htests : ¬(s.slotState i ≠ 4 ∨ (s.run i).ended = true ∨ (s.slot i).overrunTested = true ∨
      s.now .lotik + s.markGuard w * tickSub < t ∨ (!s.schedLawful i w t) = true) := by
    simp [hst, hended, htested, hlawful, hdue]
  exact congrArg finish (by simp only [hslot, hmark, hsched, if_neg htests, hdone, hstrict, Bool.false_eq_true, if_false, if_true])

/-- R132: a gated operation that is still open once its limit has passed faults the slot. -/
theorem exec_gateLimitExpiry_of_due {i : Nat} {s : State} (hslot : s.activeSlot = some i) (hst : s.slotState i = 4)
    (hsent : (s.slot i).gateSent = true) (hopen : (s.slot i).gateDone = none)
    (hdue : (s.slot i).gateAt + msSub (s.slot i).gateLimit ≤ s.now .lotik) :
    exec .gateLimitExpiry s = .next ((s.wakeAll.put R.LK_STEP_STAT_GATE_PENDING 0).slotFault i 4).ended := by
  change execGateLimitExpiry s = _
  rw [execGateLimitExpiry, hslot]
  exact finish_ite_pos ⟨hst, hsent, by simp [hopen], hdue⟩

/-- Settles O21: a host write reaches its register, and each other command takes the branch its slot, its Mark or its gate selects. -/
theorem stepsAndMarksComplete : Obligations.StepsAndMarksComplete :=
  ⟨fun _ h => finish_viaBus_of_reaches h _, fun _ h => finish_viaBus_of_reaches h _, fun _ _ _ _ h => next_viaBus_of_reaches h _,
    fun _ _ _ _ => rfl, fun _ _ => exec_prefetchDone_of_arming, fun _ _ => exec_prefetchDone_of_loading,
    fun _ _ hst harm hdue => finish_ite_pos ⟨hst, harm, hdue⟩, fun _ _ _ _ hdue htimed => congrArg finish (by simp only [hdue, if_pos htimed]),
    fun _ _ _ _ hdue => congrArg finish (by rw [hdue]), fun _ _ _ _ => exec_overrunTest_of_strict, fun _ _ => exec_gateLimitExpiry_of_due⟩

-- Waypoints (R127, R128).

/-- Settles O22: each command finds the waypoint that is due with its action; one that was planned ahead has nothing left to prepare. -/
theorem waypointsComplete : Obligations.WaypointsComplete :=
  ⟨fun _ _ _ _ hdue => congrArg finish (by rw [hdue]),
    fun _ _ _ _ hdue hplanned => congrArg finish (by simp only [hdue, if_pos hplanned]),
    fun _ _ _ _ hdue => congrArg finish (by rw [hdue]),
    fun _ _ _ _ hdue hplanned => congrArg finish (by simp only [hdue, if_pos hplanned]),
    fun _ _ _ _ _ hslot hdue => congrArg finish (by simp only [hslot, hdue]),
    fun _ _ _ _ hdue => congrArg finish (by rw [hdue]), fun _ _ _ _ hdue => congrArg finish (by rw [hdue])⟩

-- A job control message on its way (R138, R139).

theorem State.jobRx_of_known {p : Path} {m : JobMsg} {kind : Nat} (s : State) (hkind : m.kind.toNat < 0x11) :
    s.jobRx p m kind = s.treeRx p (.job (m.as kind)) := by
  rw [State.jobRx, if_neg (Nat.not_le.2 hkind)]
  rfl

/-- A damaged frame of a control message is discarded and counted (R51, R138). -/
theorem finish_jobRx_of_bad {p : Path} {m : JobMsg} {kind : Nat} {s : State} (hup : s.pathUp p = true)
    (hserves : s.serves (pathDev p) = true) (hbad : m.wire ≠ .good) :
    finish (s.jobRx p m kind) = .next (s.frameDrop p).ended :=
  congrArg finish ((if_neg (by simp [hup, hserves])).trans (if_pos (.inl hbad)))

/-- A control message that a Lotik hears is taken by its job unit. -/
theorem State.jobRx_lotik_of_hears {q : Path} {m : JobMsg} {kind : Nat} {s : State} (hdev : pathDev q = .lotik)
    (hkind : m.kind.toNat < 0x11) (hhears : s.hears q (.job (m.as kind))) :
    s.jobRx q m kind = (s.heard q (.job (m.as kind))).lotikJob q (m.as kind) := by
  obtain ⟨hup, hserves, hwire, hknown, hua⟩ := hhears
  rw [State.jobRx_of_known s hkind, State.treeRx, if_neg (by simp [hup, hserves]), if_neg (by simp [hwire, hknown]),
    if_neg (by simp [hua]), State.heard, hdev]

/-- A control message that a Verard hears is taken by its job unit, past the engine. -/
theorem State.jobRx_verard_of_hears {p : Path} {m : JobMsg} {kind : Nat} {s : State} (hdev : pathDev p = .verard)
    (hkind : m.kind.toNat < 0x11) (hhears : s.hears p (.job (m.as kind))) :
    s.jobRx p m kind = (s.heard p (.job (m.as kind))).vdJob (m.as kind) (some p) := by
  obtain ⟨hup, hserves, hwire, hknown, hua⟩ := hhears
  rw [State.jobRx_of_known s hkind, State.treeRx, if_neg (by simp [hup, hserves]), if_neg (by simp [hwire, hknown]),
    if_neg (by simp [hua]), State.heard, hdev]

/-- R139: an upward message at a Lotik is its head's to gather. -/
theorem State.lotikJob_of_upward {q : Path} {m : JobMsg} {u : State} (hup : jobUpward m.kind.toNat = true) :
    u.lotikJob q m = u.headJob m :=
  if_pos hup

/-- A head puts a downward message that came by the T-link on its ring (R139). -/
def State.passToRing (u : State) (q : Path) (m : JobMsg) : State :=
  match q with
  | .port _ => if u.get R.LK_TOPO_ROLE = 0 then u else u.ringDown ((u.group .lotik m.gid.toNat).mask u.pkgUa) (.job m)
  | _ => u

/-- A downward message that no fence holds back (R151) goes on the ring where a head has to put it there, and is taken by the die. -/
theorem State.lotikJob_of_downward {q : Path} {m : JobMsg} {u : State} (hdown : jobUpward m.kind.toNat = false)
    (hgen : u.get R.LK_TOPO_ROLE = 0 ∨ (u.group .lotik m.gid.toNat).gen = m.gen.toNat) :
    u.lotikJob q m = (u.passToRing q m).dieJob m := by
  have hfence : ¬(u.get R.LK_TOPO_ROLE ≠ 0 ∧ (u.group .lotik m.gid.toNat).gen ≠ m.gen.toNat) := by
    rwa [← not_or, not_not]
  exact (if_neg (Bool.eq_false_iff.1 hdown)).trans (if_neg hfence)

theorem State.passToRing_of_member {q : Path} {m : JobMsg} {u : State} (hrole : u.get R.LK_TOPO_ROLE = 0) : u.passToRing q m = u := by
  cases q with
  | port p => exact if_pos hrole
  | ring r => rfl
  | host d => rfl

theorem State.passToRing_of_head {p : PortId} {m : JobMsg} {u : State} (hrole : u.get R.LK_TOPO_ROLE ≠ 0) :
    u.passToRing (.port p) m = u.ringDown ((u.group .lotik m.gid.toNat).mask u.pkgUa) (.job m) :=
  if_neg hrole

/-- R139: at a part that is no head, a downward message is the member's alone. -/
theorem State.lotikJob_of_member {q : Path} {m : JobMsg} {u : State} (hdown : jobUpward m.kind.toNat = false)
    (hrole : u.get R.LK_TOPO_ROLE = 0) : u.lotikJob q m = u.memberJob m := by
  rw [State.lotikJob_of_downward hdown (.inl hrole), State.passToRing_of_member hrole]
  exact congrArg (State.memberJob · m) (if_pos hrole)

-- A downward message at a member (R139 to R151, R293 to R296).

/-- What a member does on the first copy of a downward message other than RETIRE. -/
def State.memberAct (s : State) (m : JobMsg) : State :=
  let k := m.kind.toNat
  if k = jkArm then s.memberArm m
  else if k = jkCommit then s.memberCommit m
  else if k = jkConfirm then s.memberConfirm m
  else if k = jkAbort then s.memberAbort m
  else if k = jkTeardown then s.memberTeardown m
  else if k = jkDefer then s.memberDefer m
  else if k = jkPause then s.memberPause m
  else if k = jkResume then s.memberResume m
  else s

theorem State.memberJob_of_retire {m : JobMsg} {u : State} (hkind : m.kind.toNat = jkRetire) : u.memberJob m = u.dieRetire m :=
  if_pos hkind

/-- A message that is the member's to act on is noted and acted on. -/
theorem State.memberJob_of_memberHears {m : JobMsg} {u : State} (hkind : m.kind.toNat ≠ jkRetire) (hmember : u.memberHears m) :
    u.memberJob m = (u.sawMsg m).memberAct m := by
  obtain ⟨-, hholds, hsealed, hmine, hfresh, hgen⟩ := hmember
  exact (if_neg hkind).trans <| (if_neg (by simp [hholds])).trans <| (if_neg (not_not.2 hgen)).trans <|
    if_neg (by simp [hsealed, hmine, hfresh])

/-- A member's answer to a downward message it hears for its group. -/
theorem finish_jobRx_member {q : Path} {m : JobMsg} {kind : Nat} {s : State} (hdev : pathDev q = .lotik) (hknown : m.kind.toNat < 0x11)
    (hdown : jobUpward (BitVec.ofNat 8 kind).toNat = false) (hkind : (BitVec.ofNat 8 kind).toNat ≠ jkRetire)
    (hhears : s.hears q (.job (m.as kind))) (hmember : (s.heard q (.job (m.as kind))).memberHears (m.as kind)) :
    finish (s.jobRx q m kind) =
      .next (((s.heard q (.job (m.as kind))).sawMsg (m.as kind)).memberAct (m.as kind)).ended := by
  rw [State.jobRx_lotik_of_hears hdev hknown hhears, State.lotikJob_of_member (m := m.as kind) hdown hmember.1,
    State.memberJob_of_memberHears (m := m.as kind) hkind hmember, finish_eq_next_ended]

theorem exec_retire_of_member {q : Path} {m : JobMsg} {s : State} (hdev : pathDev q = .lotik) (hknown : m.kind.toNat < 0x11)
    (hhears : s.hears q (.job (m.as jkRetire))) (hrole : (s.heard q (.job (m.as jkRetire))).get R.LK_TOPO_ROLE = 0) :
    exec (.retire q m) s = .next ((s.heard q (.job (m.as jkRetire))).dieRetire (m.as jkRetire)).ended := by
  change finish (s.jobRx q m jkRetire) = _
  rw [State.jobRx_lotik_of_hears hdev hknown hhears, State.lotikJob_of_member (m := m.as jkRetire) rfl hrole,
    State.memberJob_of_retire (m := m.as jkRetire) rfl, finish_eq_next_ended]

/-- The rows of the opcode table for messages that travel down. -/
def downRows : List (Nat × (Path → JobMsg → Instr)) :=
  [(jkArm, Instr.arm), (jkCommit, .commit), (jkConfirm, .confirm), (jkAbort, .abortRx), (jkTeardown, .teardown), (jkDefer, .defer),
    (jkPause, .pause), (jkResume, .resume), (jkRetire, .retire)]

theorem exec_of_mem_downRows (q : Path) (m : JobMsg) (s : State) :
    ∀ k ∈ downRows, jobUpward (BitVec.ofNat 8 k.1).toNat = false ∧ exec (k.2 q m) s = finish (s.jobRx q m k.1) :=
  List.forall_iff_forall_mem.1
    ⟨⟨rfl, rfl⟩, ⟨rfl, rfl⟩, ⟨rfl, rfl⟩, ⟨rfl, rfl⟩, ⟨rfl, rfl⟩, ⟨rfl, rfl⟩, ⟨rfl, rfl⟩, ⟨rfl, rfl⟩, ⟨rfl, rfl⟩⟩

/-- Settles O23: a message heard reaches the job unit, where the kind of a member's first copy selects its answer, and a head puts what
came by the T-link on the ring. -/
theorem memberMessagesComplete : Obligations.MemberMessagesComplete := by
  intro q m s hdev hknown
  have member {kind : Nat} := finish_jobRx_member (kind := kind) (s := s) hdev hknown
  refine ⟨member rfl (by decide), member rfl (by decide), member rfl (by decide), member rfl (by decide), member rfl (by decide),
    member rfl (by decide), member rfl (by decide), member rfl (by decide), exec_retire_of_member hdev hknown, ?_⟩
  intro k hk u g hhears hrole hgen
  obtain ⟨hdown, hexec⟩ := exec_of_mem_downRows q m s k hk
  rw [hexec, State.jobRx_lotik_of_hears hdev hknown hhears, State.lotikJob_of_downward (m := m.as k.1) hdown (.inr hgen)]
  cases q with
  | port p => exact congrArg (finish <| State.dieJob · _) (State.passToRing_of_head hrole)
  | ring r => rfl
  | host d => exact absurd hhears.1 Bool.false_ne_true

-- An upward message at a job's root and at a package's head (R139, R144, R147, R151, R272, R294).

/-- What a job root records of an upward message of its job. -/
def State.rootAct (s : State) (r : JobRec) (m : JobMsg) : State :=
  let k := m.kind.toNat
  if k = jkArmAck ∨ k = jkCommitAck then s.rootAck .verard r m
  else if k = jkCheck then s.rootCheck .verard r m
  else if k = jkDrained then s.rootDrained .verard r m
  else if k = jkFault then s.rootFault .verard r m
  else if k = jkDeferReq then s.rootDeferReq .verard r m
  else if k = jkPaused then s.rootPaused .verard r m
  else s

/-- An upward message of a live job's own generation is its root's to record. -/
theorem State.vdJob_of_rootHears {m : JobMsg} {r : JobRec} {u : State} (p : Option Path) (hup : jobUpward m.kind.toNat = true)
    (hroot : u.rootHears m r) : u.vdJob m p = u.rootAct r m := by
  obtain ⟨hsealed, hgen, hrole, hjob, hlive, hjobGen⟩ := hroot
  calc u.vdJob m p
      = u.rootRx .verard m :=
        (if_neg (not_not.2 hgen)).trans <| (if_neg (not_not.2 hsealed)).trans <| (if_pos hup).trans (if_pos hrole)
    _ = u.rootAct r m := by
        rw [State.rootRx, hjob]
        exact if_neg (not_or.2 ⟨hlive, not_not.2 hjobGen⟩)

/-- What the root at a Verard does with an upward message it hears for its job. -/
theorem finish_jobRx_root {p : Path} {m : JobMsg} {r : JobRec} {kind : Nat} {s : State} (hdev : pathDev p = .verard)
    (hknown : m.kind.toNat < 0x11) (hup : jobUpward (BitVec.ofNat 8 kind).toNat = true) (hhears : s.hears p (.job (m.as kind)))
    (hroot : (s.heard p (.job (m.as kind))).rootHears (m.as kind) r) :
    finish (s.jobRx p m kind) = .next ((s.heard p (.job (m.as kind))).rootAct r (m.as kind)).ended := by
  rw [State.jobRx_verard_of_hears hdev hknown hhears, State.vdJob_of_rootHears (m := m.as kind) (some p) hup hroot, finish_eq_next_ended]

/-- The rows of the opcode table for messages that travel up. -/
def upRows : List (Nat × (Path → JobMsg → Instr)) :=
  [(jkArmAck, Instr.armAck), (jkCommitAck, .commitAck), (jkCheck, .checkRx), (jkDrained, .drained), (jkFault, .jobFault),
    (jkDeferReq, .deferReq), (jkPaused, .paused)]

theorem exec_of_mem_upRows (p : Path) (m : JobMsg) (s : State) :
    ∀ k ∈ upRows, jobUpward (BitVec.ofNat 8 k.1).toNat = true ∧ exec (k.2 p m) s = finish (s.jobRx p m k.1) :=
  List.forall_iff_forall_mem.1 ⟨⟨rfl, rfl⟩, ⟨rfl, rfl⟩, ⟨rfl, rfl⟩, ⟨rfl, rfl⟩, ⟨rfl, rfl⟩, ⟨rfl, rfl⟩, ⟨rfl, rfl⟩⟩

/-- Settles O24: a message heard for a live job is recorded by its root as its kind says, a head gathers what travels up, and a damaged
frame never reaches either. -/
theorem rootMessagesComplete : Obligations.RootMessagesComplete := by
  refine ⟨fun p m r s hdev hknown => ?_, fun p m s hdev hknown k hk hhears => ?_, fun p m s hup hserves hbad => ?_⟩
  · have root {kind : Nat} := finish_jobRx_root (r := r) (kind := kind) (s := s) hdev hknown
    exact ⟨root rfl, root rfl, root rfl, root rfl, root rfl, root rfl, root rfl⟩
  · obtain ⟨hup, hexec⟩ := exec_of_mem_upRows p m s k hk
    rw [hexec, State.jobRx_lotik_of_hears hdev hknown hhears, State.lotikJob_of_upward (m := m.as k.1) hup, finish_eq_next_ended]
  · exact ⟨finish_jobRx_of_bad hup hserves hbad, finish_jobRx_of_bad hup hserves hbad⟩

-- The timers of jobs, at members and roots (R139, R142, R144, R149 to R151, R272, R294).

/-- R142: a CONFIRMED member starts its job at T0. -/
theorem exec_jobStartT0_of_confirmed {i : Nat} {s : State} (hslot : s.activeSlot = some i) (hst : s.slotState i = 3)
    (hdue : (s.slot i).t0 ≤ s.now .lotik) :
    exec .jobStartT0 s = .next (((s.startJob i).rootStart .lotik).rootStart .verard).ended :=
  congrArg finish (by simp only [hslot, if_pos (And.intro hst hdue)])

/-- R296: a PAUSED member that holds CONFIRM resumes its job at T_R. -/
theorem exec_jobStartT0_of_resuming {i t : Nat} {s : State} (hslot : s.activeSlot = some i) (hst : s.slotState i = 5)
    (hconfirm : (s.run i).confirm = true) (hat : (s.run i).resumeAt = some t) (hdue : t ≤ s.now .lotik) :
    exec .jobStartT0 s = .next (((s.resumeJob i t).rootStart .lotik).rootStart .verard).ended := by
  have hpaused : ¬(s.slotState i = 3 ∧ (s.slot i).t0 ≤ s.now .lotik) := by simp [hst]
  exact congrArg finish (by simp only [hslot, if_neg hpaused, if_pos (And.intro hst hconfirm), hat, if_pos hdue])

/-- Settles O25: a root's timers are their effect by definition, and a member's take the branch its active slot selects. -/
theorem jobTimersComplete : Obligations.JobTimersComplete :=
  ⟨fun _ _ => rfl, fun _ _ => rfl, fun _ _ => rfl, fun _ _ => rfl, fun _ _ => rfl, fun _ _ => rfl,
    fun _ _ hst hdue => finish_ite_pos ⟨hst, hdue⟩, fun _ _ => exec_jobStartT0_of_confirmed, fun _ _ _ => exec_jobStartT0_of_resuming,
    fun _ _ _ hslot htd hst hdue => congrArg finish (by simp only [hslot, htd, if_pos (And.intro (Or.inl hst) hdue)]),
    fun _ _ hslot hst => congrArg finish (by simp only [hslot, if_neg (not_not.2 hst)])⟩

-- The job commands at the job's root (R154, R301).

theorem exec_jobArm_of_admitted {c : CmdCtx} {gid : BitVec 24} {gen : BitVec 16} {prog flags : Byte} {limit : Word} {seed : BitVec 128}
    {g : GroupRec} {s : State} (hroot : s.rootOf c.dev gid.toNat = some g) (hprog : prog.toNat ≤ 7) (hflags : flags.toNat < 4)
    (hlimit : limit.toNat ≠ 0) (hrange : gen.toNat < 16384) (hgen : gen.toNat = g.gen) (hidle : s.jobLive c.dev gid.toNat = false)
    (hroom : ((s.tree c.dev).jobs.filter (fun r => r.state != 0)).length < jobCap c.dev) :
    exec (.jobArm c gid gen prog flags limit seed) s =
      .next (let r : JobRec := { gid := gid.toNat, gen := gen.toNat, cseq := (((s.job c.dev gid.toNat).map (·.cseq)).getD 0 + 1) % 65536 }
        (((s.accept c 0x20 gid.toNat).setJob c.dev r).jobDown c.dev
          { r.msg jkArm with prog := prog, flags := flags, gateLimit := limit, seed := seed }).ended) := by
  have hoperands : ¬(7 < prog.toNat ∨ 4 ≤ flags.toNat ∨ limit.toNat = 0 ∨ 16384 ≤ gen.toNat) := by omega
  change finish (s.jobArm c gid.toNat gen.toNat prog.toNat flags.toNat limit.toNat seed) = _
  rw [State.jobArm, hroot]
  refine congrArg finish ((if_neg hoperands).trans <| (if_neg (not_not.2 hgen)).trans <| (if_neg (by simp [hidle])).trans <|
    (if_neg (Nat.not_le.2 hroom)).trans ?_)
  simp only [BitVec.ofNat_toNat, BitVec.setWidth_eq]

/-- R141: an instant that R143 admits commits a job that is armed. -/
theorem exec_jobCommit_of_armed {c : CmdCtx} {gid : BitVec 24} {gen : BitVec 16} {t0 : Packed} {g : GroupRec} {r : JobRec} {s : State}
    (hjob : s.rootJob c.dev gid.toNat gen.toNat = some (g, r)) (hst : r.state = 1) (hround : r.round = 0)
    (hstart : s.startStatus c.dev g (unpackInstant (s.wrap c.dev) (s.now c.dev) t0) = 0) :
    exec (.jobCommit c gid gen t0) s =
      .next (let t := unpackInstant (s.wrap c.dev) (s.now c.dev) t0
        let r' : JobRec := { r.next with state := 2, round := 2, acked := [], t0 := t }
        (((s.accept c 0x21 gid.toNat).setJob c.dev r').jobDown c.dev
          { r'.msg jkCommit with instant := packInstant (s.wrap c.dev) t }).ended) := by
  change finish (s.jobCommit c gid.toNat gen.toNat t0) = _
  rw [State.jobCommit, hjob]
  exact congrArg finish (if_neg (by simp [hst, hround, hstart]))

/-- R296: an instant that R143 admits resumes a job that is paused. -/
theorem exec_jobResume_of_paused {c : CmdCtx} {gid : BitVec 24} {gen : BitVec 16} {tr : Packed} {g : GroupRec} {r : JobRec} {s : State}
    (hjob : s.rootJob c.dev gid.toNat gen.toNat = some (g, r)) (hst : r.state = 5) (hround : r.round = 0)
    (hstart : s.startStatus c.dev g (unpackInstant (s.wrap c.dev) (s.now c.dev) tr) = 0) :
    exec (.jobResume c gid gen tr) s =
      .next (let t := unpackInstant (s.wrap c.dev) (s.now c.dev) tr
        let r' : JobRec := { r.next with round := 3, acked := [], t0 := t }
        (((s.accept c 0x65 gid.toNat).setJob c.dev r').jobDown c.dev
          { r'.msg jkResume with instant := packInstant (s.wrap c.dev) t }).ended) := by
  change finish (s.jobResume c gid.toNat gen.toNat tr) = _
  rw [State.jobResume, hjob]
  exact congrArg finish (if_neg (by simp [hst, hround, hstart]))

/-- R142, R149: a job that has not started is aborted, and a round it has open fails (notes/assumptions/69). -/
theorem exec_jobAbort_of_unstarted {c : CmdCtx} {gid : BitVec 24} {gen : BitVec 16} {g : GroupRec} {r : JobRec} {s : State}
    (hjob : s.rootJob c.dev gid.toNat gen.toNat = some (g, r)) (hst : r.state < 3) :
    exec (.jobAbort c gid gen) s =
      .next (((if r.round = 0 then (s.jobDown c.dev (r.msg jkAbort)).setJob c.dev { r with state := 0 }
        else s.roundFail c.dev r 0x51 0).answer c 0x22 0).logCommand c 0x22 0).ended := by
  change finish (s.jobAbort c gid.toNat gen.toNat) = _
  rw [State.jobAbort, hjob]
  exact congrArg finish (if_neg (Nat.not_le.2 hst))

/-- R149: a running job with no teardown under way is torn down, at once or at an instant on the tick grid that lies 20 µs ahead. -/
theorem exec_jobTeardown_of_started {c : CmdCtx} {gid : BitVec 24} {gen : BitVec 16} {at_ : Packed} {g g' : GroupRec} {r : JobRec}
    {s : State} {td : Nat} (hroot : s.rootOf c.dev gid.toNat = some g)
    (hjob : s.rootJob c.dev gid.toNat gen.toNat = some (g', r)) (hst : 3 ≤ r.state) (hlive : r.state ≠ 6)
    (hfirst : (s.cmd c.dev).works.any (fun w => w.opcode == 0x23 && w.tag == gid.toNat) = false)
    (htd : (if at_ = 0 then 0 else unpackInstant (s.wrap c.dev) (s.now c.dev) at_) = td)
    (hahead : at_ ≠ 0 → onTick td = true ∧ s.now c.dev + usSub 20 ≤ td) :
    exec (.jobTeardown c gid gen at_) s = .next ((s.accept c 0x23 gid.toNat).tear c.dev r td 1).ended := by
  have hinstant : ¬(at_ ≠ 0 ∧ ((!onTick td) = true ∨ td < s.now c.dev + usSub 20)) := by
    rintro ⟨hat, hbad⟩
    obtain ⟨htick, hlead⟩ := hahead hat
    simp [htick, Nat.not_lt.2 hlead] at hbad
  have hadmitted : ¬(r.state < 3 ∨ (s.cmd c.dev).works.any (fun w => w.opcode == 0x23 && w.tag == gid.toNat) = true ∨
      (at_ ≠ 0 ∧ ((!onTick td) = true ∨ td < s.now c.dev + usSub 20))) :=
    not_or.2 ⟨Nat.not_lt.2 hst, not_or.2 ⟨Bool.eq_false_iff.1 hfirst, hinstant⟩⟩
  subst htd
  change finish (s.jobTeardown c gid.toNat gen.toNat at_) = _
  rw [State.jobTeardown, hroot, hjob]
  exact congrArg finish ((if_neg hadmitted).trans (if_neg fun h => hlive h.1))

theorem exec_jobStatus_of_root {c : CmdCtx} {gid : BitVec 24} {g : GroupRec} {s : State} (hroot : s.rootOf c.dev gid.toNat = some g) :
    ∃ bs, exec (.jobStatus c gid) s = .next ((s.answer c 0x24 0 bs).logCommand c 0x24 0).ended := by
  change ∃ bs, finish (s.jobStatus c gid.toNat) = _
  rw [State.jobStatus, hroot]
  exact ⟨_, rfl⟩

/-- R293: a running job is paused at an instant on the tick grid that lies 50 µs ahead, or at the latest deferral sent. -/
theorem exec_jobPause_of_running {c : CmdCtx} {gid : BitVec 24} {gen : BitVec 16} {at_ : Packed} {g : GroupRec} {r : JobRec} {s : State}
    (hjob : s.rootJob c.dev gid.toNat gen.toNat = some (g, r)) (hst : r.state = 4)
    (htick : onTick (unpackInstant (s.wrap c.dev) (s.now c.dev) at_) = true)
    (hlead : s.now c.dev + usSub 50 ≤ unpackInstant (s.wrap c.dev) (s.now c.dev) at_) :
    exec (.jobPause c gid gen at_) s =
      .next (let a := r.defers.foldl (fun a x => max a x.1) (unpackInstant (s.wrap c.dev) (s.now c.dev) at_)
        let r' : JobRec := { r.next with pauseAt := some a, gathers := [] }
        (((s.accept c 0x64 gid.toNat).setJob c.dev r').jobDown c.dev
          { r'.msg jkPause with instant := packInstant (s.wrap c.dev) a }).ended) := by
  change finish (s.jobPause c gid.toNat gen.toNat at_) = _
  rw [State.jobPause, hjob]
  exact congrArg finish (if_neg (by simp [hst, htick, hlead]))

/-- R153: a read of LK_STEP_LO captures the step registers first. -/
theorem exec_stepLoRead_of_reaches {s : State} (h : s.reaches 0 0x2008) :
    exec .stepLoRead s =
      .next ((s.hostReq .lotik).captureStep.emit
        (.bus .lotik (BitVec.ofNat 64 ((s.hostReq .lotik).captureStep.get R.LK_STEP_LO_STEP_LO)))) := by
  have hdev : spDev 0 = .lotik := rfl
  change execStepLoRead s = _
  rw [execStepLoRead, State.viaRead_of_reaches 4 h, hdev]

/-- Settles O26: each command finds its group or its job's record at the root, and its operands pass each test. -/
theorem jobCommandsComplete : Obligations.JobCommandsComplete := by
  refine ⟨fun _ _ _ _ _ _ _ _ _ => exec_jobArm_of_admitted, fun _ _ _ _ _ _ _ => exec_jobCommit_of_armed,
    fun _ _ _ _ _ _ hjob hst hround => ?_, fun _ _ _ _ _ _ hjob hst hround => ?_,
    fun _ _ _ _ _ _ _ hroot hjob hst hlive hfirst =>
      exec_jobTeardown_of_started hroot hjob hst hlive hfirst (if_pos rfl) fun h => absurd rfl h,
    fun _ _ _ _ _ _ _ _ hroot hjob hst hlive hat hfirst htick hlead =>
      exec_jobTeardown_of_started hroot hjob hst hlive hfirst (if_neg hat) fun _ => ⟨htick, hlead⟩,
    fun _ _ _ _ => exec_jobStatus_of_root, fun _ _ hdev => finish_ite_neg (by simp [hdev]),
    fun _ => exec_stepLoRead_of_reaches, fun _ _ _ _ _ _ _ => exec_jobPause_of_running,
    fun _ _ _ _ _ _ _ => exec_jobResume_of_paused⟩
  · exact (exec_jobAbort_of_unstarted hjob hst).trans (by rw [if_pos hround])
  · exact (exec_jobAbort_of_unstarted hjob hst).trans (by rw [if_neg hround])

-- The remaining edges and events of a die (R141, R240, R249, R254, R263, R317, R340).

/-- R249: a region in LOR with no rejoin chosen takes the next free tick. -/
theorem exec_lorReferenceValid_of_lor {r : Fin 64} {s : State} (hst : s.regState r = 2) (hfree : (s.region r).lorStuck = false)
    (hnone : (s.region r).rejoinAt = none) :
    exec (.lorReferenceValid r) s =
      .next (s.setRegion r { s.region r with
        rejoinAt := some (freeTick s.freqLead false s.lk.cs.sched s.lk.cs.sched.length (s.now .lotik + s.freqLead)) }) :=
  next_ite_pos ⟨hst, by simp [hfree], hnone⟩

/-- R240: an edge that reaches a live region is counted, unless it is the one that stops it. -/
theorem exec_regionClockEdge_of_live {r : Fin 64} {t : Nat} {codes : Word} {writes : List (Fin 64 × BitVec 64)} {reads : List (Fin 64)}
    {s : State} (hr : r.val < s.nr) (hlive : s.regState r ≠ 4) (hcool : s.getB R.LK_PG_STAT_TRIPPED = false)
    (hgoes : (s.edgeStage r).regState r ≠ 4) :
    exec (.regionClockEdge r t codes writes reads) s = .next ((s.edgeStage r).edgeCount r t codes writes reads) :=
  (next_ite_neg (by simp [hr, hlive, hcool])).trans (next_ite_neg hgoes)

/-- R340: an entry whose coalescing is over and that has gone out goes out again where others were joined to it. -/
theorem exec_logCoalesceEnd_of_sent {seq : Word} {e : LogEntry} {s : State}
    (hfound : (s.log .lotik).entries.find? (fun x => x.seq == seq.toNat) = some e)
    (hclosed : (s.log .lotik).open_ (s.now .lotik) e = false) (hsent : e.sent = true) :
    exec (.logCoalesceEnd seq) s =
      .next (let u := if e.coalesced then s.forward e else s
        (u.setLog .lotik ((u.log .lotik).markSent seq.toNat false)).spillNext).ended := by
  change execLogCoalesceEnd seq s = _
  simp only [execLogCoalesceEnd, hfound, hclosed, hsent, Bool.not_true, Bool.false_eq_true, if_false, finish_eq_next_ended]

/-- Settles O48: each command's guard is met; a light's return changes nothing by definition. -/
theorem dieEventsComplete : Obligations.DieEventsComplete :=
  ⟨fun _ _ hheld hdue => finish_ite_pos ⟨hheld, hdue⟩, fun _ _ => exec_lorReferenceValid_of_lor,
    fun _ _ hdet hended => next_ite_neg (by simp [hdet, hended]),
    fun _ _ _ _ _ _ => exec_regionClockEdge_of_live, fun _ _ _ hr => next_ite_neg (Nat.not_le.2 hr),
    fun _ _ _ => exec_logCoalesceEnd_of_sent, fun _ _ => rfl⟩

end Sys2Proof.Machine

/-! Settles the family of groups and barriers (spec/08_groups_and_barriers.md R188 to R215): the queues and the timers, the group messages
at a Verard and at a Lotik, and the commands of groups and of queues. -/

namespace Sys2Proof.Machine

open Sys2Proof

-- Queues, credit and timers (R193 to R208).

/-- A command that does nothing unless a test is met has its effect where the test is met. -/
theorem finish_ite_not_pos {b : Bool} {s t : State} (h : b = true) : finish (if !b then s else t) = .next t.ended :=
  finish_ite_neg (by simp [h])

/-- Settles O30: a host write reaches its register, credit comes by a way that is up, and a fetch or a timer is its effect by
definition. -/
theorem queuesAndGroupTimersComplete : Obligations.QueuesAndGroupTimersComplete :=
  ⟨fun _ _ _ h => finish_viaBus_of_reaches h _, fun _ _ _ _ => rfl, fun _ _ _ h => finish_viaBus_of_reaches h _,
    fun _ _ _ h => finish_viaBus_of_reaches h _, fun _ _ _ _ _ _ _ => finish_ite_not_pos, fun _ _ _ _ _ _ _ => finish_ite_not_pos,
    fun _ _ _ _ _ _ => finish_ite_not_pos, fun _ _ _ _ _ _ => finish_ite_not_pos, fun _ _ => rfl, fun _ _ => rfl, fun _ _ => rfl,
    fun _ _ => rfl⟩

-- A group message on its way (R202, R210).

theorem State.grpRx_of_known {p : Path} {m : GroupMsg} {kind : Nat} (s : State) (hkind : m.kind.toNat < 0x2C) :
    s.grpRx p m kind = s.treeRx p (.grp (m.as kind)) := by
  rw [State.grpRx, if_neg (Nat.not_le.2 hkind)]
  rfl

/-- A group message that a Lotik hears is taken by its group unit. -/
theorem State.grpRx_lotik_of_hears {p : Path} {m : GroupMsg} {kind : Nat} {s : State} (hdev : pathDev p = .lotik)
    (hkind : m.kind.toNat < 0x2C) (hhears : s.hears p (.grp (m.as kind))) :
    s.grpRx p m kind = (s.heard p (.grp (m.as kind))).lotikGrp p (m.as kind) := by
  obtain ⟨hup, hserves, hwire, hknown, hua⟩ := hhears
  rw [State.grpRx_of_known s hkind, State.treeRx, if_neg (by simp [hup, hserves]), if_neg (by simp [hwire, hknown]),
    if_neg (by simp [hua]), State.heard, hdev]

/-- A group message that a Verard hears is taken by its group unit, past the engine. -/
theorem State.grpRx_verard_of_hears {p : Path} {m : GroupMsg} {kind : Nat} {s : State} (hdev : pathDev p = .verard)
    (hkind : m.kind.toNat < 0x2C) (hhears : s.hears p (.grp (m.as kind))) :
    s.grpRx p m kind = (s.heard p (.grp (m.as kind))).vdGrp (m.as kind) (some p) := by
  obtain ⟨hup, hserves, hwire, hknown, hua⟩ := hhears
  rw [State.grpRx_of_known s hkind, State.treeRx, if_neg (by simp [hup, hserves]), if_neg (by simp [hwire, hknown]),
    if_neg (by simp [hua]), State.heard, hdev]

/-- R51, R202: a damaged frame, or one of a reserved KIND, is discarded and counted, whichever row takes it. -/
theorem finish_grpRx_of_bad {p : Path} {m : GroupMsg} {kind : Nat} {s : State} (hup : s.pathUp p = true)
    (hserves : s.serves (pathDev p) = true) (hbad : m.wire ≠ .good ∨ 0x2C ≤ m.kind.toNat) :
    finish (s.grpRx p m kind) = .next (s.frameDrop p).ended := by
  refine congrArg finish ((if_neg (by simp [hup, hserves])).trans (if_pos (hbad.imp_right fun hreserved => ?_)))
  have hrange : ¬m.kind.toNat ≤ 0x10 ∧ ¬m.kind.toNat ≤ 0x2B := by omega
  simp [treeKind, knownKind, hreserved, hrange]

-- What a Verard does with a group message it hears (R188 to R192, R198, R208).

theorem State.vdGrp_path {m : GroupMsg} {a : Option Path} {u : State} (hkind : m.kind.toNat = 0x25) : u.vdGrp m a = u.vdPath m a :=
  if_pos hkind

theorem State.vdGrp_bind {m : GroupMsg} {a : Option Path} {u : State} (hkind : m.kind.toNat = 0x26) : u.vdGrp m a = u.vdBind m a := by
  simp [State.vdGrp, hkind]

theorem State.vdGrp_bindAck {m : GroupMsg} {a : Option Path} {u : State} (hkind : m.kind.toNat = 0x27) :
    u.vdGrp m a = u.nodeAck .verard m a := by
  simp [State.vdGrp, hkind]

theorem State.vdGrp_renew {m : GroupMsg} {a : Option Path} {u : State} (hkind : m.kind.toNat = 0x29) : u.vdGrp m a = u.vdRenew m a := by
  simp [State.vdGrp, hkind]

theorem State.vdGrp_unbind {m : GroupMsg} {a : Option Path} {u : State} (hkind : m.kind.toNat = 0x2A) : u.vdGrp m a = u.vdUnbind m a := by
  simp [State.vdGrp, hkind]

/-- A message about an operation of the group's own generation, where the Verard counts for the group. -/
theorem State.vdGrp_contribution {m : GroupMsg} {a : Option Path} {u : State} (hkind : m.kind.toNat = 0x20 ∨ m.kind.toNat = 0x21)
    (hgen : u.gens .verard m = true) (hcounts : (u.group .verard m.gid.toNat).counts = true) :
    u.vdGrp m a = u.contribution .verard m a := by
  rcases hkind with hkind | hkind <;> simp [State.vdGrp, hkind, hgen, hcounts]

theorem State.vdGrp_fault {m : GroupMsg} {a : Option Path} {u : State} (hkind : m.kind.toNat = 0x24)
    (hgen : u.gens .verard m = true) (hcounts : (u.group .verard m.gid.toNat).counts = true) :
    u.vdGrp m a = u.nodeFault .verard m.gid.toNat m.oseq m.op.toNat m.cause.toNat m.src.toNat a := by
  simp [State.vdGrp, hkind, hgen, hcounts]

theorem State.vdGrp_passEnd {m : GroupMsg} {a : Option Path} {u : State} (hkind : m.kind.toNat = 0x22 ∨ m.kind.toNat = 0x23)
    (hgen : u.gens .verard m = true) (hcounts : (u.group .verard m.gid.toNat).counts = true)
    (hrole : (u.group .verard m.gid.toNat).role ≠ 0) : u.vdGrp m a = u.passEnd .verard m a := by
  rcases hkind with hkind | hkind <;> simp [State.vdGrp, hkind, hgen, hcounts, hrole]

/-- The rows of the opcode table for group messages that the tree carries. -/
def groupRows : List (Nat × (Path → GroupMsg → Instr)) :=
  [(0x20, Instr.arriveRx), (0x21, .partialRx), (0x22, .completeRx), (0x23, .resultRx), (0x24, .faultRx), (0x25, .pathRx),
    (0x26, .bind), (0x27, .bindAck), (0x29, .renewRx), (0x2A, .unbind)]

theorem exec_of_mem_groupRows (p : Path) (m : GroupMsg) (s : State) :
    ∀ k ∈ groupRows, exec (k.2 p m) s = finish (s.grpRx p m k.1) :=
  List.forall_iff_forall_mem.1 ⟨rfl, rfl, rfl, rfl, rfl, rfl, rfl, rfl, rfl, rfl⟩

/-- R313: a package's QUIET at its pod Verard, of a group the Verard does not hold or of the generation it holds. -/
theorem exec_quiet_of_hears {n : Fin 64} {m : GroupMsg} {start : Packed} {window : Word} {s : State} (hbody : m.body = .quiet start window)
    (hkind : m.kind.toNat < 0x2C) (hhears : s.hears (.port (.down n)) (.grp (m.as 0x2B)))
    (hgen : ((s.absorbed (.port (.down n)) (.grp (m.as 0x2B))).group .verard m.gid.toNat).state = 0 ∨
      (s.absorbed (.port (.down n)) (.grp (m.as 0x2B))).gens .verard m = true) :
    exec (.quiet (.port (.down n)) m) s =
      .next ((s.absorbed (.port (.down n)) (.grp (m.as 0x2B))).quietTake n.val start window m).ended := by
  obtain ⟨hup, hserves, hwire, -, hua⟩ := hhears
  have hwhole : ¬(m.wire ≠ .good ∨ 0x2C ≤ m.kind.toNat) := not_or.2 ⟨not_not.2 hwire, Nat.not_le.2 hkind⟩
  cases m
  cases hbody
  change execQuiet _ _ s = _
  rw [execQuiet, if_neg (by simp [hup, hserves]), if_neg hwhole, if_neg (by simp [hua])]
  refine finish_ite_neg ?_
  rintro ⟨-, hheld, hstale⟩
  exact hgen.elim hheld (Bool.eq_false_iff.1 (Bool.eq_false_of_not_eq_true' hstale))

/-- Settles O31: a message heard reaches the group unit of its part, where at a Verard its kind selects its effect; a damaged frame
reaches neither, and QUIET is the optical unit's. -/
theorem groupMessagesComplete : Obligations.GroupMessagesComplete := by
  refine ⟨fun p m s hdev hkind => ?_, fun p m s hdev hkind k hk hhears => ?_, fun p m s hup hserves hbad => ?_,
    fun _ _ _ _ _ hbody hkind => exec_quiet_of_hears hbody hkind⟩
  · have heard {kind : Nat} {t : State} (hhears : s.hears p (.grp (m.as kind)))
        (heffect : (s.heard p (.grp (m.as kind))).vdGrp (m.as kind) (some p) = t) : finish (s.grpRx p m kind) = .next t.ended :=
      congrArg finish ((State.grpRx_verard_of_hears hdev hkind hhears).trans heffect)
    exact ⟨fun hhears hgen hcounts => heard hhears (State.vdGrp_contribution (.inl rfl) hgen hcounts),
      fun hhears hgen hcounts => heard hhears (State.vdGrp_contribution (.inr rfl) hgen hcounts),
      fun hhears hgen hcounts => heard hhears (State.vdGrp_fault rfl hgen hcounts),
      fun hhears => heard hhears (State.vdGrp_path rfl), fun hhears => heard hhears (State.vdGrp_bind rfl),
      fun hhears => heard hhears (State.vdGrp_bindAck rfl), fun hhears => heard hhears (State.vdGrp_renew rfl),
      fun hhears => heard hhears (State.vdGrp_unbind rfl),
      fun hhears hgen hcounts hrole => heard hhears (State.vdGrp_passEnd (.inl rfl) hgen hcounts hrole),
      fun hhears hgen hcounts hrole => heard hhears (State.vdGrp_passEnd (.inr rfl) hgen hcounts hrole)⟩
  · rw [exec_of_mem_groupRows p m s k hk, State.grpRx_lotik_of_hears hdev hkind hhears, finish_eq_next_ended]
  · exact ⟨finish_grpRx_of_bad hup hserves hbad, finish_grpRx_of_bad hup hserves hbad⟩

-- The group commands at the top node (R190 to R192, R215).

/-- R190: a FREE GID becomes a group that is BUILDING, where the top node has room for one more. -/
theorem exec_groupCreate_of_free {c : CmdCtx} {gid : BitVec 24} {scope acc maxElems depth : Byte} {limitMs : BitVec 16} {s : State}
    (hgid : gid.toNat < 2 ^ 18) (htop : s.topFor c.dev scope.toNat = true) (hacc : acc.toNat ≤ 1) (helems : 1 ≤ maxElems.toNat)
    (hmax : maxElems.toNat ≤ 16) (hdepth : 1 ≤ depth.toNat) (hdeep : depth.toNat ≤ 4) (hfree : (s.group c.dev gid.toNat).state = 0)
    (hround : (s.group c.dev gid.toNat).round = none)
    (hroom : ((s.tree c.dev).groups.filter (fun x => x.2.role == 0 && (x.2.state == 1 || x.2.state == 2))).length < 16) :
    exec (.groupCreate c gid scope acc maxElems depth limitMs) s =
      .next ((((s.setGroup c.dev gid.toNat
        { state := 1, top := s.ua c.dev, scope := scope.toNat, acc := acc.toNat, maxElems := maxElems.toNat, depth := depth.toNat,
          limitMs := limitMs.toNat, gen := (s.group c.dev gid.toNat).gen,
          stale := (s.group c.dev gid.toNat).stale }).showGroups c.dev).answer c 0x40 0
        (leBytes 2 (s.group c.dev gid.toNat).gen)).logCommand c 0x40 0).ended := by
  have hoperands : ¬(2 ^ 18 ≤ gid.toNat ∨ (!s.topFor c.dev scope.toNat) = true ∨ 1 < acc.toNat ∨ maxElems.toNat = 0 ∨
      16 < maxElems.toNat ∨ depth.toNat = 0 ∨ 4 < depth.toNat) := by
    rw [htop]
    simp only [Bool.not_true, Bool.false_eq_true, false_or]
    omega
  exact congrArg finish ((if_neg hoperands).trans <| (if_neg (by simp [hfree, hround])).trans (if_neg (Nat.not_le.2 hroom)))

/-- R190: packages inside the scope join a group that is BUILDING. -/
theorem exec_groupAdd_of_building {c : CmdCtx} {gid : BitVec 24} {gen : BitVec 16} {entries : List DWord} {g : GroupRec} {s : State}
    (htop : s.topGroup c.dev gid.toNat gen.toNat = (g, 0)) (hst : g.state = 1) (hfew : entries.length ≤ 500)
    (hinside : ∀ e ∈ entries, bits e.toNat 20 12 = 0 ∧ s.inScope c.dev g.scope (bits e.toNat 0 20) = true) :
    exec (.groupAdd c gid gen entries) s =
      .next (let ms := mergeAcks g.members (entries.map (fun e => (bits e.toNat 0 20, bits e.toNat 32 32)))
        ((s.setGroup c.dev gid.toNat { g with members := ms }).answer c 0x41 0 (leBytes 4 (dieCount ms))).logCommand c 0x41 0).ended := by
  have hall : entries.all (fun e => bits e.toNat 20 12 == 0 && s.inScope c.dev g.scope (bits e.toNat 0 20)) = true := by
    simpa using hinside
  change finish (s.groupAdd c gid.toNat gen.toNat entries) = _
  rw [State.groupAdd, htop]
  exact congrArg finish ((if_neg (not_not.2 rfl)).trans <| (if_neg (not_not.2 hst)).trans <|
    if_neg (by simp only [hall, Bool.not_true, Bool.false_eq_true, or_false]; exact Nat.not_lt.2 hfew))

/-- R191: at its top node in its generation, only a group that is BUILDING is sealed, and only with a member. -/
theorem exec_groupSeal_of_top {c : CmdCtx} {gid : BitVec 24} {gen : BitVec 16} {g : GroupRec} {s : State}
    (htop : s.topGroup c.dev gid.toNat gen.toNat = (g, 0)) :
    exec (.groupSeal c gid gen) s =
      finish (if g.state ≠ 1 then s.answer c 0x42 0x30 else if dieCount g.members = 0 then s.answer c 0x42 0x11
        else s.sealBegin c gid.toNat g) := by
  change finish (s.groupSeal c gid.toNat gen.toNat) = _
  rw [State.groupSeal, htop]
  exact congrArg finish (if_neg (not_not.2 rfl))

/-- R192: a group with no live job and no open round is renewed or deleted. -/
theorem finish_groupRenew_of_idle {c : CmdCtx} {gid gen : Nat} {delete : Bool} {g : GroupRec} {s : State}
    (htop : s.topGroup c.dev gid gen = (g, 0)) (hst : g.state ≠ 0) (hjob : s.jobLive c.dev gid = false) (hround : g.round = none) :
    finish (s.groupRenew c gid gen delete) = .next (s.renewBegin c gid g delete).ended := by
  rw [State.groupRenew, htop]
  exact congrArg finish ((if_neg (not_not.2 rfl)).trans <| (if_neg hst).trans (if_neg (by simp [hjob, hround])))

theorem exec_groupStatus_of_top {c : CmdCtx} {gid : BitVec 24} {s : State} (hgid : gid.toNat < 2 ^ 18)
    (hheld : (s.group c.dev gid.toNat).state ≠ 0) (htop : s.topFor c.dev (s.group c.dev gid.toNat).scope = true)
    (hrole : c.dev = .verard → (s.group c.dev gid.toNat).role = 0) :
    ∃ bs, exec (.groupStatus c gid) s = .next ((s.answer c 0x45 0 bs).logCommand c 0x45 0).ended :=
  ⟨_, finish_ite_neg (not_or.2 ⟨Nat.not_le.2 hgid, by simpa [hheld, htop] using hrole⟩)⟩

/-- Settles O32: each command finds its group at the top node, and its operands pass each test. -/
theorem groupCommandsComplete : Obligations.GroupCommandsComplete :=
  ⟨fun _ _ _ _ _ _ _ _ => exec_groupCreate_of_free, fun _ _ _ _ _ _ => exec_groupAdd_of_building,
    fun _ _ _ _ _ htop hst => (exec_groupSeal_of_top htop).trans (finish_ite_pos hst),
    fun _ _ _ _ _ htop hst hmembers =>
      (exec_groupSeal_of_top htop).trans (congrArg finish ((if_neg (not_not.2 hst)).trans (if_neg hmembers))),
    fun _ _ _ _ _ => finish_groupRenew_of_idle, fun _ _ _ _ _ => finish_groupRenew_of_idle,
    fun _ _ _ => exec_groupStatus_of_top⟩

-- The queue commands (R193, R215, R235).

/-- R193: a Lotik that is not expelled binds a queue that is free. -/
theorem exec_gqBind_of_free {c : CmdCtx} {queue : BitVec 16} {gid : BitVec 24} {gen : BitVec 16} {sq cq : DWord}
    {sqLog2 cqLog2 irqEn : Byte} {s : State} (hdev : c.dev = .lotik) (hin : s.expelled = false) (hqueue : queue.toNat < 4096)
    (hsq : sq.toNat % 256 = 0) (hcq : cq.toNat % 256 = 0) (hgid : gid.toNat < 2 ^ 18) (hgen : gen.toNat < 2 ^ 14)
    (hirq : irqEn.toNat ≤ 1) (hfree : (s.queue queue.toNat).enable = false) :
    exec (.gqBind c queue gid gen sq sqLog2 cq cqLog2 irqEn) s =
      .next (s.gqBind c queue.toNat gid gen sq sqLog2 cq cqLog2 irqEn).ended :=
  congrArg finish ((if_neg (by simp [hdev])).trans <| (if_neg (by simp [hin])).trans <| (if_neg (by omega)).trans <|
    if_neg (by simp [hfree]))

/-- R215: a queue command at a Lotik names one of its 4096 queues. -/
theorem finish_queueCmd_of_lotik {c : CmdCtx} {queue : BitVec 16} {op : Byte} {s t : State} (hdev : c.dev = .lotik)
    (hqueue : queue.toNat < 4096) :
    finish (if c.dev = .verard then s.answer c op 0x10 else if 4096 ≤ queue.toNat then s.answer c op 0x11 else t) = .next t.ended :=
  congrArg finish ((if_neg (by simp [hdev])).trans (if_neg (Nat.not_le.2 hqueue)))

/-- R209: a queue that is enabled is disabled, and the operations it had without a result are counted. -/
theorem exec_gqUnbind_of_enabled {c : CmdCtx} {queue : BitVec 16} {s : State} (hdev : c.dev = .lotik) (hqueue : queue.toNat < 4096)
    (henable : (s.queue queue.toNat).enable = true) :
    exec (.gqUnbind c queue) s =
      .next (((s.disableQueue queue.toNat).answer c 0x47 0
        (leBytes 1 ((s.queue queue.toNat).ops.filter (fun o => o.res.isNone)).length)).logCommand c 0x47 0).ended := by
  refine (finish_queueCmd_of_lotik hdev hqueue).trans ?_
  rw [if_pos henable]

/-- R235: a Verard reads a slot's entry of a group that has a Basin there. -/
theorem exec_groupBasin_of_reserved {c : CmdCtx} {gid : BitVec 24} {slot : Byte} {s : State} (hdev : c.dev = .verard)
    (hslot : slot.toNat ≤ 3) (hgid : gid.toNat < 2 ^ 18) (hbasin : (s.group .verard gid.toNat).basin ≠ 0) :
    exec (.groupBasin c gid slot) s = .next (s.groupBasin c gid slot).ended :=
  congrArg finish ((if_neg (by simp [hdev])).trans (if_neg (by omega)))

/-- Settles O33: each command is at its part, and its operands pass each test; a queue's ring sizes are the bind's own to test. -/
theorem queueCommandsComplete : Obligations.QueueCommandsComplete :=
  ⟨fun _ _ _ _ _ _ _ _ _ _ hdev hin hqueue hsq hcq hgid hgen hirq hfree _ _ _ _ =>
      exec_gqBind_of_free hdev hin hqueue hsq hcq hgid hgen hirq hfree,
    fun _ _ _ => exec_gqUnbind_of_enabled, fun _ _ _ => finish_queueCmd_of_lotik, fun _ _ _ _ => exec_groupBasin_of_reserved⟩

end Sys2Proof.Machine

/-! Settles the family of the exact reduction (spec/09_exact_reduction.md R216 to R235): the combination of elements is associative, and
commutative on what members contribute, and TOP's results for the integer types. -/

namespace Sys2Proof.Machine

open Sys2Proof

-- Elements and their flags (R218).

theorem Elem.eq_of_fields {a b : Elem} (hv : a.v = b.v) (hkey : a.key = b.key) (hidx : a.idx = b.idx) (hflags : a.flags = b.flags) :
    a = b := by
  cases a; cases b; simp_all

/-- An element with its flags replaced. -/
def Elem.withFlags (e : Elem) (f : Nat) : Elem := { e with flags := f }

@[simp] theorem Elem.withFlags_v (e : Elem) (f : Nat) : (e.withFlags f).v = e.v := rfl
@[simp] theorem Elem.withFlags_key (e : Elem) (f : Nat) : (e.withFlags f).key = e.key := rfl
@[simp] theorem Elem.withFlags_idx (e : Elem) (f : Nat) : (e.withFlags f).idx = e.idx := rfl
@[simp] theorem Elem.withFlags_flags (e : Elem) (f : Nat) : (e.withFlags f).flags = f := rfl
@[simp] theorem Elem.withFlags_withFlags (e : Elem) (f g : Nat) : (e.withFlags f).withFlags g = e.withFlags g := rfl

theorem Elem.withFlags_congr {a b : Elem} (hv : a.v = b.v) (hkey : a.key = b.key) (hidx : a.idx = b.idx) (f : Nat) :
    a.withFlags f = b.withFlags f :=
  Elem.eq_of_fields hv hkey hidx rfl

/-- R218: whether an element of an operation other than a sum holds a key or value. -/
def Elem.Held (e : Elem) : Prop := e.flags.testBit 4 = true

theorem Elem.held_iff {e : Elem} : e.Held ↔ e.flags.testBit 4 = true := Iff.rfl

theorem Elem.not_held_iff {e : Elem} : ¬ e.Held ↔ e.flags.testBit 4 = false := by rw [held_iff, Bool.not_eq_true]

theorem Elem.held_of_flags {e : Elem} (h : e.flags = 16) : e.Held := by
  rw [held_iff, h]; rfl

-- The order in which a keyed operation prefers its elements (R225).

/-- R225: whether a keyed operation keeps the first of two elements that hold keys: the smaller key for MIN and MINLOC, the larger for MAX
and MAXLOC, and the smaller index among equal keys. -/
def Elem.before (op : Nat) (a b : Elem) : Bool :=
  decide (if op = 3 ∨ op = 8 then a.key < b.key ∨ a.key = b.key ∧ a.idx ≤ b.idx else b.key < a.key ∨ a.key = b.key ∧ a.idx ≤ b.idx)

theorem Elem.before_iff {op : Nat} {a b : Elem} : a.before op b ↔
    if op = 3 ∨ op = 8 then a.key < b.key ∨ a.key = b.key ∧ a.idx ≤ b.idx else b.key < a.key ∨ a.key = b.key ∧ a.idx ≤ b.idx :=
  decide_eq_true_iff

@[simp] theorem Elem.before_withFlags_left (op f : Nat) (a b : Elem) : (a.withFlags f).before op b = a.before op b := rfl

@[simp] theorem Elem.before_withFlags_right (op f : Nat) (a b : Elem) : a.before op (b.withFlags f) = a.before op b := rfl

theorem Elem.before_total (op : Nat) (a b : Elem) : a.before op b ∨ b.before op a := by
  simp only [before_iff]; split <;> omega

theorem Elem.before_trans {op : Nat} {a b c : Elem} : a.before op b → b.before op c → a.before op c := by
  simp only [before_iff]; split <;> omega

theorem Elem.before_antisymm {op : Nat} {a b : Elem} : a.before op b → b.before op a → a.key = b.key ∧ a.idx = b.idx := by
  simp only [before_iff]; split <;> omega

-- What combining two elements answers (R225).

theorem Elem.combine_of_sum {op : Nat} (hop : isSum op = true) (a b : Elem) :
    Elem.combine op a b = { v := a.v + b.v, flags := a.flags ||| b.flags } :=
  if_pos hop

theorem Elem.combine_of_not_held {op : Nat} {a : Elem} (hop : isSum op = false) (ha : ¬ a.Held) (b : Elem) :
    Elem.combine op a b = b.withFlags (a.flags ||| b.flags) :=
  (if_neg (ne_true_of_eq_false hop)).trans <| (if_neg fun h => ha (Bool.and_eq_true_iff.1 h).1).trans (if_neg ha)

theorem Elem.combine_of_held_left {op : Nat} {a b : Elem} (hop : isSum op = false) (ha : a.Held) (hb : ¬ b.Held) :
    Elem.combine op a b = a.withFlags (a.flags ||| b.flags) :=
  (if_neg (ne_true_of_eq_false hop)).trans <| (if_neg fun h => hb (Bool.and_eq_true_iff.1 h).2).trans (if_pos ha)

theorem Elem.combine_of_keyed {op : Nat} {a b : Elem} (hop : isSum op = false) (hkey : isKeyed op = true) (ha : a.Held) (hb : b.Held) :
    Elem.combine op a b = (if a.before op b then a else b).withFlags (a.flags ||| b.flags) := by
  refine (if_neg (ne_true_of_eq_false hop)).trans <| (if_pos (Bool.and_eq_true_iff.2 ⟨ha, hb⟩)).trans <| (if_pos hkey).trans ?_
  refine congrArg (fun e : Elem => e.withFlags (a.flags ||| b.flags)) (if_congr ?_ rfl rfl)
  rw [before_iff]
  split <;> simp only [Bool.or_eq_true, Bool.and_eq_true, decide_eq_true_eq, beq_iff_eq]

/-- R225: AND, OR or XOR of two values. -/
def bitOp (op x y : Nat) : Nat := if op = 5 then x &&& y else if op = 6 then x ||| y else x ^^^ y

theorem bitOp_comm (op x y : Nat) : bitOp op x y = bitOp op y x :=
  if_congr Iff.rfl (Nat.and_comm x y) (if_congr Iff.rfl (Nat.or_comm x y) (Nat.xor_comm x y))

theorem bitOp_assoc (op x y z : Nat) : bitOp op (bitOp op x y) z = bitOp op x (bitOp op y z) := by
  by_cases h5 : op = 5
  · subst h5
    exact Nat.and_assoc x y z
  · by_cases h6 : op = 6
    · subst h6
      exact Nat.or_assoc x y z
    · have hxor (m n : Nat) : bitOp op m n = m ^^^ n := (if_neg h5).trans (if_neg h6)
      simp only [hxor, Nat.xor_assoc]

theorem Elem.combine_of_bitwise {op : Nat} {a b : Elem} (hop : isSum op = false) (hkey : isKeyed op = false) (ha : a.Held) (hb : b.Held) :
    Elem.combine op a b = { key := bitOp op a.key b.key, flags := a.flags ||| b.flags } :=
  (if_neg (ne_true_of_eq_false hop)).trans <| (if_pos (Bool.and_eq_true_iff.2 ⟨ha, hb⟩)).trans (if_neg (ne_true_of_eq_false hkey))

@[simp] theorem Elem.combine_flags (op : Nat) (a b : Elem) : (Elem.combine op a b).flags = a.flags ||| b.flags := by
  cases hop : isSum op with
  | true => rw [combine_of_sum hop]
  | false =>
    by_cases ha : a.Held
    · by_cases hb : b.Held
      · cases hkey : isKeyed op with
        | true => rw [combine_of_keyed hop hkey ha hb, withFlags_flags]
        | false => rw [combine_of_bitwise hop hkey ha hb]
      · rw [combine_of_held_left hop ha hb, withFlags_flags]
    · rw [combine_of_not_held hop ha, withFlags_flags]

theorem Elem.held_combine {op : Nat} {a b : Elem} : (Elem.combine op a b).Held ↔ a.Held ∨ b.Held := by
  simp [Elem.held_iff]

-- Combining is associative (R232): of the elements that hold a key it keeps the first in order, and the bitwise operations are associative.

theorem Elem.combine_assoc_of_keyed {op : Nat} {a b c : Elem} (hop : isSum op = false) (hkey : isKeyed op = true)
    (ha : a.Held) (hb : b.Held) (hc : c.Held) :
    Elem.combine op (Elem.combine op a b) c = Elem.combine op a (Elem.combine op b c) := by
  rw [combine_of_keyed hop hkey (held_combine.2 (.inl ha)) hc, combine_of_keyed hop hkey ha (held_combine.2 (.inl hb)),
    combine_of_keyed hop hkey ha hb, combine_of_keyed hop hkey hb hc]
  by_cases hab : a.before op b <;> by_cases hbc : b.before op c
  · have hac : a.before op c := before_trans hab hbc
    simp [hab, hbc, hac, Nat.or_assoc]
  · by_cases hac : a.before op c <;> simp [hab, hbc, hac, Nat.or_assoc]
  · simp [hab, hbc, Nat.or_assoc]
  · have hac : ¬ a.before op c := fun h => hab (before_trans h ((before_total op b c).resolve_left hbc))
    simp [hab, hbc, hac, Nat.or_assoc]

theorem Elem.combine_assoc_of_bitwise {op : Nat} {a b c : Elem} (hop : isSum op = false) (hkey : isKeyed op = false)
    (ha : a.Held) (hb : b.Held) (hc : c.Held) :
    Elem.combine op (Elem.combine op a b) c = Elem.combine op a (Elem.combine op b c) := by
  rw [combine_of_bitwise hop hkey (held_combine.2 (.inl ha)) hc, combine_of_bitwise hop hkey ha (held_combine.2 (.inl hb)),
    combine_of_bitwise hop hkey ha hb, combine_of_bitwise hop hkey hb hc]
  simp only [bitOp_assoc, Nat.or_assoc]

/-- Flags of an element that agree on KEY pass through a combination with another. -/
theorem Elem.combine_withFlags {op f g : Nat} {a b : Elem} (ha' : (a.withFlags f).Held ↔ a.Held) (hb' : (b.withFlags g).Held ↔ b.Held) :
    Elem.combine op (a.withFlags f) (b.withFlags g) = (Elem.combine op a b).withFlags (f ||| g) := by
  cases hop : isSum op with
  | true => simp only [combine_of_sum hop]; rfl
  | false =>
    by_cases ha : a.Held
    · by_cases hb : b.Held
      · cases hkey : isKeyed op with
        | true =>
          rw [combine_of_keyed hop hkey (ha'.2 ha) (hb'.2 hb), combine_of_keyed hop hkey ha hb, before_withFlags_left,
            before_withFlags_right]
          split <;> rfl
        | false => rw [combine_of_bitwise hop hkey (ha'.2 ha) (hb'.2 hb), combine_of_bitwise hop hkey ha hb]; rfl
      · rw [combine_of_held_left hop (ha'.2 ha) (mt hb'.1 hb), combine_of_held_left hop ha hb]; rfl
    · rw [combine_of_not_held hop (mt ha'.1 ha), combine_of_not_held hop ha]; rfl

theorem Elem.held_withFlags_or_left {a b : Elem} (ha : ¬ a.Held) : (b.withFlags (a.flags ||| b.flags)).Held ↔ b.Held := by
  simp [held_iff, not_held_iff.1 ha]

theorem Elem.held_withFlags_or_right {a b : Elem} (hb : ¬ b.Held) : (a.withFlags (a.flags ||| b.flags)).Held ↔ a.Held := by
  simp [held_iff, not_held_iff.1 hb]

theorem Elem.combine_assoc (op : Nat) (a b c : Elem) :
    Elem.combine op (Elem.combine op a b) c = Elem.combine op a (Elem.combine op b c) := by
  cases hop : isSum op with
  | true => simp only [combine_of_sum hop, Int.add_assoc, Nat.or_assoc]
  | false =>
    by_cases ha : a.Held
    · by_cases hb : b.Held
      · by_cases hc : c.Held
        · cases hkey : isKeyed op with
          | true => exact combine_assoc_of_keyed hop hkey ha hb hc
          | false => exact combine_assoc_of_bitwise hop hkey ha hb hc
        · rw [combine_of_held_left hop (held_combine.2 (.inl ha)) hc, combine_of_held_left hop hb hc, combine_flags, Nat.or_assoc]
          exact (combine_withFlags Iff.rfl (held_withFlags_or_right hc)).symm
      · rw [combine_of_held_left hop ha hb, combine_of_not_held hop hb c]
        exact (combine_withFlags (b := c) (held_withFlags_or_right hb) Iff.rfl).trans <|
          (congrArg _ (Nat.or_assoc ..)).trans (combine_withFlags (a := a) Iff.rfl (held_withFlags_or_left hb)).symm
    · rw [combine_of_not_held hop ha b, combine_of_not_held hop ha (Elem.combine op b c), combine_flags, ← Nat.or_assoc]
      exact combine_withFlags (b := c) (held_withFlags_or_left ha) Iff.rfl

-- Combining is commutative on canonical elements (R222, R232): two elements neither of which goes first hold the same key and index.

/-- R218, R222: a sum's element holds no key and no index; any other's holds no sum, and a key or index only with KEY. -/
def Elem.Canonical (op : Nat) (e : Elem) : Prop :=
  if isSum op then e.key = 0 ∧ e.idx = 0 else e.v = 0 ∧ (¬ e.Held → e.key = 0 ∧ e.idx = 0)

theorem Elem.canonical_of_sum {op : Nat} {e : Elem} (hop : isSum op = true) : e.Canonical op ↔ e.key = 0 ∧ e.idx = 0 :=
  iff_of_eq (if_pos hop)

theorem Elem.canonical_of_not_sum {op : Nat} {e : Elem} (hop : isSum op = false) :
    e.Canonical op ↔ e.v = 0 ∧ (¬ e.Held → e.key = 0 ∧ e.idx = 0) :=
  iff_of_eq (if_neg (ne_true_of_eq_false hop))

/-- R219: what a member contributes is canonical. -/
theorem canonical_toElem (op ty b idx : Nat) : (toElem op ty b idx).Canonical op := by
  cases hop : isSum op with
  | true =>
    rw [Elem.canonical_of_sum hop, show toElem op ty b idx = _ from if_pos hop]
    dsimp only
    split_ifs <;> exact ⟨rfl, rfl⟩
  | false =>
    rw [Elem.canonical_of_not_sum hop, show toElem op ty b idx = _ from if_neg (ne_true_of_eq_false hop)]
    split_ifs
    · exact ⟨rfl, fun _ => ⟨rfl, rfl⟩⟩
    all_goals exact ⟨rfl, fun hk => absurd (Elem.held_of_flags rfl) hk⟩

theorem Elem.combine_empty {op : Nat} {a : Elem} (ha : a.Canonical op) : Elem.combine op a {} = a := by
  cases hop : isSum op with
  | true =>
    obtain ⟨hkey, hidx⟩ := (canonical_of_sum hop).1 ha
    rw [combine_of_sum hop]
    exact eq_of_fields (Int.add_zero _) hkey.symm hidx.symm (Nat.or_zero _)
  | false =>
    obtain ⟨hv, hnot⟩ := (canonical_of_not_sum hop).1 ha
    have hempty : ¬ ({} : Elem).Held := by simp [Elem.held_iff]
    by_cases hheld : a.Held
    · rw [combine_of_held_left hop hheld hempty]
      exact eq_of_fields rfl rfl rfl (Nat.or_zero _)
    · obtain ⟨hkey, hidx⟩ := hnot hheld
      rw [combine_of_not_held hop hheld]
      exact eq_of_fields hv.symm hkey.symm hidx.symm (Nat.or_zero _)

theorem Elem.combine_comm_of_held {op : Nat} {a b : Elem} (hop : isSum op = false) (hv : a.v = b.v) (ha : a.Held) (hb : b.Held) :
    Elem.combine op a b = Elem.combine op b a := by
  cases hkey : isKeyed op with
  | true =>
    rw [combine_of_keyed hop hkey ha hb, combine_of_keyed hop hkey hb ha, Nat.or_comm]
    by_cases hab : a.before op b <;> by_cases hba : b.before op a
    · obtain ⟨hk, hi⟩ := before_antisymm hab hba
      simp [hab, hba, withFlags_congr hv hk hi]
    · simp [hab, hba]
    · simp [hab, hba]
    · exact absurd (before_total op a b) (not_or.2 ⟨hab, hba⟩)
  | false => rw [combine_of_bitwise hop hkey ha hb, combine_of_bitwise hop hkey hb ha, bitOp_comm, Nat.or_comm]

theorem Elem.combine_comm {op : Nat} {a b : Elem} (ha : a.Canonical op) (hb : b.Canonical op) :
    Elem.combine op a b = Elem.combine op b a := by
  cases hop : isSum op with
  | true => rw [combine_of_sum hop, combine_of_sum hop, Int.add_comm, Nat.or_comm]
  | false =>
    obtain ⟨hva, hnota⟩ := (canonical_of_not_sum hop).1 ha
    obtain ⟨hvb, hnotb⟩ := (canonical_of_not_sum hop).1 hb
    have hv : a.v = b.v := hva.trans hvb.symm
    by_cases hha : a.Held <;> by_cases hhb : b.Held
    · exact combine_comm_of_held hop hv hha hhb
    · rw [combine_of_held_left hop hha hhb, combine_of_not_held hop hhb, Nat.or_comm]
    · rw [combine_of_held_left hop hhb hha, combine_of_not_held hop hha, Nat.or_comm]
    · obtain ⟨hka, hia⟩ := hnota hha
      obtain ⟨hkb, hib⟩ := hnotb hhb
      rw [combine_of_not_held hop hha, combine_of_not_held hop hhb, Nat.or_comm]
      exact withFlags_congr hv.symm (hkb.trans hka.symm) (hib.trans hia.symm) _

/-- R232: two canonical contributions may be taken in either order, whatever comes after them. -/
theorem Elem.combine_left_comm {op : Nat} {a b : Elem} (ha : a.Canonical op) (hb : b.Canonical op) (c : Elem) :
    Elem.combine op a (Elem.combine op b c) = Elem.combine op b (Elem.combine op a c) := by
  rw [← combine_assoc, combine_comm ha hb, combine_assoc]

-- All the inputs of one element (R232).

theorem foldl_combine (op : Nat) (a b : Elem) (es : List Elem) :
    es.foldl (Elem.combine op) (Elem.combine op a b) = Elem.combine op a (es.foldl (Elem.combine op) b) :=
  List.foldl_assoc (ha := ⟨Elem.combine_assoc op⟩)

theorem combineAll_cons (op ty : Nat) (x : Nat × Nat) (xs : List (Nat × Nat)) :
    combineAll op ty (x :: xs) = Elem.combine op (toElem op ty x.1 x.2) (combineAll op ty xs) := by
  cases xs with
  | nil => exact (Elem.combine_empty (canonical_toElem op ty x.1 x.2)).symm
  | cons y ys => exact foldl_combine op _ _ _

theorem combineAll_perm {op ty : Nat} {xs ys : List (Nat × Nat)} (h : xs.Perm ys) : combineAll op ty xs = combineAll op ty ys := by
  induction h with
  | nil => rfl
  | cons x _ ih => rw [combineAll_cons, combineAll_cons, ih]
  | swap x y l =>
    simp only [combineAll_cons]
    exact Elem.combine_left_comm (canonical_toElem op ty y.1 y.2) (canonical_toElem op ty x.1 x.2) _
  | trans _ _ ih₁ ih₂ => exact ih₁.trans ih₂

theorem combineAll_append (op ty : Nat) {xs ys : List (Nat × Nat)} (hxs : xs ≠ []) (hys : ys ≠ []) :
    combineAll op ty (xs ++ ys) = Elem.combine op (combineAll op ty xs) (combineAll op ty ys) := by
  obtain ⟨x, xs, rfl⟩ := List.exists_cons_of_ne_nil hxs
  obtain ⟨y, ys, rfl⟩ := List.exists_cons_of_ne_nil hys
  simp only [combineAll, List.cons_append, List.map_append, List.map_cons, List.foldl_append, List.foldl_cons]
  exact foldl_combine op _ _ _

/-- Settles O57: contributions may be exchanged, because two of them combine to the same in either order, and regrouped, because
combining is associative. -/
theorem reductionIgnoresOrder : Obligations.ReductionIgnoresOrder :=
  ⟨fun _ _ _ _ _ _ => combineAll_perm, fun op ty _ _ _ _ => combineAll_append op ty⟩

-- What TOP delivers for the integer types (R229).

/-- R229: the least value of an integer TYPE. -/
def intMin (ty : Nat) : Int := if ty = 9 then 0 else -(2 ^ (8 * tyBytes ty - 1))

/-- R229: the greatest value of an integer TYPE. -/
def intMax (ty : Nat) : Int := if ty = 9 then 2 ^ (8 * tyBytes ty) - 1 else 2 ^ (8 * tyBytes ty - 1) - 1

theorem natCast_ofSigned (w : Nat) (v : Int) : (ofSigned w v : Int) = v % 2 ^ w := by
  rw [ofSigned, Int.toNat_of_nonneg (Int.emod_nonneg _ (by positivity)), Nat.cast_pow, Nat.cast_ofNat]

theorem four_b2n_outside (lo hi v : Int) : 4 * b2n (decide (v < lo) || decide (hi < v)) = if lo ≤ v ∧ v ≤ hi then 0 else 4 := by
  simp only [b2n, Bool.or_eq_true, decide_eq_true_eq]
  split_ifs <;> omega

/-- R229: an integer sum is clamped for SUM_SAT only, and OVERFLOW says that it lies outside the TYPE's range. -/
theorem finishElem_of_integer_sum {op ty : Nat} (hop : isSum op = true) (hty : isFp ty = false) (mode : Nat) (e : Elem) :
    finishElem op ty mode e =
      (ofSigned (8 * tyBytes ty) (if op = 2 then clampInt (intMin ty) (intMax ty) e.v else e.v),
        if intMin ty ≤ e.v ∧ e.v ≤ intMax ty then 0 else 4, 0) := by
  have hlo : (if ty = 9 then 0 else -((2 ^ (8 * tyBytes ty - 1) : Nat) : Int)) = intMin ty := by simp [intMin]
  have hhi : (if ty = 9 then ((2 ^ (8 * tyBytes ty) - 1 : Nat) : Int) else (2 ^ (8 * tyBytes ty - 1) - 1 : Nat)) = intMax ty := by
    simp [intMax]
  refine ((if_pos hop).trans (if_neg (ne_true_of_eq_false hty))).trans ?_
  simp only [hlo, hhi, four_b2n_outside]

theorem finishElem_of_bitwise {op ty : Nat} (hop : isSum op = false) (hkey : isKeyed op = false) (mode : Nat) (e : Elem) :
    finishElem op ty mode e = (e.key % 2 ^ (8 * tyBytes ty), 0, 0) :=
  (if_neg (ne_true_of_eq_false hop)).trans (if_neg (ne_true_of_eq_false hkey))

/-- Settles O56: a sum is clamped and reduced as the TYPE's width and range say, and a bitwise value is cut to the width. -/
theorem integerResults : Obligations.IntegerResults := by
  intro ty mode e hty
  have hfp : isFp ty = false := by obtain rfl | rfl | rfl := hty <;> rfl
  refine ⟨?_, ?_, fun op hop => ?_⟩
  · exact finishElem_of_integer_sum (op := 1) rfl hfp mode e ▸ ⟨natCast_ofSigned _ _, rfl⟩
  · exact finishElem_of_integer_sum (op := 2) rfl hfp mode e ▸ ⟨natCast_ofSigned _ _, rfl⟩
  · obtain rfl | rfl | rfl := hop <;> rw [finishElem_of_bitwise rfl rfl]

end Sys2Proof.Machine

/-! Settles the family of the clock steward (spec/10_clock_steward.md R239 to R253): what simple commands of several chapters leave
alone, the regions of the clock grid, and the changes of its operating point. -/

namespace Sys2Proof.Machine

open Sys2Proof

-- What a command leaves: a state that differs in some register fields and in outputs alone.

/-- `t` is `s` but for register fields of a list, and for the outputs `os` made since, newest first. -/
def State.writes (s t : State) (fs : List Field) (os : List Out) : Prop :=
  s.sameFields t fs ∧ t = { s with reg := t.reg, out := os ++ s.out }

theorem State.writes_refl (s : State) (fs : List Field) : s.writes s fs [] := ⟨fun _ _ => rfl, rfl⟩

theorem State.writes.trans {s t u : State} {fs : List Field} {os os' : List Out} (h : s.writes t fs os) (h' : t.writes u fs os') :
    s.writes u fs (os' ++ os) := by
  obtain ⟨hst, ht⟩ := h
  obtain ⟨htu, hu⟩ := h'
  refine ⟨fun k hk => (htu k hk).trans (hst k hk), ?_⟩
  calc u = { t with reg := u.reg, out := os' ++ t.out } := hu
    _ = { s with reg := u.reg, out := os' ++ os ++ s.out } := by rw [ht, List.append_assoc]

theorem State.put_writes {f : Field} {fs : List Field} (hf : f ∈ fs) (s : State) (v : Nat) : s.writes (s.put f v) fs [] :=
  ⟨fun _ hk => smGet_smPut_ne _ _ _ _ _ (ne_of_mem_of_not_mem (List.mem_map_of_mem hf) hk).symm, rfl⟩

theorem State.put_if_writes {f : Field} {fs : List Field} {c : Prop} [Decidable c] (hf : f ∈ fs) (s : State) (v : Nat) :
    s.writes (if c then s.put f v else s) fs [] := by
  split
  · exact s.put_writes hf v
  · exact s.writes_refl fs

theorem State.emit_writes (s : State) (o : Out) (fs : List Field) : s.writes (s.emit o) fs [o] := ⟨fun _ _ => rfl, rfl⟩

theorem State.emitIf_writes (s : State) (b : Bool) (o : Out) (fs : List Field) : ∃ os, s.writes (s.emitIf b o) fs os := by
  cases b
  · exact ⟨_, s.writes_refl fs⟩
  · exact ⟨_, s.emit_writes o fs⟩

/-- R64, R67: STATUS goes out on the ring and changes nothing at its sender. -/
theorem State.sendStatus_writes (s : State) (fs : List Field) : ∃ os, s.writes s.sendStatus fs os := by
  obtain ⟨_, heast⟩ := s.emitIf_writes (s.ringUp .e)
    (ringOut .e { ccw := false, src := s.lk.ring.die, dst := 0x3F, body := s.ringStatus }) fs
  obtain ⟨_, hwest⟩ := State.emitIf_writes _ _ _ fs
  exact ⟨_, heast.trans hwest⟩

/-- R67, R352: the logic domain that falls asleep says so on its ring. -/
theorem State.sleepLogic_writes {fs : List Field} (hf : R.LK_PWR_LOGIC_AWAKE ∈ fs) (s : State) : ∃ os, s.writes s.sleepLogic fs os := by
  obtain ⟨_, hstatus⟩ := (s.put R.LK_PWR_LOGIC_AWAKE 0).sendStatus_writes fs
  exact ⟨_, (s.put_writes hf 0).trans hstatus⟩

/-- Register fields alone: nothing else of the state moves, and nothing is sent. -/
theorem State.writes.silent {s t : State} {fs : List Field} (h : s.writes t fs []) :
    s.sameFields t fs ∧ s.sameBeside t ∧ t.out = s.out := by
  obtain ⟨hfields, ht⟩ := h
  refine ⟨hfields, ?_, ?_⟩
  · rw [ht]
    exact ⟨rfl, rfl, rfl, rfl, rfl, rfl, rfl⟩
  · rw [ht]
    rfl

/-- With nothing to hand over, a command's end only sends the messages now due. -/
theorem State.ended_of_noMail {s : State} (h : s.lk.mail = []) : s.ended = s.settle := by
  rw [State.ended, State.runMail, h]

/-- What a command's end leaves, where its effect wrote fields and sent outputs and nothing waits to be handed over. -/
theorem State.writes.ended {s t : State} {fs : List Field} {os : List Out} (h : s.writes t fs os) (hmail : s.lk.mail = []) :
    s.sameFields t.ended fs ∧ s.sameBeside t.ended ∧ s.out <:+ t.ended.out := by
  obtain ⟨hfields, ht⟩ := h
  have hmail' : t.lk.mail = [] := by rw [ht]; exact hmail
  rw [State.ended_of_noMail hmail']
  refine ⟨hfields, ?_, ?_⟩
  · rw [ht]
    exact ⟨rfl, rfl, rfl, rfl, rfl, rfl, rfl⟩
  · rw [ht]
    exact (List.suffix_append os s.out).trans (List.suffix_append _ _)

-- The register fields that the waking of the logic domain and the loss of its clock write (R351, R352).

def wakeFields : List Field := [R.LK_PWR_LOGIC_AWAKE, R.LK_WAKES_LOGIC]
def fclkLossFields : List Field := [R.LK_PWR_LOGIC_AWAKE, R.LK_PWR_FCLK_LOSS]

theorem logicAwake_mem_wakeFields : R.LK_PWR_LOGIC_AWAKE ∈ wakeFields := by decide +kernel
theorem wakesLogic_mem_wakeFields : R.LK_WAKES_LOGIC ∈ wakeFields := by decide +kernel
theorem logicAwake_mem_fclkLossFields : R.LK_PWR_LOGIC_AWAKE ∈ fclkLossFields := List.mem_cons_self
theorem fclkLoss_mem_fclkLossFields : R.LK_PWR_FCLK_LOSS ∈ fclkLossFields := by decide +kernel

-- A request at a host port wakes the logic domain (R351, R352).

/-- The logic domain had work last at an instant. -/
def State.workedAt (s : State) (now : Nat) : State := { s with lk := { s.lk with logicAt := now } }

/-- Whether the logic domain is entering sleep, set. -/
def State.withSleeping (s : State) (b : Bool) : State := { s with lk := { s.lk with sleeping := b } }

/-- R352: where the domain was entering sleep, work raises FCLK_REQ again. -/
def State.abandonSleep (s : State) : State :=
  if s.lk.sleeping && s.getB R.LK_PWR_LOGIC_AWAKE then (s.withSleeping false).emit (.pin "FCLK_REQ" 1) else s

/-- R351: a domain that slept is awake again, which is counted and told on the ring. -/
def State.endSleep (s : State) : State :=
  if s.getB R.LK_PWR_LOGIC_AWAKE then s
  else ((((s.withSleeping false).put R.LK_PWR_LOGIC_AWAKE 1).bumpSat R.LK_WAKES_LOGIC).emit (.pin "FCLK_REQ" 1)).sendStatus

theorem State.logicWork_eq (s : State) : s.logicWork = (s.workedAt (s.now .lotik)).abandonSleep := rfl

theorem State.hostReq_lotik_eq (s : State) : s.hostReq .lotik = s.logicWork.endSleep := rfl

theorem State.withSleeping_of_eq {s : State} {b : Bool} (h : s.lk.sleeping = b) : s.withSleeping b = s := by
  rw [← h]
  rfl

theorem State.endSleep_of_awake {s : State} (h : s.getB R.LK_PWR_LOGIC_AWAKE = true) : s.endSleep = s := if_pos h

theorem State.endSleep_writes {s : State} (h : s.getB R.LK_PWR_LOGIC_AWAKE = false) :
    ∃ os, (s.withSleeping false).writes s.endSleep wakeFields os := by
  obtain ⟨_, hstatus⟩ := State.sendStatus_writes _ wakeFields
  rw [State.endSleep, if_neg (ne_true_of_eq_false h)]
  exact ⟨_, ((((s.withSleeping false).put_writes logicAwake_mem_wakeFields 1).trans
    (State.put_writes wakesLogic_mem_wakeFields _ _)).trans (State.emit_writes _ _ _)).trans hstatus⟩

/-- Awake or asleep, the domain ends awake and is not entering sleep. -/
theorem State.endSleep_abandonSleep_writes (s : State) :
    ∃ os, (s.withSleeping false).writes s.abandonSleep.endSleep wakeFields os := by
  cases hawake : s.getB R.LK_PWR_LOGIC_AWAKE
  · rw [State.abandonSleep, if_neg (by simp [hawake])]
    exact State.endSleep_writes hawake
  · cases hsleeping : s.lk.sleeping
    · rw [State.abandonSleep, if_neg (by simp [hsleeping]), State.endSleep_of_awake hawake, State.withSleeping_of_eq hsleeping]
      exact ⟨_, s.writes_refl _⟩
    · have hstays : ((s.withSleeping false).emit (.pin "FCLK_REQ" 1)).getB R.LK_PWR_LOGIC_AWAKE = true := hawake
      rw [State.abandonSleep, if_pos (by simp [hawake, hsleeping]), State.endSleep_of_awake hstays]
      exact ⟨_, State.emit_writes _ _ _⟩

/-- R351: a request at Lotik's host port leaves its logic domain awake, with work now. -/
theorem State.hostReq_lotik_writes (s : State) :
    ∃ os, ((s.workedAt (s.now .lotik)).withSleeping false).writes (s.hostReq .lotik) wakeFields os := by
  rw [State.hostReq_lotik_eq, State.logicWork_eq]
  exact State.endSleep_abandonSleep_writes _

/-- What waking leaves alone. The instant is a variable here: of a part's hall time the kernel would compute the value. -/
theorem State.writes.frame_of_woken {s t : State} {now : Nat} {fs : List Field} {os : List Out}
    (h : ((s.workedAt now).withSleeping false).writes t fs os) :
    s.sameFields t fs ∧ t.lkPart = s.lkPart ∧ t.vdPart = s.vdPart ∧ t.lk = { s.lk with logicAt := now, sleeping := false } ∧
    t.vd = s.vd ∧ t.ports = s.ports ∧ t.free = s.free ∧ t.pending = s.pending ∧ s.out <:+ t.out := by
  obtain ⟨hfields, ht⟩ := h
  refine ⟨hfields, ?_⟩
  rw [ht]
  exact ⟨rfl, rfl, rfl, rfl, rfl, rfl, rfl, List.suffix_append os s.out⟩

-- Register writes alone (R124, R248, R266).

theorem exec_marginLowSet_writes {r : Fin 64} {s t : State} (h : exec (.marginLowSet r) s = .next t) :
    s.writes t [R.LK_CS_REGr_STAT_MARGIN_LOW r] [] := by
  obtain rfl := Host.Outcome.next.inj h
  split
  · exact s.writes_refl _
  · exact s.put_if_writes List.mem_cons_self 1

theorem exec_boostRearm_writes {s t : State} (h : exec .boostRearm s = .next t) : s.writes t [R.LK_PG_STAT_BOOST_ARMED] [] := by
  obtain rfl := Host.Outcome.next.inj h
  split
  · exact s.writes_refl _
  · exact s.put_if_writes List.mem_cons_self 1

/-- R124, R153: a write of a program entry reaches its word, or is told as discarded while a slot uses the entry. -/
theorem State.progWrite_writes (s : State) (n k v : Nat) :
    s.writes (s.progWrite n k v) [R.LK_PROGn_BASE_LO_BASE_LO n, R.LK_PROGn_BASE_HI_BASE_HI n, R.LK_PROGn_LEN_LEN n,
      R.LK_PROGn_LEN_VALID n, R.LK_STEP_STAT_PROG_WR_ERR] [] := by
  dsimp only [State.progWrite]
  split
  · exact s.put_writes (by simp) 1
  · split
    · exact s.put_writes (by simp) _
    · exact s.put_writes (by simp) _
    · exact (s.put_writes (by simp) _).trans (State.put_writes (by simp) _ _)
    · exact s.writes_refl _

theorem exec_progEntryWrite_of_reaches {n : Fin 8} {k : Fin 4} {v : Word} {s : State}
    (h : s.reaches 0 (0x2100 + 0x10 * n.val + 4 * k.val)) :
    exec (.progEntryWrite n k v) s = .next ((s.hostReq .lotik).progWrite n k v.toNat) :=
  next_viaBus_of_reaches h _

-- Sleep.

/-- R352: where the domain does not sleep at once, at most FCLK_REQ falls: it is entering sleep. -/
theorem exec_logicDomainSleep_writes (s : State) :
    ∃ (b : Bool) (t : State) (os : List Out), exec .logicDomainSleep s = .next t.ended ∧
      (s.withSleeping b).writes t [R.LK_PWR_LOGIC_AWAKE] os := by
  change ∃ (b : Bool) (t : State) (os : List Out), execLogicDomainSleep s = .next t.ended ∧ _
  unfold execLogicDomainSleep
  split
  · exact ⟨s.lk.sleeping, s, _, rfl, s.writes_refl _⟩
  · split
    · obtain ⟨_, hsleep⟩ := s.sleepLogic_writes List.mem_cons_self
      exact ⟨s.lk.sleeping, _, _, rfl, hsleep⟩
    · split
      · exact ⟨true, _, _, rfl, State.emit_writes _ _ _⟩
      · exact ⟨s.lk.sleeping, s, _, rfl, s.writes_refl _⟩

theorem exec_timingCoreSleep_writes (s : State) :
    ∃ (t : State) (os : List Out), exec .timingCoreSleep s = .next t.ended ∧ s.writes t [R.LK_PWR_TC_AWAKE] os := by
  change ∃ (t : State) (os : List Out), execTimingCoreSleep s = .next t.ended ∧ _
  unfold execTimingCoreSleep
  split
  · exact ⟨s, _, rfl, s.writes_refl _⟩
  · exact ⟨_, _, rfl, s.put_writes List.mem_cons_self 0⟩

theorem exec_fclkLoss_writes (s : State) :
    ∃ (t : State) (os : List Out), exec .fclkLoss s = .next t.ended ∧ s.writes t fclkLossFields os := by
  obtain ⟨_, hsleep⟩ := s.sleepLogic_writes logicAwake_mem_fclkLossFields
  change ∃ (t : State) (os : List Out), execFclkLoss s = .next t.ended ∧ _
  unfold execFclkLoss
  split
  · exact ⟨s, _, rfl, s.writes_refl _⟩
  · split
    · exact ⟨_, _, rfl, hsleep⟩
    · exact ⟨_, _, rfl, hsleep.trans (State.put_writes fclkLoss_mem_fclkLossFields _ _)⟩

-- Activity (R254).

theorem exec_activityEvent_eq {r : Fin 64} {k : Fin 32} {s t : State} (h : exec (.activityEvent r k) s = .next t) :
    t = s ∨ ∃ x, t = s.setRegion r x := by
  obtain rfl := Host.Outcome.next.inj h
  split
  · exact .inl rfl
  · exact .inr ⟨_, rfl⟩

-- The Spring edge (R37, R161, R316).

/-- The state less what the clocks and the wakes of a Spring edge move: both parts' own records, the outputs, the logic domain's idle
time and the wakes that are out. -/
def State.lessWakes (s : State) : State :=
  { s with
    lkPart := {}
    vdPart := {}
    lk := { s.lk with logicAt := 0, sleeping := false, sync := { s.lk.sync with wakes := [] } }
    out := [] }

/-- The same, less what the end of a swap's gap moves: Verard's engines and the ports. -/
def State.lessEdge (s : State) : State := { s.lessWakes with vd := {}, ports := [] }

theorem State.lessEdge_of_lessWakes {s t : State} (h : t.lessWakes = s.lessWakes) : t.lessEdge = s.lessEdge := by
  rw [State.lessEdge, h]
  rfl

theorem State.setClk_lessWakes (s : State) (d : Dev) (c : Clock) : (s.setClk d c).lessWakes = s.lessWakes := by
  cases d <;> rfl

theorem State.edgeVerard_lessWakes (s : State) : s.edgeVerard.lessWakes = s.lessWakes := by
  unfold State.edgeVerard
  split
  · rfl
  · exact s.setClk_lessWakes _ _

theorem State.workedAt_lessWakes (s : State) (now : Nat) : (s.workedAt now).lessWakes = s.lessWakes := rfl

theorem State.abandonSleep_lessWakes (s : State) : s.abandonSleep.lessWakes = s.lessWakes := by
  unfold State.abandonSleep
  split <;> rfl

theorem State.logicWork_lessWakes (s : State) : s.logicWork.lessWakes = s.lessWakes := by
  rw [State.logicWork_eq, State.abandonSleep_lessWakes, State.workedAt_lessWakes]

theorem State.doIf_lessWakes {s : State} {f : State → State} (h : (f s).lessWakes = s.lessWakes) (b : Bool) :
    (s.doIf b f).lessWakes = s.lessWakes := by
  cases b
  · rfl
  · exact h

/-- Wakes taken from the sync unit of `s` and sent, on a state that differs from it in no more than wakes move. -/
theorem State.sendWakes_lessWakes {s u : State} (h : u.lessWakes = s.lessWakes) (ws : List Wake) (os : List Out) :
    ((u.setSync { s.lk.sync with wakes := ws }).emits os).lessWakes = s.lessWakes :=
  calc ((u.setSync { s.lk.sync with wakes := ws }).emits os).lessWakes
      = { u.lessWakes with lk := { u.lessWakes.lk with sync := s.lessWakes.lk.sync } } := rfl
    _ = s.lessWakes := by rw [h]

/-- R161, R166: of the sync unit, the delivery of wakes takes the wakes that are due and nothing else. -/
theorem State.deliverWakes_lessWakes (s : State) : s.deliverWakes.lessWakes = s.lessWakes := by
  dsimp only [State.deliverWakes]
  split
  · rfl
  · exact State.sendWakes_lessWakes (State.doIf_lessWakes s.logicWork_lessWakes _) _ _

theorem State.setPort_lessEdge (s : State) (p : PortId) (x : TPort) : (s.setPort p x).lessEdge = s.lessEdge := rfl

theorem State.setOe_lessEdge (s : State) (e : Nat) (x : Oe) : (s.setOe e x).lessEdge = s.lessEdge := rfl

theorem State.emit_lessEdge (s : State) (o : Out) : (s.emit o).lessEdge = s.lessEdge := rfl

theorem State.putFrame_lessEdge (s : State) (o : Out) : (s.putFrame o).lessEdge = s.lessEdge := by
  unfold State.putFrame
  split
  · rw [State.emit_lessEdge, State.emit_lessEdge, State.setPort_lessEdge]
  · exact s.emit_lessEdge o

theorem foldl_lessEdge {α : Type} {f : State → α → State} (hf : ∀ (s : State) x, (f s x).lessEdge = s.lessEdge) (l : List α) (s : State) :
    (l.foldl f s).lessEdge = s.lessEdge := by
  induction l generalizing s with
  | nil => rfl
  | cons x l ih => exact (ih _).trans (hf s x)

/-- R316: the end of a gap touches the engine that holds it and its port alone. -/
theorem State.releaseGaps_lessEdge (s : State) : s.releaseGaps.lessEdge = s.lessEdge := by
  refine foldl_lessEdge (fun s e => ?_) s.vd.oe s
  split
  · rfl
  · split
    · rfl
    · exact (foldl_lessEdge (fun s o => s.putFrame_lessEdge o) _ _).trans
        ((State.setPort_lessEdge _ _ _).trans (s.setOe_lessEdge _ _))

theorem foldl_of_fixed {α β : Type} {f : β → α → β} {b : β} {l : List α} (h : ∀ x ∈ l, f b x = b) : l.foldl f b = b := by
  induction l with
  | nil => rfl
  | cons x l ih => rw [List.foldl_cons, h x List.mem_cons_self, ih fun y hy => h y (List.mem_cons_of_mem x hy)]

/-- R316: with no gap open, no frame waits for the end of one. -/
theorem State.releaseGaps_of_noGap {s : State} (h : ∀ e ∈ s.vd.oe, e.2.gap = none) : s.releaseGaps = s := by
  refine foldl_of_fixed fun e he => ?_
  rw [h e he]

/-- What a Spring edge leaves where no change of the ring's master is held back; the ports stay too where no swap's gap is open. -/
theorem exec_springEdge_lessEdge {s t : State} (hagain : s.lk.ring.again = false) (h : exec .springEdge s = .next t) :
    t.lessEdge = s.lessEdge ∧ ((∀ e ∈ s.vd.oe, e.2.gap = none) → t.ports = s.ports) := by
  have hedge : (s.setClk .lotik (s.clk .lotik).edge).edgeVerard.deliverWakes.lessWakes = s.lessWakes := by
    rw [State.deliverWakes_lessWakes, State.edgeVerard_lessWakes, State.setClk_lessWakes]
  have hvd := congrArg State.vd hedge
  obtain rfl := Host.Outcome.next.inj ((exec_springEdge s).symm.trans h)
  rw [hagain, State.doIf, if_neg Bool.false_ne_true]
  refine ⟨(State.releaseGaps_lessEdge _).trans (State.lessEdge_of_lessWakes hedge), fun hgap => ?_⟩
  rw [State.releaseGaps_of_noGap (hvd.symm ▸ hgap)]
  exact (congrArg State.ports hedge :)

/-- A command takes back no output already made. -/
theorem out_suffix_of_exec {i : Instr} {s t : State} (h : exec i s = .next t) : s.out <:+ t.out := by
  obtain ⟨u, hu, hgrows⟩ := exec_safe i (State.Grows.rfl (b := s))
  obtain rfl := Host.Outcome.next.inj (hu.symm.trans h)
  exact hgrows.out

/-- Settles O60: a command that only writes fields or sends leaves the rest by `State.writes`; the activity counter stands in one
region's record, and a Spring edge reaches neither the registers nor the jobs, queues and sync objects. -/
theorem simpleCommandFrames : Obligations.SimpleCommandFrames := by
  refine ⟨fun s => ?_, fun _ _ _ h => (exec_marginLowSet_writes h).silent, fun _ _ h => (exec_boostRearm_writes h).silent,
    fun n k v s t hreach h => ?_, fun s t hmail h => ?_, fun s t hmail h => ?_, fun s t hmail h => ?_, fun r k s t h => ?_,
    fun s t hagain h => ?_⟩
  · obtain ⟨_, hwrites⟩ := s.hostReq_lotik_writes
    exact hwrites.frame_of_woken
  · obtain rfl := Host.Outcome.next.inj ((exec_progEntryWrite_of_reaches hreach).symm.trans h)
    exact ((s.hostReq .lotik).progWrite_writes n k v.toNat).silent
  · obtain ⟨b, u, os, hu, hwrites⟩ := exec_logicDomainSleep_writes s
    obtain rfl := Host.Outcome.next.inj (hu.symm.trans h)
    obtain ⟨hfields, hbeside, hout⟩ := hwrites.ended hmail
    have ⟨_, _, hlk, _⟩ := hbeside
    have hsleeping : u.ended.lk.sleeping = b := congrArg LotikSt.sleeping hlk
    rw [hsleeping]
    exact ⟨hfields, hbeside, hout⟩
  · obtain ⟨u, os, hu, hwrites⟩ := exec_timingCoreSleep_writes s
    obtain rfl := Host.Outcome.next.inj (hu.symm.trans h)
    exact hwrites.ended hmail
  · obtain ⟨u, os, hu, hwrites⟩ := exec_fclkLoss_writes s
    obtain rfl := Host.Outcome.next.inj (hu.symm.trans h)
    exact hwrites.ended hmail
  · obtain rfl | ⟨x, rfl⟩ := exec_activityEvent_eq h
    · exact ⟨rfl, rfl, rfl, rfl, rfl, rfl, rfl, rfl, fun _ _ => rfl⟩
    · exact ⟨rfl, rfl, rfl, rfl, rfl, rfl, rfl, rfl, fun j hj => s.setRegion_region_ne _ j x hj⟩
  · obtain ⟨hedge, hports⟩ := exec_springEdge_lessEdge hagain h
    have hsync := congrArg (fun u => u.lk.sync) hedge
    exact ⟨(congrArg State.reg hedge :), hports, out_suffix_of_exec h, (congrArg State.free hedge :), (congrArg State.pending hedge :),
      (congrArg (fun u => u.lk.jobs) hedge :), (congrArg (fun u => u.lk.queues) hedge :), (congrArg Sync.objs hsync :),
      (congrArg Sync.waiters hsync :)⟩

-- The regions of the clock grid (R239, R247 to R250, R252).

/-- R239: at the edge after its supply has recovered, a region that nobody fences or sends to the safe grid ends its stretch. -/
theorem State.edgeStage_of_recovered {r : Nat} {s : State} (hstretch : (s.region r).stretching = true)
    (hrecovered : (s.region r).recovered = true) (hfence : (s.region r).fence = 0) (hsafe : (s.region r).toSafe = false) :
    let u := s.coreStage r
    let v := u.setRegion r { u.region r with stretching := false, recovered := false }
    s.edgeStage r = if v.regState r = 1 then v.regGo r 0 else v := by
  simp [State.edgeStage, hstretch, hrecovered, hfence, hsafe]

/-- R248: MARGIN_LOW is set once the codes have stayed low for 1 ms. -/
theorem exec_marginLowSet_of_due {r : Fin 64} {t : Nat} {s : State} (hlow : (s.region r).lowSince = some t)
    (hdue : t + msSub 1 ≤ s.now .lotik) : exec (.marginLowSet r) s = .next (s.put (R.LK_CS_REGr_STAT_MARGIN_LOW r) 1) := by
  change execMarginLowSet r s = _
  rw [execMarginLowSet, hlow]
  exact next_ite_pos hdue

/-- R249: at its rejoin tick a region in LOR switches back to the live grid. -/
theorem exec_regionRejoinTick_of_due {r : Fin 64} {t : Nat} {s : State} (hat : (s.region r).rejoinAt = some t)
    (hlor : s.regState r = 2) (hdue : t ≤ s.now .lotik) :
    exec (.regionRejoinTick r) s =
      .next (((s.setRegion r { s.region r with rejoinAt := none, rejoinEdges := 4 }).put (R.LK_CS_REGr_STAT_OP r)
        (s.get R.LK_CS_STAT_CUR_OP)).regGo r 0) := by
  change execRegionRejoinTick r s = _
  simp only [execRegionRejoinTick, hat]
  exact next_ite_neg (not_or.2 ⟨not_not.2 hlor, Nat.not_lt.2 hdue⟩)

/-- R252: a read of a region's CYC_LO captures its block first. -/
theorem exec_csRegionCapture_of_reaches {r : Fin 64} {s : State} (h : s.reaches 0 (0x3804 + r.val * 0x20))
    (hr : r.val < (s.hostReq .lotik).nr) :
    exec (.csRegionCapture r) s =
      .next (((s.hostReq .lotik).captureRegion r).emit
        (.bus .lotik (BitVec.ofNat 64 (((s.hostReq .lotik).captureRegion r).get (R.LK_CS_REGr_CYC_LO_CYC_LO r))))) := by
  have hdev : spDev 0 = .lotik := rfl
  change execCsRegionCapture r s = _
  rw [execCsRegionCapture, State.viaRead_of_reaches 4 h, hdev, if_neg (Nat.not_le.2 hr)]

/-- Settles O34: a region's state and timers select each command's branch, and a host access reaches its register. -/
theorem regionsComplete : Obligations.RegionsComplete :=
  ⟨fun _ _ hr hsteady => (next_ite_neg (Nat.not_le.2 hr)).trans (next_ite_neg (by simp [hsteady])),
    fun _ _ hr hstretch => (next_ite_neg (Nat.not_le.2 hr)).trans (next_ite_pos hstretch),
    fun _ _ hstretch hperiods => next_ite_pos ⟨hstretch, hperiods⟩, fun _ _ => State.edgeStage_of_recovered,
    fun _ _ hr hlive => next_ite_neg (not_or.2 ⟨Nat.not_le.2 hr, hlive⟩), fun _ _ _ => exec_marginLowSet_of_due,
    fun _ _ hr hst => (next_ite_neg (Nat.not_le.2 hr)).trans (next_ite_pos hst),
    fun _ _ hr hst => (next_ite_neg (Nat.not_le.2 hr)).trans <|
      (next_ite_neg (by simp [hst])).trans (next_ite_pos hst),
    fun _ _ _ => exec_regionRejoinTick_of_due, fun _ _ h => next_viaBus_of_reaches h _, fun _ _ h => next_viaBus_of_reaches h _,
    fun _ _ => exec_csRegionCapture_of_reaches⟩

-- Changes of the operating point (R243, R244, R249).

section
variable {c : Change} {cs : List Change} {s : State}

/-- R243: the first change is prepared as soon as it lies FREQ_LEAD ahead. -/
theorem exec_opSwitchPrepare_of_due (hfirst : s.lk.cs.sched = c :: cs) (hnew : c.prepared = false)
    (hdue : c.tick ≤ s.now .lotik + s.freqLead) : exec .opSwitchPrepare s = .next (s.prepare c cs) := by
  change execOpSwitchPrepare s = _
  rw [execOpSwitchPrepare, hfirst]
  exact next_ite_neg (by simp [hnew, hdue])

/-- R243, R244: what the check of a prepared change does where the index moves. -/
theorem exec_opSwitchCheck_of_due {pgood lock : Bool} (hfirst : s.lk.cs.sched = c :: cs) (hprepared : c.prepared = true)
    (hdue : c.tick ≤ s.now .lotik + usSub 1) (hmoves : s.changeIdx c ≠ s.get R.LK_CS_STAT_CUR_OP) :
    exec (.opSwitchCheck pgood lock) s =
      .next (if lock ∧ (pgood ∨ s.changeIdx c ≤ s.get R.LK_CS_STAT_CUR_OP) then
        s.setCs { s.lk.cs with sched := { c with checked := true } :: cs } else s.dropChange cs) := by
  change execOpSwitchCheck pgood lock s = _
  simp only [execOpSwitchCheck, hfirst]
  exact next_ite_neg (by simp [hprepared, hdue, hmoves])

/-- R242: a request for the index in force needs neither voltage nor lock. -/
theorem exec_opSwitchCheck_of_inForce {pgood lock : Bool} (hfirst : s.lk.cs.sched = c :: cs)
    (hstays : s.changeIdx c = s.get R.LK_CS_STAT_CUR_OP) : exec (.opSwitchCheck pgood lock) s = .next s := by
  change execOpSwitchCheck pgood lock s = _
  simp only [execOpSwitchCheck, hfirst]
  exact next_ite_pos (.inr (.inr hstays))

/-- R243, R244: on its tick a change takes effect, unless it moves the index unchecked (notes/assumptions/129). -/
theorem exec_opSwitch_of_due (hfirst : s.lk.cs.sched = c :: cs) (hdue : c.tick ≤ s.now .lotik) :
    exec .opSwitch s =
      .next (if s.changeIdx c ≠ s.get R.LK_CS_STAT_CUR_OP ∧ !c.checked then s.dropChange cs else s.opSwitchTo c cs) := by
  change execOpSwitch s = _
  rw [execOpSwitch, hfirst]
  exact next_ite_neg (Nat.not_lt.2 hdue)

end

theorem exec_opSwitchFinish_of_due {t : Nat} {s : State} (hat : s.lk.cs.finishAt = some t) (hdue : t ≤ s.now .lotik) :
    exec .opSwitchFinish s = .next s.opSwitchEnd := by
  change execOpSwitchFinish s = _
  rw [execOpSwitchFinish, hat]
  exact next_ite_neg (Nat.not_lt.2 hdue)

-- The steward's commands (R253).

/-- R253: a Lotik serves CS_LEDGER for regions that it has. -/
theorem exec_csLedger_of_valid {c : CmdCtx} {first regions : Byte} {s : State} (hdev : c.dev = .lotik) (hsome : 1 ≤ regions.toNat)
    (hmost : regions.toNat ≤ 64) (hlast : first.toNat + regions.toNat ≤ s.nr) :
    exec (.csLedger c first regions) s = .next (s.csLedger c first regions).settle :=
  (done_ite_neg (by simp [hdev])).trans (done_ite_neg (by omega))

/-- R250, R253: a Lotik serves CS_FENCE for a core (kind 0) or a region (kind 1) that it has. -/
theorem exec_csFence_of_valid {c : CmdCtx} {kind number : Byte} {s : State} (hdev : c.dev = .lotik)
    (hvalid : kind = 0 ∧ number.toNat < 4 * s.nr ∨ kind = 1 ∧ number.toNat < s.nr) :
    exec (.csFence c kind number) s = .next (s.csFence c kind number).settle := by
  refine (done_ite_neg (by simp [hdev])).trans (done_ite_neg ?_)
  obtain ⟨rfl, hnumber⟩ | ⟨rfl, hnumber⟩ := hvalid
  · simp [hnumber]
  · simp [hnumber]

/-- Settles O35: the first change scheduled selects the branch of each step of a switch; the loss of the grid PLL is its effect by
definition; and the operands of each command pass its tests. -/
theorem operatingPointsComplete : Obligations.OperatingPointsComplete :=
  ⟨fun _ _ _ => exec_opSwitchPrepare_of_due,
    fun _ _ _ _ hfirst hprepared hdue hmoves =>
      (exec_opSwitchCheck_of_due hfirst hprepared hdue hmoves).trans (next_ite_neg (by simp)),
    fun _ _ _ hfirst hprepared hdue hraise =>
      (exec_opSwitchCheck_of_due hfirst hprepared hdue hraise.ne').trans (next_ite_neg (by simp [hraise])),
    fun _ _ _ _ hfirst hprepared hdue hmoves hpower =>
      (exec_opSwitchCheck_of_due hfirst hprepared hdue hmoves).trans (next_ite_pos ⟨rfl, hpower.imp_right Nat.le_of_lt⟩),
    fun _ _ _ _ _ => exec_opSwitchCheck_of_inForce,
    fun _ _ _ hfirst hdue hready =>
      (exec_opSwitch_of_due hfirst hdue).trans <|
        next_ite_neg (hready.elim (fun hstays => by simp [hstays]) fun hchecked => by simp [hchecked]),
    fun _ _ _ hfirst hdue hmoves hbare => (exec_opSwitch_of_due hfirst hdue).trans (next_ite_pos ⟨hmoves, by simp [hbare]⟩),
    fun _ _ => exec_opSwitchFinish_of_due, fun _ => rfl, fun _ _ hdev => done_ite_neg (by simp [hdev]),
    fun _ _ _ _ => exec_csLedger_of_valid, fun _ _ _ hdev hnumber => exec_csFence_of_valid hdev (.inl ⟨rfl, hnumber⟩),
    fun _ _ _ hdev hnumber => exec_csFence_of_valid hdev (.inr ⟨rfl, hnumber⟩), fun _ _ hdev => done_ite_neg (by simp [hdev])⟩

end Sys2Proof.Machine

/-! Settles the family of the power governor (spec/11_power_governor.md R257 to R278): the caps and the bins that they clip, the sensors'
thresholds, and the governor's commands. -/

namespace Sys2Proof.Machine

open Sys2Proof

-- The caps (R257, R259).

section
variable (s : State) (c1 c10 : Nat)

/-- R259: a lowered 1 s cap clips the bins of its own window; the 10 s cap does not touch them. -/
theorem State.setCaps_bins1 :
    (s.setCaps c1 c10).lk.pg.bins1 =
      if capLower (s.get R.LK_PG_CAP_CAP_1S) c1 then s.lk.pg.bins1.map (clipBin c1 500) else s.lk.pg.bins1 := by
  simp only [State.setCaps, State.put_lk, State.setPg_same, apply_ite Power.bins1, ite_self]

/-- R259: a lowered 10 s cap clips the bins of its own window; the 1 s cap does not touch them. -/
theorem State.setCaps_bins10 :
    (s.setCaps c1 c10).lk.pg.bins10 =
      if capLower (s.get R.LK_PG_CAP_CAP_10S) c10 then s.lk.pg.bins10.map (clipBin c10 5000) else s.lk.pg.bins10 := by
  simp only [State.setCaps, State.put_lk, State.setPg_same, apply_ite Power.bins10, ite_self]

theorem State.setCaps_cap1 : (s.setCaps c1 c10).get R.LK_PG_CAP_CAP_1S = c1 % 2 ^ 16 :=
  (State.get_put_ne _ _ _ _ (by decide)).trans (State.get_put_same _ _ _)

theorem State.setCaps_cap10 : (s.setCaps c1 c10).get R.LK_PG_CAP_CAP_10S = c10 % 2 ^ 16 := State.get_put_same _ _ _

end

/-- A cap of 0 is no cap: it is never the lower one, and every other cap is lower (R257, R259). -/
theorem capLower_iff (old new : Nat) : capLower old new = true ↔ new ≠ 0 ∧ (old = 0 ∨ new < old) := by
  simp [capLower]

theorem State.pgCapWrite_of_valid {s : State} {v : Nat} (h : capBad (bits v 0 16) (bits v 16 16) = false) :
    s.pgCapWrite v = s.setCaps (bits v 0 16) (bits v 16 16) := if_neg (ne_true_of_eq_false h)

theorem exec_pgCapWrite_of_reaches {v : Word} {s : State} (h : s.reaches 0 0x400C) :
    exec (.pgCapWrite v) s = .next ((s.hostReq .lotik).pgCapWrite v.toNat) :=
  next_viaBus_of_reaches h _

/-- Settles O55: a write of valid caps reaches `setCaps`, whose windows clip their bins each by its own cap; that a cap of 0 counts as
the highest is the model's choice (notes/assumptions/57). -/
theorem capsClipBins : Obligations.CapsClipBins := by
  intro s v hreach hvalid u
  refine ⟨u.setCaps (bits v.toNat 0 16) (bits v.toNat 16 16), ?_, ?_, ?_, ?_, ?_⟩
  · rw [exec_pgCapWrite_of_reaches hreach, State.pgCapWrite_of_valid hvalid]
  · exact (u.setCaps_bins1 _ _).trans (if_congr (capLower_iff _ _) rfl rfl)
  · exact (u.setCaps_bins10 _ _).trans (if_congr (capLower_iff _ _) rfl rfl)
  · exact (u.setCaps_cap1 _ _).trans (Nat.mod_mod _ _)
  · exact (u.setCaps_cap10 _ _).trans (Nat.mod_mod _ _)

-- Samples, captures and sensors (R258, R266, R273 to R277).

/-- R266: 1 s after its opening the boost window is armed again. -/
theorem exec_boostRearm_of_due {b : Nat} {s : State} (hopened : s.lk.pg.boostAt = some b) (hdue : b + secSub 1 ≤ s.now .lotik) :
    exec .boostRearm s = .next (s.put R.LK_PG_STAT_BOOST_ARMED 1) := by
  change execBoostRearm s = _
  rw [execBoostRearm, hopened]
  exact next_ite_pos hdue

/-- R276: a read of the total energy's low word takes the whole counter first. -/
theorem exec_pgLoCapture_total_of_reaches {s : State} (h : s.reaches 0 0x4038) :
    exec (.pgLoCapture true) s =
      .next (((s.hostReq .lotik).capturePg true).emit
        (.bus .lotik (BitVec.ofNat 64 (((s.hostReq .lotik).capturePg true).get R.LK_PG_TOTAL_UJ_LO_LO)))) :=
  congrArg Host.Outcome.next (State.viaRead_of_reaches 4 h _)

/-- R277: a read of the first word of a region's block captures the block first. -/
theorem exec_pgRegionCapture_of_reaches {r : Fin 64} {s : State} (h : s.reaches 0 (0x4400 + r.val * 0x10))
    (hr : r.val < (s.hostReq .lotik).nr) :
    exec (.pgRegionCapture r) s =
      .next (((s.hostReq .lotik).capturePgRegion r).emit
        (.bus .lotik (BitVec.ofNat 64 (((s.hostReq .lotik).capturePgRegion r).word 0 (0x4400 + r.val * 0x10))))) := by
  have hdev : spDev 0 = .lotik := rfl
  change execPgRegionCapture r s = _
  rw [execPgRegionCapture, State.viaRead_of_reaches 4 h, hdev, if_neg (Nat.not_le.2 hr)]

/-- R274: a sensor of the die that reaches TCRIT_C trips it, once. -/
theorem exec_thermalTrip_of_critical {r : Fin 64} {temp : BitVec 8} {s : State} (hr : r.val < s.nr)
    (hcrit : (s.get R.LK_PG_TEMP_TCRIT_C : Int) ≤ temp.toInt) (hfirst : s.getB R.LK_PG_STAT_TRIPPED = false) :
    exec (.thermalTrip r temp) s = .next (s.trip r temp).ended :=
  finish_ite_neg (by simp [hr, hcrit, hfirst])

-- The governor's commands (R278).

/-- R278: what a Verard refuses, a Lotik serves. -/
theorem finish_ite_verard_of_lotik {c : CmdCtx} {s t : State} (hdev : c.dev = .lotik) :
    finish (if c.dev = .verard then s else t) = .next t.ended :=
  finish_ite_neg (by simp [hdev])

theorem exec_pgCap_of_valid {c : CmdCtx} {cap1 cap10 : BitVec 16} {s : State} (hdev : c.dev = .lotik)
    (hvalid : capBad cap1.toNat cap10.toNat = false) : exec (.pgCap c cap1 cap10) s = .next (s.pgCap c cap1 cap10).ended :=
  (finish_ite_verard_of_lotik hdev).trans (finish_ite_neg (ne_true_of_eq_false hvalid))

theorem exec_pgRegions_of_valid {c : CmdCtx} {first regions : Byte} {s : State} (hdev : c.dev = .lotik) (hsome : 1 ≤ regions.toNat)
    (hmost : regions.toNat ≤ 64) (hlast : first.toNat + regions.toNat ≤ s.nr) :
    exec (.pgRegions c first regions) s = .next (s.pgRegions c first regions).ended :=
  (finish_ite_verard_of_lotik hdev).trans (finish_ite_neg (by omega))

/-- Settles O36: a timer or a threshold that is reached selects each event's branch, a host access reaches its register, and the
operands of each command pass its tests. -/
theorem powerGovernorComplete : Obligations.PowerGovernorComplete :=
  ⟨fun _ _ hnew => finish_ite_neg (Nat.not_le.2 hnew), fun _ _ => exec_boostRearm_of_due, fun _ _ => exec_pgCapWrite_of_reaches,
    fun _ => exec_pgLoCapture_total_of_reaches, fun _ _ => exec_pgRegionCapture_of_reaches,
    fun _ _ _ hr hwarm => next_ite_neg (not_or.2 ⟨Nat.not_le.2 hr, Int.not_lt.2 hwarm⟩),
    fun _ hwarned hhot hdue => next_ite_pos ⟨hwarned, hhot, hdue⟩, fun _ hwarned hcool hdue => next_ite_pos ⟨hwarned, hcool, hdue⟩,
    fun _ _ _ => exec_thermalTrip_of_critical,
    fun _ _ hdev => ⟨finish_ite_verard_of_lotik hdev, finish_ite_verard_of_lotik hdev, _, finish_ite_verard_of_lotik hdev⟩,
    fun _ _ _ _ => exec_pgCap_of_valid, fun _ _ _ _ => exec_pgRegions_of_valid⟩

end Sys2Proof.Machine

/-! Settles the statements about the queue: each step takes its front command, answers a next state, and leaves the rest in order. -/

namespace Sys2Proof.Machine

open Sys2Proof

/-- Settles O1: a step splits on its queue, and does no more. -/
theorem stepRunsFrontCommand : Obligations.StepRunsFrontCommand :=
  ⟨fun _ _ _ hfront => by simp only [step, hfront], fun _ hempty => by simp only [step, hempty]⟩

/-- Settles O4: a step is safe, and a safe outcome is a next state. -/
theorem everyStepAnswersNext : Obligations.EveryStepAnswersNext := by
  intro s
  obtain ⟨t, hst, -⟩ := step_safe s
  exact ⟨t, hst⟩

theorem steps_succ_of_step {s t : State} (h : step s = .next t) (k : Nat) : steps (k + 1) s = steps k t := by
  simp only [steps, h]

/-- Settles O5, by induction on the number of steps: each takes the front command off, and keeps well-formedness. -/
theorem queueIsServedInOrder : Obligations.QueueIsServedInOrder := by
  intro s k
  induction k generalizing s with
  | zero => exact ⟨s, rfl, rfl, id⟩
  | succ k ih =>
    obtain ⟨t, hst, hgrows⟩ := step_safe s
    obtain ⟨u, htu, hqueue, hwf⟩ := ih t
    refine ⟨u, (steps_succ_of_step hst k).trans htu, ?_, fun hs => hwf (hgrows.wf hs)⟩
    rw [hqueue, hgrows.pending, List.drop_tail]

end Sys2Proof.Machine

/-! Settles the family of deterministic mode (spec/12_determinism.md R283 to R301): the digest's fold, and the commands. -/

namespace Sys2Proof.Machine

open Sys2Proof

-- The digest (R288).

/-- A pair adds to the digest's sums what it alone determines, so two pairs may be fed in either order. -/
theorem DigTag.fold_right_comm (d : DigTag) (tag index word index' word' : BitVec 64) :
    (d.fold tag index word).fold tag index' word' = (d.fold tag index' word').fold tag index word := by
  simp only [DigTag.fold, DigTag.mk.injEq]
  exact ⟨add_right_comm .., add_right_comm .., trivial⟩

theorem DigTag.foldl_fold_perm (d : DigTag) (tag : BitVec 64) {xs ys : List (BitVec 64 × BitVec 64)} (h : xs.Perm ys) :
    xs.foldl (fun d x => d.fold tag x.1 x.2) d = ys.foldl (fun d x => d.fold tag x.1 x.2) d :=
  have : RightCommutative fun (d : DigTag) (x : BitVec 64 × BitVec 64) => d.fold tag x.1 x.2 :=
    ⟨fun d x y => d.fold_right_comm tag x.1 x.2 y.1 y.2⟩
  h.foldl_eq d

/-- Settles O58: pairs may be fed in either order, and a digest's count says whether anything was fed. -/
theorem digestIgnoresOrder : Obligations.DigestIgnoresOrder :=
  ⟨fun d tag _ _ => d.foldl_fold_perm tag, fun _ _ hnone => if_pos hnone⟩

-- The commands (R285 to R301).

/-- R285: ALIGN_REQ rises 2 us before the instant that a committed job starts at, or a paused one resumes at. -/
theorem exec_alignRequest_of_due {i m : Nat} {s : State} (hslot : s.activeSlot = some i)
    (hat : (if s.slotState i = 3 then some (s.slot i).t0 else if s.slotState i = 5 then (s.run i).resumeAt else none) = some m)
    (hdue : m ≤ s.now .lotik + usSub 2) :
    exec .alignRequest s =
      .next ((s.setDet { s.lk.det with alignFor := some m, ready := false, missed := false }).emit (.pin "ALIGN_REQ" 1)) :=
  congrArg Host.Outcome.next (by simp only [hslot, hat, if_neg (Nat.not_lt.2 hdue)])

/-- A request that a host port accepts is served, and nothing is sent after it. -/
theorem next_atPort_of_portTakes {s : State} (h : s.portTakes) (f : State → State) :
    (.next (s.atPort f) : Res) = .next (f (s.hostReq .lotik)) :=
  congrArg Host.Outcome.next (State.atPort_of_portTakes h f)

/-- R301: what a Verard refuses, a Lotik serves. -/
theorem done_ite_verard_of_lotik {c : CmdCtx} {s t : State} (hdev : c.dev = .lotik) :
    done (if c.dev = .verard then s else t) = .next t.settle :=
  done_ite_neg (by simp [hdev])

/-- R298: an image that fits the job armed in slot 0 is loaded there. -/
theorem exec_jobLoad_of_fits {c : CmdCtx} {addr : DWord} {b : List Byte} {s : State} (hdev : c.dev = .lotik) (harmed : s.slotState 0 = 1)
    (hfits : ((s.accept c 0x67 0).emit (.hostRead .lotik (addr.toNat / 64 * 64) 896)).imageFits 0 b = true) :
    exec (.jobLoad c addr (some b)) s =
      .next (((s.accept c 0x67 0).emit (.hostRead .lotik (addr.toNat / 64 * 64) 896)).loadJobImage 0 b).ended := by
  have hslot : (List.range 2).find? (fun i => s.slotState i == 1) = some 0 :=
    List.find?_cons_of_pos (beq_iff_eq.2 harmed)
  exact (finish_ite_verard_of_lotik hdev).trans (congrArg finish (by simp only [hslot, if_pos hfits]))

/-- Settles O37: the job in a slot selects each event's branch, a host access reaches its register, and the operands of each command
pass its tests. The address of a job's image is taken as notes/assumptions/63 chooses. -/
theorem determinismComplete : Obligations.DeterminismComplete :=
  ⟨fun _ _ hslot hst => exec_alignRequest_of_due hslot (if_pos hst),
    fun _ _ _ hslot hst hresume => exec_alignRequest_of_due hslot (by simp [hst, hresume]),
    fun _ _ _ hasked hdue => congrArg Host.Outcome.next (by simp only [hasked, if_neg (Nat.not_lt.2 hdue)]),
    fun _ _ htakes hnone => (next_atPort_of_portTakes htakes _).trans (next_ite_pos (by simp [hnone])),
    fun _ _ _ htakes hjob hclosed => (next_atPort_of_portTakes htakes _).trans <|
      (next_ite_neg (by simp [hjob])).trans (next_ite_pos (by simp [hclosed])),
    fun _ _ _ htakes hjob hopen => (next_atPort_of_portTakes htakes _).trans <|
      (next_ite_neg (by simp [hjob])).trans (next_ite_neg (by simp [hopen])),
    fun _ _ h => finish_viaBus_of_reaches h _, fun _ _ h => congrArg Host.Outcome.next (State.viaRead_of_reaches 4 h _),
    fun _ _ _ _ _ htakes hseed => (next_atPort_of_portTakes htakes _).trans (by simp only [hseed]),
    fun _ _ h => next_viaBus_of_reaches h _,
    fun _ _ htakes hmode hjob => (next_atPort_of_portTakes htakes _).trans (by simp only [hmode, hjob]),
    fun _ _ hdev => done_ite_verard_of_lotik hdev,
    fun _ _ _ hdev htag => (done_ite_verard_of_lotik hdev).trans (done_ite_neg (Nat.not_lt.2 htag)),
    fun _ _ _ _ hdev htag hkind hidle => (finish_ite_verard_of_lotik hdev).trans <|
      (finish_ite_neg (by omega)).trans (finish_ite_neg (by simp [hidle])),
    fun _ _ _ _ _ _ hdev hstep hseed => (done_ite_verard_of_lotik hdev).trans (congrArg done (by simp only [if_neg hstep, hseed])),
    fun _ _ _ _ hdev hpaused => (finish_ite_verard_of_lotik hdev).trans (congrArg finish (by simp only [hpaused])),
    fun _ _ _ _ => exec_jobLoad_of_fits⟩

end Sys2Proof.Machine

/-! Settles the family of optical ports (spec/13_optical_ports.md R305 to R323, spec/15_boundary_and_startup.md R355): the engines and
their rings, the laser lines and their spares, and the circuit switch. -/

namespace Sys2Proof.Machine

open Sys2Proof

-- The engines and their rings (R305 to R311, R355).

/-- R305, R306: every 100 us an engine's monitors are read; its rings move only while it searches or runs. -/
theorem exec_ringLockUpdate_of_due {e : Fin 9} {errs : List (BitVec 16)} {dark : BitVec 16} {temp : BitVec 8} {pwr : List (BitVec 32)}
    {s : State} (hdue : periodOver (s.oe e).lockAt (usSub 100) (s.now .verard) = true) :
    let u := s.setOe e { s.oe e with lockAt := some (s.now .verard) }
    let u := (u.put (R.VD_OE_STAT_SLEW_LIMITED e) 0).put (R.VD_OE_STAT_TEMP_C e) temp.toNat
    let u := ((oePorts e).zip pwr).foldl (fun s x =>
      (s.put (R.PORT_OPT_PWR_RX_PWR x.1) (bits x.2.toNat 0 16)).put (R.PORT_OPT_PWR_TX_PWR x.1) (bits x.2.toNat 16 16)) u
    exec (.ringLockUpdate e errs dark temp pwr) s =
      .next (if 2 ≤ s.get (R.VD_OE_STAT_STATE e) ∧ s.get (R.VD_OE_STAT_STATE e) ≤ 4 then
          u.ringsUpdate e errs dark (s.get (R.VD_OE_STAT_STATE e)) (s.now .verard / msSub 1)
        else u).ended := by
  intro _ _ _
  have hworks : 2 ≤ s.get (R.VD_OE_STAT_STATE e) ∧ s.get (R.VD_OE_STAT_STATE e) ≤ 4 ↔
      ¬(s.get (R.VD_OE_STAT_STATE e) < 2 ∨ 4 < s.get (R.VD_OE_STAT_STATE e)) := by omega
  exact (finish_ite_not_pos hdue).trans (congrArg finish ((if_congr hworks rfl rfl).trans (ite_not ..)).symm)

/-- R309: a drop ring that has been dark for 1 s is searched again. -/
theorem exec_dropRingFreezeExpiry_of_due {p : PortId} {t : Nat} {s : State} (hport : p ≠ .tlink)
    (hst : s.ostate p = 2 ∨ s.ostate p = 5)
    (hdark : (s.oring (oePlace p).1 (8 + s.get (R.PORT_OPT_STAT_DROP_RING p))).darkAt = some t)
    (hdue : t + secSub 1 ≤ s.now .verard) : exec (.dropRingFreezeExpiry p) s = .next (s.searchAgain p).ended := by
  have hserves : ¬(p = .tlink ∨ s.ostate p ≠ 2 ∧ s.ostate p ≠ 5) := by
    rw [← not_or, not_or, not_not]
    exact ⟨hport, hst⟩
  exact (finish_ite_neg hserves).trans (congrArg finish (by simp only [hdark, if_pos hdue]))

/-- Settles O38: an engine's state and timers select each command's branch, and a host access reaches its register. A status word is
read as notes/assumptions/78 chooses. -/
theorem opticalEnginesComplete : Obligations.OpticalEnginesComplete :=
  ⟨fun _ _ _ h => finish_viaBus_of_reaches h _, fun _ _ hst hdue => finish_ite_pos ⟨hst, hdue⟩,
    fun _ _ _ hst hdue => finish_ite_neg (not_or.2 ⟨not_not.2 hst, Nat.not_lt.2 hdue⟩), fun _ _ _ _ _ => rfl,
    fun _ _ hst hdue => finish_ite_pos ⟨hst, hdue⟩, fun _ _ h => finish_viaBus_of_reaches h _,
    fun _ _ _ _ _ _ => exec_ringLockUpdate_of_due, fun _ _ _ => rfl,
    fun _ _ _ _ hport hwrong => finish_ite_neg (not_or.2 ⟨hport, not_not.2 hwrong⟩),
    fun _ _ _ => exec_dropRingFreezeExpiry_of_due,
    fun _ _ _ _ hcrc hkind hline => congrArg finish (by simp only [if_pos (And.intro hcrc (And.intro hkind hline))])⟩

-- Laser lines and their spares (R312 to R318).

/-- Settles O39: a line's state and timers select each command's branch, and the swap of its engine that of SPARE_SWAP. -/
theorem laserLinesComplete : Obligations.LaserLinesComplete :=
  ⟨fun _ _ _ => finish_ite_not_pos, fun _ _ _ hst => finish_ite_neg (by simp [hst]),
    fun _ _ _ hst hlit hdue => finish_ite_pos ⟨hst, hlit, hdue⟩,
    fun _ _ _ hport hswap howner hrestore => (finish_ite_neg hport).trans <|
      congrArg finish (by simp only [hswap, if_pos (And.intro howner hrestore)]),
    fun _ _ _ _ hport hnone hline hspare hfree hst hnow => (finish_ite_neg hport).trans <|
      congrArg finish (by simp only [hnone, hline, hspare, if_pos (And.intro hfree (And.intro hst hnow))]),
    fun _ _ _ hswap hforward hdue => congrArg finish (by
      simp only [hswap, hforward, Bool.false_eq_true, false_or, if_neg (Nat.not_lt.2 hdue)]),
    fun _ _ _ hst hdue => finish_ite_pos ⟨.inl hst, hdue⟩⟩

-- The circuit switch (R319, R320) and the optical commands (R323).

section
variable {c : CmdCtx} {s t u : State}

/-- R323, R347: what a Lotik refuses, a Verard serves. -/
theorem finish_ite_lotik_of_verard (hdev : c.dev = .verard) : finish (if c.dev = .lotik then s else t) = .next t.ended :=
  finish_ite_neg (by simp [hdev])

/-- A command of Verard's alone, with operands in range, has its effect there. -/
theorem finish_verardCmd_of_valid {bad : Prop} [Decidable bad] (hdev : c.dev = .verard) (hvalid : ¬bad) :
    finish (if c.dev = .lotik then s else if bad then t else u) = .next u.ended :=
  (finish_ite_lotik_of_verard hdev).trans (finish_ite_neg hvalid)

theorem done_verardCmd_of_valid {bad : Prop} [Decidable bad] (hdev : c.dev = .verard) (hvalid : ¬bad) :
    done (if c.dev = .lotik then s else if bad then t else u) = .next u.settle :=
  (done_ite_neg (by simp [hdev])).trans (done_ite_neg hvalid)

end

/-- R323: a line is swapped on command where it has a WARM spare and no swap of its engine is under way. -/
theorem exec_optSwap_of_free {c : CmdCtx} {e l : Byte} {k : Nat} {s : State} (hdev : c.dev = .verard) (hengine : e.toNat ≤ 8)
    (hline : l.toNat ≤ 9) (hfree : (s.oe e.toNat).swap = none) (hplace : s.lineplace e.toNat l.toNat = some k)
    (hwarm : (s.spareIn e.toNat k 6).isSome = true) : exec (.optSwap c e l) s = .next (s.optSwap c e l k).ended := by
  have hspare : ¬((s.spareIn e.toNat k 5).isNone = true ∧ (s.spareIn e.toNat k 6).isNone = true) := by
    simp [Option.ne_none_iff_isSome.2 hwarm]
  exact (finish_verardCmd_of_valid hdev (by omega)).trans <|
    (finish_ite_neg (by simp [hfree])).trans (congrArg finish (by simp only [hplace, if_neg hspare]))

/-- Settles O40: an output's state selects the branch of each event, a host access reaches its register, and the operands of each
command pass its tests. -/
theorem switchAndOpticalCommandsComplete : Obligations.SwitchAndOpticalCommandsComplete :=
  ⟨fun _ _ _ h => finish_viaBus_of_reaches h _, fun _ _ _ h => finish_viaBus_of_reaches h _,
    fun _ _ _ hat harmed hdue => congrArg finish (by simp [hat, harmed, hdue]),
    fun _ _ _ hfired hdue => congrArg finish (by simp only [hfired, if_neg (Nat.not_lt.2 hdue)]),
    fun _ _ _ hdev hengine =>
      ⟨done_verardCmd_of_valid hdev (Nat.not_lt.2 hengine), done_verardCmd_of_valid hdev (Nat.not_lt.2 hengine)⟩,
    fun _ _ _ _ _ => exec_optSwap_of_free, fun _ _ _ hdev hport => finish_verardCmd_of_valid hdev (Nat.not_lt.2 hport),
    fun _ _ _ _ _ _ _ _ _ hdev hout => finish_verardCmd_of_valid hdev (Nat.not_lt.2 hout),
    fun _ _ _ hdev hout => finish_verardCmd_of_valid hdev (Nat.not_lt.2 hout)⟩

end Sys2Proof.Machine

/-! Settles the family of health and errors (spec/14_health_and_errors.md R325 to R347): soundings and known-answer tests, the records
that a Verard takes, the Log and its spill, and the health commands. -/

namespace Sys2Proof.Machine

open Sys2Proof

-- Soundings, known-answer tests and the scores of dies (R325 to R333).

/-- R328: a region's first signature is kept, and the last one due ends the test. -/
theorem exec_katSignature_of_first {r : BitVec 6} {sig : BitVec 64} {k : Kat} {s : State} (htakes : s.portTakes)
    (hkat : (s.hostReq .lotik).lk.hm.kat = some k) (hfirst : k.sigs.any (fun x => x.1 == r.toNat) = false) :
    let u := s.hostReq .lotik
    let k' : Kat := { k with sigs := k.sigs ++ [(r.toNat, sig)] }
    exec (.katSignature r sig) s =
      .next (if u.regionNos.all (fun x => u.regState x == 4 || k'.sigs.any (fun y => y.1 == x)) then u.katEnd k'
        else u.setHm { u.lk.hm with kat := some k' }).ended :=
  (congrArg finish (State.atPort_of_portTakes htakes _)).trans <|
    congrArg finish (by simp only [hkat, if_neg (ne_true_of_eq_false hfirst)])

/-- Settles O41: a timer or a waiting record selects each command's branch, and a host access reaches its register. The sounding period
is read as notes/assumptions/31 chooses. -/
theorem healthComplete : Obligations.HealthComplete :=
  ⟨fun _ _ h => finish_viaBus_of_reaches h _, fun _ hidle hdue => congrArg finish (by simp only [hidle, if_pos hdue]),
    fun _ _ _ _ _ => rfl,
    fun _ hpending hidle => (finish_ite_not_pos hpending).trans <|
      congrArg finish (by simp only [hidle, Bool.false_and, Bool.false_eq_true, if_false]),
    fun _ _ _ _ => exec_katSignature_of_first, fun _ _ hkat hdue => congrArg finish (by simp only [hkat, if_pos hdue]),
    fun _ _ _ _ hinbox => congrArg finish (by simp only [hinbox, if_true]),
    fun _ _ hknown hnew hport hdue => finish_ite_neg (by simp [hknown, hnew, hport, hdue]),
    fun _ _ hknown hdue => finish_ite_neg (not_or.2 ⟨hknown, Nat.not_lt.2 hdue⟩),
    fun _ _ hst hdecides hdue => finish_ite_neg (not_or.2 ⟨not_not.2 hst, not_or.2 ⟨not_not.2 hdecides, Nat.not_lt.2 hdue⟩⟩),
    fun _ => rfl⟩

-- The Log and its spill (R337, R341, R343, R346, R347).

section
variable {seq n : Nat} {s : State}

/-- R337: the entries that a spill has written are consumed, and the next are sent. -/
theorem exec_logSpillDone_of_ok (hspill : (s.log .lotik).spilling = some (seq, n)) :
    exec (.logSpillDone true) s =
      .next (let u := s.logicWork.setLog .lotik { s.log .lotik with
          spilling := none, rd := if (s.log .lotik).rd = seq then (seq + n) % 2 ^ 32 else (s.log .lotik).rd }
        (((u.put R.LK_LOG_SPILL_TAIL_TAIL (u.get R.LK_LOG_SPILL_TAIL_TAIL + n)).showLog .lotik).payLoss .lotik).spillNext.ended) :=
  congrArg finish (by simp only [hspill, if_true])

/-- R343: a spill that fails stops, and is recorded as an error inside the sequence that spills. -/
theorem exec_logSpillDone_of_error (hspill : (s.log .lotik).spilling = some (seq, n)) :
    ∃ e : Report, e.kind = 0x0B00 ∧ e.depth = 1 ∧
      exec (.logSpillDone false) s =
        .next ((((s.logicWork.setLog .lotik { s.log .lotik with spilling := none }).put R.LK_LOG_STAT_SPILL_ERR 1).put
          R.LK_HM_IRQ_SPILL_ERR 1).report .lotik e).ended := by
  change ∃ e : Report, e.kind = 0x0B00 ∧ e.depth = 1 ∧ execLogSpillDone false s = _
  simp only [execLogSpillDone, hspill]
  exact ⟨_, rfl, rfl, finish_ite_neg Bool.false_ne_true⟩

end

/-- Settles O42: a spill under way decides what its end does, a host access reaches its register, and the operands of each command pass
its tests. What the summary carries, and that TAIL counts without end, are the choices of notes/assumptions/68 and 73. -/
theorem logComplete : Obligations.LogComplete :=
  ⟨fun d _ _ h => (finish_viaBus_of_reaches h _).trans (by rw [spDev_sp d]), fun _ _ _ => exec_logSpillDone_of_ok,
    fun _ _ _ => exec_logSpillDone_of_error, fun _ _ hsome hdue => finish_ite_neg (by simp [hsome, hdue]),
    fun _ _ h => finish_viaBus_of_reaches h _,
    fun _ _ _ _ hsome hmost => ⟨_, finish_ite_neg (not_or.2 ⟨hsome, Nat.not_lt.2 hmost⟩)⟩,
    fun _ _ _ hinside => congrArg finish (by rw [if_pos hinside])⟩

-- The health commands (R347).

/-- R331: a die takes a new state from its pod Verard, unless it has been expelled. -/
theorem exec_hmSetState_of_change {c : CmdCtx} {st : Byte} {s : State} (hdev : c.dev = .lotik)
    (hsource : s.fromPodVerard c.src.toNat = true) (hst : st.toNat < 5) (hin : s.get R.LK_HM_STAT_HSTATE ≠ 4)
    (hnew : st.toNat ≠ s.get R.LK_HM_STAT_HSTATE) :
    exec (.hmSetState c st) s =
      .next ((((s.put R.LK_HM_STAT_HSTATE st.toNat).put R.LK_HM_IRQ_HSTATE 1).answer c 0x75 0
        [BitVec.ofNat 8 (s.get R.LK_HM_STAT_HSTATE)]).logCommand c 0x75 0).ended := by
  have hvalid : ¬((!s.fromPodVerard c.src.toNat) = true ∨ 5 ≤ st.toNat ∨ s.get R.LK_HM_STAT_HSTATE = 4 ∧ st.toNat ≠ 4) := by
    simp [hsource, hst, hin]
  exact (finish_ite_verard_of_lotik hdev).trans ((finish_ite_neg hvalid).trans (congrArg finish (by rw [if_neg hnew])))

/-- R347: a die of the Verard's own pod that is known and not yet expelled is expelled on command. -/
theorem exec_hmExpel_of_member {c : CmdCtx} {ua : BitVec 24} {s : State} (hdev : c.dev = .verard) (hua : ua.toNat < 2 ^ 20)
    (hclass : uaClass ua.toNat = 0) (hpod : uaPod ua.toNat = uaPod (s.ua .verard)) (hrole : s.vdRole ≠ 0)
    (hknown : s.get (R.VD_HM_DIEn_HSTATE (ua.toNat % 2048)) ≠ 0) (hin : s.get (R.VD_HM_DIEn_HSTATE (ua.toNat % 2048)) ≠ 4) :
    exec (.hmExpel c ua) s =
      .next (let u := s.expel (ua.toNat % 2048) true true
        (((if u.decides (ua.toNat % 2048) then u else u.sendSetState (ua.toNat % 2048)).answer c 0x78 0 [4]).logCommand
          c 0x78 0)).ended := by
  have hvalid : ¬(2 ^ 20 ≤ ua.toNat ∨ uaClass ua.toNat ≠ 0 ∨ uaPod ua.toNat ≠ uaPod (s.ua .verard) ∨ s.vdRole = 0 ∨
      s.get (R.VD_HM_DIEn_HSTATE (ua.toNat % 2048)) = 0) :=
    not_or.2 ⟨Nat.not_le.2 hua, by simp [hclass, hpod, hrole, hknown]⟩
  exact (finish_verardCmd_of_valid hdev hvalid).trans (congrArg finish (by rw [if_neg hin]))

/-- Settles O43: the operands of each command pass its tests. -/
theorem healthCommandsComplete : Obligations.HealthCommandsComplete :=
  ⟨fun _ _ _ hdev hsome hkinds =>
      (finish_ite_verard_of_lotik hdev).trans (finish_ite_neg (not_or.2 ⟨hsome, Nat.not_le.2 hkinds⟩)),
    fun _ _ hdev => ⟨finish_ite_verard_of_lotik hdev, finish_ite_verard_of_lotik hdev⟩, fun _ _ _ => exec_hmSetState_of_change,
    fun _ _ _ _ hdev hsome hmost hlast =>
      finish_verardCmd_of_valid hdev (not_or.2 ⟨hsome, not_or.2 ⟨Nat.not_lt.2 hmost, Nat.not_lt.2 hlast⟩⟩),
    fun _ _ _ _ hdev hsum hmost => (finish_ite_lotik_of_verard hdev).trans (by
      rw [hsum]
      exact finish_ite_neg (by omega)),
    fun _ _ _ => exec_hmExpel_of_member, fun _ _ hdev => finish_ite_lotik_of_verard hdev⟩

end Sys2Proof.Machine

/-! Settles the family of start-up (spec/15_boundary_and_startup.md R349 to R367): resets, the stages of Lotik and of Verard, and the
sleep and waking of Lotik's domains. -/

namespace Sys2Proof.Machine

open Sys2Proof

-- Lotik's resets and its stages up to PROFILE (R350, R361, R362, R364).

/-- R361, R362: a die that was not tripped, or has cooled down, goes on from FUSE. -/
theorem exec_fuseLoadDone_of_cool {tmax : BitVec 8} {s : State} (hst : s.get R.LK_BOOT_STAGE = 1)
    (hcool : s.lk.wasTripped = true → tmax.toInt < s.coolC) : exec (.fuseLoadDone true tmax) s = .next s.fuseLoaded.ended :=
  (finish_ite_neg (not_not.2 hst)).trans <|
    (finish_ite_neg Bool.false_ne_true).trans (finish_ite_neg fun ⟨htripped, hwarm⟩ => absurd (hcool htripped) (Int.not_lt.2 hwarm))

/-- Settles O8: the stage and the temperature select each command's branch. That unreadable fuses end in FAULT with cause 2 is the
choice of notes/assumptions/83. -/
theorem lotikStartupCompletes : Obligations.LotikStartupCompletes :=
  ⟨fun _ _ _ => rfl, fun _ hup => finish_ite_neg (ne_true_of_eq_false hup), fun _ => finish_ite_not_pos, fun _ => finish_ite_pos,
    fun _ _ => exec_fuseLoadDone_of_cool, fun _ _ hst => (finish_ite_neg (not_not.2 hst)).trans (finish_ite_pos rfl),
    fun _ _ hst hcool => finish_ite_pos ⟨hst, hcool⟩, fun _ _ _ hst => finish_ite_neg (not_not.2 hst),
    fun _ hst hnone hdue => finish_ite_pos ⟨hst, hnone, hdue⟩⟩

-- Lotik's later stages, its sleep, and the stages of Verard (R352, R360, R362, R363).

/-- R363: where no engine is enabled, OPTICS has none to wait for. -/
theorem exec_verardStageDone_of_dark {image area0 area1 : List Byte} {readable : BitVec 2} {s : State} (hcool : s.vd.hot = false)
    (hst : s.get R.VD_BOOT_STAGE = 3) (hdark : ∀ e < 9, s.getB (R.VD_OE_CTRL_ENABLE e) = false) :
    exec (.verardStageDone image area0 area1 readable) s = .next s.vdPortsStart.ended := by
  have hready : ((List.range 9).any fun e => s.getB (R.VD_OE_CTRL_ENABLE e) && decide (s.get (R.VD_OE_STAT_STATE e) ≤ 2)) = false :=
    List.any_eq_false.2 fun e he => by simp [hdark e (List.mem_range.1 he)]
  exact (finish_ite_neg (ne_true_of_eq_false hcool)).trans <|
    congrArg finish (by simp only [hst, hready, Bool.false_eq_true, false_and, if_false])

/-- Settles O9: a domain's state and timers, and the stage, select each command's branch. That every rail is in tolerance as FUSE ends
is the choice of notes/assumptions/86. -/
theorem powerAndVerardStartupComplete : Obligations.PowerAndVerardStartupComplete :=
  ⟨fun _ hst henum => finish_ite_pos ⟨hst, .inl henum⟩, fun _ hst hnew => finish_ite_neg (by simp [hst, hnew]),
    fun _ hst hnew hdue => finish_ite_pos ⟨hst, ne_true_of_eq_false hnew, hdue⟩,
    fun _ hawake hup hidle hdue => (finish_ite_not_pos hawake).trans <|
      (finish_ite_neg (ne_true_of_eq_false hup)).trans (finish_ite_pos ⟨by simp [hidle], hdue⟩),
    fun _ hawake hasked => (finish_ite_not_pos hawake).trans (finish_ite_pos hasked), fun _ => rfl,
    fun _ hawake hup => (finish_ite_not_pos hawake).trans (finish_ite_neg (ne_true_of_eq_false hup)),
    fun _ hidle hdue => finish_ite_neg (not_or.2 ⟨ne_true_of_eq_false hidle, Nat.not_lt.2 hdue⟩), fun _ => rfl, fun _ _ => rfl,
    fun _ => rfl, fun _ _ hcool hhot => finish_ite_pos ⟨by simp [hcool], hhot⟩,
    fun _ _ _ _ _ hcool =>
      ⟨fun hst => (finish_ite_neg (ne_true_of_eq_false hcool)).trans (by simp only [hst]),
        fun hst => (finish_ite_neg (ne_true_of_eq_false hcool)).trans (by simp only [hst]),
        fun hst => (finish_ite_neg (ne_true_of_eq_false hcool)).trans (by simp only [hst]),
        exec_verardStageDone_of_dark hcool,
        fun hst => (finish_ite_neg (ne_true_of_eq_false hcool)).trans (by simp only [hst])⟩⟩

end Sys2Proof.Machine

/-! Settles the family of command packets (spec/16_command_packets.md R372 to R394, spec/12_determinism.md R297): fragments and whole
packets on their way in, the mailbox, the rings of packets, the sessions, and the commands that every part knows. -/

namespace Sys2Proof.Machine

open Sys2Proof

-- Fragments and packets (R378 to R380, R384).

/-- R378: a fragment of the form that the rule gives is taken in by an awake part. -/
theorem exec_cmdFragment_of_good {path : Path} {f : Fragment} {s : State} (hup : s.pathUp path = true)
    (hserves : s.serves (pathDev path) = true) (hok : fragOk f = true) :
    exec (.cmdFragment path ⟨f, true⟩) s =
      .next ((if pathDev path = .lotik then s.wakeAll else s).fragIn (pathDev path) path f).ended :=
  (finish_ite_neg (by simp [hup, hserves])).trans <| (finish_ite_neg Bool.false_ne_true).trans (finish_ite_not_pos hok)

/-- R379, R380: a fragment acts at once where none of its way waits before it, and a fragment 0 finds room. -/
theorem State.fragIn_of_free {u : State} {d : Dev} {path : Path} {f : Fragment}
    (hnone : (u.cmd d).waiting.any (fun x => x.1 == path) = false) (hroom : f.index ≠ 0 ∨ u.fragRoom d path f = true) :
    u.fragIn d path f = (if f.index = 0 then u.fragFirst d path f else u.fragNext d path f).fragsGo d :=
  if_neg (by
    rw [hnone, Bool.false_or, Bool.and_eq_true, not_and_or]
    exact hroom.imp (by simp) (by simp))

/-- R379, R380: behind one of its way that waits, or as a fragment 0 without room, a fragment waits. -/
theorem State.fragIn_of_blocked {u : State} {d : Dev} {path : Path} {f : Fragment}
    (hblocked : (u.cmd d).waiting.any (fun x => x.1 == path) = true ∨ f.index = 0 ∧ u.fragRoom d path f = false) :
    u.fragIn d path f = u.setCmd d { u.cmd d with waiting := (u.cmd d).waiting ++ [(path, f)] } :=
  if_pos (by
    rw [Bool.or_eq_true]
    exact hblocked.imp_right fun ⟨hfirst, hfull⟩ => by simp [hfirst, hfull])

/-- Settles O46: what waits on a fragment's way decides whether it acts, and a host access reaches its register. That a fragment waits
behind the others of its way, and how many ring slots a doorbell takes, are the choices of notes/assumptions/88 and 91. -/
theorem packetPathComplete : Obligations.PacketPathComplete :=
  ⟨fun _ _ _ hup hserves hok hnone hroom =>
      (exec_cmdFragment_of_good hup hserves hok).trans (congrArg finish (State.fragIn_of_free hnone hroom)),
    fun _ _ _ hup hserves hok hblocked =>
      (exec_cmdFragment_of_good hup hserves hok).trans (congrArg finish (State.fragIn_of_blocked hblocked)),
    fun _ _ _ hup hserves => (finish_ite_neg (by simp [hup, hserves])).trans (finish_ite_pos rfl),
    fun _ _ _ _ hnext hruns => congrArg finish (by simp only [hnext]; exact if_neg (by simp [hruns])), fun _ _ => rfl, fun _ _ => rfl,
    fun _ h => ⟨finish_viaBus_of_reaches h _, finish_viaBus_of_reaches h _, finish_viaBus_of_reaches h _⟩,
    fun _ _ _ h => finish_viaBus_of_reaches h _, fun _ _ h => finish_viaBus_of_reaches h _⟩

-- The mailbox (R393).

/-- Settles O59: each control reaches the mailbox, whose state decides what it does. -/
theorem mailboxStates : Obligations.MailboxStates := by
  refine ⟨fun s h => ?_, fun _ _ _ hst => if_neg hst⟩
  have hcontrol (f : State → State) : finish (s.viaBus 0 0x7000 f) = .next (f (s.hostReq .lotik)).ended := finish_viaBus_of_reaches h f
  exact ⟨hcontrol _, fun hst => (hcontrol _).trans (finish_ite_pos hst),
    fun hst hok => (hcontrol _).trans ((finish_ite_neg (not_not.2 hst)).trans (finish_ite_pos hok)),
    fun hst => (hcontrol _).trans (finish_ite_pos hst), fun hst => (hcontrol _).trans (finish_ite_neg (not_not.2 hst))⟩

-- The sessions (R372 to R376), and the commands that every part knows (R391).

/-- R372, R399: where the life cycle lets a slot's key open a session and one is free, the point and the signature decide. -/
theorem exec_sessionOpen_of_allowed {c : CmdCtx} {loc : Bool} {hdr pay : List Byte} {s : State} (hlen : pay.length = 229)
    (hallowed : s.openAllows c.dev loc (pay.headD 0).toNat = true) (hslot : (pay.headD 0).toNat ≠ 0xFF)
    (hkey : (s.sec c.dev).sessionKey (pay.headD 0).toNat ≠ [])
    (hfree : ((s.cmd c.dev).sessions.filter (fun y => !y.group)).length < sessionCap c.dev) :
    exec (.sessionOpen c loc hdr pay) s =
      .next (if Config.onCurve ((pay.drop 4).take 97) = false then s.refuseOpen c 0x11
        else if Config.ecdsaVerify ((s.sec c.dev).sessionKey (pay.headD 0).toNat) (hdr.take 20 ++ pay.take 133) (pay.drop 133) = false then
          (s.logKind c.dev 0x0D03 3 [0, 0, 0, 0, 2]).refuseOpen c 0x20
        else s.openSession c (pay.headD 0).toNat pay).ended := by
  refine (finish_ite_not_pos hallowed).trans ((finish_ite_neg (not_not.2 hlen)).trans (congrArg finish ?_))
  simp only [hslot, hkey, ne_eq, not_false_eq_true, and_false, false_or, if_false, Bool.not_eq_true', Nat.not_le.2 hfree]

/-- R375: a unicast session's owner gives this Lotik a session of a group that one of its queues serves. -/
theorem exec_groupSession_of_bound {c : CmdCtx} {gid : BitVec 24} {gen : BitVec 16} {id : Word} {key : List Byte} {salt : Word}
    {x : Session} {s : State} (hdev : c.dev = .lotik) (hid : id.getLsbD 31 = true) (hsalt : salt.toNat / 2 ^ 20 ≠ 0xFFF)
    (hgid : gid.toNat < 2 ^ 18) (hsession : s.session .lotik c.session = some x) (hunicast : x.group = false)
    (hbound : s.lk.queues.any (fun q => q.2.enable && q.2.gid == gid.toNat && q.2.gen == gen.toNat) = true)
    (hfree : (((s.cmd .lotik).sessions.filter (fun x => x.id != id)).filter (fun x => x.group)).length < 8) :
    exec (.groupSession c gid gen id key salt) s =
      .next (s.groupSession c x ((s.cmd .lotik).sessions.filter (fun x => x.id != id)) gid gen id key salt).ended := by
  refine (finish_ite_verard_of_lotik hdev).trans ?_
  refine (finish_ite_neg (not_or.2 ⟨Bool.not_not_eq.2 hid, not_or.2 ⟨hsalt, Nat.not_le.2 hgid⟩⟩)).trans ?_
  rw [hsession]
  exact (finish_ite_neg (ne_true_of_eq_false hunicast)).trans <|
    (finish_ite_not_pos hbound).trans (finish_ite_neg (Nat.not_le.2 hfree))

/-- Settles O47: the operands of each command pass its tests; the others are their effect by definition. That COMMAND_COMPLETION ends a
JOB_SAVE with OK is the choice of notes/assumptions/63. -/
theorem sessionsAndBasicCommandsComplete : Obligations.SessionsAndBasicCommandsComplete :=
  ⟨fun _ _ _ => rfl, fun _ _ => ⟨_, rfl⟩, fun _ _ _ hfine => finish_ite_neg (Nat.not_lt.2 hfine), fun _ _ => rfl, fun _ _ => rfl,
    fun _ _ _ _ _ => exec_sessionOpen_of_allowed, fun _ _ _ _ _ _ _ _ => exec_groupSession_of_bound,
    fun _ _ _ _ hsome hmost halign hmapped => finish_ite_neg <| not_or.2 ⟨Nat.pos_iff_ne_zero.1 hsome,
      not_or.2 ⟨Nat.not_lt.2 hmost, not_or.2 ⟨not_not.2 halign, Bool.not_not_eq.2 hmapped⟩⟩⟩,
    fun _ _ _ _ halign hmapped => finish_ite_neg (not_or.2 ⟨not_not.2 halign, Bool.not_not_eq.2 hmapped⟩), fun _ _ => rfl⟩

end Sys2Proof.Machine

/-! Settles the family of security and update (spec/15_boundary_and_startup.md R364, spec/17_security_and_update.md R395 to R416,
spec/18_register_maps.md R425): the life cycle, identities and keys, the transfer of firmware, and Verard's profile store. -/

namespace Sys2Proof.Machine

open Sys2Proof

-- The life cycle, identities and keys (R364, R395 to R407).

/-- R398: certificates that name this device's identity key are installed. -/
theorem exec_idCert_of_own {c : CmdCtx} {install : List Byte} {s : State} (hlen : install.length = 512) (hkey : (s.sec c.dev).idKey ≠ [])
    (hown : (install.drop 12).take 97 = (s.sec c.dev).idKey) :
    exec (.idCert c install) s =
      .next (((s.setSec c.dev { s.sec c.dev with certs := install }).showSec c.dev).answer c 0x93 0 install).ended := by
  have hsome : install ≠ [] := List.ne_nil_of_length_pos (by omega)
  exact (finish_ite_neg hsome).trans <|
    (finish_ite_neg (not_not.2 hlen)).trans (finish_ite_neg (not_or.2 ⟨hkey, not_not.2 hown⟩))

/-- R402: the oldest stamp that waits is answered with its signature. -/
theorem exec_stampSigned_of_waiting {d : Dev} {c : CmdCtx} {body : List Byte} {rest : List (CmdCtx × List Byte)} {s : State}
    (hstamps : (s.secRun d).stamps = (c, body) :: rest) :
    ∃ sig : List Byte, exec (.stampSigned d) s =
      .next (((s.setSecRun d { s.secRun d with stamps := rest, stamped := (s.secRun d).stamped + 1 }).put (R.SEC_CNT_STAMPS d)
        ((s.secRun d).stamped + 1)).answer c 0x94 0
        (body ++ leBytes 4 (s.secRun d).stamped ++ [0, 0, 0, 0] ++ sig)).ended := by
  change ∃ sig : List Byte, execStampSigned d s = _
  simp only [execStampSigned, hstamps]
  exact ⟨_, rfl⟩

section
variable {c : CmdCtx} {s : State}

/-- R405, R406: a transition that the session's key may ask for, and whose condition is met, begins. -/
theorem exec_lcTransition_of_met {target : Byte} {key : Nat} (hsession : (s.session c.dev c.session).map (·.keyIndex) = some key)
    (hmet : lcRow (s.sec c.dev) key target.toNat = some (true, true)) (hnone : (s.sec c.dev).target = none)
    (hidle : s.lcBusy c.dev = false) (hfree : (s.sec c.dev).used < 31) :
    exec (.lcTransition c target 0 []) s = .next (s.lcBegin c target.toNat key).ended := by
  obtain ⟨y, hy, rfl⟩ := Option.map_eq_some_iff.1 hsession
  refine (finish_ite_neg (not_not.2 rfl)).trans ?_
  simp only [hy, hmet]
  exact (finish_ite_neg (by decide)).trans <| (finish_ite_neg (by decide)).trans <| (finish_ite_neg (by decide)).trans <|
    (finish_ite_neg (not_or.2 ⟨by simp [hnone], fun hbusy => ne_true_of_eq_false hidle hbusy.1⟩)).trans
      (finish_ite_neg fun hfull => Nat.not_le.2 hfree hfull.1)

/-- R407: in RETURN the maker's session may bring a debug token. -/
theorem exec_lcTransition_of_token {token : List Byte} (hlen : token.length = 136) (hlc : (s.sec c.dev).lc = 3)
    (hsession : (s.session c.dev c.session).map (·.keyIndex) = some 0) :
    exec (.lcTransition c 3 0 token) s = .next (s.takeToken c token).ended := by
  obtain ⟨y, hy, hkey⟩ := Option.map_eq_some_iff.1 hsession
  have hsome : token ≠ [] := List.ne_nil_of_length_pos (by omega)
  refine (finish_ite_pos hsome).trans ?_
  simp only [hy, hkey]
  exact (finish_ite_neg (not_not.2 hlen)).trans <| (finish_ite_neg (by simp [hlc])).trans (finish_ite_neg (not_not.2 rfl))

end

/-- R399: the profile key is bound by 32 bytes that are not all 0. -/
theorem exec_keyBind_of_profKey {c : CmdCtx} {mask : BitVec 16} {key : List Byte} {s : State} (hlen : key.length = 32)
    (hset : key.all (fun b => b == 0) = false) :
    exec (.keyBind c 0xFD mask key) s =
      .next ((((s.setSec c.dev { s.sec c.dev with profKey := key }).showSec c.dev).logKind c.dev 0x0D02 2
        ([0xFD] ++ leBytes 2 mask.toNat ++ [1])).answer c 0x97 0 |>.logCommand c 0x97 0).ended := by
  change execKeyBind c 0xFD mask key s = _
  simp only [execKeyBind, hset]
  exact (finish_ite_neg (not_not.2 hlen)).trans ((finish_ite_neg (by decide)).trans (finish_ite_pos rfl))

/-- Settles O44: the operands of each command, the session's key and the life cycle pass its tests. What binding the profile key logs, and
what a stamp counts, are the choices of notes/assumptions/87. -/
theorem securityCommandsComplete : Obligations.SecurityCommandsComplete :=
  ⟨fun _ _ => rfl,
    fun _ _ _ hdev hprofile hst => (finish_ite_verard_of_lotik hdev).trans <|
      (finish_ite_neg (Nat.not_lt.2 hprofile)).trans (finish_ite_neg fun hnow => hst hnow.1),
    fun _ _ _ => exec_idCert_of_own,
    fun _ _ _ _ hfine hfree => (finish_ite_neg (Nat.not_lt.2 hfine)).trans (finish_ite_neg (Nat.not_le.2 hfree)),
    fun _ _ _ _ _ => exec_stampSigned_of_waiting, fun _ _ => rfl, fun _ _ _ _ => exec_lcTransition_of_met,
    fun _ _ _ => exec_lcTransition_of_token, fun _ _ _ _ => exec_keyBind_of_profKey⟩

-- Firmware and the profile store (R410, R416, R425).

/-- R410: a part of the running transfer that is new and whole is taken. -/
theorem exec_fwChunk_of_new {c : CmdCtx} {id : Word} {part : BitVec 16} {data : List Byte} {s : State} (hdev : c.dev = .lotik)
    (hruns : 2 ≤ (s.sec .lotik).staging.state) (hxfer : (s.sec .lotik).staging.xfer = id.toNat)
    (hpart : part.toNat < partCount (s.sec .lotik).staging.len) (hlen : data.length = partLen (s.sec .lotik).staging.len part.toNat)
    (hnew : (s.sec .lotik).staging.parts.any (fun e => e.1 == part.toNat) = false) :
    exec (.fwChunk c id part data) s = .next ((s.fwTake .lotik part.toNat data).answer c 0xA1 0).ended := by
  change execFwChunk c id part data s = _
  simp only [execFwChunk, hdev]
  exact (finish_ite_neg (by omega)).trans <| (finish_ite_neg (by omega)).trans <|
    (finish_ite_neg (not_not.2 hlen)).trans (finish_ite_neg (ne_true_of_eq_false hnew))

/-- Settles O45: the staging bank's state and the operands select each command's branch, and a host access reaches its register. -/
theorem firmwareCommandsComplete : Obligations.FirmwareCommandsComplete :=
  ⟨fun _ _ _ _ _ hleast hmost hempty => (finish_ite_neg (not_or.2 ⟨Nat.not_lt.2 hleast, Nat.not_lt.2 hmost⟩)).trans <|
      (finish_ite_neg (by simp [hempty])).trans (finish_ite_neg (not_not.2 hempty)),
    fun _ _ hst => finish_ite_neg (not_not.2 hst), fun _ _ _ _ _ => exec_fwChunk_of_new,
    fun _ _ _ _ _ _ hwrites => congrArg finish (by simp only [hwrites]), fun _ _ => ⟨_, rfl⟩,
    fun _ _ _ hruns hxfer => finish_ite_neg (not_or.2 ⟨Nat.not_lt.2 hruns, not_not.2 hxfer⟩),
    fun _ h => finish_viaBus_of_reaches h _, fun _ h => finish_viaBus_of_reaches h _, fun _ _ => finish_ite_not_pos⟩

end Sys2Proof.Machine

/-! Settles the family of sync objects (spec/07_sync_objects.md R155 to R185): what an operation out of range does, the rounds of linked
objects, and the commands of the port, of the sync unit and of packets. -/

namespace Sys2Proof.Machine

open Sys2Proof

-- Operations at a sync object (R158 to R163, R169 to R172).

namespace State

/-- The state in which the object of an ARRIVE that V covers has counted down, signed by the arrival (R159, R180). -/
def countDown (s : State) (o : SyncOp) : State :=
  (s.setObj o.obj { s.obj o.obj with v := (s.obj o.obj).v - o.arg }).signedBy o

theorem countDown_obj (s : State) (o : SyncOp) :
    ∃ ls, (s.countDown o).obj o.obj = { s.obj o.obj with v := (s.obj o.obj).v - o.arg, ls := ls } :=
  ⟨_, (State.setObj_obj_same ..).trans (by rw [State.setObj_obj_same])⟩

section
variable {s : State} {o : SyncOp}

/-- R158, R159: an operation in its ranges, at an object that is enabled, runs. -/
theorem applyOp_signal (hok : o.ok = true) (henable : (s.obj o.obj).enable = true) (hop : o.op = 0) :
    s.applyOp o = s.doSignal o :=
  (if_neg (by simp [hok])).trans <| (if_neg (by simp [hop])).trans <| (if_neg (by simp [henable])).trans <|
    (if_neg (by simp [hop])).trans (by rw [hop]; rfl)

theorem applyOp_arrive (hok : o.ok = true) (henable : (s.obj o.obj).enable = true) (hop : o.op = 1) :
    s.applyOp o = s.doArrive o :=
  (if_neg (by simp [hok])).trans <| (if_neg (by simp [hop])).trans <| (if_neg (by simp [henable])).trans <|
    (if_neg (by simp [hop])).trans (by rw [hop]; rfl)

/-- R163: a saturating object is held at 0, where a round ends. -/
theorem doArrive_of_saturated (hheld : (s.obj o.obj).held = false) (hsat : (s.obj o.obj).sat = true)
    (hlow : (s.obj o.obj).v < o.arg) :
    s.doArrive o =
      (let u := (((s.setObj o.obj { s.obj o.obj with v := 0, satHit := true }).signedBy o).put R.LK_SYNC_IRQ_SATURATED 1).logSync
        o 0x0503 3 (s.obj o.obj).v
      (if (s.obj o.obj).reload = 0 then u else u.roundEnd o.obj).releasePass o.obj, 4) := by
  simp only [State.doArrive, hheld, hsat, hlow, Nat.sub_eq_zero_of_le hlow.le, decide_true, Bool.or_true, Bool.not_true,
    Bool.false_eq_true, and_false, if_false, if_true, true_and, ite_not, ne_eq]

/-- R170, R171: an ARRIVE that V covers ends a round that comes to 0. -/
theorem doArrive_of_covered (hheld : (s.obj o.obj).held = false) (hcovered : o.arg ≤ (s.obj o.obj).v) :
    s.doArrive o = ((if (s.obj o.obj).v = o.arg ∧ (s.obj o.obj).reload ≠ 0 then (s.countDown o).roundEnd o.obj
      else s.countDown o).releasePass o.obj, 0) := by
  have hends : (s.obj o.obj).v - o.arg = 0 ↔ (s.obj o.obj).v = o.arg := by omega
  simp only [State.doArrive, State.countDown, hheld, Nat.not_lt.2 hcovered, hends, decide_false, Bool.or_false, Bool.false_eq_true,
    false_and, if_false]

end

end State

/-- Settles O53: the value, the amount and SAT select the branch of a SIGNAL and of an ARRIVE, and HELD that of an ARRIVE first. -/
theorem strictAndSaturatingObjects : Obligations.StrictAndSaturatingObjects := fun _ _ hok henable =>
  ⟨fun hop hheld hsat hlow => (State.applyOp_arrive hok henable hop).trans <|
      (if_neg (ne_true_of_eq_false hheld)).trans (if_pos ⟨hlow, by rw [hsat]; rfl⟩),
    fun hop hsat hhigh => (State.applyOp_signal hok henable hop).trans <|
      (if_neg (Nat.not_le.2 hhigh)).trans (if_neg (ne_true_of_eq_false hsat)),
    fun hop hsat hhigh => (State.applyOp_signal hok henable hop).trans <| (if_neg (Nat.not_le.2 hhigh)).trans (if_pos hsat),
    fun hop hheld hsat hlow => (State.applyOp_arrive hok henable hop).trans (State.doArrive_of_saturated hheld hsat hlow),
    fun hop hheld => (State.applyOp_arrive hok henable hop).trans (if_pos hheld)⟩

-- The rounds of linked objects (R171).

namespace State

theorem roundEnd_of_linked {s : State} {n : Nat} (hlink : (s.obj n).link = true) (hdone : (s.obj n).linkPending = false) :
    s.roundEnd n =
      (s.setObj n { s.obj n with v := (s.obj n).reload, linkPending := true }).mailTo (.link n (s.obj n).queue) :=
  (if_neg (by simp [hlink])).trans (if_neg (ne_true_of_eq_false hdone))

theorem roundEnd_of_linkPending {s : State} {n : Nat} (hlink : (s.obj n).link = true) (hpending : (s.obj n).linkPending = true) :
    s.roundEnd n = s.setObj n { s.obj n with v := 0, held := true } :=
  (if_neg (by simp [hlink])).trans (if_pos hpending)

/-- R171: the group barrier of a linked object completes: ROUND advances, and a HELD end submits the next arrival. -/
theorem linkEnd_of_linkPending {s : State} {n : Nat} (hpending : (s.obj n).linkPending = true) :
    s.linkEnd n 0 =
      let sig : LastSig := { src := 5, op := 1, step := s.lk.jobs.step, ticks := (s.clk .lotik).ticks }
      let u := (s.setObj n { s.obj n with round := (s.obj n).round + 1, linkPending := false, ls := sig }).releasePass n
      if (s.obj n).held then (u.setObj n { u.obj n with v := (u.obj n).reload, linkPending := true, held := false }).mailTo
        (.link n (u.obj n).queue) else u :=
  (if_neg (by simp [hpending])).trans (if_pos rfl)

/-- R171: the arrival that ends a round with none pending submits it on the object's queue. -/
theorem applyOp_of_linked_round {s : State} {o : SyncOp} (hop : o.op = 1) (hok : o.ok = true)
    (henable : (s.obj o.obj).enable = true) (hlink : (s.obj o.obj).link = true) (hreload : (s.obj o.obj).reload ≠ 0)
    (hheld : (s.obj o.obj).held = false) (hends : (s.obj o.obj).v = o.arg) (hdone : (s.obj o.obj).linkPending = false) :
    ∃ u : State, s.applyOp o = (u.releasePass o.obj, 0) ∧ (u.obj o.obj).v = (s.obj o.obj).reload ∧
      (u.obj o.obj).linkPending = true ∧ (u.obj o.obj).round = (s.obj o.obj).round ∧
      u.lk.mail = s.lk.mail ++ [Mail.link o.obj (s.obj o.obj).queue] := by
  obtain ⟨ls, hobj⟩ := s.countDown_obj o
  rw [State.applyOp_arrive hok henable hop, State.doArrive_of_covered hheld hends.ge, if_pos ⟨hends, hreload⟩,
    State.roundEnd_of_linked ((congrArg SyncObj.link hobj).trans hlink) ((congrArg SyncObj.linkPending hobj).trans hdone), hobj]
  have hnext := (s.countDown o).setObj_obj_same o.obj
    { s.obj o.obj with v := (s.obj o.obj).reload, ls := ls, linkPending := true }
  exact ⟨_, rfl, congrArg SyncObj.v hnext, congrArg SyncObj.linkPending hnext, (congrArg SyncObj.round hnext :), rfl⟩

/-- R171: while the link is pending the next round counts down, and its end is HELD. -/
theorem applyOp_of_linkPending {s : State} {o : SyncOp} (hop : o.op = 1) (hok : o.ok = true)
    (henable : (s.obj o.obj).enable = true) (hlink : (s.obj o.obj).link = true) (hreload : (s.obj o.obj).reload ≠ 0)
    (hheld : (s.obj o.obj).held = false) (hpending : (s.obj o.obj).linkPending = true) (hcovered : o.arg ≤ (s.obj o.obj).v) :
    ∃ u : State, s.applyOp o = (u.releasePass o.obj, 0) ∧ (u.obj o.obj).v = (s.obj o.obj).v - o.arg ∧
      (u.obj o.obj).held = decide ((s.obj o.obj).v = o.arg) ∧ (u.obj o.obj).round = (s.obj o.obj).round ∧ u.lk.mail = s.lk.mail := by
  obtain ⟨ls, hobj⟩ := s.countDown_obj o
  rw [State.applyOp_arrive hok henable hop, State.doArrive_of_covered hheld hcovered]
  by_cases hends : (s.obj o.obj).v = o.arg
  · rw [if_pos ⟨hends, hreload⟩, State.roundEnd_of_linkPending ((congrArg SyncObj.link hobj).trans hlink)
      ((congrArg SyncObj.linkPending hobj).trans hpending), hobj]
    have hnext := (s.countDown o).setObj_obj_same o.obj { s.obj o.obj with v := 0, ls := ls, held := true }
    exact ⟨_, rfl, (congrArg SyncObj.v hnext).trans (Nat.sub_eq_zero_of_le hends.le).symm,
      (congrArg SyncObj.held hnext).trans (decide_eq_true hends).symm, (congrArg SyncObj.round hnext :), rfl⟩
  · rw [if_neg fun h => hends h.1]
    exact ⟨_, rfl, congrArg SyncObj.v hobj, (congrArg SyncObj.held hobj).trans (hheld.trans (decide_eq_false hends).symm),
      (congrArg SyncObj.round hobj :), rfl⟩

end State

/-- Settles O54: an arrival ends a round of a linked object by `State.roundEnd`, and the group barrier's completion the pending one by
`State.linkEnd`. The last signaller of a linked completion is the record of R180 and R184; that its operation reads ARRIVE is the
model's choice. -/
theorem linkedRounds : Obligations.LinkedRounds :=
  ⟨fun _ _ hop hok henable hlink hreload hheld => State.applyOp_of_linked_round hop hok henable hlink hreload hheld,
    fun _ _ hop hok henable hlink hreload hheld => State.applyOp_of_linkPending hop hok henable hlink hreload hheld,
    fun _ _ hpending hheld => (State.linkEnd_of_linkPending hpending).trans (if_neg (ne_true_of_eq_false hheld)),
    fun _ _ hpending hheld => (State.linkEnd_of_linkPending hpending).trans (if_pos hheld)⟩

-- The host's sync port, and the register window of the sync unit (R157 to R166, R174 to R184).

/-- A request that a host port accepts is served, and its hand-overs follow. -/
theorem finish_atPort_of_portTakes {s : State} (h : s.portTakes) (f : State → State) :
    finish (s.atPort f) = .next (f (s.hostReq .lotik)).ended :=
  congrArg finish (State.atPort_of_portTakes h f)

/-- R177: an operation that reaches its object waits where a save holds the object, and else is applied and answered. -/
theorem State.syncOp_ended (s : State) (o : SyncOp) :
    (s.syncOp o).ended = if s.deliverWakes.objHeld o.obj then (s.deliverWakes.holdReq (.op o)).ended
      else ((s.deliverWakes.applyOp o).1.syncReply o (s.deliverWakes.applyOp o).2).ended :=
  apply_ite State.ended ..

/-- Settles O27: the port takes each operation, and a save decides whether it waits. -/
theorem syncPortComplete : Obligations.SyncPortComplete := by
  intro obj ctx core cmp arg s htakes
  have hport (o : SyncOp) : finish (s.portOp o) = .next ((s.hostReq .lotik).syncOp o).ended := finish_atPort_of_portTakes htakes _
  have happly (o : SyncOp) := (hport o).trans (congrArg Host.Outcome.next (State.syncOp_ended _ o))
  exact ⟨happly _, happly _, happly _, happly _, happly _, happly _, happly _⟩

/-- R176: the one slot that waits, once past its limit, is marked and reported. -/
theorem exec_pendSlotStale_of_single {p : PendSlot} {s : State} (hpend : s.lk.sync.pend = [p]) (hfresh : p.stale = false)
    (hdue : p.since + usSub (s.get R.LK_SYNC_LIMITS_PEND_LIMIT_US) < s.now .lotik) :
    exec .pendSlotStale s =
      .next (((s.setSync { s.lk.sync with pend := [{ p with stale := true }] }).put R.LK_SYNC_IRQ_PEND_STALE 1).logRec
        0x0508 3 p.sig).ended := by
  have hold : (!p.stale && decide (p.since + usSub (s.get R.LK_SYNC_LIMITS_PEND_LIMIT_US) < s.now .lotik)) = true := by
    simp [hfresh, hdue]
  refine congrArg finish ?_
  simp only [hpend, List.filter_cons, List.map_cons, hold, if_true, List.filter_nil, List.map_nil, List.foldl_cons, List.foldl_nil]

/-- R178: the end of a restore's reads: what the image's result decides. -/
theorem exec_syncRestoreDone_of_restoring {img : List Byte} {s : State} (hsaving : s.lk.sync.saving = some true) :
    exec (.syncRestoreDone true img) s =
      .next ((if s.imageResult img = 0 then (s.restoreBody img).loadImage img else s.restoreBody img).saveEnd true
        (if s.imageResult img = 0 then 1 else s.imageResult img) (some img.length)).applyHeld.ended :=
  finish_ite_neg (not_not.2 hsaving)

/-- Settles O28: a host port or a host access reaches the sync unit, and what is saved or waits there selects each event's branch. That
a save whose write failed ends with MEM_ERROR is the choice of notes/assumptions/61. -/
theorem syncUnitComplete : Obligations.SyncUnitComplete :=
  ⟨fun _ _ htakes => finish_atPort_of_portTakes htakes _, fun _ _ _ htakes => finish_atPort_of_portTakes htakes _,
    fun _ _ => exec_pendSlotStale_of_single, fun _ _ _ h => finish_viaBus_of_reaches h _, fun _ _ _ h => finish_viaBus_of_reaches h _,
    fun _ _ h => finish_viaBus_of_reaches h _, fun _ _ h => finish_viaBus_of_reaches h _, fun _ _ h => finish_viaBus_of_reaches h _,
    fun _ hsaving => ⟨finish_ite_pos hsaving, finish_ite_pos hsaving⟩,
    fun _ _ hsaving hok => (exec_syncRestoreDone_of_restoring hsaving).trans (by rw [if_pos hok, if_pos hok]),
    fun _ _ hsaving hbad => (exec_syncRestoreDone_of_restoring hsaving).trans (by rw [if_neg hbad, if_neg hbad]),
    fun _ _ h => finish_viaBus_of_reaches h _⟩

-- The sync commands (R185).

/-- Settles O29: each command is at a Lotik, and its operands and the unit's state pass its tests. That the low bits of an image's
address are ignored is the choice of notes/assumptions/124. -/
theorem syncCommandsComplete : Obligations.SyncCommandsComplete :=
  ⟨fun _ _ _ hdev hobj => (finish_ite_verard_of_lotik hdev).trans (finish_ite_neg (Nat.not_le.2 hobj)),
    fun _ _ _ _ _ hdev hobj hop => (finish_ite_verard_of_lotik hdev).trans <|
      finish_ite_neg (not_or.2 ⟨Nat.not_le.2 hobj, Nat.not_lt.2 hop⟩),
    fun _ _ _ _ hdev hobj => ⟨_, (finish_ite_verard_of_lotik hdev).trans (finish_ite_neg (Nat.not_le.2 hobj))⟩,
    fun _ _ _ _ _ _ _ hdev hfirst hflow hidle => (finish_ite_verard_of_lotik hdev).trans <|
      (finish_ite_neg (not_or.2 ⟨Nat.not_le.2 hfirst, Nat.not_le.2 hflow⟩)).trans (finish_ite_neg (ne_true_of_eq_false hidle)),
    fun _ _ _ hdev hidle => (finish_ite_verard_of_lotik hdev).trans (finish_ite_neg (ne_true_of_eq_false hidle)),
    fun _ _ _ hdev hflow => (finish_ite_verard_of_lotik hdev).trans (finish_ite_neg (Nat.not_le.2 hflow))⟩

end Sys2Proof.Machine
